-- ==== Sys2Proof/Word.lean ====
section
/-! DEFINITION. Word.lean: the widths of the device's values and their plainest arithmetic (R4, R7, R478). -/

namespace Sys2Proof

/-- One byte. -/
abbrev Byte := BitVec 8
/-- A 16-bit field. -/
abbrev W16 := BitVec 16
/-- A 32-bit register or field. -/
abbrev W32 := BitVec 32
/-- A 64-bit value. -/
abbrev W64 := BitVec 64
/-- Bytes in order of address: the form of every entry exchanged with the device. -/
abbrev Bytes := List Byte
/-- A 32-bit error counter (Table 17-5). -/
abbrev ErrCount := BitVec 32
/-- A 32-bit performance counter (Table 17-5). -/
abbrev PerfCount := BitVec 32
/-- An epoch (R7). -/
abbrev Epoch := BitVec 32

/-- The all-ones value of a width. -/
def onesOf (n : Nat) : BitVec n := BitVec.allOnes n

/-- Add `k`, and stick at the all-ones value: an error counter or a saturating field (R478). -/
def satAdd {n : Nat} (c : BitVec n) (k : Nat) : BitVec n :=
  if 2 ^ n - 1 ≤ c.toNat + k then BitVec.allOnes n else BitVec.ofNat n (c.toNat + k)

/-- R7: the serial-number distance from `b` to `a`, modulo 2^32. -/
def Epoch.dist (a b : Epoch) : Nat := (a - b).toNat

/-- R7, R8: `a` is ahead of `b` exactly when 1 ≤ d ≤ 2^31 − 1. -/
def Epoch.ahead (a b : Epoch) : Bool := 1 ≤ Epoch.dist a b && Epoch.dist a b ≤ 2 ^ 31 - 1

/-- R7, R8: `a` is behind `b`: neither equal nor ahead; a distance of exactly 2^31 is behind. -/
def Epoch.behind (a b : Epoch) : Bool := a != b && !Epoch.ahead a b

end Sys2Proof
end

