-- ==== Sys2Proof/Ident.lean ====
section
/-! DEFINITION. Ident.lean: the identifiers of Table 0-6 and the references the commands are written with. -/

namespace Sys2Proof

/-- A partition, PID 0–15 (Table 0-6). -/
abbrev Pid := Fin 16
/-- A quad, 0–15. -/
abbrev Quad := Fin 16
/-- An absolute core number, 0–63. -/
abbrev Core := Fin 64
/-- A partition-relative core number, 0–63 (chapter 2, "Operands"). -/
abbrev RelCore := Fin 64
/-- A stream unit of a core, 0–3. -/
abbrev UnitNo := Fin 4
/-- A buffer pair of a core, 0–15. -/
abbrev PairNo := Fin 16
/-- A barrier ID, 0–31. -/
abbrev BarNo := Fin 32
/-- A fabric port, P0–P7. -/
abbrev PortNo := Fin 8
/-- A lane of a port, L0–L7. -/
abbrev LaneNo := Fin 8
/-- A stack of stacked DRAM, S0–S5. -/
abbrev StackNo := Fin 6
/-- A DDR5 channel, D0–D11. -/
abbrev ChanNo := Fin 12
/-- A Mover channel, 0–31. -/
abbrev MovNo := Fin 32
/-- A tile number, TA[47:16]. -/
abbrev TileNo := Nat

/-- A PCIe function: the PF, or the VF of partition `p`, VF number p + 1 (R361). -/
inductive Fn where
  | pf
  | vf (p : Pid)
  deriving DecidableEq, Repr

/-- SOURCE of an event of a function (Table 3-12): PID, or 16 for the operator context. -/
def Fn.source : Fn → BitVec 8
  | .pf => 16
  | .vf p => BitVec.ofNat 8 p.val

/-- A ring: one of the 32 operator rings or one of the 64 rings of a partition. -/
inductive RingId where
  | pf (n : Fin 32)
  | vf (p : Pid) (n : Fin 64)
  deriving DecidableEq, Repr

/-- The function that owns a ring. -/
def RingId.fn : RingId → Fn
  | .pf _ => .pf
  | .vf p _ => .vf p

/-- The number of a ring within its function. -/
def RingId.num : RingId → Nat
  | .pf n => n.val
  | .vf _ n => n.val

/-- The ring of the same function with another number, where the function has it. -/
def RingId.sibling (r : RingId) (n : Nat) : Option RingId :=
  match r with
  | .pf _ => if h : n < 32 then some (.pf ⟨n, h⟩) else none
  | .vf p _ => if h : n < 64 then some (.vf p ⟨n, h⟩) else none

/-- A consumed command: its ring, and its place in the order in which that ring's entries were consumed. -/
structure CmdRef where
  ring : RingId
  seq  : Nat
  deriving DecidableEq, Repr

/-- One operation of a consumed list command: its index in the list. -/
structure OpRef where
  cmd : CmdRef
  idx : Nat
  deriving DecidableEq, Repr

/-- A stream unit: partition, relative core and unit. -/
structure UnitRef where
  pid  : Pid
  core : RelCore
  unit : UnitNo
  deriving DecidableEq, Repr

/-- A buffer pair: partition, relative core and pair. -/
structure PairRef where
  pid  : Pid
  core : RelCore
  pair : PairNo
  deriving DecidableEq, Repr

/-- A mailbox slot, 0–15. -/
abbrev SlotNo := Fin 16

end Sys2Proof
end

