-- ==== Sys2Proof/Operand.lean ====
section
/-! DEFINITION. Operand.lean: the operands the commands are written with, beyond the identifiers. -/

namespace Sys2Proof

/-- The PRT registers of PRT_STAGED_WRITE (R16). -/
inductive StagedReg where
  | quads | floor | board
  deriving DecidableEq, Repr

/-- The PRT registers of PRT_MODE_WRITE (R17). -/
inductive ModeReg where
  | mode | slice | drain
  deriving DecidableEq, Repr

/-- What issues an access, a host request or a wait: a command, an operation of a list, a stream unit, a Mover
channel, a window access of a partition, or the sled itself. -/
inductive Issuer where
  | cmd (c : CmdRef)
  | op (o : OpRef)
  | unit (u : UnitRef)
  | chan (m : MovNo)
  | window (p : Pid)
  | sled
  deriving DecidableEq, Repr

/-- The accesses of a ring that a host may fail (R76, R81, R86). -/
inductive RingAccess where
  | entryRead | entryWrite | indexWrite
  deriving DecidableEq, Repr

/-- What an access meets at a tile's home (R201, R202), or in an entry of a hold (R584). -/
inductive AccessFault where
  | correctable | uncorrectable | decompression
  | heldEntry (i : Nat)
  deriving DecidableEq, Repr

/-- A memory unit that can fail (R204). -/
inductive MemUnit where
  | stack (s : StackNo)
  | channel (c : ChanNo)
  deriving DecidableEq, Repr

/-- The responders of R457: the PF DOE, the DOE of a VF, MCTP over SMBus and MCTP over PCIe VDM. -/
inductive Responder where
  | pf
  | vf (p : Pid)
  | smbus
  | vdm
  deriving DecidableEq, Repr

/-- What a packet carries that a sled judges (R418, R424, R431): its source and the source's serial, its destination, its slice, its
class, its length, and the non-minimal steps it has taken; `acks`: the oldest transactions of the retry buffer that the partner
acknowledges with it, `ends`: the oldest transactions to the source that end with it (R397, R420). -/
structure PacketHdr where
  src    : W16
  serial : W64
  dest   : W16
  slice  : BitVec 12
  tc     : Fin 4
  bytes  : Nat
  steps  : Nat
  acks   : Nat
  ends   : Nat
  deriving DecidableEq, Repr

/-- The samples of one Cicada millisecond (R499, R503): package, quad, shared and RDIMM power in mW, the junction
temperatures of the West, East and I/O dies, the inlet temperature, and the input voltage in 10 mV. -/
structure Samples where
  pkg    : BitVec 20
  quads  : Vector Nat 16
  shared : Nat
  rdimm  : Nat
  tj     : Vector (BitVec 8) 3
  inlet  : BitVec 8
  volts  : W16
  deriving DecidableEq, Repr

/-- What a boot step meets (R517, Tables 19-3 and 19-4): the stacks and channels that fail training, the entropy
test's result, a supply fault, and how flash reads and journal appends fare. -/
structure BootInput where
  stkFail  : BitVec 6
  ddrFail  : BitVec 12
  entropyOk : Bool
  supplyOk : Bool
  flashOk  : Bool
  deriving DecidableEq, Repr

/-- How the flash fares in one command (R531, R539): every program commits; copy 1 alone fails; a program fails
twice before copy 0 commits. -/
inductive FlashIo where
  | ok | copy1Fails | fails
  deriving DecidableEq, Repr

end Sys2Proof
end

