-- ==== Sys2Proof/Syntax.lean ====
section
/-! DEFINITION. Syntax.lean: the commands of the sled, one constructor for each row of spec/opcode_table.json, in the table's order. -/

namespace Sys2Proof

/-- The commands. -/
inductive Instr where
  /-- CREATE (R21). -/
  | create (p : Pid)
  /-- COMMIT (R15). -/
  | commit (p : Pid)
  /-- ABANDON (R21). -/
  | abandon (p : Pid)
  /-- START (R21). -/
  | start (p : Pid)
  /-- SUSPEND (R24). -/
  | suspend (p : Pid)
  /-- SUSPEND_HALT_COMPLETE (R24). -/
  | suspendHaltComplete (p : Pid)
  /-- RESUME (R21). -/
  | resume (p : Pid)
  /-- DESTROY (R23). -/
  | destroy (p : Pid)
  /-- RESIZE (R37). -/
  | resize (p : Pid)
  /-- RESIZE_COMPLETE (R37). -/
  | resizeComplete (p : Pid)
  /-- PRT_CMD_RESERVED (R18). -/
  | prtCmdReserved (p : Pid) (code : BitVec 4)
  /-- DRAIN_TIMEOUT (R24). -/
  | drainTimeout (p : Pid)
  /-- DRAIN_COMPLETE (R26). -/
  | drainComplete (p : Pid)
  /-- KEY_RETIRE (R442). -/
  | keyRetire (p : Pid)
  /-- SCRUB_COMPLETE (R28). -/
  | scrubComplete (p : Pid)
  /-- IDLE_TIMEOUT (R21). -/
  | idleTimeout (p : Pid)
  /-- TNT_NAP (R21). -/
  | tntNap (p : Pid)
  /-- PRT_STAGED_WRITE (R16). -/
  | prtStagedWrite (p : Pid) (reg : StagedReg) (v : W32)
  /-- PRT_MODE_WRITE (R17). -/
  | prtModeWrite (p : Pid) (reg : ModeReg) (v : W32)
  /-- PRT_TOKEN_READ (R32). -/
  | prtTokenRead (p : Pid) (k : Fin 4)
  /-- TNT_CONSENT_WRITE (R30). -/
  | tntConsentWrite (p : Pid) (v : W32)
  /-- TNT_TOKEN_ROTATE (R33). -/
  | tntTokenRotate (p : Pid)
  /-- TNT_TOKEN_READ (R33). -/
  | tntTokenRead (p : Pid) (k : Fin 4)
  /-- TNT_ATTACH_GO (R380). -/
  | tntAttachGo (p : Pid)
  /-- ATTACH_LOCKOUT_END (R35). -/
  | attachLockoutEnd (p : Pid)
  /-- OBJ_DEFINE (R52). -/
  | objDefine (c : CmdRef)
  /-- OBJ_HINT (R54). -/
  | objHint (c : CmdRef)
  /-- OBJ_RELEASE (R55). -/
  | objRelease (c : CmdRef)
  /-- OBJ_RELEASE_DRAINED (R55). -/
  | objReleaseDrained (c : CmdRef)
  /-- OBJ_QUERY (R57). -/
  | objQuery (c : CmdRef)
  /-- PARTITION_WINDOW_READ (R63). -/
  | partitionWindowRead (p : Pid) (off : Nat)
  /-- PARTITION_WINDOW_WRITE (R63). -/
  | partitionWindowWrite (p : Pid) (off : Nat) (data : Bytes) (en : W64)
  /-- OPERATOR_WINDOW_READ (R63). -/
  | operatorWindowRead (off : Nat)
  /-- OPERATOR_WINDOW_WRITE (R63). -/
  | operatorWindowWrite (off : Nat) (data : Bytes) (en : W64)
  /-- WINDOW_CONTROL_WRITE (R67). -/
  | windowControlWrite (fn : Fn) (off : Nat) (v : W32)
  /-- BAR_WIDTH_ERROR (R61). -/
  | barWidthError (fn : Fn) (off : Nat) (read : Bool)
  /-- SYS_ERR_CLEAR (R579). -/
  | sysErrClear (fn : Fn) (v : W32)
  /-- HOST_REQUEST_ERROR (R60). -/
  | hostRequestError (w : Issuer) (off : Nat)
  /-- RING_CONFIG_WRITE (R74). -/
  | ringConfigWrite (r : RingId) (off : Nat) (v : W32)
  /-- RING_ENABLE (R75). -/
  | ringEnable (r : RingId)
  /-- RING_DISABLE (R76). -/
  | ringDisable (r : RingId)
  /-- RING_ENTRY_ACCESS_FAIL (R76). -/
  | ringEntryAccessFail (r : RingId) (what : RingAccess)
  /-- DOORBELL_WRITE (R87). -/
  | doorbellWrite (r : RingId) (v : W32)
  /-- DB_CANCEL (R94). -/
  | dbCancel (r : RingId) (v : W32)
  /-- CANCEL_MATCHING_DONE (R95). -/
  | cancelMatchingDone (r : RingId)
  /-- COMMAND_CONSUME (R80). -/
  | commandConsume (r : RingId) (entry : Bytes)
  /-- COMMAND_READY_START (R108). -/
  | commandReadyStart (r : RingId)
  /-- COMMAND_PROMOTION (R110). -/
  | commandPromotion (c : CmdRef)
  /-- INDEX_WRITEBACK (R81). -/
  | indexWriteback (r : RingId)
  /-- IRQ_MODERATION_TIMEOUT (R90). -/
  | irqModerationTimeout (r : RingId)
  /-- MSIX_UNMASK (R91). -/
  | msixUnmask (fn : Fn) (vec : Fin 64) (addr : W64) (data : W32)
  /-- MB_IN_POST (R98). -/
  | mbInPost (fn : Fn) (v : W32)
  /-- MB_OUT_RELEASE (R100). -/
  | mbOutRelease (fn : Fn) (v : W32)
  /-- MAILBOX_OUTBOUND_PLACE (R100). -/
  | mailboxOutboundPlace (fn : Fn)
  /-- SERVICE_PING (R99). -/
  | servicePing (fn : Fn)
  /-- SERVICE_HEARTBEAT (R370). -/
  | serviceHeartbeat (fn : Fn)
  /-- SERVICE_TIME (R99). -/
  | serviceTime (fn : Fn)
  /-- SERVICE_UNKNOWN (R99). -/
  | serviceUnknown (fn : Fn)
  /-- EXEC_LIST (R105). -/
  | execList (c : CmdRef) (list : Bytes)
  /-- CONTROL_NOP (R103). -/
  | controlNop (c : CmdRef)
  /-- CONTROL_FENCE (R113). -/
  | controlFence (c : CmdRef)
  /-- FLUSH_READ_DONE (R113). -/
  | flushReadDone (w : Issuer)
  /-- FENCE_TIMEOUT (R114). -/
  | fenceTimeout (c : CmdRef)
  /-- BAR_CFG (R117). -/
  | barCfg (c : CmdRef)
  /-- EPOCH_COMMIT (R121). -/
  | epochCommit (c : CmdRef)
  /-- EPOCH_REVOKE (R122). -/
  | epochRevoke (c : CmdRef)
  /-- JOB_EPOCH_DECISION (R123). -/
  | jobEpochDecision (p : Pid) (e : Epoch) (commit : Bool)
  /-- TNT_EPOCH_WRITE (R125). -/
  | tntEpochWrite (p : Pid) (v : W32)
  /-- LIST_NOP (R107). -/
  | listNop (o : OpRef)
  /-- MB_RECV (R99). -/
  | mbRecv (o : OpRef)
  /-- MB_RECV_TIMEOUT (R99). -/
  | mbRecvTimeout (o : OpRef)
  /-- MB_SEND (R100). -/
  | mbSend (o : OpRef)
  /-- BAR_ARRIVE (R118). -/
  | barArrive (o : OpRef)
  /-- TIMESTAMP (R107). -/
  | timestamp (o : OpRef)
  /-- WRITE_VALUE (R107). -/
  | writeValue (o : OpRef)
  /-- BARRIER_ARRIVAL (R118). -/
  | barrierArrival (c : CmdRef)
  /-- FABRIC_BARRIER_RELEASE (R119). -/
  | fabricBarrierRelease (p : Pid) (b : BarNo)
  /-- BARRIER_TIMEOUT (R120). -/
  | barrierTimeout (p : Pid) (b : BarNo)
  /-- MATMUL (R145). -/
  | matmul (o : OpRef)
  /-- CONVERT (R141). -/
  | convert (o : OpRef)
  /-- VEC_EW (R148). -/
  | vecEw (o : OpRef)
  /-- VEC_RED (R149). -/
  | vecRed (o : OpRef)
  /-- COMPUTE_OP_END (R130). -/
  | computeOpEnd (o : OpRef)
  /-- SU_LOAD (R153). -/
  | suLoad (u : UnitRef)
  /-- SU_LOAD_DONE (R153). -/
  | suLoadDone (u : UnitRef)
  /-- SU_START (R159). -/
  | suStart (u : UnitRef) (rt : Bool)
  /-- SU_STOP (R159). -/
  | suStop (u : UnitRef)
  /-- STREAM_NOP (R154). -/
  | streamNop (u : UnitRef)
  /-- SETI (R154). -/
  | seti (u : UnitRef)
  /-- ADDS (R154). -/
  | adds (u : UnitRef)
  /-- ADDI (R154). -/
  | addi (u : UnitRef)
  /-- FADD (R154). -/
  | fadd (u : UnitRef)
  /-- LOOP (R154). -/
  | loop (u : UnitRef)
  /-- ENDL (R154). -/
  | endl (u : UnitRef)
  /-- MOV (R155). -/
  | mov (u : UnitRef)
  /-- MOV_END (R156). -/
  | movEnd (u : UnitRef) (k : Nat)
  /-- SWAP (R166). -/
  | swap (u : UnitRef)
  /-- WAITF (R154). -/
  | waitf (u : UnitRef)
  /-- WAITV (R154). -/
  | waitv (u : UnitRef)
  /-- REL (R165). -/
  | rel (u : UnitRef)
  /-- SIG (R158). -/
  | sig (u : UnitRef)
  /-- WSIG (R158). -/
  | wsig (u : UnitRef)
  /-- STREAM_BAR (R174). -/
  | streamBar (u : UnitRef)
  /-- DLINE (R176). -/
  | dline (u : UnitRef)
  /-- FEND (R177). -/
  | fend (u : UnitRef)
  /-- STREAM_END (R159). -/
  | streamEnd (u : UnitRef)
  /-- STREAM_EPOCH (R154). -/
  | streamEpoch (u : UnitRef)
  /-- PAIR_BIND (R162). -/
  | pairBind (b : PairRef)
  /-- PAIR_BIND_DONE (R162). -/
  | pairBindDone (b : PairRef)
  /-- PAIR_UNBIND (R162). -/
  | pairUnbind (b : PairRef)
  /-- PAIR_RESET (R164). -/
  | pairReset (b : PairRef)
  /-- PAIR_AUTO_SWAP (R166). -/
  | pairAutoSwap (b : PairRef)
  /-- PAIR_WAIT_TIMEOUT (R168). -/
  | pairWaitTimeout (w : Issuer)
  /-- RT_CTL_WRITE (R175). -/
  | rtCtlWrite (p : Pid) (v : W32)
  /-- FRAME_START (R177). -/
  | frameStart (p : Pid)
  /-- FRAME_EARLY_WAKE (R177). -/
  | frameEarlyWake (p : Pid)
  /-- DEADLINE_PASS (R179). -/
  | deadlinePass (w : Issuer)
  /-- MOVE_COPY_BEGIN (R187). -/
  | moveCopyBegin (p : Pid) (t : TileNo)
  /-- MOVE_COMPLETE (R187). -/
  | moveComplete (p : Pid) (t : TileNo)
  /-- MOVE_DESTINATION_FAIL (R193). -/
  | moveDestinationFail (p : Pid) (t : TileNo)
  /-- BACKGROUND_PROMOTION (R192). -/
  | backgroundPromotion (p : Pid) (t : TileNo)
  /-- TIER_ACCESS_FAIL (R202). -/
  | tierAccessFail (p : Pid) (t : TileNo) (w : Issuer) (k : AccessFault) (d : ChanNo)
  /-- TIER_ACCESS_LATE (R202). -/
  | tierAccessLate (p : Pid) (t : TileNo) (w : Issuer) (d : ChanNo)
  /-- MEMORY_UNIT_DOWN (R204). -/
  | memoryUnitDown (m : MemUnit)
  /-- TILE_CLEAR (R205). -/
  | tileClear (c : CmdRef)
  /-- READ_AHEAD_EXPIRE (R200). -/
  | readAheadExpire (p : Pid) (k : Nat)
  /-- TIER_SETTING_WRITE (R209). -/
  | tierSettingWrite (off : Nat) (v : W32)
  /-- STAGING_QUOTA_WRITE (R195). -/
  | stagingQuotaWrite (p : Pid) (v : W32)
  /-- PLAN_LOAD (R213). -/
  | planLoad (c : CmdRef)
  /-- PLAN_UNLOAD (R212). -/
  | planUnload (c : CmdRef)
  /-- RUN_BEGIN (R216). -/
  | runBegin (c : CmdRef)
  /-- MARK (R222). -/
  | mark (c : CmdRef)
  /-- RUN_END (R220). -/
  | runEnd (c : CmdRef)
  /-- INSTANCE_CLOSE_COMPLETE (R221). -/
  | instanceCloseComplete (p : Pid) (rec_ mb : Nat)
  /-- FETCHBACK_EVALUATE (R232). -/
  | fetchbackEvaluate (p : Pid)
  /-- FETCHBACK_ISSUE (R233). -/
  | fetchbackIssue (p : Pid) (rec_ mb : Nat)
  /-- INJECTED_SEGMENT_END (R238). -/
  | injectedSegmentEnd (p : Pid) (rec_ mb : Nat) (failed : Bool)
  /-- SCARAB_TASK_ISSUE (R239). -/
  | scarabTaskIssue
  /-- QUARANTINE_WAIT_TIMEOUT (R242). -/
  | quarantineWaitTimeout (w : Issuer)
  /-- SCARAB_SETTING_WRITE (R248). -/
  | scarabSettingWrite (fn : Fn) (v : W32)
  /-- UPDATE_COMMAND (R254). -/
  | updateCommand (c : CmdRef) (list : Bytes)
  /-- NORM_PASS_END (R257). -/
  | normPassEnd (c : CmdRef)
  /-- DECISION_CONTRIBUTION (R258). -/
  | decisionContribution (slice : BitVec 12) (e : Epoch) (members tmoMs rank sum nonfinite : Nat) (opError stopped : Bool)
  /-- REDUCTION_TIMEOUT (R259). -/
  | reductionTimeout (slice : BitVec 12) (e : Epoch)
  /-- VERDICT (R258). -/
  | verdict (p : Pid) (cause sum bad : Nat)
  /-- DECISION_POINT_UNREACHABLE (R259). -/
  | decisionPointUnreachable (p : Pid)
  /-- TRUST_PASS_END (R263). -/
  | trustPassEnd (c : CmdRef)
  /-- APPLY_PASS_END (R262). -/
  | applyPassEnd (c : CmdRef)
  /-- GX (R287). -/
  | gx (o : OpRef)
  /-- ALLGATHER (R290). -/
  | allgather (o : OpRef)
  /-- BCAST (R290). -/
  | bcast (o : OpRef)
  /-- SEND (R291). -/
  | send (o : OpRef)
  /-- RECV (R292). -/
  | recv (o : OpRef)
  /-- BUCKET_CONTRIBUTION (R294). -/
  | bucketContribution (o : OpRef) (k rank : Nat) (sent : List W32)
  /-- BUCKET_DEADLINE (R294). -/
  | bucketDeadline (o : OpRef) (k : Nat)
  /-- LATE_CONTRIBUTION (R295). -/
  | lateContribution (o : OpRef) (k : Nat)
  /-- FABRIC_LANDING (R292). -/
  | fabricLanding (o : OpRef) (rank : Nat) (tag : Option Epoch) (data : Bytes)
  /-- SEND_RECV_TIMEOUT (R293). -/
  | sendRecvTimeout (o : OpRef)
  /-- COLLECTIVE_PEER_UNREACHABLE (R298). -/
  | collectivePeerUnreachable (o : OpRef) (rank reason : Nat)
  /-- DENSE (R309). -/
  | dense (o : OpRef)
  /-- SCHED_REG (R315). -/
  | schedReg (o : OpRef)
  /-- SCHED_DROP (R316). -/
  | schedDrop (o : OpRef)
  /-- SCHED_DROP_RELEASE (R316). -/
  | schedDropRelease (o : OpRef)
  /-- SPARSE (R321). -/
  | sparse (o : OpRef)
  /-- H2T (R334). -/
  | h2t (m : MovNo) (data : Bytes)
  /-- T2H (R335). -/
  | t2h (m : MovNo)
  /-- T2T (R334). -/
  | t2t (m : MovNo)
  /-- PLACE (R337). -/
  | place (m : MovNo)
  /-- XFER (R351). -/
  | xfer (o : OpRef) (data : Bytes)
  /-- MOVER_DESCRIPTOR_START (R333). -/
  | moverDescriptorStart (r : RingId) (desc : Bytes)
  /-- MOVER_FLUSH_TIMEOUT (R335). -/
  | moverFlushTimeout (w : Issuer)
  /-- PACE_LEVEL_POLL (R341). -/
  | paceLevelPoll (m : MovNo)
  /-- PACE_RELEASE (R340). -/
  | paceRelease (m : MovNo)
  /-- MV_PACE_WRITE (R341). -/
  | mvPaceWrite (r : RingId) (v : W32)
  /-- MV_CTL_RESET (R346). -/
  | mvCtlReset (r : RingId)
  /-- MOV_CH_KILL (R347). -/
  | movChKill (m : MovNo)
  /-- MOV_QUOTA_WRITE (R328). -/
  | movQuotaWrite (k : Fin 17) (v : W32)
  /-- PERST_N_ASSERT (R368). -/
  | perstNAssert
  /-- PERST_N_DEASSERT (R518). -/
  | perstNDeassert (refclk : Bool)
  /-- HOT_RESET (R368). -/
  | hotReset
  /-- LINK_DISABLE (R368). -/
  | linkDisable
  /-- SURPRISE_LINK_DOWN (R368). -/
  | surpriseLinkDown
  /-- LINK_CHANGED (R359). -/
  | linkChanged (width rate : Nat)
  /-- PF_HEARTBEAT_TIMEOUT (R370). -/
  | pfHeartbeatTimeout
  /-- VF_HEARTBEAT_TIMEOUT (R370). -/
  | vfHeartbeatTimeout (p : Pid)
  /-- HEARTBEAT_TMO_WRITE (R370). -/
  | heartbeatTmoWrite (fn : Fn) (v : W32)
  /-- VF_FLR (R593). -/
  | vfFlr (p : Pid)
  /-- VF_BUS_MASTER_DISABLE (R593). -/
  | vfBusMasterDisable (p : Pid)
  /-- VF_D3HOT (R593). -/
  | vfD3hot (p : Pid)
  /-- VF_REMOVED (R593). -/
  | vfRemoved (p : Pid)
  /-- PF_FLR (R593). -/
  | pfFlr
  /-- PF_BUS_MASTER_DISABLE (R593). -/
  | pfBusMasterDisable
  /-- PF_D3HOT (R593). -/
  | pfD3hot
  /-- IDE_INSECURE (R367). -/
  | ideInsecure (io mem : Bool)
  /-- HOST_LINE_INVALIDATE (R364). -/
  | hostLineInvalidate (fn : Fn) (iova : W64)
  /-- HDM_DECODER_COMMIT (R366). -/
  | hdmDecoderCommit (base : W64) (size : Nat)
  /-- OPERATOR_STOP_TIMEOUT (R377). -/
  | operatorStopTimeout
  /-- LNK_OP_ATTACH (R384). -/
  | lnkOpAttach (v : W32)
  /-- PORT_ENABLE (R391). -/
  | portEnable (pt : PortNo)
  /-- PORT_DISABLE (R391). -/
  | portDisable (pt : PortNo)
  /-- LANE_MASK_WRITE (R405). -/
  | laneMaskWrite (pt : PortNo) (v : BitVec 8)
  /-- RETRAIN (R396). -/
  | retrain (pt : PortNo)
  /-- PORT_MODULE_READY (R391). -/
  | portModuleReady (pt : PortNo)
  /-- TRAINING_TIMER_EXPIRE (R392). -/
  | trainingTimerExpire (pt : PortNo)
  /-- BACKOFF_END (R393). -/
  | backoffEnd (pt : PortNo)
  /-- PARTNER_SIGNAL_SEEN (R394). -/
  | partnerSignalSeen (pt : PortNo)
  /-- DETECT_LOCK (R391). -/
  | detectLock (pt : PortNo) (lanes : BitVec 8)
  /-- TUNE_COMPLETE (R391). -/
  | tuneComplete (pt : PortNo) (lanes : BitVec 8)
  /-- ALIGN_COMPLETE (R391). -/
  | alignComplete (pt : PortNo) (lanes : BitVec 8)
  /-- DESCRIPTOR_RECEIVED (R410). -/
  | descriptorReceived (pt : PortNo) (d : Bytes)
  /-- LANE_LOCK_LOSS (R398). -/
  | laneLockLoss (pt : PortNo) (l : LaneNo)
  /-- PARTNER_LANE_NOTICE (R398). -/
  | partnerLaneNotice (pt : PortNo) (l : LaneNo)
  /-- FEC_WINDOW_END (R398). -/
  | fecWindowEnd (pt : PortNo) (ue : Vector Nat 8) (ce : Nat)
  /-- RESTRIPE_AGREED (R399). -/
  | restripeAgreed (pt : PortNo)
  /-- RESTRIPE_TIMEOUT (R392). -/
  | restripeTimeout (pt : PortNo)
  /-- LANE_LOCK_REGAINED (R400). -/
  | laneLockRegained (pt : PortNo) (l : LaneNo)
  /-- LANE_PROBATION_END (R401). -/
  | laneProbationEnd (pt : PortNo) (l : LaneNo)
  /-- FAB_LCLR (R401). -/
  | fabLclr (pt : PortNo) (v : BitVec 8)
  /-- FAB_LANE_UE_MAX_WRITE (R405). -/
  | fabLaneUeMaxWrite (pt : PortNo) (v : W32)
  /-- FABRIC_PACKET_RECEIVE (R397). -/
  | fabricPacketReceive (pt : PortNo) (crcOk : Bool) (seq : Nat) (pkt : PacketHdr)
  /-- REPLAY_REQUEST (R397). -/
  | replayRequest (pt : PortNo) (acked : Nat)
  /-- ACK_TIMEOUT (R397). -/
  | ackTimeout (pt : PortNo)
  /-- DESCRIPTOR_SEND (R409). -/
  | descriptorSend (pt : PortNo)
  /-- CANDIDATE_FORGET (R412). -/
  | candidateForget (pt : PortNo)
  /-- FM_STABLE (R412). -/
  | fmStable
  /-- FAB_FM_CTL_WRITE (R412). -/
  | fabFmCtlWrite (v : W32)
  /-- REMOTE_ACCESS (R413). -/
  | remoteAccess (serial : W64) (write : Bool) (off : Nat) (v : W32) (rec_ : Bytes)
  /-- FAB_APPLY (R414). -/
  | fabApply (v : W32)
  /-- E2E_RESEND (R420). -/
  | e2eResend (k : Nat)
  /-- E2E_TIMEOUT (R420). -/
  | e2eTimeout (k : Nat)
  /-- NODE_LOST_DECLARE (R429). -/
  | nodeLostDeclare (n : W16)
  /-- FAB_GRP_LOAD (R425). -/
  | fabGrpLoad (v : W32) (rec_ : Bytes)
  /-- FAB_GRP_REMOVE (R425). -/
  | fabGrpRemove (v : W32)
  /-- ENTROPY_FAULT (R441). -/
  | entropyFault (startup : Bool)
  /-- SPDM_GET_VERSION (R457). -/
  | spdmGetVersion (r : Responder)
  /-- SPDM_GET_CAPABILITIES (R457). -/
  | spdmGetCapabilities (r : Responder)
  /-- SPDM_NEGOTIATE_ALGORITHMS (R457). -/
  | spdmNegotiateAlgorithms (r : Responder)
  /-- SPDM_GET_DIGESTS (R457). -/
  | spdmGetDigests (r : Responder)
  /-- SPDM_GET_CERTIFICATE (R454). -/
  | spdmGetCertificate (r : Responder) (slot off len : Nat)
  /-- SPDM_CHALLENGE (R455). -/
  | spdmChallenge (r : Responder) (slot : Nat)
  /-- SPDM_GET_MEASUREMENTS (R459). -/
  | spdmGetMeasurements (r : Responder) (index : Nat) (signed : Bool)
  /-- SPDM_KEY_EXCHANGE (R458). -/
  | spdmKeyExchange (r : Responder)
  /-- SPDM_FINISH (R457). -/
  | spdmFinish (r : Responder)
  /-- SPDM_HEARTBEAT (R457). -/
  | spdmHeartbeat (r : Responder)
  /-- SPDM_KEY_UPDATE (R457). -/
  | spdmKeyUpdate (r : Responder)
  /-- SPDM_END_SESSION (R458). -/
  | spdmEndSession (r : Responder)
  /-- SPDM_VENDOR_DEFINED_REQUEST (R367). -/
  | spdmVendorDefinedRequest (r : Responder) (secure : Bool)
  /-- JTAG_BYPASS (R446). -/
  | jtagBypass
  /-- JTAG_IDCODE (R446). -/
  | jtagIdcode
  /-- JTAG_SAMPLE_PRELOAD (R446). -/
  | jtagSamplePreload
  /-- JTAG_EXTEST (R446). -/
  | jtagExtest (code : BitVec 8)
  /-- JTAG_CLAMP (R446). -/
  | jtagClamp (code : BitVec 8)
  /-- JTAG_HIGHZ (R446). -/
  | jtagHighz (code : BitVec 8)
  /-- TNT_MEAS_GO (R460). -/
  | tntMeasGo (p : Pid) (v : W32)
  /-- SEC_FSLOTS_WRITE (R448). -/
  | secFslotsWrite (p : Pid) (v : W32)
  /-- MILLISECOND_BOUNDARY (R486). -/
  | millisecondBoundary (x : Samples)
  /-- METER_INTERVAL_BOUNDARY (R473). -/
  | meterIntervalBoundary (p : Pid)
  /-- METER_RECORD_SIGNED (R475). -/
  | meterRecordSigned
  /-- MTR_IVL_WRITE (R473). -/
  | mtrIvlWrite (p : Pid) (v : W32)
  /-- METER_LATCH_READ (R480). -/
  | meterLatchRead (fn : Fn) (p : Pid)
  /-- LOW_WORD_READ (R480). -/
  | lowWordRead (fn : Fn) (off : Nat)
  /-- RC_COUNTER_READ (R479). -/
  | rcCounterRead (fn : Fn) (off : Nat)
  /-- CLK_TIME_SLEW_WRITE (R485). -/
  | clkTimeSlewWrite (v : W32)
  /-- CLK_TIME_SET_GO (R485). -/
  | clkTimeSetGo (v : W32)
  /-- CLK_SSC_WRITE (R490). -/
  | clkSscWrite (v : W32)
  /-- PLL_UNLOCK (R489). -/
  | pllUnlock (pll : Fin 48)
  /-- ACCESS_WAKE (R495). -/
  | accessWake (q : Quad)
  /-- ACCESS_WAKE_IDLE (R493). -/
  | accessWakeIdle (q : Quad)
  /-- QUAD_TRANSITION_COMPLETE (R494). -/
  | quadTransitionComplete (q : Quad)
  /-- RETENTION_ENTRY (R497). -/
  | retentionEntry
  /-- RETENTION_EXIT (R498). -/
  | retentionExit
  /-- RETENTION_EXIT_COMPLETE (R498). -/
  | retentionExitComplete
  /-- CLK_RET_CTL_WRITE (R498). -/
  | clkRetCtlWrite (v : W32)
  /-- THERMTRIP (R505). -/
  | thermtrip
  /-- SUPPLY_FAULT (R506). -/
  | supplyFault (rail : Fin 14)
  /-- POWER_FAIL_WARN (R507). -/
  | powerFailWarn (volts : W16)
  /-- POWER_FAIL_RECOVER (R507). -/
  | powerFailRecover
  /-- POWER_FAIL_SHUTDOWN (R507). -/
  | powerFailShutdown
  /-- TNT_CORE_RST (R512). -/
  | tntCoreRst (p : Pid) (v : W32)
  /-- SYS_RST_CORE (R512). -/
  | sysRstCore (k : Core)
  /-- SYS_RST_PARTITION (R513). -/
  | sysRstPartition (p : Pid)
  /-- SYS_RST_WARM (R514). -/
  | sysRstWarm
  /-- SYS_RST_COLD (R516). -/
  | sysRstCold
  /-- PWD_RESET (R513). -/
  | pwdReset (p : Pid) (v : W32)
  /-- WATCHDOG_WARNING (R520). -/
  | watchdogWarning (fn : Fn)
  /-- DEVICE_WATCHDOG_EXPIRE (R520). -/
  | deviceWatchdogExpire
  /-- PARTITION_WATCHDOG_EXPIRE (R520). -/
  | partitionWatchdogExpire (p : Pid)
  /-- MC_WATCHDOG_EXPIRE (R510). -/
  | mcWatchdogExpire
  /-- WATCHDOG_SERVE (R521). -/
  | watchdogServe (fn : Fn) (v : W32)
  /-- SERVE_ARM_TIMEOUT (R521). -/
  | serveArmTimeout (fn : Fn)
  /-- WATCHDOG_ENABLE_WRITE (R520). -/
  | watchdogEnableWrite (fn : Fn) (v : W32)
  /-- WDG_LOCK (R522). -/
  | wdgLock
  /-- STANDBY_APPLY (R516). -/
  | standbyApply
  /-- BOOT_MILESTONE (R517). -/
  | bootMilestone (b : BootInput)
  /-- DL_BEGIN (R536). -/
  | dlBegin (target : BitVec 2) (io : FlashIo)
  /-- DL_WRITE (R537). -/
  | dlWrite (target : BitVec 2) (data : Bytes) (io : FlashIo)
  /-- VERIFY (R528). -/
  | verify (target : BitVec 2) (io : FlashIo)
  /-- ACTIVATE (R536). -/
  | activate (target : BitVec 2) (io : FlashIo)
  /-- RESTART (R536). -/
  | restart (target : BitVec 2)
  /-- CONFIRM (R529). -/
  | confirm (target : BitVec 2) (io : FlashIo)
  /-- ROLLBACK (R536). -/
  | rollback (target : BitVec 2) (io : FlashIo)
  /-- ABORT (R536). -/
  | abort (target : BitVec 2)
  /-- TRIAL_TIMER_EXPIRE (R538). -/
  | trialTimerExpire (io : FlashIo)
  /-- FLS_SEAL (R530). -/
  | flsSeal (v : W32)
  /-- FLS_CFG_PUT (R545). -/
  | flsCfgPut (typ : W16) (io : FlashIo)
  /-- FLS_CFG_DEL (R545). -/
  | flsCfgDel (typ : W16) (io : FlashIo)
  /-- FLS_CFG_READ (R545). -/
  | flsCfgRead (k : W16)
  /-- QUERY_DEVICE_IDENTIFIERS (R540). -/
  | queryDeviceIdentifiers
  /-- GET_FIRMWARE_PARAMETERS (R540). -/
  | getFirmwareParameters
  /-- GET_STATUS (R540). -/
  | getStatus
  /-- REQUEST_UPDATE (R540). -/
  | requestUpdate
  /-- PASS_COMPONENT_TABLE (R540). -/
  | passComponentTable
  /-- UPDATE_COMPONENT (R540). -/
  | updateComponent (comp : W16) (io : FlashIo)
  /-- FIRMWARE_DATA_RECEIVED (R540). -/
  | firmwareDataReceived (data : Bytes) (io : FlashIo)
  /-- ACTIVATE_FIRMWARE (R540). -/
  | activateFirmware
  /-- CANCEL_UPDATE_COMPONENT (R540). -/
  | cancelUpdateComponent
  /-- CANCEL_UPDATE (R540). -/
  | cancelUpdate
  /-- PB_PRSNT_DEASSERT (R550). -/
  | pbPrsntDeassert
  /-- INPUT_GOOD (R550). -/
  | inputGood
  /-- COLD_RST_N (R560). -/
  | coldRstN (lowNs : Nat)
  /-- SERVICE_BUTTON_PRESS (R564). -/
  | serviceButtonPress
  /-- SERVICE_BUTTON_HOLD (R564). -/
  | serviceButtonHold
  /-- CAGE_MODULE_INSERT (R570). -/
  | cageModuleInsert (pt : PortNo) (passive : Bool) (cls : Nat) (temp : BitVec 8)
  /-- CAGE_MODULE_REMOVE (R570). -/
  | cageModuleRemove (pt : PortNo)
  /-- CAGE_OVERPOWER (R571). -/
  | cageOverpower (pt : PortNo)
  /-- SMBUS_ALERT_RESPONSE (R557). -/
  | smbusAlertResponse
  /-- REGISTER_WRITE (R576). -/
  | registerWrite (fn : Fn) (off : Nat) (v : W32)
  /-- SOLVER_OP_END (R313). -/
  | solverOpEnd (o : OpRef)
  /-- MOVER_DESCRIPTOR_END (R333). -/
  | moverDescriptorEnd (m : MovNo)
  /-- LINK_UP (R359). -/
  | linkUp (width rate : Nat) (cxl : Bool)
  /-- VF_ENABLE (R362). -/
  | vfEnable (n : Nat)
  /-- STANDBY_LOSS (R443). -/
  | standbyLoss
  /-- MODULE_ADVERTISEMENT_CHANGE (R570). -/
  | moduleAdvertisementChange (pt : PortNo) (cls : Nat)
  deriving DecidableEq, Repr

end Sys2Proof
end

