-- ==== Sys2Proof/Decode.lean ====
section
/-! DEFINITION. Decode.lean: the command a word spells by the opcode table's bits. The table gives no row bits, so no word
spells a command. -/

namespace Sys2Proof

/-- No row of the table carries bits. -/
def decodeTableWord (_nbits _w : Nat) : Option Instr := none

end Sys2Proof
end

