-- ==== Sys2Proof/Config.lean ====
section
/-! DEFINITION. Config.lean: what an implementation fixes, and the free values: constants with no body. -/

namespace Sys2Proof.Config

/-- The k-th free value, w bits wide: a value the spec leaves open (log entry 2). -/
opaque freeBits (w : Nat) (k : Nat) : BitVec w

/-- The k-th output of the DRBG of R437. -/
opaque drbg (w : Nat) (k : Nat) : BitVec w

/-- ECDSA P-384 over SHA-384 with the device identity key and a per-signature secret (R455): r and s. -/
opaque ecdsaSign (message : Bytes) (secret : BitVec 384) : BitVec 384 × BitVec 384

/-- ECDSA P-384 verification over SHA-384 under the public key X, Y (R527). -/
opaque ecdsaVerify (x y : Nat) (message : Bytes) (r s : Nat) : Bool

/-- The ROM digests of the four firmware keys (R528). -/
opaque fwKeyDigest (index : Nat) : BitVec 384

/-- The certificate chain of Table 16-4 in the SPDM format (R454). -/
opaque certChain : Bytes

/-- The FP32 result of a bounded vector operation (Table 5-7): the same for the same input on every core (R148). -/
opaque bounded (vop : Nat) (x : BitVec 32) : BitVec 32

/-- The sled's serial, fixed at manufacture (R454). -/
opaque serial : W64

/-- A0 silicon rather than B1 (R1, R578). -/
opaque isA0 : Bool

/-- The sectors in which the board tier's private format stores a tile with these non-zero bytes (R184, R197). -/
opaque boardSectors (cells : List Host.Cell) : Nat

/-- The digest measured for measurement indices 1 to 3 (Table 16-6). -/
opaque imageDigest (index : Nat) : BitVec 384

/-- The cosine and sine of the Givens rotation for two FP32 operands (R321, log entry 27). -/
opaque givens (a b : W32) : W32 × W32

end Sys2Proof.Config
end

