-- ==== Sys2Proof/Machine/State/Common.lean ====
section
/-! DEFINITION. Machine/State/Common.lean: names shared by every part of the state: statuses, lifecycle states, homes, and what the sled sends out. -/

namespace Sys2Proof.Machine

/-- Table 0-7: the shared completion statuses. -/
inductive Status where
  | ok | cancelled | deadlineMiss | tierError | busError | poisoned | fenceTimeout | epochRevoked
  | nonfiniteSkip | pivotTiny | solverBreakdown | notConverged | accessFault | malformed | partitionReset
  | fetchLate | fabricPathLost | stragglerCarried | stragglerDropped | hostLost | quotaExceeded
  deriving DecidableEq, Repr

/-- Table 0-7: the code of a status. -/
def Status.code : Status → BitVec 8
  | .ok => 0x00 | .cancelled => 0x01 | .deadlineMiss => 0x02 | .tierError => 0x03 | .busError => 0x04
  | .poisoned => 0x05 | .fenceTimeout => 0x06 | .epochRevoked => 0x07 | .nonfiniteSkip => 0x08
  | .pivotTiny => 0x09 | .solverBreakdown => 0x0A | .notConverged => 0x0B | .accessFault => 0x0C
  | .malformed => 0x0D | .partitionReset => 0x0E | .fetchLate => 0x0F | .fabricPathLost => 0x10
  | .stragglerCarried => 0x11 | .stragglerDropped => 0x12 | .hostLost => 0x13 | .quotaExceeded => 0x14

/-- Table 0-7, R10: the statuses of kind warning. -/
def Status.isWarning : Status → Bool
  | .pivotTiny | .fetchLate | .stragglerCarried => true
  | _ => false

/-- Table 0-7, R11: the statuses of kind error. -/
def Status.isError (s : Status) : Bool := s != .ok && !s.isWarning

/-- Table 1-3: the lifecycle states of a partition. -/
inductive PState where
  | empty | configuring | ready | running | napping | suspended | detached | retained | draining | scrubbing
  deriving DecidableEq, Repr

/-- PRT_STATUS.STATE (Table 1-3). -/
def PState.code : PState → Nat
  | .empty => 0 | .configuring => 1 | .ready => 2 | .running => 3 | .napping => 4 | .suspended => 5
  | .detached => 6 | .retained => 7 | .draining => 8 | .scrubbing => 9

/-- A state "from READY to RETAINED". -/
def PState.committed : PState → Bool
  | .ready | .running | .napping | .suspended | .detached | .retained => true
  | _ => false

/-- The partition holds the resources of Table 1-1: from COMMIT until STATE reads EMPTY again (R28). -/
def PState.holds : PState → Bool
  | .empty | .configuring => false
  | _ => true

/-- One thing the sled puts out: a host-memory write, an MSI-X message, a value returned to a read, a reply
on a management channel, or a packet on a fabric port. The sled keeps no such list; the model records it so
that statements can speak of it (log entry 3). -/
inductive HostOut where
  /-- A posted write of `bytes` at `iova` with the requester ID of `fn` (R59). -/
  | write (fn : Fn) (iova : W64) (bytes : Bytes)
  /-- An MSI-X message (R90). -/
  | msix (fn : Fn) (vec : Nat) (addr : W64) (data : W32)
  /-- The value a register read returned. -/
  | regValue (fn : Fn) (off : Nat) (val : W32)
  /-- The line a window read returned, and its CXL.mem poison bit (R65). -/
  | line (poison : Bool) (bytes : Bytes)
  /-- A reply of an SPDM, PLDM, SMBus or JTAG responder: its channel and the fields the spec fixes. -/
  | reply (channel : Nat) (code : Nat) (fields : List Nat)
  /-- A packet or notice handed to a fabric port (`none`: the sled itself). -/
  | fabric (port : Option PortNo) (kind : Nat) (fields : List Nat)
  /-- A change of an output pin or lamp. -/
  | pin (name : String) (level : Bool)
  deriving DecidableEq, Repr

/-- An event before it is placed on a ring (Table 3-12 without PHASE, TIME and SEQ). -/
structure Event where
  code   : BitVec 16
  source : BitVec 8
  arg0   : W32
  arg1   : W64
  deriving DecidableEq, Repr

/-- Table 7-1: where a tile's home may be. Tile memory is named by the absolute core. -/
inductive Home where
  | tileMem (core : Core)
  | staging
  | stacked (stack : StackNo) (pool : Bool)
  | board
  deriving DecidableEq, Repr

end Sys2Proof.Machine
end

