-- ==== Sys2Proof/Machine/State/Engines.lean ====
section
/-! DEFINITION. Machine/State/Engines.lean: the Weevil, the exchange, the Tigers and the Mover (chapters 9 to 12). -/

namespace Sys2Proof.Machine

/-! ### Weevil -/

/-- TNT_WVL_STS.PASS (Table 9-11). -/
inductive WvlPass where
  | idle | norm | verdict | trust | apply
  deriving DecidableEq, Repr

/-- UPD_HYPER (Table 9-3). -/
structure UpdHyper where
  alg      : Nat
  nesterov : Bool
  noBias   : Bool
  lr : W32
  b1 : W32
  b2 : W32
  eps : W32
  wd : W32
  trMax : W32
  stream : W32
  deriving DecidableEq, Repr

/-- UPD_SHARD (Table 9-4) with the UPD_HYPER that governs it (R251); `hyper` is that operation's index in the list. -/
structure UpdShard where
  hyper  : UpdHyper
  hyperIx : Nat
  gfmt   : BitVec 4
  m1Fp32 : Bool
  m2Fp32 : Bool
  tgroup : W16
  nelem  : Nat
  base   : Nat
  pTile  : TileNo
  gTile  : TileNo
  m1Tile : TileNo
  m2Tile : TileNo
  deriving DecidableEq, Repr

/-- One member's contribution to the norm-and-finite reduction (R257): the exact sum of squares in units of 2^-298,
the count of non-finite elements, whether its Norm pass met an operand error, and whether its command was stopped. -/
structure NormPart where
  rank      : Nat
  sum       : Nat
  nonfinite : Nat
  opError   : Bool
  stopped   : Bool
  deriving DecidableEq, Repr

/-- A verdict (Table 9-6): its cause code, the total sum, and the members that reported a non-finite element. -/
structure VerdictMsg where
  cause   : Nat
  sum     : Nat
  badMembers : Nat
  deriving DecidableEq, Repr

/-- An update command in progress (R254). `errs`: the failures its requests met (R202); `ratios`: the trust ratio of each trust
group; `kept`, `sat`: the counts of its record; `recBad`: the host refuses its record's write (R60); `fin`: how it ends, while its record waits for the host link. -/
structure Update where
  cmd     : CmdRef
  epoch   : Epoch
  group   : W16
  clip    : W32
  seed    : W64
  resIova : W64
  shards  : List UpdShard
  part    : Option NormPart
  lowBad  : Option Nat
  errs    : List (Status × W32)
  verdict : Option VerdictMsg
  verdictAt : W64
  factor  : W32
  gnorm   : W64
  ratios  : List (Nat × W32)
  kept    : Nat
  sat     : Nat
  recBad  : Bool
  fin     : Option (Status × W32)
  deriving DecidableEq, Repr

/-- The Weevil state and registers of one partition (Table 9-11). -/
structure Weevil where
  t         : W32
  pass      : WvlPass
  lastCause : BitVec 4
  epochReg  : Epoch
  gnorm     : W64
  skipCnt   : ErrCount
  keptCnt   : ErrCount
  satCnt    : ErrCount
  reduceTmo : W16
  upd       : Option Update
  deriving DecidableEq, Repr

/-- Table 9-11: reset values. -/
def Weevil.reset : Weevil :=
  { t := 0, pass := .idle, lastCause := 0, epochReg := 0, gnorm := 0, skipCnt := 0, keptCnt := 0, satCnt := 0,
    reduceTmo := 0x03E8, upd := none }

/-- A reduction at the slice's decision point, when this sled holds it (R258). `lost`: the DETAIL of a member that became unreachable
before it contributed. -/
structure Reduction where
  slice   : BitVec 12
  epoch   : Epoch
  members : Nat
  parts   : List NormPart
  firstAt : Nat
  tmoMs   : Nat
  lost    : Option W32
  decided : Option VerdictMsg
  deriving DecidableEq, Repr

/-! ### Exchange -/

/-- An installed collective group (R277) with its members' nodes by rank; `seq` counts the collective operations started on it (R279). -/
structure Group where
  id    : W16
  nmemb : Nat
  rank  : Nat
  nodes : List W16
  seq   : Nat
  deriving DecidableEq, Repr

/-- A residual slot that differs from its reset value: its BANK bit and its pending epoch (R285). -/
structure ResSlot where
  slot    : Nat
  bank    : Bool
  pending : Option Epoch
  deriving DecidableEq, Repr

/-- One member's encoded bucket: the values sent_i (R283). -/
structure Contribution where
  rank : Nat
  sent : List W32
  deriving DecidableEq, Repr

/-- How this member has handled a bucket. -/
inductive OwnPart where
  | none | sent | late
  deriving DecidableEq, Repr

/-- A bucket of a GX operation: when its reduction opened, the contributions that have arrived, whether the deadline
closed it, this member's own part, and whether its result has landed here. -/
structure Bucket where
  openedAt : Option Nat
  parts    : List Contribution
  closed   : Bool
  own      : OwnPart
  landed   : Bool
  deriving DecidableEq, Repr

/-- The fields of a GX operation (Table 10-2). -/
structure GxFields where
  reduce  : Bool
  mode    : Nat
  avg     : Bool
  res     : Bool
  fmt     : Nat
  topkN   : Nat
  drop    : Bool
  group   : W16
  owner0  : Nat
  nelem   : Nat
  gTile   : TileNo
  oTile   : TileNo
  rTile   : TileNo
  resBase : Nat
  dlUs    : Nat
  deriving DecidableEq, Repr

/-- A fabric list operation in progress. -/
inductive FabKind where
  | gx (f : GxFields) (buckets : List Bucket)
  /-- ALLGATHER (`root = none`) or BCAST: the ranks whose tiles have landed, and whether this member has sent its own. -/
  | gather (root : Option Nat) (src dst n : Nat) (landed : List Nat) (sent : Bool)
  /-- SEND: `sent`: its RECV was active and its tiles have gone out. -/
  | send (chan mb peer tile n tmoUs : Nat) (sent : Bool)
  | recv (chan mb peer n tmoUs : Nat) (tile : TileNo) (pair : Option (RelCore × PairNo))
  deriving DecidableEq, Repr

/-- A fabric list operation in progress: its operation, group, sequence, epoch and tag. -/
structure FabRun where
  op    : OpRef
  group : W16
  seq   : Nat
  epoch : Epoch
  spec  : Bool
  since : Nat
  kind  : FabKind
  deriving DecidableEq, Repr

/-- The exchange state and registers of one partition (Table 10-8). -/
structure Exchange where
  groups   : Vector (Option Group) 16
  slots    : List ResSlot
  runs     : List FabRun
  resSel   : BitVec 14
  firstEpoch : List Epoch
  carryCnt : PerfCount
  dropCnt  : ErrCount
  deriving DecidableEq, Repr

/-- Table 10-8: reset values. -/
def Exchange.reset : Exchange := ⟨Vector.replicate 16 none, [], [], 0, [], 0, 0⟩

/-! ### Tiger -/

/-- A registered schedule (R315): where it lies, and the N, NVAL and PB it had at registration. -/
structure Sched where
  ta   : Nat
  len  : Nat
  n    : Nat
  nval : Nat
  pb   : Nat
  deriving DecidableEq, Repr

/-- A SCHED_DROP that waits for the solves that started before it (R316). -/
structure DropWait where
  op     : OpRef
  handle : Fin 64
  users  : List OpRef
  deriving DecidableEq, Repr

/-- The solver state and registers of one partition (Table 11-10). -/
structure Solver where
  handles  : Vector (Option Sched) 64
  drops    : List DropWait
  tinyCnt  : PerfCount
  brkCnt   : ErrCount
  nconvCnt : ErrCount
  deriving DecidableEq, Repr

/-- Table 11-10: reset values. -/
def Solver.reset : Solver := ⟨Vector.replicate 64 none, [], 0, 0, 0⟩

/-! ### Mover -/

/-- A descriptor as consumed (Table 12-1). -/
structure Desc where
  own   : Bool
  bad   : Bool
  wb    : Bool
  irq   : Bool
  cont  : Bool
  csum  : BitVec 2
  flush : Bool
  kind  : BitVec 4
  tier  : BitVec 4
  tag   : W16
  len   : W32
  src   : W64
  dst   : W64
  rsv   : W64
  deriving DecidableEq, Repr

/-- A running checksum (R338, R339): mode, CRC state, folded sum, and whether the byte count so far is odd. -/
structure Chain where
  mode : BitVec 2
  crc  : W32
  sum  : Nat
  odd  : Bool
  deriving DecidableEq, Repr

/-- A descriptor in execution: the bytes written at the destination so far, the tiles skipped, how it ended if it has, and the time
its flushing read was issued. `got`, `buf`: the source bytes that a T2T has read, and those of them not yet written; `moving`: the
tile a PLACE is moving; `waited`: the wait of its next access has been counted; `quarAt`: since when it waits for a run-ahead tag (R242). -/
structure DescRun where
  desc    : Desc
  done    : Nat
  got     : Nat
  buf     : Bytes
  skipped : Nat
  crc     : Option Chain
  restart : Bool
  late    : Bool
  ended   : Option (Status × W32)
  flushAt : Option Nat
  moving  : Option TileNo
  waited  : Bool
  quarAt  : Option Nat
  deriving DecidableEq, Repr

/-- Table 12-5: channel states. -/
inductive ChState where
  | free | idle | running | paced | halted
  deriving DecidableEq, Repr

/-- A Mover channel: state, the ring it serves, the descriptor in execution, the checksum of the preceding
descriptor, whether PACE_FAULT has been posted since binding, and when its level word was last read. -/
structure Channel where
  st      : ChState
  ring    : Option RingId
  run     : Option DescRun
  chain   : Option Chain
  faulted : Bool
  polledAt : Nat
  deriving DecidableEq, Repr

/-- A FREE channel. -/
def Channel.reset : Channel := ⟨.free, none, none, none, false, 0⟩

end Sys2Proof.Machine
end

