-- ==== Sys2Proof/Machine/State/Fabric.lean ====
section
/-! DEFINITION. Machine/State/Fabric.lean: fabric ports, lanes and the network (chapters 14 and 15). -/

namespace Sys2Proof.Machine

/-- Table 14-2: port states. -/
inductive PortState where
  | disabled | absent | backoff | detect | tune | align | exchange | active | restripe
  deriving DecidableEq, Repr

/-- FAB_PSTS.STATE. -/
def PortState.code : PortState → Nat
  | .disabled => 0 | .absent => 1 | .backoff => 2 | .detect => 3 | .tune => 4 | .align => 5 | .exchange => 6
  | .active => 7 | .restripe => 8

/-- Table 14-4: lane states. -/
inductive LaneState where
  | idle | active | out | probation | lockedOut | masked
  deriving DecidableEq, Repr

/-- FAB_LSTS.STATE. -/
def LaneState.code : LaneState → Nat
  | .idle => 0 | .active => 1 | .out => 2 | .probation => 3 | .lockedOut => 4 | .masked => 5

/-- A lane: its state, whether its receiver holds lock, when it gained or lost it, the device times of its rejoins, newest first
(R401), and its two counters. -/
structure Lane where
  st      : LaneState
  locked  : Bool
  since   : Nat
  rejoins : List Nat
  lol     : ErrCount
  ue      : ErrCount
  deriving DecidableEq, Repr

/-- A lane at its reset values. -/
def Lane.reset : Lane := ⟨.idle, false, 0, [], 0, 0⟩

/-- The packets of one transaction in a retry buffer: their destination, what they belong to, their number and their bytes (R397, R420),
and the non-minimal steps they have taken (R418). -/
structure Packet where
  dest  : W16
  slice : BitVec 12
  tc    : Fin 4
  count : Nat
  bytes : Nat
  steps : Nat
  op    : Option OpRef
  deriving DecidableEq, Repr

/-- NBR_STS (R411). -/
inductive NbrState where
  | none | ok | miswired
  deriving DecidableEq, Repr

/-- The code of a neighbour state. -/
def NbrState.code : NbrState → Nat
  | .none => 0 | .ok => 1 | .miswired => 2

/-- The neighbour registers of a port (Table 15-7), and the candidate its partner advertised, with when (R412). -/
structure Nbr where
  st       : NbrState
  refuse   : BitVec 4
  flags    : BitVec 8
  port     : BitVec 3
  node     : W16
  gen      : W32
  serial   : W64
  cand     : Option (Byte × W64 × Nat)
  candAt   : Nat
  deriving DecidableEq, Repr

/-- Neighbour registers at their reset values. -/
def Nbr.reset : Nbr := ⟨.none, 0, 0, 0, 0, 0, 0, none, 0⟩

/-- A fabric port (Table 14-6). `since`: when its state was entered; `seen`: signal has been seen in this attempt;
`retry`: the retry buffer, oldest first; `replays`: consecutive replays without progress; `ackAt`: the last acknowledgement
progress, or replay; `rxNext`: the next packet that the receiver takes (R397). -/
structure Port where
  en       : Bool
  mask     : BitVec 8
  st       : PortState
  modPres  : Bool
  modReady : Bool
  silent   : Bool
  unstable : Bool
  width    : Nat
  silentN  : BitVec 8
  failN    : BitVec 8
  since    : Nat
  seen     : Bool
  ueMax    : W16
  ueMaxNext : W16
  lanes    : Vector Lane 8
  retry    : List Packet
  replays  : Nat
  ackAt    : Nat
  rxNext   : Nat
  crc      : ErrCount
  replayCnt : ErrCount
  down     : ErrCount
  drop     : ErrCount
  rejoin   : ErrCount
  fail     : ErrCount
  ce       : W64
  txBytes  : W64
  rxBytes  : W64
  txPkt    : W64
  rxPkt    : W64
  retryBytes : W64
  nbr      : Nbr
  deriving DecidableEq, Repr

/-- A port at its reset values. -/
def Port.reset : Port :=
  { en := false, mask := 0, st := .disabled, modPres := false, modReady := false, silent := false, unstable := false,
    width := 0, silentN := 0, failN := 0, since := 0, seen := false, ueMax := 0, ueMaxNext := 0,
    lanes := Vector.replicate 8 Lane.reset, retry := [], replays := 0, ackAt := 0, rxNext := 0,
    crc := 0, replayCnt := 0, down := 0, drop := 0, rejoin := 0, fail := 0, ce := 0, txBytes := 0, rxBytes := 0,
    txPkt := 0, rxPkt := 0, retryBytes := 0, nbr := Nbr.reset }

/-- An override entry (R419). -/
structure Override where
  valid    : Bool
  dest     : W16
  altValid : Bool
  alt      : BitVec 3
  primary  : BitVec 3
  deriving DecidableEq, Repr

/-- An empty override entry. -/
def Override.reset : Override := ⟨false, 0, false, 0, 0⟩

/-- A retired entry (R431). -/
structure Retired where
  valid  : Bool
  node   : W16
  serial : W64
  deriving DecidableEq, Repr

/-- The registers of Table 15-8, staged or active. `dims`: DX − 1, DY − 1, DZ − 1. -/
structure FabConfig where
  node   : W16
  dims   : BitVec 15
  fid    : W64
  puse   : BitVec 16
  dfltValid : Bool
  dflt   : BitVec 3
  pdpValid : BitVec 16
  pdp    : Vector W16 16
  ovr    : Vector Override 256
  lostValid : BitVec 64
  lost   : Vector W16 64
  retire : Vector Retired 16
  deriving DecidableEq, Repr

/-- Table 15-8: reset values. -/
def FabConfig.reset : FabConfig :=
  { node := 0xFFFF, dims := 0, fid := 0, puse := 0, dfltValid := false, dflt := 0, pdpValid := 0,
    pdp := Vector.replicate 16 0, ovr := Vector.replicate 256 Override.reset, lostValid := 0,
    lost := Vector.replicate 64 0, retire := Vector.replicate 16 ⟨false, 0, 0⟩ }

/-- A transaction without an end-to-end acknowledgement (R420). -/
structure E2E where
  dest   : W16
  slice  : BitVec 12
  tc     : Fin 4
  seq    : Nat
  sentAt : Nat
  firstAt : Nat
  count  : Nat
  bytes  : Nat
  op     : Option OpRef
  deriving DecidableEq, Repr

/-- The removal of a group that waits for the operations started on it (R425). -/
structure GrpWait where
  pid    : Pid
  group  : W16
  users  : List OpRef
  deriving DecidableEq, Repr

/-- The network registers (Table 15-7). `holder`: the node and serial of every node whose holder is known
(R430); `unreach`: the nodes posted as unreachable, with the reason; `best`: the best candidate and since when. -/
structure Network where
  gen       : W32
  eligible  : Bool
  hostFm    : Bool
  remoteEn  : Bool
  priority  : BitVec 8
  isFm      : Bool
  stable    : Bool
  fmNode    : W16
  fmSerial  : W64
  best      : Option (Nat × W64)
  bestAt    : Nat
  cfgErr    : Bool
  e2eTmo    : BitVec 10
  lostHold  : W16
  rtCap     : BitVec 7
  w1        : BitVec 4
  w2        : BitVec 4
  sliceDrop : ErrCount
  sliceArmed : Bool
  noRoute   : ErrCount
  resend    : PerfCount
  grpIova   : W64
  grpBusy   : Bool
  grpRes    : BitVec 4
  grpWait   : List GrpWait
  grpBuf    : Bytes
  staged    : FabConfig
  active    : FabConfig
  e2e       : List E2E
  e2eSeq    : Nat
  unreach   : List (W16 × Nat × Nat)
  remoteLatches : List (Nat × W32)
  deriving DecidableEq, Repr

/-- Table 15-7: reset values. -/
def Network.reset : Network :=
  { gen := 0, eligible := false, hostFm := false, remoteEn := false, priority := 0, isFm := false, stable := false,
    fmNode := 0xFFFF, fmSerial := 0, best := none, bestAt := 0, cfgErr := false, e2eTmo := 0x00A, lostHold := 0x0064,
    rtCap := 0x19, w1 := 0x3, w2 := 0x1, sliceDrop := 0, sliceArmed := true, noRoute := 0, resend := 0, grpIova := 0,
    grpBusy := false, grpRes := 0, grpWait := [], grpBuf := List.replicate 8224 0, staged := FabConfig.reset,
    active := FabConfig.reset, e2e := [], e2eSeq := 0, unreach := [], remoteLatches := [] }

end Sys2Proof.Machine
end

