-- ==== Sys2Proof/Machine/State/Memory.lean ====
section
/-! DEFINITION. Machine/State/Memory.lean: objects, tiles and the tier registers (chapters 2 and 7). -/

namespace Sys2Proof.Machine

/-- An entry of the object table (Table 2-2). `steward`: created by the Scarab. `releasing`: an OBJ_RELEASE has
been accepted and waits for earlier accesses (R55). -/
structure Obj where
  id        : W32
  hint      : BitVec 3
  core      : BitVec 8
  base      : TileNo
  tiles     : Nat
  steward   : Bool
  releasing : Option CmdRef
  deriving DecidableEq, Repr

/-- What started a move (Table 7-4): a command or list operation that ends with it, a buffer pair, a RESIZE of
the partition, an eviction, a background promotion, the Scarab's placement of a ledger entry, or a Mover channel. -/
inductive MoveCause where
  | command (c : CmdRef)
  | operation (o : OpRef)
  | pair (p : PairRef)
  | resize
  | eviction
  | promotion
  | scarab (rec mb : Nat)
  | mover (ch : MovNo)
  deriving DecidableEq, Repr

/-- A move of a RESIDENT tile (R187): its destination, what started it, whether the copy has begun, and whether
the trigger has already chosen a second destination (R193). -/
structure Move where
  dst     : Home
  cause   : MoveCause
  copying : Bool
  retried : Bool
  deriving DecidableEq, Repr

/-- Table 7-2: the home states. `reserved`: a home has been reserved for a DROPPED tile (R237). -/
inductive TileState where
  | zero | resident | moving (m : Move) | poisoned | dropped (reserved : Bool)
  deriving DecidableEq, Repr

/-- One tile of a defined object: its number, home and state, its age stamp (R191), the time of its last access
or store in the board tier (R192), the sectors it occupies there (R197), whether they hold it uncompressed (SPILL), and its
run-ahead tag (R241).
`clearAfter`: a TILE_CLEAR waits for its move to end (R205); `closing`: its steward instance closes once earlier accesses have
ended (R221). -/
structure Tile where
  num        : TileNo
  home       : Home
  st         : TileState
  age        : W16
  boardAt    : Nat
  sectors    : Nat
  raw        : Bool
  tag        : Option Epoch
  bound      : Bool
  clearAfter : Bool
  closing    : Bool
  deriving DecidableEq, Repr

/-- Who reads ahead (R200). -/
inductive Reader where
  | unit (u : UnitRef)
  | channel (c : MovNo)
  deriving DecidableEq, Repr

/-- A tile staged in a transit slot for one reader (R200). -/
structure Staged where
  reader : Reader
  tile   : TileNo
  at_    : Nat
  deriving DecidableEq, Repr

/-- The last tile a reader read of a STREAMING object. -/
structure LastRead where
  reader : Reader
  tile   : TileNo
  deriving DecidableEq, Repr

/-- The window registers of a partition (Table 2-10). -/
structure Window where
  en       : Bool
  base     : BitVec 20
  faultCnt : ErrCount
  poisonCnt : ErrCount
  faultTa  : BitVec 48
  faultValid : Bool
  deriving DecidableEq, Repr

/-- Table 2-10: reset values. -/
def Window.reset : Window := ⟨false, 0, 0, 0, 0, false⟩

/-- The operator window registers (Table 2-11). -/
structure OpWindow where
  en        : Bool
  pid       : BitVec 5
  base      : BitVec 18
  denyCnt   : ErrCount
  faultCnt  : ErrCount
  poisonCnt : ErrCount
  deriving DecidableEq, Repr

/-- Table 2-11: reset values. -/
def OpWindow.reset : OpWindow := ⟨false, 0, 0, 0, 0, 0⟩

/-- The counters and the latch of Table 7-8 that are not computed from the tiles. -/
structure TierCounters where
  errCnt     : ErrCount
  evicted    : PerfCount
  moveWait   : PerfCount
  poisonTa   : BitVec 48
  poisonValid : Bool
  deriving DecidableEq, Repr

/-- Table 7-8: reset values. -/
def TierCounters.reset : TierCounters := ⟨0, 0, 0, 0, false⟩

/-- A window access that waits for a move or for a quad (R66, R187): through the operator window or not, its TA,
and its line with the byte enables when it writes. -/
structure WinAccess where
  oper   : Bool
  ta     : Nat
  data   : Option (Bytes × W64)
  deriving DecidableEq, Repr

/-- The memory of one partition: its objects, its tiles, the bytes of its TA (strictly rising addresses, no zero
byte listed), and its read-ahead. `spans` of accesses in flight stand with the commands that make them. -/
structure Memory where
  objs   : List Obj
  tiles  : List Tile
  bytes  : List Host.Cell
  staged : List Staged
  last   : List LastRead
  waits  : List WinAccess
  cnt    : TierCounters
  deriving DecidableEq, Repr

/-- A partition's memory with nothing defined. -/
def Memory.reset : Memory := ⟨[], [], [], [], [], [], TierCounters.reset⟩

/-- The operator tier registers (Table 7-9) and the memory population (R196, R204). `rdimm`: the capacity of each
installed RDIMM in GiB, 0 where the slot is empty. -/
structure TierRegs where
  late       : W16
  poolAge    : W16
  stkFail    : BitVec 6
  ddrFail    : BitVec 12
  stgQuota   : Vector (BitVec 11) 16
  ddrCe      : Vector ErrCount 12
  ddrUe      : Vector ErrCount 12
  stkCe      : Vector ErrCount 6
  stkUe      : Vector ErrCount 6
  stgCe      : ErrCount
  stgUe      : ErrCount
  boardInst  : BitVec 7
  rdimm      : Vector Nat 12
  deriving DecidableEq, Repr

/-- Table 7-9: reset values; twelve 16 GiB RDIMMs, none of which the board tier counts before BOARD (log entry 5). -/
def TierRegs.reset : TierRegs :=
  { late := 0x01F4, poolAge := 0x0064, stkFail := 0, ddrFail := 0, stgQuota := Vector.replicate 16 0x070,
    ddrCe := Vector.replicate 12 0, ddrUe := Vector.replicate 12 0, stkCe := Vector.replicate 6 0,
    stkUe := Vector.replicate 6 0, stgCe := 0, stgUe := 0, boardInst := 0, rdimm := Vector.replicate 12 16 }

end Sys2Proof.Machine
end

