-- ==== Sys2Proof/Machine/State/Meters.lean ====
section
/-! DEFINITION. Machine/State/Meters.lean: meters, records and their rings (chapter 17). -/

namespace Sys2Proof.Machine

/-- The eight meters in their internal units (R465): core-ns, tile-ms, tile-ms, sector-ms, bytes, bytes, pJ, misses. -/
abbrev Accruals := Vector Nat 8

/-- A meter record that has been formed and waits for its signature (R471, R475). -/
structure FormedRec where
  pid   : Pid
  seq   : W64
  bytes : Bytes
  unsigned : Bool
  deriving DecidableEq, Repr

/-- The meters of one partition (Tables 17-1 and 17-7). `acc`: the meters; `due`: what a FENCED partition has accrued since the
last 1 ms boundary (R467); `last`: TNT_MTR_LAST; `latch`: the values that the PF's and the VF's last read of meter 0
latched (R480); `missArmed`: DEADLINE_MISS_FIRST may be posted; `mark`:
the device time up to which interval boundaries have been judged (R473); `shared`: its energy of this millisecond under the shared-resource
rows of Table 17-2 (R468). -/
structure Meters where
  acc      : Accruals
  due      : Accruals
  satMask  : BitVec 8
  pseq     : W32
  tStart   : W64
  lost     : ErrCount
  last     : Bytes
  latchPf  : Option (Vector W64 8)
  latchVf  : Option (Vector W64 8)
  missArmed : Bool
  ivl      : BitVec 6
  mark     : Nat
  shared   : Nat
  deriving DecidableEq, Repr

/-- Tables 17-7 and 17-8: reset values. -/
def Meters.reset : Meters :=
  { acc := Vector.replicate 8 0, due := Vector.replicate 8 0, satMask := 0, pseq := 0, tStart := 0, lost := 0,
    last := List.replicate 256 0, latchPf := none, latchVf := none, missArmed := true, ivl := 0x3C, mark := 0, shared := 0 }

/-- A record in the hold of R378. -/
structure HeldRec where
  pid   : Pid
  seq   : W64
  bytes : Bytes
  deriving DecidableEq, Repr

/-- The sled-wide meter registers (Table 17-8): records being signed and records held. -/
structure MeterBlock where
  instance_ : W64
  seq      : W64
  unsigned : ErrCount
  forming  : List FormedRec
  hold     : List HeldRec
  wvlElem  : Vector W64 6
  deriving DecidableEq, Repr

/-- Table 17-8: reset values; INSTANCE is drawn at the reset (log entry 6). -/
def MeterBlock.reset : MeterBlock := ⟨0, 0, 0, [], [], Vector.replicate 6 0⟩

end Sys2Proof.Machine
end

