-- ==== Sys2Proof/Machine/State/Partition.lean ====
section
/-! DEFINITION. Machine/State/Partition.lean: the PRT page, tokens, consent, attach, barriers and epochs of one partition (chapters 1 and 4). -/

namespace Sys2Proof.Machine

/-- A PRT command that is still executing: PRT_STATUS.BUSY reads 1. A RESIZE keeps the values it took when it was
accepted (R15, R448). -/
inductive PrtExec where
  | suspend
  | destroy
  | resize (quads : BitVec 16) (floor board : BitVec 7) (timing : Bool) (fslots : Nat)
  deriving DecidableEq, Repr

/-- The PRT page of a partition and the lifecycle state behind it (Tables 1-2 and 1-3). `drainFrom`, `drainMs`: a
running drain timeout (R24, R17). `wasSuspended`: DETACHED or RETAINED was entered from SUSPENDED (Table 1-5).
`halting`: engines are halting for RETAIN (R24). `lossAfter`: a loss waits for the executing command (R385).
`idleSince`: since when no work is queued or in flight; `pausedAt`: since
when, by the crystal and in device time, the timers of R120 and R161 pause. -/
structure Life where
  st         : PState
  cmdSts     : BitVec 3
  lastCmd    : BitVec 4
  exec       : Option PrtExec
  quads      : BitVec 16
  floor      : BitVec 7
  board      : BitVec 7
  slice      : BitVec 12
  idleUs     : W16
  deepest    : BitVec 2
  retainSram : Bool
  hostloss   : Bool
  timing     : Bool
  drain      : W16
  quadsAct   : BitVec 16
  floorAct   : BitVec 7
  boardAct   : BitVec 7
  timingAct  : Bool
  drainFrom  : Option Nat
  drainMs    : Nat
  wasSuspended : Bool
  halting    : Bool
  lossAfter  : Bool
  idleSince  : Option Nat
  pausedAt   : Option (Nat × Nat)
  keyRetired : Bool
  deriving DecidableEq, Repr

/-- The PRT page at its reset values (Table 1-2). -/
def Life.reset : Life :=
  { st := .empty, cmdSts := 0, lastCmd := 0, exec := none, quads := 0, floor := 0, board := 0, slice := 0,
    idleUs := 0, deepest := 0, retainSram := false, hostloss := false, timing := false, drain := 0x64, quadsAct := 0,
    floorAct := 0, boardAct := 0, timingAct := false, drainFrom := none, drainMs := 0, wasSuspended := false,
    halting := false, lossAfter := false, idleSince := none, pausedAt := none, keyRetired := false }

/-- Consent, attach token and attach registers (R30 to R36, Table 1-8). `prtUnread`, `tntUnread`: the token words
that PRT_TOKEN and TNT_TOKEN have still to reveal. -/
structure Tokens where
  consent   : Bool
  token     : BitVec 128
  valid     : Bool
  prtUnread : BitVec 4
  tntUnread : BitVec 4
  attach    : BitVec 128
  attachSts : BitVec 3
  misses    : Nat
  lockedAt  : Option Nat
  failCnt   : ErrCount
  deriving DecidableEq, Repr

/-- Tokens at their reset values. -/
def Tokens.reset : Tokens := ⟨false, 0, false, 0, 0, 0, 0, 0, none, 0⟩

/-- A barrier ID (Table 4-8, TNT_BAR): its configuration (Table 4-7) and its current generation. `firstAt`: the
time of the generation's first arrival; `reported`: the collective unit has been told that COUNT was reached. -/
structure Barrier where
  cfg     : Bool
  fabric  : Bool
  broken  : Bool
  arrived : Nat
  gen     : W16
  count   : BitVec 12
  group   : W16
  timeout : W32
  firstAt : Option Nat
  deriving DecidableEq, Repr

/-- An unconfigured barrier. -/
def Barrier.reset : Barrier := ⟨false, false, false, 0, 0, 0, 0, 0, none⟩

/-- TNT_EPOCH, the revoked set and TNT_FENCE_TMO (Table 4-8). `byCommit`: C was reached by a commit of C (R245). -/
structure EpochState where
  c        : Epoch
  revoked  : List Epoch
  byCommit : Bool
  fenceTmo : W16
  deriving DecidableEq, Repr

/-- R125, Table 4-8: reset values. -/
def EpochState.reset : EpochState := ⟨0, [], false, 0x000A⟩

end Sys2Proof.Machine
end

