-- ==== Sys2Proof/Machine/State/Platform.lean ====
section
/-! DEFINITION. Machine/State/Platform.lean: resets, boot, watchdogs, flash and the sled's hardware (chapters 19 to 22). -/

namespace Sys2Proof.Machine

/-! ### Reset and boot -/

/-- The forms in which the device runs (R517, R535). -/
inductive Form where
  | normal | limited | recovery | rom
  deriving DecidableEq, Repr

/-- SYS_RST_CAUSE and SYS_BOOT_STS (Table 19-6). `afterCold`: the boot in progress, or the last, followed a sled cold
reset (R543, R585). -/
structure Boot where
  cause     : BitVec 8
  memLost   : Bool
  thermSeen : Bool
  hostReady : Bool
  fault     : BitVec 8
  milestone : BitVec 8
  bootT     : W64
  form      : Form
  afterCold : Bool
  deriving DecidableEq, Repr

/-- Table 19-7: watchdog states. -/
inductive WdState where
  | disabled | running | warning | paused
  deriving DecidableEq, Repr

/-- A watchdog (Table 19-8). `since`: when E was last 0; `held`: E while it does not count; `armedAt`: when the first
key armed it; `lock`, `grace`: of the device watchdog alone; `first`: its first expiry after a warm reset is due at
max(PERIOD, GRACE) (R522). -/
structure Watchdog where
  st      : WdState
  period  : BitVec 20
  warn    : BitVec 20
  armedAt : Option Nat
  since   : Nat
  held    : Nat
  seqErr  : ErrCount
  lock    : Bool
  grace   : BitVec 20
  first   : Bool
  deriving DecidableEq, Repr

/-- Table 19-8: reset values. -/
def Watchdog.reset : Watchdog :=
  { st := .disabled, period := 0x02710, warn := 0, armedAt := none, since := 0, held := 0, seqErr := 0, lock := false,
    grace := 0x0EA60, first := false }

/-! ### Flash -/

/-- The state a journal gives a slot (Table 20-5). -/
inductive SlotState where
  | empty | valid | failed
  deriving DecidableEq, Repr

/-- A slot of the journal state. -/
structure Slot where
  st    : SlotState
  epoch : BitVec 6
  ver   : W32
  deriving DecidableEq, Repr

/-- The journal state (R532): active slot, pending slot, ATTEMPTS, slots A, B and recovery, T and the TRIAL word. -/
structure JState where
  active   : Fin 2
  pending  : Option (Fin 2)
  attempts : Nat
  slots    : Vector Slot 3
  t        : Nat
  trial    : W32
  deriving DecidableEq, Repr

/-- A journal record's type and content (Table 20-6). -/
inductive JKind where
  | slotEmpty (slot : Fin 3)
  | activate (slot : Fin 3) (epoch : BitVec 6) (ver : W32) (trial : W32) (t : Nat) (digest : Bytes)
  | bootAttempt (slot : Fin 2) (n : Nat)
  | confirm (slot : Fin 2) (t : Nat)
  | rollback (slot : Fin 2) (cause : Nat)
  | checkpoint (st : JState)
  deriving DecidableEq, Repr

/-- A committed journal record. -/
structure JRec where
  seq  : W32
  kind : JKind
  deriving DecidableEq, Repr

/-- One journal copy (R531): its valid records, oldest first, and the number of slots programmed. -/
structure JCopy where
  recs : List JRec
  used : Nat
  deriving DecidableEq, Repr

/-- A download in progress (R536): its region, the fill, whether it has been verified, and whether PLDM drives it. -/
structure Download where
  target   : Fin 3
  fill     : Nat
  verified : Bool
  pldm     : Bool
  deriving DecidableEq, Repr

/-- One configuration record (R542). -/
structure CfgRec where
  typ : W16
  val : Bytes
  deriving DecidableEq, Repr

/-- A store copy (R541): whether it is valid, its generation and its records. -/
structure CfgCopy where
  valid : Bool
  gen   : W32
  recs  : List CfgRec
  deriving DecidableEq, Repr

/-- The progress of a PLDM update (R540). -/
inductive Pldm where
  | idle | requested | table | component
  deriving DecidableEq, Repr

/-- The flash, its registers (Table 20-14) and the fuses. `images`: the bytes of the three regions; `booted`:
BOOTED_FROM; `runSlot`: the region of the running image; `trialAt`: when the trial timer started; `sealAt`: the time of
a first seal write; `owed`: events that wait for the operator event ring (R547). -/
structure Flash where
  hdrBad   : Bool
  hdrBuild : Byte
  sfdp     : Bool
  images   : Vector Bytes 3
  j0       : JCopy
  j1       : JCopy
  js       : JState
  seq      : W32
  fuses    : Nat
  dl       : Option Download
  pldm     : Pldm
  res      : BitVec 8
  lastCmd  : BitVec 4
  dlIova   : W64
  dlLen    : BitVec 21
  fillReg  : BitVec 26
  trialCtl : W32
  detail   : BitVec 8
  sealAt   : Option Nat
  errCnt   : ErrCount
  booted   : Nat
  runSlot  : Option (Fin 3)
  runEpoch : BitVec 6
  trialAt  : Option Nat
  cfg      : Vector CfgCopy 2
  cfgSel   : Fin 2
  cfgDefault : Bool
  cfgLen   : W16
  cfgKey   : BitVec 8
  cfgRes   : BitVec 4
  cfgBuf   : Vector Byte 1024
  owed     : List Event
  deriving DecidableEq, Repr

/-- The journal state of a flash whose slot A is active and whose other regions are empty (log entry 4). -/
def JState.factory : JState :=
  { active := 0, pending := none, attempts := 0,
    slots := #v[⟨.valid, 0, 0⟩, ⟨.empty, 0, 0⟩, ⟨.empty, 0, 0⟩], t := 0, trial := 0 }

/-- The flash at reset (log entry 4). -/
def Flash.reset : Flash :=
  { hdrBad := false, hdrBuild := 4, sfdp := false, images := Vector.replicate 3 [],
    j0 := ⟨[⟨1, .checkpoint JState.factory⟩], 1⟩, j1 := ⟨[⟨1, .checkpoint JState.factory⟩], 1⟩, js := JState.factory,
    seq := 1, fuses := 0, dl := none, pldm := .idle, res := 0, lastCmd := 0, dlIova := 0, dlLen := 0, fillReg := 0,
    trialCtl := 0, detail := 0, sealAt := none, errCnt := 0, booted := 0, runSlot := none, runEpoch := 0,
    trialAt := none, cfg := Vector.replicate 2 ⟨false, 0, []⟩, cfgSel := 0, cfgDefault := false, cfgLen := 0,
    cfgKey := 0, cfgRes := 0, cfgBuf := Vector.replicate 1024 0, owed := [] }

/-! ### The sled -/

/-- A cage (R569 to R571): module present, ready, passive, refused or switched off; granted high power; its class in
0.25 W units and its temperature. `off`: switched off until removal (R571). -/
structure Cage where
  present : Bool
  passive : Bool
  ready   : Bool
  denied  : Bool
  granted : Bool
  off     : Bool
  cls     : Nat
  temp    : BitVec 8
  deriving DecidableEq, Repr

/-- An empty cage. -/
def Cage.reset : Cage := ⟨false, false, false, false, false, false, 0, 0⟩

/-- The sled's hardware (Table 21-13, Tables 21-3 to 21-8). `railsUp`: rails 0 to `railsUp` − 1 are in window;
`alert`: ALERT_N is asserted; `faultN`, `faultBoot`: FAULT_N is asserted, and only a sled cold reset releases it (R558); `therm`:
THERMTRIP_N is latched. -/
structure Sled where
  slew      : BitVec 6
  press     : Bool
  ident     : BitVec 2
  wakeEn    : Bool
  inletT    : BitVec 8
  cages     : Vector Cage 8
  straps    : BitVec 2
  smbAddr   : BitVec 7
  sris      : Bool
  refclkA   : Bool
  perstA    : Bool
  perstB    : Bool
  prsnt     : Bool
  stby      : Bool
  inputGood : Bool
  railsUp   : Nat
  alert     : Bool
  faultN    : Bool
  faultBoot : Bool
  therm     : Bool
  deriving DecidableEq, Repr

/-- The sled with its standby rail applied and its main input absent (Table 21-13; log entry 5). -/
def Sled.reset : Sled :=
  { slew := 0x15, press := false, ident := 0, wakeEn := false, inletT := 0, cages := Vector.replicate 8 Cage.reset,
    straps := 0x3, smbAddr := 0x63, sris := false, refclkA := false, perstA := true, perstB := true,
    prsnt := false, stby := true, inputGood := false, railsUp := 3, alert := false,
    faultN := false, faultBoot := false, therm := false }

/-- Boot state right after a sled cold reset by application of the standby rail (R516, Table 19-6). -/
def Boot.reset : Boot :=
  { cause := 0x01, memLost := false, thermSeen := false, hostReady := false, fault := 0, milestone := 0, bootT := 0,
    form := .normal, afterCold := true }

end Sys2Proof.Machine
end

