-- ==== Sys2Proof/Machine/State/Power.lean ====
section
/-! DEFINITION. Machine/State/Power.lean: clocks, quads, the power loop and the host link (chapters 13 and 18). -/

namespace Sys2Proof.Machine

/-- Table 18-2: quad power states. -/
inductive QState where
  | run | nap | doze | off | offr
  deriving DecidableEq, Repr

/-- QPWR_STS state codes. -/
def QState.code : QState → Nat
  | .run => 0 | .nap => 1 | .doze => 2 | .off => 3 | .offr => 4

/-- The quad sleeps: NAP, DOZE, OFF or OFFR. -/
def QState.asleep : QState → Bool
  | .run => false
  | _ => true

/-- A quad: the partition that holds it, its state, the state it is moving to (R494), whether RUN is an access wake
and the time of its last access (R493), and its clock in MHz (R488). -/
structure QuadState where
  owner  : Option Pid
  st     : QState
  toward : Option QState
  access : Option Nat
  mhz    : Nat
  deriving DecidableEq, Repr

/-- A quad that no partition holds. -/
def QuadState.reset : QuadState := ⟨none, .off, none, none, 0⟩

/-- The clock and power registers (Table 18-6) and what stands behind them. `clk`: the nanoseconds of the Cicada's crystal since standby,
640 a cycle, by which timers are judged; `time`, `frac`: device time and its fraction in 10^-8 ns (R484); `lastStamp`: the latest refined time
that any unit has stamped; `lastMs`: the last millisecond boundary taken (R486);
`pllLo`: the lock bits of the SYSPLL, NOCPLLs, HBMPLLs and DDRPLLs; the others follow the quads, the link and the ports; `pkgUp`: the
package has power; `lowered`, `loweredP`: the time of the last lowering at sled and at partition level (R501). -/
structure Power where
  clk      : Nat
  time     : W64
  frac     : Nat
  lastStamp : Nat
  lastMs   : Nat
  slew     : BitVec 16
  timeSet  : W64
  setRefused : Bool
  ssc      : BitVec 4
  pllLo    : BitVec 29
  cap      : BitVec 9
  hyst     : BitVec 5
  pkg      : BitVec 20
  ceilSled : Nat
  tj       : Vector (BitVec 8) 3
  crit     : Bool
  ftherm   : Vector Nat 2
  pfail    : Bool
  pfailAt  : Nat
  stbyOk   : Bool
  volts    : BitVec 16
  retEn    : Bool
  retained : Bool
  retSince : Option Nat
  retExit  : Option Nat
  share    : Vector (BitVec 9) 16
  ceil     : Vector Nat 16
  part     : Vector (BitVec 20) 16
  lowered  : Option Nat
  loweredP : Option Nat
  pkgUp    : Bool
  deriving DecidableEq, Repr

/-- Table 18-6: reset values. PWR_IN_STS has none of its own (log entry 5). -/
def Power.reset : Power :=
  { clk := 0, time := 0, frac := 0, lastStamp := 0, lastMs := 0, slew := 0, timeSet := 0, setRefused := false, ssc := 0x6, pllLo := 0,
    cap := 0x17C, hyst := 0x05, pkg := 0, ceilSled := 2000, tj := Vector.replicate 3 0, crit := false,
    ftherm := Vector.replicate 2 2000, pfail := false, pfailAt := 0, stbyOk := true, volts := 0, retEn := true,
    retained := false, retSince := none, retExit := none, share := Vector.replicate 16 0,
    ceil := Vector.replicate 16 2000, part := Vector.replicate 16 0, lowered := none,
    loweredP := none, pkgUp := false }

/-- The host link (Table 13-6) and the operator context's loss. `cache`: the host lines held in the host-line cache
(R364), each with its function; `ideShut`: no memory request is accepted until both streams are secure (R367); `hdm`: the committed HDM decoder base and size (R366). -/
structure Link where
  up       : Bool
  cxl      : Bool
  width    : Nat
  rate     : Nat
  training : Bool
  perst    : Bool
  ideReq   : Bool
  lossCnt  : PerfCount
  ideShut  : Bool
  mtrLost  : ErrCount
  mtrLostArmed : Bool
  attachSts : BitVec 3
  opStopAt : Option Nat
  hdm      : Option (W64 × Nat)
  cache    : List (Fn × W64)
  numVfs   : Nat
  vfEnable : Bool
  deriving DecidableEq, Repr

/-- Table 13-6: reset values. -/
def Link.reset : Link :=
  { up := false, cxl := false, width := 0, rate := 0, training := false, perst := true, ideReq := false, lossCnt := 0,
    ideShut := false, mtrLost := 0, mtrLostArmed := true, attachSts := 0, opStopAt := none, hdm := none, cache := [],
    numVfs := 0, vfEnable := false }

/-- The error counters of a physical core (Table 22-4, R583). -/
structure CoreErr where
  ce  : ErrCount
  ue  : ErrCount
  rst : ErrCount
  deriving DecidableEq, Repr

end Sys2Proof.Machine
end

