-- ==== Sys2Proof/Machine/State/Rings.lean ====
section
/-! DEFINITION. Machine/State/Rings.lean: rings, consumed commands, completions, mailboxes and MSI-X (chapter 3, chapter 4). -/

namespace Sys2Proof.Machine

/-- A ring index: slot and wrap bit (R78). -/
structure Idx where
  wrap : Bool
  idx  : Nat
  deriving DecidableEq, Repr

/-- RING_STS.STATE (Table 3-3). -/
inductive RingState where
  | disabled | active | stopping | error
  deriving DecidableEq, Repr

/-- Table 3-1: the kinds a valid ring may have. -/
inductive RingKind where
  | submission | completion | mover | overflow | meter | event
  deriving DecidableEq, Repr

/-- The fields of a command header the device keeps (Table 3-6). -/
structure Header where
  opc    : BitVec 8
  flags  : BitVec 8
  engine : BitVec 4
  qos    : BitVec 4
  barId  : BarNo
  tag    : W16
  epoch  : Epoch
  deriving DecidableEq, Repr

/-- One operation of a command list (Table 4-3); `body` holds the operation's bytes from byte 8 on. -/
structure ListOp where
  lop      : BitVec 8
  waitPrev : Bool
  badBits  : Bool
  arg      : W32
  size     : Nat
  body     : Bytes
  deriving DecidableEq, Repr

/-- What a host access of a lost function waits for (R374, R382). -/
inductive HostWait where
  | read | write | flush
  deriving DecidableEq, Repr

/-- An operation of a list that has started and not ended. `clock` is the time it started, `spans` the tile
ranges of the accesses it made when it was accepted (R55), `gen` the barrier generation a BAR_ARRIVE waits for,
`desc` the transfer of an XFER (R351), `bad` the tiles whose accesses failed, where that ends a part of it alone (R305), `lostCores` the
relative cores whose shares a core reset took (R512). -/
structure ActiveOp where
  idx   : Nat
  op    : ListOp
  since : Nat
  spans : List (TileNo × Nat)
  wait  : Option HostWait
  gen   : Option Nat
  desc  : Option DescRun
  bad   : List TileNo
  lostCores : List Nat
  deriving DecidableEq, Repr

/-- The run of a command list (R105, R107). -/
structure ListRun where
  ops     : List ListOp
  next    : Nat
  active  : List ActiveOp
  error   : Option (Nat × Status × W32)
  warning : Option (Nat × Status × W32)
  chain   : Option Chain
  deriving DecidableEq, Repr

/-- Where a consumed command stands (R80, R108, R113, R118). -/
inductive CmdStage where
  /-- Consumed, not started. -/
  | waiting
  /-- Not started; the flushing read of FLAGS.FENCE was issued at `since`. -/
  | preFlush (since : Nat)
  /-- Started; its own row has not acted yet. -/
  | started
  /-- Started and in execution. -/
  | running
  /-- Its work has ended; FLAGS.BARRIER has still to arrive. -/
  | worked (st : Status) (detail : W32)
  /-- Arrived, and waiting for the release of its barrier. -/
  | atBarrier (gen : Nat) (st : Status) (detail : W32)
  /-- Its work has ended; its own flushing read was issued at `since`. -/
  | postFlush (since : Nat) (st : Status) (detail : W32)
  deriving DecidableEq, Repr

/-- A consumed command, held inside the device (R80). `readyAt`: when it became ready (R110); `deadline`: of an RT
command (R176); `missed`: its miss has been counted (R178); `lateFetch`: an access of it waited under R234; `waited`: the wait of its next
access has been counted (TNT_MOVE_WAIT_CNT); `quarAt`: since when that access waits for a run-ahead tag (R242);
`pairAt`: since when it waits for a buffer pair (R168);
`wait`: its host access waits for the attach (R374); `mute`: its ring left ERROR, so its completion is discarded (R76); `spans`: the tiles it has access to in flight (R55). -/
structure Cmd where
  seq       : Nat
  hdr       : Header
  operands  : Bytes
  stage     : CmdStage
  fenceMet  : Bool
  readyAt   : Option Nat
  promoted  : Bool
  cancelled : Bool
  revoked   : Bool
  deadline  : Option Nat
  missed    : Bool
  lateFetch : Bool
  waited    : Bool
  quarAt    : Option Nat
  pairAt    : Option Nat
  wait      : Option HostWait
  mute      : Bool
  spans     : List (TileNo × Nat)
  run       : Option ListRun
  deriving DecidableEq, Repr

/-- A completion before it is placed in a slot (Table 3-9 without PHASE and TIME). -/
structure Completion where
  tag     : W16
  status  : Status
  engine  : BitVec 4
  started : Bool
  detail  : W32
  irq     : Bool
  deriving DecidableEq, Repr

/-- A DB_CANCEL in progress: its selection, and the number of entries that had been handed over before it. -/
structure CancelReq where
  tag   : Option W16
  bound : Nat
  deriving DecidableEq, Repr

/-- The Mover registers and fields of a ring (Table 12-9). -/
structure MoverRing where
  paceEn     : Bool
  paceInvert : Bool
  paceSrc    : BitVec 2
  paceRing   : BitVec 6
  low        : W32
  high       : W32
  lvl        : BitVec 48
  bytes      : PerfCount
  deriving DecidableEq, Repr

/-- The reset values of the Mover registers of a ring. -/
def MoverRing.reset : MoverRing := ⟨false, false, 0, 0, 0, 0, 0, 0⟩

/-- A ring: its registers (Tables 3-3, 3-10, 4-8) and what the device holds for it. `dirty`: a command of the ring has written
host data that no flushing read has confirmed (R113). -/
structure Ring where
  state     : RingState
  cfgVec    : BitVec 6
  cfgCq     : BitVec 6
  cfgEngine : BitVec 4
  cfgLog    : BitVec 5
  cfgKind   : BitVec 3
  base      : W64
  iwbAddr   : W64
  iwbEn     : Bool
  irqEach   : Bool
  irqTime   : BitVec 15
  irqCount  : W16
  errCode   : BitVec 4
  dev       : Idx
  sw        : Idx
  errFlags  : BitVec 6
  faultTag  : W16
  faultOp   : BitVec 12
  cxlSome   : Bool
  cxlDone   : Bool
  cxlCount  : W16
  cancels   : List CancelReq
  consumed  : Nat
  cmds      : List Cmd
  sinceIrq  : Nat
  firstAt   : Option Nat
  evtSeq    : W32
  iwbDue    : Bool
  iwbLast   : Option Nat
  rebased   : Bool
  dirty     : Bool
  mv        : MoverRing
  deriving DecidableEq, Repr

/-- A ring with every register at its reset value (Tables 3-3 and 3-10). -/
def Ring.reset : Ring :=
  { state := .disabled, cfgVec := 0, cfgCq := 0, cfgEngine := 0, cfgLog := 0, cfgKind := 0, base := 0,
    iwbAddr := 0, iwbEn := false, irqEach := false, irqTime := 0, irqCount := 0, errCode := 0,
    dev := ⟨false, 0⟩, sw := ⟨false, 0⟩, errFlags := 0, faultTag := 0, faultOp := 0, cxlSome := false,
    cxlDone := false, cxlCount := 0, cancels := [], consumed := 0, cmds := [], sinceIrq := 0,
    firstAt := none, evtSeq := 0, iwbDue := false, iwbLast := none, rebased := false, dirty := false, mv := MoverRing.reset }

/-- One MSI-X vector of a function (R91). -/
structure MsixVec where
  addr    : W64
  data    : W32
  masked  : Bool
  pending : Bool
  deriving DecidableEq, Repr

/-- An entry that waits inside the device: a completion held for a full ring (R86) or for a lost function
(R373), or a Mover writeback of a lost function. -/
inductive HeldEntry where
  | completion (ring : Nat) (c : Completion)
  | moverWb (ring : Nat) (iova : W64) (bytes : Bytes) (irq : Bool)
  deriving DecidableEq, Repr

/-- An outbound mailbox message that has not been placed (R100): its queue, type and payload, the service slot
it answers or the list operation that sends it. -/
structure OutMsg where
  queue   : Nat
  typ     : W16
  payload : Bytes
  slot    : Option SlotNo
  sender  : Option OpRef
  deriving DecidableEq, Repr

/-- The mailbox of one function (Tables 3-14 and 3-15). `posted` holds the inbound slots the device owns, in
POST order. -/
structure Mailbox where
  inSlots  : Vector Bytes 16
  outSlots : Vector Bytes 16
  inOwn    : BitVec 16
  outValid : BitVec 16
  outIrq   : Bool
  inIrq    : Bool
  outVec   : BitVec 6
  inVec    : BitVec 6
  err      : BitVec 3
  outSeq   : W16
  posted   : List SlotNo
  waiting  : List OutMsg
  deriving DecidableEq, Repr

/-- An empty slot. -/
def emptySlot : Bytes := List.replicate 256 0

/-- A mailbox at its reset values. -/
def Mailbox.reset : Mailbox :=
  { inSlots := Vector.replicate 16 emptySlot, outSlots := Vector.replicate 16 emptySlot, inOwn := 0, outValid := 0,
    outIrq := false, inIrq := false, outVec := 0, inVec := 0, err := 0, outSeq := 0, posted := [], waiting := [] }

/-- What Tables 13-6 and 13-7 keep of one function's loss and of its last attach; `since`: when the loss took effect; `hbLast`: the last
heartbeat; `hbFrom`: when its timer last restarted (R370). -/
structure LossState where
  lost      : Bool
  keepOk    : Bool
  cause     : BitVec 4
  time      : W64
  since     : Nat
  mode      : Bool
  rebased   : Bool
  mvDropped : BitVec 15
  cmdDropped : BitVec 16
  hbTmo     : W16
  hbLast    : Option Nat
  hbFrom    : Nat
  deriving DecidableEq, Repr

/-- The loss registers at their reset values. -/
def LossState.reset : LossState := ⟨false, false, 0, 0, 0, false, false, 0, 0, 0, none, 0⟩

/-- What belongs to one PCIe function: MSI-X, mailbox, event loss, loss and hold, counters and latches. -/
structure FnState where
  msixEn    : Bool
  msixMask  : Bool
  msix      : Vector MsixVec 64
  mail      : Mailbox
  evtLost   : ErrCount
  evtOwed   : Nat
  loss      : LossState
  held      : List HeldEntry
  wrr       : List (Nat × Nat × Nat)
  perfWrap  : BitVec 18
  perfIrqEn : Bool
  perfVec   : BitVec 6
  barWidth  : Bool
  errValid  : Bool
  errAddr   : BitVec 26
  latches   : List (Nat × W32)
  deriving DecidableEq, Repr

/-- A function at its reset values: MSI-X disabled and every vector masked, as PCI Express resets them. -/
def FnState.reset : FnState :=
  { msixEn := false, msixMask := false,
    msix := Vector.replicate 64 ⟨0, 0, true, false⟩, mail := Mailbox.reset, evtLost := 0, evtOwed := 0,
    loss := LossState.reset, held := [], wrr := [], perfWrap := 0, perfIrqEn := false, perfVec := 0,
    barWidth := false, errValid := false, errAddr := 0, latches := [] }

end Sys2Proof.Machine
end

