-- ==== Sys2Proof/Machine/State/Scarab.lean ====
section
/-! DEFINITION. Machine/State/Scarab.lean: the activation steward of one partition (chapter 8). -/

namespace Sys2Proof.Machine

/-- Table 8-3: dispositions. -/
inductive Disp where
  | keep | stack | squeeze | spill | recompute
  deriving DecidableEq, Repr

/-- An activation record (Table 8-3). -/
structure PlanRec where
  tileOff : Nat
  tiles   : Nat
  fmt     : BitVec 4
  disp    : Disp
  sqLossy : Bool
  rcOk    : Bool
  khome   : Bool
  prod    : Nat
  lastFwd : Nat
  need    : Nat
  leadUs  : Nat
  pcore   : BitVec 8
  fcore   : BitVec 8
  fdest   : BitVec 2
  seg     : W16
  deriving DecidableEq, Repr

/-- A marker entry (Table 8-4). -/
structure Marker where
  back : Bool
  mb   : Nat
  step : Nat
  deriving DecidableEq, Repr

/-- A recompute segment: its command list and the byte offsets that relocation names (Table 8-5). -/
structure Segment where
  list : Bytes
  rels : List Nat
  deriving DecidableEq, Repr

/-- A loaded plan (Table 8-2). -/
structure Plan where
  nmb      : Nat
  mbStride : Nat
  base     : TileNo
  peak     : Nat
  est      : Nat
  recs     : List PlanRec
  marks    : List Marker
  segs     : List Segment
  deriving DecidableEq, Repr

/-- Table 8-7: the states of a ledger entry. -/
inductive InstState where
  | closed | open_ | placed | fetching | ready | failed
  deriving DecidableEq, Repr

/-- A ledger entry that is not CLOSED: record, micro-batch, state, its present disposition (R226), whether a squeeze of it is lossless whatever SQ_LOSSY says (R228), and whether it has been counted late.
`due`: when its fetch-back fell
due (R232, R234); `closing`: its close waits for earlier accesses (R221). -/
structure Inst where
  rec_    : Nat
  mb      : Nat
  st      : InstState
  disp    : Disp
  lossless : Bool
  late    : Bool
  due     : Option Nat
  closing : Bool
  deriving DecidableEq, Repr

/-- What a Scarab task does: fetch a tile back, inject an instance's segment, move a tile to the home of its instance's
disposition, or move a tile of an OPEN instance to its production home once that has room (R223, R239). -/
inductive TaskKind where
  | fetch | inject | dispose | toProduce
  deriving DecidableEq, Repr

/-- A Scarab task that has not been issued. `due`: when its fetch-back fell due, or when its MARK took effect. -/
structure Task where
  kind : TaskKind
  rec_ : Nat
  mb   : Nat
  tile : TileNo
  due  : Nat
  deriving DecidableEq, Repr

/-- A lossy tile: its scale byte (R229). -/
structure Lossy where
  tile  : TileNo
  scale : BitVec 8
  deriving DecidableEq, Repr

/-- An injected segment in execution (R238): its instance. -/
structure Injected where
  rec_    : Nat
  mb      : Nat
  deriving DecidableEq, Repr

/-- The Scarab state and registers of one partition (Table 8-10). `pos`: POS of the last MARK; `marked`: the open run has had one. -/
structure Scarab where
  plan     : Option Plan
  runOpen  : Bool
  runEpoch : Epoch
  pos      : Nat
  marked   : Bool
  interval : Nat
  tLast    : Nat
  pLast    : Nat
  insts    : List Inst
  tasks    : List Task
  lossy    : List Lossy
  injected : List Injected
  lateFirst : Bool
  lateCnt  : PerfCount
  demoteCnt : PerfCount
  recompCnt : PerfCount
  staleCnt : ErrCount
  sqfbCnt  : PerfCount
  qwaitTmo : W16
  fbMax    : BitVec 5
  deriving DecidableEq, Repr

/-- Table 8-10: reset values. -/
def Scarab.reset : Scarab :=
  { plan := none, runOpen := false, runEpoch := 0, pos := 0, marked := false, interval := 0, tLast := 0, pLast := 0, insts := [],
    tasks := [], lossy := [], injected := [], lateFirst := false, lateCnt := 0, demoteCnt := 0,
    recompCnt := 0, staleCnt := 0, sqfbCnt := 0, qwaitTmo := 0, fbMax := 0x10 }

end Sys2Proof.Machine
end

