-- ==== Sys2Proof/Machine/State/Security.lean ====
section
/-! DEFINITION. Machine/State/Security.lean: keys, slot wheel, identity, attestation and JTAG (chapter 16). -/

namespace Sys2Proof.Machine

/-- How far an SPDM requester has brought the connection of one responder (R457, R3). -/
inductive SpdmConn where
  | start | version | capabilities | negotiated
  deriving DecidableEq, Repr

/-- The one SPDM session (R458): its ID, whether FINISH has established it, the count of key updates. -/
structure SpdmSession where
  id          : W32
  established : Bool
  keyUpdates  : Nat
  deriving DecidableEq, Repr

/-- JTAG instructions (R446). -/
inductive Jtag where
  | bypass | idcode | sample | extest | clamp | highz
  deriving DecidableEq, Repr

/-- A partition's tenant measurement (R460, Tables 16-8 and 16-11): the D words, M, TNT_MEAS_CNT, and the KEYGEN and
device time of its COMMIT. -/
structure Measure where
  d       : Vector W32 12
  m       : BitVec 384
  cnt     : W32
  committedAt : W64
  deriving DecidableEq, Repr

/-- Table 16-11: reset values. -/
def Measure.reset : Measure := ⟨Vector.replicate 12 0, 0, 0, 0⟩

/-- The SEC block (Table 16-10) and what lies behind it. `keys`: the 17 key slots, K1 in the high and K2 in the low 256
bits. `wheel`: the owner of each of the 64 wheel positions (R447). `conns`: the responders, 0 the PF DOE, 1 + p the DOE
of VF p + 1, 17 MCTP over SMBus, 18 MCTP over PCIe VDM. `jtag`: the JTAG instruction in effect. -/
structure Security where
  keyValid : BitVec 17
  keys     : Vector (BitVec 512) 17
  keygen   : Vector W32 17
  rngFail  : Bool
  session  : Option SpdmSession
  conns    : Vector SpdmConn 19
  fslots   : Vector (BitVec 6) 16
  wheel    : Vector (Option Pid) 64
  jtag     : Jtag
  ide      : Bool
  deriving DecidableEq, Repr

/-- Table 16-10: reset values. -/
def Security.reset : Security :=
  { keyValid := 0, keys := Vector.replicate 17 0, keygen := Vector.replicate 17 0, rngFail := false, session := none,
    conns := Vector.replicate 19 .start, fslots := Vector.replicate 16 0x08, wheel := Vector.replicate 64 none,
    jtag := .bypass, ide := false }

end Sys2Proof.Machine
end

