-- ==== Sys2Proof/Machine/State/Streams.lean ====
section
/-! DEFINITION. Machine/State/Streams.lean: stream units, buffer pairs, signals and the frame clock (chapter 6). -/

namespace Sys2Proof.Machine

/-- A stream image in the unit (Table 6-2). -/
structure StreamImage where
  a      : Vector W64 8
  l      : Vector W16 4
  s      : Vector W32 4
  instrs : List W32
  deriving DecidableEq, Repr

/-- SU_STS.STATE (Table 6-4). -/
inductive SuState where
  | empty | loading | loaded | running | frameWait | done | fault
  deriving DecidableEq, Repr

/-- The fault codes of R159. -/
inductive SuFault where
  | none | badImage | badInstr | access | badAddress | wrongProducer | loopZero | pcRange | poisoned
  | tierError | barUncfg | barBroken | notRt | pairBroken | waitTimeout
  deriving DecidableEq, Repr

/-- R159: the code of a fault. -/
def SuFault.code : SuFault → Nat
  | .none => 0x00 | .badImage => 0x01 | .badInstr => 0x02 | .access => 0x03 | .badAddress => 0x04
  | .wrongProducer => 0x05 | .loopZero => 0x06 | .pcRange => 0x07 | .poisoned => 0x08 | .tierError => 0x09
  | .barUncfg => 0x0A | .barBroken => 0x0B | .notRt => 0x0C | .pairBroken => 0x0D | .waitTimeout => 0x0E

/-- A MOV that has issued and not ended: the TAs it reads and writes, its length in 64-byte lines, the local pair whose
consumer half it holds (R156), and whether the unit still executes it (not after STOP, a fault or a skipped frame). -/
structure MovRun where
  src   : W64
  dst   : W64
  lines : Nat
  holds : Option PairNo
  live  : Bool
  deriving DecidableEq, Repr

/-- What a RUNNING unit waits in, when it waits. -/
inductive SuWait where
  | none
  | pair (since : Nat)
  | signal
  | barrier (b : BarNo) (gen : Nat) (ending : Bool)
  | quarantine (since : Nat)
  | tiles
  deriving DecidableEq, Repr

/-- A stream unit: Table 6-4 and the registers of "Stream units and their images". `rt`: it was started in
real-time mode; `frame`: F; `deadline`: of its current frame, in device time; `missedTo`: the number of frames
whose miss has been counted for it (R589). -/
structure StreamUnit where
  st       : SuState
  fault    : SuFault
  cmdRej   : Bool
  pc       : Nat
  progTa   : BitVec 48
  epochReg : Epoch
  image    : Option StreamImage
  a        : Vector W64 8
  l        : Vector W16 4
  s        : Vector W32 4
  tag      : Epoch
  rt       : Bool
  frame    : W32
  frameAt  : Nat
  deadline : Nat
  missedTo : Nat
  movs     : List MovRun
  wait     : SuWait
  deriving DecidableEq, Repr

/-- A unit at its reset values. -/
def StreamUnit.reset : StreamUnit :=
  { st := .empty, fault := .none, cmdRej := false, pc := 0, progTa := 0, epochReg := 0, image := none,
    a := Vector.replicate 8 0, l := Vector.replicate 4 0, s := Vector.replicate 4 0, tag := 0, rt := false,
    frame := 0, frameAt := 0, deadline := 0, missedTo := 0, movs := [], wait := .none }

/-- What holds a consumer half (chapter 6, "Roles and the swap protocol"). -/
inductive Holder where
  | op (o : OpRef)
  | mov (u : UnitNo)
  deriving DecidableEq, Repr

/-- A buffer pair (Table 6-6, PAIR_STS, and what BIND took; R164). `binding`: the BIND moves are under way;
`writes`: producing compute operations ended since the last swap (R166). -/
structure Pair where
  bound    : Bool
  binding  : Bool
  broken   : Bool
  stale    : Bool
  quar     : Option Epoch
  overrel  : Bool
  valid    : Bool
  remain   : Nat
  swaps    : W16
  obj      : W32
  half     : Nat
  base     : TileNo
  timeout  : W16
  uses     : Nat
  ccons    : Bool
  cprod    : Bool
  prodCore : BitVec 6
  prodUnit : BitVec 2
  holders  : List Holder
  writes   : Nat
  deriving DecidableEq, Repr

/-- An unbound pair. -/
def Pair.reset : Pair :=
  { bound := false, binding := false, broken := false, stale := false, quar := none, overrel := false, valid := false,
    remain := 0, swaps := 0, obj := 0, half := 0, base := 0, timeout := 0, uses := 0, ccons := false, cprod := false,
    prodCore := 0, prodUnit := 0, holders := [], writes := 0 }

/-- The stream part of one core: its page's pair registers, signals, units and pairs. -/
structure CoreStreams where
  signals  : BitVec 16
  units    : Vector StreamUnit 4
  pairs    : Vector Pair 16
  pairObj  : W32
  pairTimeout : W16
  pairUses : BitVec 8
  pairCcons : Bool
  pairCprod : Bool
  pairProdCore : BitVec 6
  pairProdUnit : BitVec 2
  busy     : Bool
  result   : BitVec 3
  bindOn   : Option PairNo
  deriving DecidableEq, Repr

/-- A core's stream part at its reset values. -/
def CoreStreams.reset : CoreStreams :=
  { signals := 0, units := Vector.replicate 4 StreamUnit.reset, pairs := Vector.replicate 16 Pair.reset, pairObj := 0,
    pairTimeout := 0, pairUses := 0, pairCcons := false, pairCprod := false, pairProdCore := 0, pairProdUnit := 0,
    busy := false, result := 0, bindOn := none }

/-- The real-time registers and the frame clock of a partition (Table 6-8). `next`: the number of the next frame to
start; `shift`: the ns by which pauses have moved the frame clock (R161). -/
structure RtState where
  en        : Bool
  policy    : BitVec 2
  nextPolicy : BitVec 2
  period    : BitVec 20
  deadline  : BitVec 20
  start     : W64
  frame     : W32
  curStart  : Nat
  next      : Nat
  shift     : Nat
  begun     : Bool
  strIrqEn  : Bool
  strVec    : BitVec 6
  faultCore : W64
  deriving DecidableEq, Repr

/-- Table 6-8: reset values. -/
def RtState.reset : RtState :=
  { en := false, policy := 0, nextPolicy := 0, period := 0, deadline := 0, start := 0, frame := 0, curStart := 0, next := 0,
    shift := 0, begun := false, strIrqEn := false, strVec := 0, faultCore := 0 }

end Sys2Proof.Machine
end

