-- ==== Sys2Proof/Machine/State.lean ====
section
/-! DEFINITION. Machine/State.lean: the whole state of the sled, its value right after reset, and the reasons a step can stop. -/

namespace Sys2Proof.Machine

/-- Everything that belongs to one partition. `bells`: the rings whose doorbell woke or waits for the partition
(R89); `mvBad`: TNT_MV_BAD_CNT. -/
structure Prt where
  life  : Life
  tok   : Tokens
  mem   : Memory
  win   : Window
  rings : Vector Ring 64
  fn    : FnState
  bells : W64
  bars  : Vector Barrier 32
  ep    : EpochState
  cores : Vector CoreStreams 64
  rt    : RtState
  scb   : Scarab
  wvl   : Weevil
  gx    : Exchange
  sol   : Solver
  mvBad : ErrCount
  meas  : Measure
  mtr   : Meters
  pwd   : Watchdog
  deriving DecidableEq, Repr

/-- A partition right after reset: EMPTY, with every register at its reset value. -/
def Prt.reset : Prt :=
  { life := Life.reset, tok := Tokens.reset, mem := Memory.reset, win := Window.reset,
    rings := Vector.replicate 64 Ring.reset, fn := FnState.reset, bells := 0, bars := Vector.replicate 32 Barrier.reset,
    ep := EpochState.reset, cores := Vector.replicate 64 CoreStreams.reset, rt := RtState.reset, scb := Scarab.reset,
    wvl := Weevil.reset, gx := Exchange.reset, sol := Solver.reset, mvBad := 0, meas := Measure.reset,
    mtr := Meters.reset, pwd := Watchdog.reset }

/-- The operator context: its rings, its function and its window. -/
structure OpCtx where
  rings : Vector Ring 32
  fn    : FnState
  win   : OpWindow
  deriving DecidableEq, Repr

/-- The operator context right after reset. -/
def OpCtx.reset : OpCtx := ⟨Vector.replicate 32 Ring.reset, FnState.reset, OpWindow.reset⟩

/-- A decision this sled has taken as the decision point of a slice (R123): the first commit or revoke of an epoch
governs. -/
structure JobDecision where
  slice  : BitVec 12
  epoch  : Epoch
  commit : Bool
  deriving DecidableEq, Repr

/-- The state of the sled. `tigers`: the command each Tiger runs (R303); `reds`: the norm-and-finite reductions
this sled holds as decision point; `nfree`: how many free values have been taken (log entry 2); `out`: what the sled has
put out, oldest first (log entry 3); `pending`: the commands that wait, first in, first out. -/
structure State where
  prts    : Vector Prt 16
  op      : OpCtx
  tier    : TierRegs
  sqBacklog : BitVec 12
  quads   : Vector QuadState 16
  coreErr : Vector CoreErr 64
  tigers  : Vector (Option CmdRef) 16
  chans   : Vector Channel 32
  movQuota : Vector (BitVec 6) 17
  reds    : List Reduction
  jobs    : List JobDecision
  ports   : Vector Port 8
  net     : Network
  sec     : Security
  mtr     : MeterBlock
  pwr     : Power
  link    : Link
  boot    : Boot
  wdg     : Watchdog
  flash   : Flash
  sled    : Sled
  fwVer   : W32
  scratch : W32
  nfree   : Nat
  out     : List HostOut
  pending : List Instr
  deriving DecidableEq, Repr

/-- Why the machine stops with a fault. The spec stops the block nowhere, so no meaning raises one. -/
inductive Fault where
  /-- Raised by nothing: every command of the spec leaves the sled in a state. Safe. -/
  | stopped
  deriving DecidableEq, Repr

/-- Why a command has no outcome. -/
inductive Refusal where
  /-- Raised by `exec` for a command whose meaning is not written, named by its mnemonic. Safe. -/
  | notModelled (mnemonic : String)
  deriving DecidableEq, Repr

/-- The sled right after a sled cold reset taken at the application of the standby rail (R516): the Cicada runs, every
other milestone of the boot is still to come. -/
def State.reset : State :=
  { prts := Vector.replicate 16 Prt.reset, op := OpCtx.reset, tier := TierRegs.reset, sqBacklog := 0x040,
    quads := Vector.replicate 16 QuadState.reset, coreErr := Vector.replicate 64 ⟨0, 0, 0⟩,
    tigers := Vector.replicate 16 none, chans := Vector.replicate 32 Channel.reset,
    movQuota := (Vector.replicate 17 1).set 16 8, reds := [], jobs := [], ports := Vector.replicate 8 Port.reset,
    net := Network.reset, sec := Security.reset, mtr := MeterBlock.reset, pwr := Power.reset, link := Link.reset,
    boot := Boot.reset, wdg := Watchdog.reset, flash := Flash.reset, sled := Sled.reset, fwVer := 0,
    scratch := 0, nfree := 0, out := [], pending := [] }

end Sys2Proof.Machine
end

