-- ==== Sys2Proof/Machine/Operands.lean ====
section
/-! DEFINITION. Machine/Operands.lean: byte order, bit fields, the command header and the command list (R4, Tables 3-6, 4-2, 4-3). -/

namespace Sys2Proof.Machine

/-- The byte at offset `i`; 0 beyond the end. -/
def byteAt (b : Bytes) (i : Nat) : Byte := b.getD i 0

/-- R4: `n` bytes from offset `i` as a little-endian number. -/
def leAt (b : Bytes) (i : Nat) : Nat → Nat
  | 0 => 0
  | n + 1 => (byteAt b i).toNat + 256 * leAt b (i + 1) n

/-- R4: a number as `n` little-endian bytes. -/
def leBytes : Nat → Nat → Bytes
  | 0, _ => []
  | n + 1, v => BitVec.ofNat 8 v :: leBytes n (v / 256)

/-- The bytes of a bit vector of `8 * n` bits. -/
def leVec {w : Nat} (n : Nat) (v : BitVec w) : Bytes := leBytes n v.toNat

/-- Bits [lo + n − 1:lo] of a number. -/
def bitsOf (v lo n : Nat) : Nat := v / 2 ^ lo % 2 ^ n

/-- One bit of a number. -/
def bitOf (v i : Nat) : Bool := v / 2 ^ i % 2 = 1

/-- The number 0 or 1 of a Bool. -/
def bnat (b : Bool) : Nat := if b then 1 else 0

/-- Every byte in [lo, hi) is 0. -/
def zeroIn (b : Bytes) (lo hi : Nat) : Bool := leAt b lo (hi - lo) = 0

/-- A number read as a two's-complement value of `n` bits. -/
def signed (n v : Nat) : Int := if bitOf v (n - 1) then (v % 2 ^ n : Nat) - (2 ^ n : Nat) else (v % 2 ^ n : Nat)

/-! ### Command header (Table 3-6) -/

/-- The header fields of a 64-byte command entry. -/
def headerOf (e : Bytes) : Header :=
  let d0 := leAt e 0 4
  { opc := BitVec.ofNat 8 d0, flags := BitVec.ofNat 8 (d0 / 2 ^ 8), engine := BitVec.ofNat 4 (d0 / 2 ^ 16),
    qos := BitVec.ofNat 4 (d0 / 2 ^ 20), barId := ⟨bitsOf d0 24 5, by unfold bitsOf; omega⟩,
    tag := BitVec.ofNat 16 (leAt e 4 2), epoch := BitVec.ofNat 32 (leAt e 8 4) }

/-- Table 3-6: reserved header bits and FLAGS bit 15 are 0. -/
def headerClean (e : Bytes) : Bool :=
  bitsOf (leAt e 0 4) 29 3 = 0 && !bitOf (leAt e 0 4) 15 && leAt e 6 2 = 0 && leAt e 12 4 = 0

/-! ### FLAGS (Table 3-7); FLAGS bit k is entry bit 8 + k -/

/-- FENCE. -/
def Header.fence (h : Header) : Bool := h.flags.getLsbD 0
/-- IRQ. -/
def Header.irq (h : Header) : Bool := h.flags.getLsbD 1
/-- BARRIER. -/
def Header.barrier (h : Header) : Bool := h.flags.getLsbD 2
/-- RT. -/
def Header.rt (h : Header) : Bool := h.flags.getLsbD 3
/-- CHAIN. -/
def Header.chain (h : Header) : Bool := h.flags.getLsbD 4
/-- SPEC. -/
def Header.spec (h : Header) : Bool := h.flags.getLsbD 5
/-- PRIO. -/
def Header.prio (h : Header) : Bool := h.flags.getLsbD 6

/-! ### Command lists (Tables 4-2 and 4-3) -/

/-- The operation whose header starts at offset `i`. -/
def opAt (b : Bytes) (i : Nat) : ListOp :=
  let sz := leAt b (i + 2) 2
  { lop := byteAt b i, waitPrev := (byteAt b (i + 1)).getLsbD 0, badBits := (byteAt b (i + 1)).toNat / 2 ≠ 0,
    arg := BitVec.ofNat 32 (leAt b (i + 4) 4), size := sz, body := ((b.drop (i + 8)).take (8 * sz - 8)) }

/-- The operations of a list from offset `i`, or none where one has SIZE 0 or above 8,192, runs past the end, or the end is
not reached. -/
def opsFrom (b : Bytes) (i : Nat) : Nat → Option (List ListOp)
  | 0 => if i = b.length then some [] else none
  | n + 1 =>
    let o := opAt b i
    if o.size = 0 || 8192 < o.size || b.length < i + 8 * o.size then none
    else (opsFrom b (i + 8 * o.size) n).map (o :: ·)

/-- Table 4-5: the list checks, in table order; `defined`: LOP is defined for the engine class. E3 and E4 concern an operation
and are made when it would start. -/
def parseList (iova len : Nat) (b : Bytes) : Except W32 (List ListOp) :=
  if iova % 64 ≠ 0 || len < 24 || 2 ^ 20 < len || len % 8 ≠ 0 then .error 0xE0
  else if leAt b 0 2 ≠ 1 || leAt b 2 2 = 0 || 4096 < leAt b 2 2 || !zeroIn b 4 16 then .error 0xE1
  else match opsFrom (b.take len) 16 (leAt b 2 2) with
    | none => .error 0xE2
    | some ops => .ok ops

/-- A field of an operation's body, by its offset from the operation's first byte. -/
def ListOp.field (o : ListOp) (off n : Nat) : Nat := leAt o.body (off - 8) n

/-- The body bytes in [lo, hi), by offset from the operation's first byte, are 0. -/
def ListOp.zero (o : ListOp) (lo hi : Nat) : Bool := zeroIn o.body (lo - 8) (hi - 8)

end Sys2Proof.Machine
end

