-- ==== Sys2Proof/Machine/Ops.lean ====
section
/-! DEFINITION. Machine/Ops.lean: the named operations every meaning shares: access to the parts of the state, free
values and time stamps, host requests, interrupts, events, ring entries, completions and lifecycle changes. -/

namespace Sys2Proof.Machine

/-- Replace element `i` of a vector by `f` of it. -/
def vmod {α : Type} {n : Nat} (v : Vector α n) (i : Fin n) (f : α → α) : Vector α n := v.set i.val (f v[i]) i.isLt

/-! ### Parts of the state -/

/-- Partition `p`. -/
def State.prt (s : State) (p : Pid) : Prt := s.prts[p]

/-- Change partition `p`. -/
def State.modPrt (s : State) (p : Pid) (f : Prt → Prt) : State := { s with prts := vmod s.prts p f }

/-- The lifecycle part of partition `p`. -/
def State.life (s : State) (p : Pid) : Life := (s.prt p).life

/-- Change the lifecycle part of partition `p`. -/
def State.modLife (s : State) (p : Pid) (f : Life → Life) : State := s.modPrt p fun P => { P with life := f P.life }

/-- Change the memory of partition `p`. -/
def State.modMem (s : State) (p : Pid) (f : Memory → Memory) : State := s.modPrt p fun P => { P with mem := f P.mem }

/-- A function's part of the state. -/
def State.fnSt (s : State) : Fn → FnState
  | .pf => s.op.fn
  | .vf p => (s.prt p).fn

/-- Change a function's part. -/
def State.modFn (s : State) (fn : Fn) (f : FnState → FnState) : State :=
  match fn with
  | .pf => { s with op := { s.op with fn := f s.op.fn } }
  | .vf p => s.modPrt p fun P => { P with fn := f P.fn }

/-- A ring. -/
def State.ring (s : State) : RingId → Ring
  | .pf n => s.op.rings[n]
  | .vf p n => (s.prt p).rings[n]

/-- Change a ring. -/
def State.modRing (s : State) (r : RingId) (f : Ring → Ring) : State :=
  match r with
  | .pf n => { s with op := { s.op with rings := vmod s.op.rings n f } }
  | .vf p n => s.modPrt p fun P => { P with rings := vmod P.rings n f }

/-- The rings of a function, in ascending number. -/
def ringsOf : Fn → List RingId
  | .pf => (List.finRange 32).map .pf
  | .vf p => (List.finRange 64).map (.vf p)

/-- The function is lost (R371). -/
def State.lost (s : State) (fn : Fn) : Bool := (s.fnSt fn).loss.lost

/-- Change the power registers. -/
def State.modPwr (s : State) (f : Power → Power) : State := { s with pwr := f s.pwr }

/-- Change a fabric port. -/
def State.modPort (s : State) (p : PortNo) (f : Port → Port) : State := { s with ports := vmod s.ports p f }

/-- Change a quad. -/
def State.modQuad (s : State) (q : Quad) (f : QuadState → QuadState) : State := { s with quads := vmod s.quads q f }

/-- Change a Mover channel. -/
def State.modChan (s : State) (m : MovNo) (f : Channel → Channel) : State := { s with chans := vmod s.chans m f }

/-! ### Free values and time -/

/-- The next free value, `w` bits wide. -/
def State.free (s : State) (w : Nat) : BitVec w := Config.freeBits w s.nfree

/-- A free value has been taken. -/
def State.took (s : State) : State := { s with nfree := s.nfree + 1 }

/-- Nanoseconds of the crystal since `t`. -/
def State.since (s : State) (t : Nat) : Nat := s.pwr.clk - t

/-- R484: a time stamp. It lies less than 640 ns above the Cicada's device time and never before an earlier one. -/
def State.stamp (s : State) : Nat := max s.pwr.lastStamp (s.pwr.time.toNat + (s.free 10).toNat % 640)

/-- The state after a stamp has been taken. -/
def State.stamped (s : State) : State :=
  { s with nfree := s.nfree + 1, pwr := { s.pwr with lastStamp := s.stamp } }

/-! ### Meters (R464, R465, R467) -/

/-- A partition whose meters accrue: READY to DRAINING (R469). -/
def PState.metered : PState → Bool
  | .empty | .configuring | .scrubbing => false
  | _ => true

/-- Add to a meter in its internal unit; a FENCED partition's change is held until the next 1 ms boundary. -/
def Meters.add (m : Meters) (fenced : Bool) (k : Fin 8) (n : Nat) : Meters :=
  if fenced then { m with due := vmod m.due k (· + n) } else { m with acc := vmod m.acc k (· + n) }

/-- Accrue `n` internal units of meter `k` for partition `p`. -/
def State.accrue (s : State) (p : Pid) (k : Fin 8) (n : Nat) : State :=
  if (s.life p).st.metered then s.modPrt p fun P => { P with mtr := P.mtr.add P.life.timingAct k n } else s

/-- R468: energy of a FENCED partition's own activity, in pJ. -/
def State.energy (s : State) (p : Pid) (pj : Nat) : State := if (s.life p).timingAct then s.accrue p 6 pj else s

/-- R468, Table 17-2: energy under the shared-resource rows, stacked DRAM onward. -/
def State.sharedEnergy (s : State) (p : Pid) (pj : Nat) : State :=
  if (s.life p).st.metered then
    (s.energy p pj).modPrt p fun P => { P with mtr := { P.mtr with shared := P.mtr.shared + pj } }
  else s

/-- HOST_B: payload bytes of host-link requests issued for a function (Table 17-1). -/
def State.hostBytes (s : State) (fn : Fn) (n : Nat) : State :=
  match fn with
  | .pf => s
  | .vf p => (s.accrue p 5 n).sharedEnergy p (64 * n)

/-! ### Host requests and interrupts -/

/-- Put something out. -/
def State.emit (s : State) (o : HostOut) : State := { s with out := s.out ++ [o] }

/-- R59: a posted write to host memory. -/
def State.hostWrite (s : State) (fn : Fn) (iova : W64) (b : Bytes) : State :=
  (s.hostBytes fn b.length).emit (.write fn iova b)

/-- A host write of a ring's command: data that the ring's next flushing read confirms (R113; log entry 9). -/
def State.dataWrite (s : State) (r : RingId) (iova : W64) (b : Bytes) : State :=
  (s.hostWrite r.fn iova b).modRing r fun R => { R with dirty := true }

/-- R91: signal a vector. A lost function or disabled MSI-X discards the condition; a masked vector becomes pending. -/
def State.msix (s : State) (fn : Fn) (v : BitVec 6) : State :=
  let f := s.fnSt fn
  let m := f.msix[v.toNat]
  if f.loss.lost || !f.msixEn then s
  else if f.msixMask || m.masked then
    s.modFn fn fun f => { f with msix := vmod f.msix ⟨v.toNat, v.isLt⟩ fun m => { m with pending := true } }
  else s.emit (.msix fn v.toNat m.addr m.data)

/-! ### Ring indices (R78) -/

/-- The size of a ring in entries. -/
def Ring.size (R : Ring) : Nat := 2 ^ R.cfgLog.toNat

/-- The index after `i` in a ring of `n` entries. -/
def Idx.next (i : Idx) (n : Nat) : Idx := if i.idx + 1 < n then { i with idx := i.idx + 1 } else ⟨!i.wrap, 0⟩

/-- R79: the entries between consumer and producer, where the pair is valid. -/
def occupancy (prod cons : Idx) (n : Nat) : Option Nat :=
  if prod.idx < n then
    if prod.wrap = cons.wrap then (if cons.idx ≤ prod.idx then some (prod.idx - cons.idx) else none)
    else if prod.idx ≤ cons.idx then some (n - cons.idx + prod.idx) else none
  else none

/-- A device-produced ring is full. -/
def Ring.full (R : Ring) : Bool := R.dev.idx = R.sw.idx && R.dev.wrap != R.sw.wrap

/-- The KIND of a ring (Table 3-1). -/
def Ring.isKind (R : Ring) (k : Nat) : Bool := R.cfgKind.toNat = k

/-- The value of an index register or doorbell: [16] WRAP, [15:0] IDX. -/
def Idx.word (i : Idx) : W32 := BitVec.ofNat 32 (bnat i.wrap * 65536 + i.idx)

/-- The enabled ring of a kind in a function: in no state but DISABLED (R72). -/
def State.enabledOf (s : State) (fn : Fn) (k : Nat) : Option RingId :=
  (ringsOf fn).find? fun r => (s.ring r).isKind k && (s.ring r).state != .disabled

/-- R90: an entry has been written on a ring; `force` is the condition that the entry itself carries. The conditions that
hold together send one message, and then the count and the timer restart. -/
def State.noteEntry (s : State) (r : RingId) (force : Bool) : State :=
  let R := s.ring r
  let fire := force || R.irqEach || (R.irqCount != 0 && R.irqCount.toNat ≤ R.sinceIrq + 1)
  let s := s.modRing r fun R =>
    { R with
      sinceIrq := if fire then 0 else R.sinceIrq + 1,
      firstAt := if fire then none else some (R.firstAt.getD s.pwr.clk) }
  if fire then s.msix r.fn R.cfgVec else s

/-- R82, R83: write one entry of a device-produced ring in its next slot. `mk` gets the PHASE. -/
def State.writeEntry (s : State) (r : RingId) (force : Bool) (mk : Bool → Bytes) : State :=
  let R := s.ring r
  let b := mk !R.dev.wrap
  let s := s.hostWrite r.fn (R.base + BitVec.ofNat 64 (R.dev.idx * b.length)) b
  (s.modRing r fun R => { R with dev := R.dev.next R.size, iwbDue := true }).noteEntry r force

/-! ### Events (R92, R93) -/

/-- Table 3-12: the bytes of an event entry. -/
def Event.bytes (e : Event) (phase : Bool) (time : Nat) (seq : W32) : Bytes :=
  leVec 2 e.code ++ leVec 1 e.source ++ leBytes 1 (bnat phase) ++ leVec 4 e.arg0 ++ leVec 8 e.arg1 ++ leBytes 8 time
    ++ leVec 4 seq ++ leBytes 4 0

/-- Write an event to an event ring that has room. -/
def State.putEvent (s : State) (r : RingId) (e : Event) : State :=
  let t := s.stamp
  let q := (s.ring r).evtSeq
  (s.stamped.writeEntry r false fun ph => e.bytes ph t q).modRing r fun R => { R with evtSeq := R.evtSeq + 1 }

/-- An event discarded: counted, and owed a report when an event ring is enabled (R93). -/
def State.dropEvent (s : State) (fn : Fn) (owed : Bool) : State :=
  s.modFn fn fun f => { f with evtLost := satAdd f.evtLost 1, evtOwed := f.evtOwed + bnat owed }

/-- R93: post the EVENTS_LOST that is owed, where the event ring has room. -/
def State.payOwed (s : State) (fn : Fn) (r : RingId) : State :=
  let n := (s.fnSt fn).evtOwed
  if n = 0 || (s.ring r).full then s
  else (s.putEvent r ⟨0x0007, fn.source, BitVec.ofNat 32 (min n 0xFFFFFFFF), 0⟩).modFn fn fun f => { f with evtOwed := 0 }

/-- Post an event on a function's event ring. -/
def State.post (s : State) (fn : Fn) (e : Event) : State :=
  match s.enabledOf fn 5 with
  | none => s.dropEvent fn false
  | some r =>
    if s.lost fn || (s.ring r).state != .active then s.dropEvent fn true
    else
      let s := s.payOwed fn r
      if (s.ring r).full then s.dropEvent fn true else s.putEvent r e

/-- Post an event of the device on the operator event ring: SOURCE 0xFF. -/
def State.postDev (s : State) (code : BitVec 16) (arg0 : Nat) (arg1 : Nat) : State :=
  s.post .pf ⟨code, 0xFF, BitVec.ofNat 32 arg0, BitVec.ofNat 64 arg1⟩

/-- Post an event of partition `p` on the operator event ring: SOURCE PID. -/
def State.postOper (s : State) (p : Pid) (code : BitVec 16) (arg0 : Nat) (arg1 : Nat) : State :=
  s.post .pf ⟨code, BitVec.ofNat 8 p.val, BitVec.ofNat 32 arg0, BitVec.ofNat 64 arg1⟩

/-- Post an event of partition `p` on its own event ring. -/
def State.postPart (s : State) (p : Pid) (code : BitVec 16) (arg0 : Nat) (arg1 : Nat) : State :=
  s.post (.vf p) ⟨code, BitVec.ofNat 8 p.val, BitVec.ofNat 32 arg0, BitVec.ofNat 64 arg1⟩

/-! ### Lifecycle changes (R20, R21) -/

/-- R20: change a partition's state and post PARTITION_STATE with its cause, on the partition's own ring while its VF is enabled,
and on the operator's. -/
def State.setPState (s : State) (p : Pid) (st : PState) (cause : Nat) : State :=
  let prev := (s.life p).st
  let s := s.modLife p fun L => { L with st := st }
  let arg := st.code + 16 * prev.code + 256 * cause
  let s := if st.holds then s.postPart p 0x0001 arg 0 else s
  s.postOper p 0x0001 arg 0

/-- R18, R20: report the result of a PRT command. -/
def State.prtResult (s : State) (p : Pid) (cmd : BitVec 4) (sts : BitVec 3) : State :=
  s.modLife p fun L => { L with lastCmd := cmd, cmdSts := sts }

/-- The engines of a partition take and execute work: RUNNING, NAPPING, or DETACHED from one of these, with no SUSPEND or
RETAIN halt under way (R21, R24, R376). -/
def Life.working (L : Life) : Bool :=
  match L.st with
  | .running | .napping => L.exec != some .suspend && !L.halting
  | .detached => !L.wasSuspended
  | _ => false

/-- Commands that have started run to their boundary in these states too (R24, R26). -/
def Life.finishing (L : Life) : Bool :=
  L.working || match L.st with
  | .running | .napping | .retained | .draining => true
  | _ => false

/-! ### Completions (R85, R86, R373) -/

/-- Table 3-9: the bytes of a completion. -/
def Completion.bytes (c : Completion) (phase : Bool) (time : Nat) : Bytes :=
  leVec 2 c.tag ++ leVec 1 c.status.code
    ++ leBytes 1 (c.engine.toNat * 16 + bnat c.started * 2 + bnat phase) ++ leVec 4 c.detail ++ leBytes 8 time

/-- Write a completion to a completion ring that has room; CQ_FULL when that fills it. -/
def State.putCompletion (s : State) (q : RingId) (c : Completion) : State :=
  let t := s.stamp
  let s := s.stamped.writeEntry q c.irq fun ph => c.bytes ph t
  if (s.ring q).full then s.post q.fn ⟨0x0004, q.fn.source, BitVec.ofNat 32 q.num, 0⟩ else s

/-- A completion that waits inside the device for ring number `n`. -/
def HeldEntry.forRing (n : Nat) : HeldEntry → Bool
  | .completion k _ => k = n
  | .moverWb _ _ _ _ => false

/-- The completion ring can take an entry now. -/
def State.cqOpen (s : State) (q : RingId) : Bool :=
  (s.ring q).isKind 1 && (s.ring q).state = .active && !(s.ring q).full

/-- R86: a completion ring holds completions back. -/
def State.cqHeld (s : State) (q : RingId) : Bool := (s.fnSt q.fn).held.any (HeldEntry.forRing q.num)

/-- Hold an entry of a function. -/
def State.hold (s : State) (fn : Fn) (e : HeldEntry) : State := s.modFn fn fun f => { f with held := f.held ++ [e] }

/-- R85, R86, R373: a completion for a command of submission ring `r`: written, or held for a full, disabled or failed ring or
for a lost function. -/
def State.postCompletion (s : State) (r : RingId) (c : Completion) : State :=
  match r.sibling (s.ring r).cfgCq.toNat with
  | none => s
  | some q =>
    if s.lost r.fn || s.cqHeld q || !s.cqOpen q then s.hold r.fn (.completion q.num c) else s.putCompletion q c

/-- Write one held entry if it belongs to `q` and `q` has room; otherwise keep it. -/
def releaseHeld (q : RingId) (s : State) (e : HeldEntry) : State :=
  match e with
  | .completion n c => if n = q.num && s.cqOpen q then s.putCompletion q c else s.hold q.fn e
  | .moverWb _ _ _ _ => s.hold q.fn e

/-- Write the completions held for `q`, in production order, as room allows. -/
def State.drainHeld (s : State) (q : RingId) : State :=
  (s.fnSt q.fn).held.foldl (releaseHeld q) (s.modFn q.fn fun f => { f with held := [] })

/-! ### Commands -/

/-- A consumed command. -/
def State.cmd? (s : State) (c : CmdRef) : Option Cmd := (s.ring c.ring).cmds.find? (·.seq = c.seq)

/-- Change a consumed command. -/
def State.modCmd (s : State) (c : CmdRef) (f : Cmd → Cmd) : State :=
  s.modRing c.ring fun R => { R with cmds := R.cmds.map fun k => if k.seq = c.seq then f k else k }

/-- The command is waiting to start, or for the flushing read before its start. -/
def Cmd.unstarted (k : Cmd) : Bool :=
  match k.stage with
  | .waiting | .preFlush _ => true
  | _ => false

/-- R76: a STOPPING submission ring becomes DISABLED once everything handed over has been consumed and has completed. -/
def State.stopIfDone (s : State) (r : RingId) : State :=
  let R := s.ring r
  if R.state = .stopping && R.cmds.isEmpty && (R.rebased || R.dev = R.sw) then
    s.modRing r fun R => { R with state := .disabled, rebased := false }
  else s

/-- Complete a consumed command: its one completion (R85), and its place in the ring. -/
def State.complete (s : State) (c : CmdRef) (started : Bool) (st : Status) (detail : W32) : State :=
  match s.cmd? c with
  | none => s
  | some k =>
    let s := s.modRing c.ring fun R => { R with cmds := R.cmds.filter (·.seq != c.seq) }
    let s := { s with tigers := s.tigers.map fun t => if t = some c then none else t }
    let s := if k.mute then s
      else s.postCompletion c.ring ⟨k.hdr.tag, st, k.hdr.engine, started, detail, k.hdr.irq⟩
    s.stopIfDone c.ring

/-- R178: a miss is counted, and the first since COMMIT or the last record is posted (R482). -/
def State.miss (s : State) (p : Pid) (arg1 : Nat) : State :=
  let s := s.accrue p 7 1
  if (s.prt p).mtr.missArmed then
    (s.modPrt p fun P => { P with mtr := { P.mtr with missArmed := false } }).postPart p 0x0902
      (s.prt p).rt.frame.toNat arg1
  else s

/-- R178: count the miss of an RT command once. -/
def State.cmdMiss (s : State) (c : CmdRef) : State :=
  match s.cmd? c, c.ring with
  | some k, .vf p _ => if k.missed then s else (s.miss p k.hdr.tag.toNat).modCmd c fun k => { k with missed := true }
  | _, _ => s

/-- R122, R178, R179, R236: the status with which a started command completes. A revoked epoch decides first; a valid result
that came after the deadline, or that waited for a fetch-back, is DEADLINE_MISS. -/
def State.verdictOf (s : State) (k : Cmd) (st : Status) (detail : W32) : Status × W32 × Bool :=
  if k.revoked then (.epochRevoked, 0, false)
  else match k.deadline with
    | none => (st, detail, false)
    | some d =>
      let late := d < s.pwr.time.toNat
      if st = .fetchLate || (late && !st.isError) then (.deadlineMiss, 0, true) else (st, detail, late)

/-- A started command ends: its one completion, under R122 and R179. -/
def State.conclude (s : State) (c : CmdRef) (st : Status) (detail : W32) : State :=
  match s.cmd? c with
  | none => s
  | some k =>
    let (st, detail, miss) := s.verdictOf k st detail
    let s := if miss then s.cmdMiss c else s
    s.complete c true st detail

/-- R113: the command's own flushing read, where a write of its ring has still to be confirmed; then its end. -/
def State.flushOwn (s : State) (c : CmdRef) (k : Cmd) (st : Status) (detail : W32) : State :=
  if k.hdr.fence && (s.ring c.ring).dirty then
    s.modCmd c fun k => { k with stage := .postFlush s.pwr.clk st detail, run := none, spans := [] }
  else s.conclude c st detail

/-- A command's work has ended (R113, R118): it waits for its barrier, then for its own flushing read, and completes. One that waited
under R234 and ends OK completes with FETCH_LATE (R235). -/
def State.finish (s : State) (c : CmdRef) (st : Status) (detail : W32) : State :=
  match s.cmd? c with
  | none => s
  | some k =>
    let st := if k.lateFetch && st = .ok then .fetchLate else st
    if k.hdr.barrier then s.modCmd c fun k => { k with stage := .worked st detail, run := none, spans := [] }
    else s.flushOwn c k st detail

/-- The command refused before it did anything: STARTED clear (R84, R105). -/
def State.refuse (s : State) (c : CmdRef) (detail : W32) : State := s.complete c false .malformed detail

/-- The command of a row that acts once: started, of this class and opcode, on a partition whose engines run. -/
def State.startedCmd (s : State) (c : CmdRef) (engine : BitVec 4) (opc : BitVec 8) : Option Cmd :=
  match s.cmd? c with
  | some k => if k.stage = .started && k.hdr.engine = engine && k.hdr.opc = opc then some k else none
  | none => none

/-! ### Ring errors (R76, R77) -/

/-- Put one ring in ERROR and post RING_ERROR. -/
def State.failRing (s : State) (r : RingId) (code : BitVec 4) (iova : W64) : State :=
  if (s.ring r).state = .active || (s.ring r).state = .stopping then
    (s.modRing r fun R => { R with state := .error, errCode := code }).post r.fn
      ⟨0x0003, r.fn.source, BitVec.ofNat 32 (r.num + 256 * code.toNat), iova⟩
  else s

/-- R76: a ring fails; a completion ring takes the submission rings that name it with it, with ERR 3. -/
def State.ringError (s : State) (r : RingId) (code : BitVec 4) (iova : W64) : State :=
  let was := s.ring r
  let s := s.failRing r code iova
  if was.isKind 1 then
    (ringsOf r.fn).foldl (fun s t => if (s.ring t).isKind 0 && (s.ring t).cfgCq.toNat = r.num then s.failRing t 3 0 else s) s
  else s

/-! ### Mailbox sends (R100) -/

/-- Table 3-15: a message's bytes with its SEQ and PHASE. -/
def OutMsg.bytes (m : OutMsg) (seq : W16) (phase : Bool) : Bytes :=
  (leBytes 1 (m.queue % 16 + 128 * bnat phase) ++ leBytes 1 m.payload.length ++ leVec 2 m.typ ++ leVec 2 seq ++ leBytes 2 0
    ++ m.payload ++ List.replicate 248 0).take 256

/-- The lowest-numbered free outbound slot. -/
def Mailbox.freeOut (m : Mailbox) : Option SlotNo := (List.finRange 16).find? fun i => !m.outValid.getLsbD i.val

/-- Set a bit of a 16-bit register. -/
def setBit (v : W16) (i : Fin 16) (b : Bool) : W16 :=
  if b then v ||| (1#16 <<< i.val) else v &&& ~~~(1#16 <<< i.val)

/-- MB_IN_OWN clears for a consumed or dropped inbound slot (R99). -/
def State.freeInSlot (s : State) (fn : Fn) (i : SlotNo) : State :=
  let s := s.modFn fn fun f => { f with mail := { f.mail with
    inOwn := setBit f.mail.inOwn i false, posted := f.mail.posted.filter (· != i) } }
  if (s.fnSt fn).mail.inIrq then s.msix fn (s.fnSt fn).mail.inVec else s

/-- The mailbox-overflow ring of a function, when it can take an entry. -/
def State.overflowRing (s : State) (fn : Fn) : Option RingId :=
  match s.enabledOf fn 3 with
  | some r => if (s.ring r).state = .active && !(s.ring r).full && !s.lost fn then some r else none
  | none => none

/-- The mailbox-overflow ring holds an entry the host has not consumed. -/
def State.overflowBusy (s : State) (fn : Fn) : Bool :=
  match s.enabledOf fn 3 with
  | some r => (s.ring r).dev != (s.ring r).sw
  | none => false

/-- R100: there is room for one outbound message. -/
def State.canSend (s : State) (fn : Fn) : Bool :=
  ((s.fnSt fn).mail.freeOut.isSome && !s.overflowBusy fn) || (s.overflowRing fn).isSome

/-- R100: place a message in the lowest free outbound slot, or on the overflow ring. The next SEQ is taken when it is placed. -/
def State.placeMsg (s : State) (fn : Fn) (m : OutMsg) : State :=
  let mb := (s.fnSt fn).mail
  let seq := mb.outSeq
  let bump (s : State) : State := s.modFn fn fun f => { f with mail := { f.mail with outSeq := f.mail.outSeq + 1 } }
  match mb.freeOut, s.overflowBusy fn with
  | some i, false =>
    let s := s.modFn fn fun f => { f with mail := { f.mail with
      outSlots := vmod f.mail.outSlots i fun _ => m.bytes seq false, outValid := setBit f.mail.outValid i true } }
    let s := bump s
    if mb.outIrq then s.msix fn mb.outVec else s
  | _, _ =>
    match s.overflowRing fn with
    | some r => bump (s.writeEntry r false fun ph => m.bytes seq ph)
    | none => s

end Sys2Proof.Machine
end

