-- ==== Sys2Proof/Machine/Tiers.lean ====
section
/-! DEFINITION. Machine/Tiers.lean: the bytes and tiles of a partition's memory, placement, moves and poison as shared
operations (chapter 7), and what the power state of a quad allows (chapter 18). -/

namespace Sys2Proof.Machine

/-! ### Bytes: strictly rising addresses, no byte equal to 0, which an unlisted address reads as (R45) -/

/-- The byte at an address. -/
def readByte (m : List Host.Cell) (a : Nat) : Byte :=
  match m with
  | [] => 0
  | (k, v) :: r => if k = a then v else readByte r a

/-- Write one byte and keep the canonical form. -/
def writeByte (m : List Host.Cell) (a : Nat) (v : Byte) : List Host.Cell :=
  match m with
  | [] => if v = 0 then [] else [(a, v)]
  | (k, w) :: r =>
    if a < k then (if v = 0 then (k, w) :: r else (a, v) :: (k, w) :: r)
    else if a = k then (if v = 0 then r else (a, v) :: r)
    else (k, w) :: writeByte r a v

/-- The canonical form: addresses strictly rising, no 0 byte listed. -/
def Memory.wf (m : List Host.Cell) : Bool :=
  match m with
  | [] => true
  | [c] => c.2 != 0
  | c :: d :: r => c.2 != 0 && decide (c.1 < d.1) && Memory.wf (d :: r)

/-- `n` bytes from an address. -/
def readBytes (m : List Host.Cell) (a n : Nat) : Bytes := (List.range n).map fun i => readByte m (a + i)

/-- Write bytes from an address on. -/
def writeBytes (m : List Host.Cell) (a : Nat) : Bytes → List Host.Cell
  | [] => m
  | b :: r => writeBytes (writeByte m a b) (a + 1) r

/-- Every byte of [lo, hi) becomes 0. -/
def clearBytes (m : List Host.Cell) (lo hi : Nat) : List Host.Cell := m.filter fun c => c.1 < lo || hi ≤ c.1

/-- The bytes of one tile. -/
def tileBytes : Nat := 65536

/-- The tile of a TA. -/
def tileOf (ta : Nat) : TileNo := ta / tileBytes

/-- The tiles that [ta, ta + n) touches; none when n is 0. -/
def tilesOf (ta n : Nat) : List TileNo :=
  if n = 0 then [] else (List.range (tileOf (ta + n - 1) - tileOf ta + 1)).map (tileOf ta + ·)

/-- The non-zero bytes of one tile. -/
def tileCells (m : List Host.Cell) (t : TileNo) : List Host.Cell :=
  m.filter fun c => t * tileBytes ≤ c.1 && c.1 < (t + 1) * tileBytes

/-! ### Objects and tiles -/

/-- The object that holds a tile. -/
def Memory.objOf (m : Memory) (t : TileNo) : Option Obj := m.objs.find? fun o => o.base ≤ t && t < o.base + o.tiles

/-- An object by its ID. -/
def Memory.obj? (m : Memory) (id : W32) : Option Obj := m.objs.find? (·.id = id)

/-- A tile of a defined object. -/
def Memory.tile? (m : Memory) (t : TileNo) : Option Tile := m.tiles.find? (·.num = t)

/-- Change one tile. -/
def Memory.modTile (m : Memory) (t : TileNo) (f : Tile → Tile) : Memory :=
  { m with tiles := m.tiles.map fun x => if x.num = t then f x else x }

/-- Change one tile of a partition. -/
def State.modTile (s : State) (p : Pid) (t : TileNo) (f : Tile → Tile) : State := s.modMem p fun m => m.modTile t f

/-- A tile of a partition. -/
def State.tile? (s : State) (p : Pid) (t : TileNo) : Option Tile := (s.prt p).mem.tile? t

/-- The tile is MOVING. -/
def Tile.isMoving (t : Tile) : Bool :=
  match t.st with
  | .moving _ => true
  | _ => false

/-- The tile is DROPPED. -/
def Tile.isDropped (t : Tile) : Bool :=
  match t.st with
  | .dropped _ => true
  | _ => false

/-- The tile takes, or will take once its move has ended, a home that `h` selects: what placements count. -/
def Tile.uses (t : Tile) (h : Home → Bool) : Nat :=
  match t.st with
  | .dropped r => bnat (r && h t.home)
  | .moving m => bnat (h m.dst)
  | _ => bnat (h t.home)

/-- Storage that the tile holds in homes that `h` selects: at its home, and at the destination once the copy has begun (Table 7-2). -/
def Tile.fills (t : Tile) (h : Home → Bool) : Nat :=
  match t.st with
  | .dropped r => bnat (r && h t.home)
  | .moving m => bnat (h t.home) + bnat (m.copying && h m.dst)
  | _ => bnat (h t.home)

/-- The tile is homed in a home that `h` selects; a MOVING one at its source (R57). -/
def Tile.homed (t : Tile) (h : Home → Bool) : Bool := !t.isDropped && h t.home

/-- How many homes of a partition `h` selects. -/
def Memory.count (m : Memory) (h : Home → Bool) : Nat := (m.tiles.map (·.uses h)).sum

/-- A home in tile memory. -/
def Home.inTile : Home → Bool
  | .tileMem _ => true
  | _ => false
/-- A home in the floor. -/
def Home.inFloor : Home → Bool
  | .stacked _ pool => !pool
  | _ => false
/-- A home in the shared pool. -/
def Home.inPool : Home → Bool
  | .stacked _ pool => pool
  | _ => false
/-- A home in stacked DRAM. -/
def Home.inStacked : Home → Bool
  | .stacked _ _ => true
  | _ => false
/-- A home in stack `k`. -/
def Home.inStack (k : StackNo) : Home → Bool
  | .stacked j _ => j = k
  | _ => false
/-- A home in the board tier. -/
def Home.isBoard : Home → Bool
  | .board => true
  | _ => false
/-- A home in staging SRAM. -/
def Home.isStaging : Home → Bool
  | .staging => true
  | _ => false
/-- A home in the tile memory of core `c`. -/
def Home.onCore (c : Core) : Home → Bool
  | .tileMem d => d = c
  | _ => false
/-- A home in the tile memory of quad `q`. -/
def Home.onQuad (q : Quad) : Home → Bool
  | .tileMem d => d.val / 4 = q.val
  | _ => false

/-- The tile slots of a core that homes, and moves chosen towards it, take. -/
def Memory.slotsOn (m : Memory) (c : Core) : Nat :=
  (m.tiles.filter fun t => match t.st with
    | .moving x => t.home = .tileMem c || x.dst = .tileMem c
    | .dropped r => r && t.home = .tileMem c
    | _ => t.home = .tileMem c).length

/-- Homes that `h` selects over all partitions. -/
def State.countAll (s : State) (h : Home → Bool) : Nat := ((List.finRange 16).map fun p => (s.prt p).mem.count h).sum

/-- Tiles of one GiB (R49). -/
def tilesPerGib : Nat := 16384
/-- Tiles of one 16 GiB unit of board capacity (R49). -/
def tilesPerBoard : Nat := 262144

/-- The storage held in homes that `h` selects over all partitions. -/
def State.filled (s : State) (h : Home → Bool) : Nat :=
  ((List.finRange 16).map fun p => ((s.prt p).mem.tiles.map (·.fills h)).sum).sum

/-- The tiles of a partition homed where `h` selects. -/
def Memory.homed (m : Memory) (h : Home → Bool) : Nat := (m.tiles.filter (·.homed h)).length

/-- The allocatable tiles of a stack in service: 1,556,480 over six stacks (Table 7-1; log entry 7). -/
def State.stackCap (s : State) (k : StackNo) : Nat :=
  if s.tier.stkFail.getLsbD k.val then 0 else 259413 + bnat (k.val < 2)

/-- The allocatable stacked capacity in service. -/
def State.stackedCap (s : State) : Nat := ((List.finRange 6).map s.stackCap).sum

/-- The floors assigned, in tiles. -/
def State.floors (s : State) : Nat :=
  ((List.finRange 16).map fun p => if (s.life p).st.holds then (s.life p).floorAct.toNat * tilesPerGib else 0).sum

/-- TIER_POOL_SIZE. -/
def State.poolSize (s : State) : Nat := s.stackedCap - s.floors

/-- TIER_POOL_FREE. -/
def State.poolFree (s : State) : Nat := s.poolSize - s.countAll Home.inPool

/-- The partition's floor has room. -/
def State.floorRoom (s : State) (p : Pid) : Bool :=
  (s.prt p).mem.count Home.inFloor < (s.life p).floorAct.toNat * tilesPerGib

/-- The cores of a partition, in relative order (chapter 2, "Operands"). -/
def State.coresOf (s : State) (p : Pid) : List Core :=
  (List.finRange 64).filter fun c => (s.life p).quadsAct.getLsbD (c.val / 4)

/-- The absolute core of relative core `r`. -/
def State.absCore (s : State) (p : Pid) (r : Nat) : Option Core := (s.coresOf p)[r]?

/-- The quad of a core. -/
def quadOf (c : Core) : Quad := ⟨c.val / 4, by omega⟩

/-- The quads a partition holds. -/
def State.quadsOf (s : State) (p : Pid) : List Quad := (List.finRange 16).filter fun q => s.quads[q].owner = some p

/-- The quad's tile memory can be reached now: the quad runs, for the partition or for an access (R66, R495). -/
def State.memUp (s : State) (q : Quad) : Bool := s.quads[q].st = .run

/-- The home can be reached now. -/
def State.homeUp (s : State) : Home → Bool
  | .tileMem c => s.memUp (quadOf c)
  | _ => true

/-- R204: the home is on a failed stack: a tile with data there fails at its next access. -/
def State.failedHome (s : State) : Home → Bool
  | .stacked k _ => s.tier.stkFail.getLsbD k.val
  | _ => false

/-! ### Placement (R189, R190, R193) -/

/-- R193: the stack for tile number `t`: S(t mod 6), else the next with room. -/
def State.pickStack (s : State) (t : TileNo) (skip : Option StackNo) : Option StackNo :=
  (List.range 6).findSome? fun i =>
    let k : StackNo := ⟨(t + i) % 6, Nat.mod_lt _ (by omega)⟩
    if some k != skip && s.countAll (Home.inStack k) < s.stackCap k then some k else none

/-- R190: `a` goes before `b` as a victim. -/
def victimBefore (a b : Pid × Tile × Nat) : Bool :=
  let (p, x, hx) := a
  let (q, y, hy) := b
  if x.age != y.age then y.age.toNat < x.age.toNat
  else if hx != hy then hx < hy
  else if p != q then p.val < q.val
  else x.num < y.num

/-- The pool tiles a placement may evict: RESIDENT, ZERO or POISONED, of no RETAINED partition, with their hint rank. -/
def State.poolTiles (s : State) : List (Pid × Tile × Nat) :=
  (List.finRange 16).flatMap fun p =>
    if (s.life p).st = .retained then []
    else ((s.prt p).mem.tiles.filter fun t => t.home.inPool && !t.isMoving && !t.isDropped).map fun t =>
      (p, t, match (s.prt p).mem.objOf t.num with
        | some o => if o.hint = 2 then 1 else 0
        | none => 0)

/-- The first victim in the order of R190. -/
def State.victim (s : State) (minAge : Nat) : Option (Pid × TileNo) :=
  let c := s.poolTiles.filter fun x => minAge ≤ x.2.1.age.toNat
  match c with
  | [] => none
  | x :: r =>
    let v := r.foldl (fun b y => if victimBefore y b then y else b) x
    some (v.1, v.2.1.num)

/-- Where a placement goes, and the pool tile it must evict first; no home where it finds no space (R204). -/
structure Place where
  home  : Option Home
  evict : Option (Pid × TileNo)

/-- The board sectors in use, and those that moves under way will take at most. -/
def State.boardUsed (s : State) : Nat :=
  ((List.finRange 16).map fun p => ((s.prt p).mem.tiles.map fun t =>
    match t.st with
    | .moving m => t.sectors + (if m.dst.isBoard then 64 else 0)
    | _ => t.sectors).sum).sum

/-- R198, R204: the board tier has room for a tile; only a failed channel can leave it without. -/
def State.boardRoom (s : State) : Bool :=
  s.tier.ddrFail = 0 || s.boardUsed + 64 ≤ s.tier.boardInst.toNat * 2 ^ 24

/-- A placement in the board tier. -/
def State.toBoard (s : State) : Place := ⟨if s.boardRoom then some .board else none, none⟩

/-- R189, R190: place a tile that wants stacked DRAM; `may`: the placement may evict under R190 (OBJ_DEFINE may not). -/
def State.placeStacked (s : State) (p : Pid) (t : TileNo) (may : Bool) (skip : Option StackNo) : Place :=
  let k := s.pickStack t skip
  let at_ (pool : Bool) : Option Home := some (.stacked (k.getD ⟨t % 6, Nat.mod_lt _ (by omega)⟩) pool)
  if s.floorRoom p then
    if s.countAll Home.inStacked < s.stackedCap then ⟨at_ false, none⟩
    else match s.victim 0 with
      | some v => ⟨at_ false, some v⟩
      | none => s.toBoard
  else if (s.life p).timingAct then s.toBoard
  else if s.countAll Home.inPool < s.poolSize then ⟨at_ true, none⟩
  else if may then
    match s.victim s.tier.poolAge.toNat with
    | some v => ⟨at_ true, some v⟩
    | none => s.toBoard
  else s.toBoard

/-- Table 2-3: the home a hint gives a tile that is not pinned. -/
def State.placeByHint (s : State) (p : Pid) (hint : BitVec 3) (t : TileNo) (may : Bool) : Place :=
  if hint = 0 || hint = 2 then s.placeStacked p t may none else s.toBoard

/-! ### Moves (R185 to R188) -/

/-- The tile takes a home now: its age there runs from now (R192), and in the board tier its sectors follow its contents, or
are 64 for a SPILL (`raw`). -/
def State.settle (s : State) (p : Pid) (t : TileNo) (h : Home) (raw : Bool) : State :=
  let cells := tileCells (s.prt p).mem.bytes t
  s.modTile p t fun x =>
    { x with
      home := h, age := 0, boardAt := s.pwr.clk, raw := raw && h.isBoard,
      sectors := if h.isBoard && x.st = .resident then (if raw then 64 else max 1 (min 64 (Config.boardSectors cells))) else 0 }

/-- R185, R187: choose a move. A RESIDENT tile enters MOVING; a ZERO or POISONED tile changes its home at once; any other is not
chosen. -/
def State.startMove (s : State) (p : Pid) (t : TileNo) (dst : Home) (cause : MoveCause) : State :=
  match s.tile? p t with
  | none => s
  | some x =>
    match x.st with
    | .resident => s.modTile p t fun x => { x with st := .moving ⟨dst, cause, false, false⟩ }
    | .zero | .poisoned => s.modTile p t fun x => { x with home := dst, age := 0, boardAt := s.pwr.clk, sectors := 0, raw := false }
    | _ => s

/-- A 32-bit performance counter steps by one; a wrap sets its bit of TNT_PERF_WRAP and may signal (R481). -/
def State.perfWrap (s : State) (fn : Fn) (bit : Nat) : State :=
  let f := s.fnSt fn
  if f.perfWrap.getLsbD bit then s
  else
    let s := s.modFn fn fun f => { f with perfWrap := f.perfWrap ||| BitVec.ofNat 18 (2 ^ bit) }
    if f.perfIrqEn then s.msix fn f.perfVec else s

/-- The first tile of an instance of a plan. -/
def Plan.instBase (P : Plan) (r : PlanRec) (mb : Nat) : TileNo := P.base + mb * P.mbStride + r.tileOff

/-- The instance that holds a tile, with its record and the tile's place in it. -/
def Scarab.instOf (S : Scarab) (t : TileNo) : Option (Inst × PlanRec × Nat) :=
  match S.plan with
  | none => none
  | some P =>
    S.insts.findSome? fun x =>
      match P.recs[x.rec_]? with
      | some r =>
        let b := P.instBase r x.mb
        if b ≤ t && t < b + r.tiles then some (x, r, t - b) else none
      | none => none

/-- Change the Scarab part of a partition. -/
def State.modScb (s : State) (p : Pid) (f : Scarab → Scarab) : State := s.modPrt p fun P => { P with scb := f P.scb }

/-- The entry of an instance. -/
def Inst.is (x : Inst) (rec_ mb : Nat) : Bool := x.rec_ = rec_ && x.mb = mb

/-- Change an instance. -/
def State.modInst (s : State) (p : Pid) (rec_ mb : Nat) (f : Inst → Inst) : State :=
  s.modScb p fun S => { S with insts := S.insts.map fun x => if x.is rec_ mb then f x else x }

/-- R228: one demotion is counted. -/
def State.countDemotion (s : State) (p : Pid) : State :=
  let was := (s.prt p).scb.demoteCnt
  let s := s.modScb p fun S => { S with demoteCnt := S.demoteCnt + 1 }
  if was = onesOf 32 then s.perfWrap (.vf p) 3 else s

/-- R228: a STACK instance any of whose tiles is evicted becomes a lossless SQUEEZE. -/
def State.evictedInst (s : State) (p : Pid) (t : TileNo) : State :=
  match (s.prt p).scb.instOf t with
  | some (x, _, _) =>
    if x.disp = .stack then
      (s.modInst p x.rec_ x.mb fun y => { y with disp := .squeeze, lossless := true }).countDemotion p
    else s
  | none => s

/-- R190: evict a pool tile to the board tier. -/
def State.evict (s : State) (v : Pid × TileNo) : State :=
  let was := (s.prt v.1).mem.cnt.evicted
  let s := (s.startMove v.1 v.2 .board .eviction).evictedInst v.1 v.2
  let s := s.modMem v.1 fun m => { m with cnt := { m.cnt with evicted := m.cnt.evicted + 1 } }
  if was = onesOf 32 then s.perfWrap (.vf v.1) 0 else s

/-- Choose a move to where a placement goes, evicting first where it must. -/
def State.moveTo (s : State) (p : Pid) (t : TileNo) (pl : Place) (cause : MoveCause) : State :=
  let s := match pl.evict with
    | some v => s.evict v
    | none => s
  match pl.home with
  | some h => s.startMove p t h cause
  | none => s

/-! ### Accesses -/

/-- R44, R55, R221: the tile's object, unless its release or close has been accepted; `old`: the access was accepted before. -/
def Memory.reach (m : Memory) (old : Bool) (t : TileNo) : Bool :=
  match m.objOf t, m.tile? t with
  | some o, some x => old || (o.releasing.isNone && !x.closing)
  | _, _ => false

/-- R44, R203: the tile at which an access to a range ends, and how: the first outside every object, else the first POISONED. -/
def Memory.deny (m : Memory) (old : Bool) (ts : List TileNo) : Option (Status × W32) :=
  match ts.find? fun t => !m.reach old t with
  | some t => some (.accessFault, BitVec.ofNat 32 t)
  | none => ts.findSome? fun t => match m.tile? t with
    | some x => if x.st = .poisoned then some (.poisoned, BitVec.ofNat 32 t) else none
    | none => none

/-- R187: some tile of the range is MOVING, so an access to it waits. -/
def Memory.anyMoving (m : Memory) (ts : List TileNo) : Bool :=
  ts.any fun t => match m.tile? t with
    | some x => x.isMoving
    | none => false

/-- Every home of the range can be reached now. -/
def State.rangeUp (s : State) (p : Pid) (ts : List TileNo) : Bool :=
  ts.all fun t => match s.tile? p t with
    | some x => s.homeUp x.home && !(x.st = .resident && s.failedHome x.home)
    | none => true

/-- An access may be made now: nothing of the range is MOVING or lies in a sleeping quad. -/
def State.canAccess (s : State) (p : Pid) (ts : List TileNo) : Bool := !(s.prt p).mem.anyMoving ts && s.rangeUp p ts

/-- Accesses that arrive while their tile is MOVING are counted (TNT_MOVE_WAIT_CNT). -/
def State.countWaits (s : State) (p : Pid) (ts : List TileNo) : State :=
  let n := (ts.filter fun t => (s.prt p).mem.anyMoving [t]).length
  let was := (s.prt p).mem.cnt.moveWait
  let s := s.modMem p fun m => { m with cnt := { m.cnt with moveWait := m.cnt.moveWait + BitVec.ofNat 32 n } }
  if 2 ^ 32 ≤ was.toNat + n then s.perfWrap (.vf p) 1 else s

/-- An access to a quad that an access wake runs keeps it awake (R493). -/
def State.touchQuad (s : State) : Home → State
  | .tileMem c => s.modQuad (quadOf c) fun q => { q with access := q.access.map fun _ => s.pwr.clk }
  | _ => s

/-- What an access does to a tile beyond its data: its age (R191, R192), its quad's wake, read-ahead data that a write discards
(R200), and the traffic of its home (Table 17-2). -/
def State.touch (s : State) (p : Pid) (t : TileNo) (n : Nat) (write : Bool) : State :=
  match s.tile? p t with
  | none => s
  | some x =>
    let pj := if x.home.inStacked then 32 * n
      else if x.home.isBoard then 120 * 1024 * x.sectors * (if write then 2 else 1) else 0
    let s := (s.modTile p t fun x => { x with age := 0, boardAt := s.pwr.clk }).touchQuad x.home
    let s := if write then s.modMem p fun m => { m with staged := m.staged.filter (·.tile != t) } else s
    s.sharedEnergy p pj

/-- A stored write leaves ZERO and DROPPED behind (Table 7-3), and its run-ahead tag is that of the writer (R124). -/
def Tile.written (x : Tile) (tag : Option Epoch) : Tile :=
  { x with st := (match x.st with | .zero | .dropped _ => .resident | o => o), tag := tag }

/-- R197: a board tile's sectors after a store. -/
def State.resize (s : State) (p : Pid) (t : TileNo) : State :=
  let cells := tileCells (s.prt p).mem.bytes t
  s.modTile p t fun x =>
    if x.home.isBoard && x.st = .resident && !x.raw then { x with sectors := max 1 (min 64 (Config.boardSectors cells)) } else x

/-- Write bytes at a TA of a partition. Every tile of the range is defined and neither poisoned nor MOVING. -/
def State.store (s : State) (p : Pid) (ta : Nat) (b : Bytes) (tag : Option Epoch) : State :=
  let ts := tilesOf ta b.length
  let s := s.modMem p fun m => { m with bytes := writeBytes m.bytes ta b }
  let s := ts.foldl (fun s t => (s.modTile p t (·.written tag)).touch p t b.length true) s
  ts.foldl (fun s t => s.resize p t) s

/-- Read bytes at a TA of a partition. -/
def State.load (s : State) (p : Pid) (ta n : Nat) : Bytes := readBytes (s.prt p).mem.bytes ta n

/-- The state after a read. -/
def State.loaded (s : State) (p : Pid) (ta n : Nat) : State :=
  (tilesOf ta n).foldl (fun s t => s.touch p t (min n tileBytes) false) s

/-! ### Accesses in flight (R55, R187) -/

/-- A span of tiles covers a tile. -/
def spanHas (t : TileNo) (x : TileNo × Nat) : Bool := x.1 ≤ t && t < x.1 + x.2

/-- The tiles of [ta, ta + n) as a span. -/
def spanOf (ta n : Nat) : TileNo × Nat := (tileOf ta, (tilesOf ta n).length)

/-- The tiles of partition `p` that a Mover descriptor has access to; `oper`: its TA operands name their partition (R352). -/
def Desc.touches (d : Desc) (oper : Bool) (p : Pid) : List (TileNo × Nat) :=
  let n := d.len.toNat
  let one (v : W64) : List (TileNo × Nat) :=
    if !oper then [spanOf v.toNat n] else if bitsOf v.toNat 48 5 = p.val then [spanOf (v.toNat % 2 ^ 48) n] else []
  (if d.kind = 1 || d.kind = 2 then one d.src else []) ++ (if d.kind = 0 || d.kind = 2 then one d.dst else [])

/-- The tiles of partition `p` that a transfer in execution of a ring has access to. -/
def DescRun.touches (d : DescRun) (fn : Fn) (p : Pid) : List (TileNo × Nat) :=
  if d.ended.isSome then [] else match fn with
    | .pf => d.desc.touches true p
    | .vf q => if q = p then d.desc.touches false p else []

/-- Every span that accepted work of a partition holds: commands, list operations, stream MOVs and Mover descriptors. -/
def State.spansOf (s : State) (p : Pid) : List (TileNo × Nat) :=
  let P := s.prt p
  (P.rings.toList.flatMap fun R => R.cmds.flatMap fun k =>
    k.spans ++ match k.run with
      | some r => r.active.flatMap fun a => a.spans ++ match a.desc with
        | some d => d.touches (.vf p) p
        | none => []
      | none => [])
    ++ (s.op.rings.toList.flatMap fun R => R.cmds.flatMap fun k => match k.run with
      | some r => r.active.flatMap fun a => match a.desc with
        | some d => d.touches .pf p
        | none => []
      | none => [])
    ++ (P.cores.toList.flatMap fun c => c.units.toList.flatMap fun u => u.movs.flatMap fun m =>
      [spanOf m.src.toNat (64 * m.lines), spanOf m.dst.toNat (64 * m.lines)])
    ++ (s.chans.toList.flatMap fun c => match c.ring, c.run with
      | some r, some d => d.touches r.fn p
      | _, _ => [])

/-- Accepted work of a partition has access to a tile of the range. -/
def State.busySpan (s : State) (p : Pid) (base n : Nat) : Bool :=
  (s.spansOf p).any fun x => x.1 < base + n && base < x.1 + x.2

/-! ### Poison (R202) -/

/-- TNT_TIER_ERR_CNT and the latch of the first tile poisoned since it was read. -/
def Memory.countError (m : Memory) (t : TileNo) : Memory :=
  { m with cnt := { m.cnt with
    errCnt := satAdd m.cnt.errCnt 1,
    poisonTa := if m.cnt.poisonValid then m.cnt.poisonTa else BitVec.ofNat 48 (t * tileBytes),
    poisonValid := true } }

/-- R202: a tile becomes POISONED at its home: its contents are gone, its sectors freed, TILE_POISONED is posted. -/
def State.poison (s : State) (p : Pid) (t : TileNo) (cause unit_ : Nat) (moving : Bool) : State :=
  let s := s.modMem p fun m => { m with bytes := clearBytes m.bytes (t * tileBytes) ((t + 1) * tileBytes) }
  let s := s.modTile p t fun x => { x with st := .poisoned, sectors := 0, raw := false }
  let s := s.modMem p fun m => m.countError t
  s.postPart p 0x0101 (cause % 256 + 256 * (unit_ % 256) + 65536 * bnat moving) (t * tileBytes)

/-- R205: a tile becomes ZERO and frees its sectors. -/
def State.zeroTile (s : State) (p : Pid) (t : TileNo) : State :=
  let s := s.modMem p fun m => { m with bytes := clearBytes m.bytes (t * tileBytes) ((t + 1) * tileBytes) }
  s.modTile p t fun x => { x with st := .zero, sectors := 0, raw := false, clearAfter := false, tag := none }

/-! ### Writes in pieces -/

/-- What an operation writes: bytes at TAs. -/
abbrev Writes := List (Nat × Bytes)

/-- Write many pieces, each inside one tile: their bytes, then the tiles' states, ages, traffic and sectors. -/
def State.storeAll (s : State) (p : Pid) (ws : Writes) (tag : Option Epoch) (dead : Bool) : State :=
  let ts := (ws.map fun w => tileOf w.1).eraseDups
  if dead then ts.foldl (fun s t => s.zeroTile p t) s
  else
    let s := s.modMem p fun m => { m with bytes := ws.foldl (fun b w => writeBytes b w.1 w.2) m.bytes }
    ts.foldl (fun s t =>
      let n := (ws.filter fun w => tileOf w.1 = t).foldl (fun n w => n + w.2.length) 0
      ((s.modTile p t (·.written tag)).touch p t n true).resize p t) s

/-- R11, R139: outputs after an error hold data without valid content: each piece is left, or holds free bytes. -/
def State.spoil (s : State) (p : Pid) (ws : Writes) (tag : Option Epoch) (dead : Bool) : State :=
  ws.foldl (fun s w =>
    let hit := (s.free 1).toNat = 1
    let s := s.took
    if hit then
      let b := leBytes w.2.length (s.free (8 * w.2.length)).toNat
      s.took.storeAll p [(w.1, b)] tag dead
    else s) s

/-- A tile as one piece of a write. -/
def wholeTile (t : TileNo) : Nat × Bytes := (t * tileBytes, List.replicate tileBytes 0)

/-- R6: the contents of tiles become undefined data of the partition. -/
def State.spoilTiles (s : State) (p : Pid) (ts : List TileNo) : State := s.spoil p (ts.map wholeTile) none false

end Sys2Proof.Machine
end

