-- ==== Sys2Proof/Machine/Quads.lean ====
section
/-! DEFINITION. Machine/Quads.lean: quads asleep and awake, and the work that keeps a partition awake (chapter 18, R493 to R496). -/

namespace Sys2Proof.Machine

/-- Some tile is homed in the quad's tile memory. -/
def State.quadHomes (s : State) (p : Pid) (q : Quad) : Bool := (s.prt p).mem.tiles.any fun t => t.uses (Home.onQuad q) + t.fills (Home.onQuad q) != 0

/-- R492, and the READY sleep target of R493. -/
def State.sleepTarget (s : State) (p : Pid) (q : Quad) : QState :=
  let L := s.life p
  let byDepth : QState :=
    if L.deepest = 0 then .nap
    else if L.deepest = 1 then .doze
    else if L.retainSram then .offr
    else if s.quadHomes p q then .doze else .off
  match L.st with
  | .suspended => .nap
  | .ready => if s.quadHomes p q then byDepth else .off
  | _ => byDepth

/-- R493: the quad is told to run. An entry under way is abandoned (R494). -/
def QuadState.wake (q : QuadState) : QuadState :=
  if q.st = .run then { q with toward := none, access := none } else { q with toward := some .run, access := none }

/-- R493, R496: wake every quad of a partition. -/
def State.wakeQuads (s : State) (p : Pid) : State :=
  (s.quadsOf p).foldl (fun s q => s.modQuad q QuadState.wake) s

/-- Put one quad of a partition to sleep, if it runs. -/
def State.sleepQuad (s : State) (p : Pid) (q : Quad) : State :=
  let t := s.sleepTarget p q
  s.modQuad q fun x => if x.st = .run || x.toward = some .run then { x with toward := some t, access := none } else x

/-- R493: every quad of a partition enters its sleep state. -/
def State.sleepQuads (s : State) (p : Pid) : State := (s.quadsOf p).foldl (fun s q => s.sleepQuad p q) s

/-- R89, R496: a wake event. NAPPING returns to RUNNING with cause 3; the quads of a DETACHED or RETAINED partition wake without a
change of its state. -/
def State.wakePartition (s : State) (p : Pid) : State :=
  match (s.life p).st with
  | .napping => (s.setPState p .running 3).wakeQuads p
  | .running | .detached => s.wakeQuads p
  | _ => s

/-- The idle time starts again (Table 1-5). -/
def State.busyNow (s : State) (p : Pid) : State := s.modLife p fun L => { L with idleSince := none }

/-- As `busyNow`, for the partition of a function. -/
def State.busyFn (s : State) : Fn → State
  | .pf => s
  | .vf p => s.busyNow p

/-! ### Work (Table 1-5, R160, R349, R375) -/

/-- R382: 1 a host read, 2 a host write, 3 a flushing read. -/
def HostWait.code : HostWait → Nat
  | .read => 1
  | .write => 2
  | .flush => 3

/-- A descriptor in execution that needs the host next: its data, or its flushing read. -/
def DescRun.hostWait (d : DescRun) : Option Nat :=
  if d.flushAt.isSome then some 3
  else if d.ended.isSome then none
  else if d.desc.kind = 0 then some 1
  else if d.desc.kind = 1 then some 2
  else none

/-- What an operation of a lost function waits for at the host. -/
def ActiveOp.hostWait (a : ActiveOp) : Option Nat :=
  match a.wait with
  | some w => some w.code
  | none => a.desc.bind DescRun.hostWait

/-- The command waits for nothing but the host of a lost function (R375), or its operations are MB_RECVs, which hold no quad awake. -/
def Cmd.dormant (k : Cmd) (lost : Bool) : Bool :=
  (lost && match k.stage with
    | .preFlush _ | .postFlush _ _ _ => true
    | _ => k.wait.isSome)
  || match k.run with
    | some r => !r.active.isEmpty && r.active.all fun a => a.op.lop = 0x81 || (lost && a.hostWait.isSome)
    | none => false

/-- Entries handed over and not consumed. -/
def Ring.queued (R : Ring) : Bool :=
  (R.isKind 0 || R.isKind 2) && R.state != .disabled && R.state != .error && !R.rebased && R.dev != R.sw

/-- A stream unit that executes. -/
def StreamUnit.works (u : StreamUnit) : Bool := u.st = .running || u.st = .loading || !u.movs.isEmpty

/-- The partition has queued or in-flight work. -/
def State.hasWork (s : State) (p : Pid) : Bool :=
  let P := s.prt p
  P.rings.toList.any (fun R => (R.queued && !s.lost (.vf p)) || R.cmds.any fun k => !k.dormant (s.lost (.vf p)))
    || P.cores.toList.any (fun c => c.busy || c.units.toList.any StreamUnit.works)
    || !P.scb.injected.isEmpty
    || s.chans.toList.any (fun c => match c.ring with
        | some (.vf q _) => q = p && (c.st = .running || c.st = .paced)
            && !(s.lost (.vf p) && c.run.any fun d => d.hostWait.isSome)
        | _ => false)

/-- Nothing has been queued or in flight for `us` µs. -/
def State.idleFor (s : State) (p : Pid) (us : Nat) : Bool :=
  !s.hasWork p && match (s.life p).idleSince with
    | some t => us * 1000 ≤ s.since t
    | none => false

/-- What a tick of the timer records of idleness. -/
def State.noteIdle (s : State) (p : Pid) : State :=
  let w := s.hasWork p
  s.modLife p fun L => { L with idleSince := if w then none else some (L.idleSince.getD s.pwr.clk) }

end Sys2Proof.Machine
end

