-- ==== Sys2Proof/Machine/Channels.lean ====
section
/-! DEFINITION. Machine/Channels.lean: what rings, partitions and the Mover share: a channel's binding, halt and writeback
(Tables 12-3 and 12-5), and the delivery of held meter records (R378, R475). -/

namespace Sys2Proof.Machine

/-! ### Mover channels -/

/-- Channel states that hold a ring. -/
def Channel.bound (c : Channel) : Bool := c.st != .free

/-- The channel bound to a ring. -/
def State.chanOf (s : State) (r : RingId) : Option MovNo :=
  (List.finRange 32).find? fun m => s.chans[m].bound && s.chans[m].ring = some r

/-- The channels a function holds, HALTED ones included (TNT_MV_HELD). -/
def State.chansHeld (s : State) (fn : Fn) : Nat :=
  ((List.finRange 32).filter fun m => s.chans[m].bound && s.chans[m].ring.map (·.fn) = some fn).length

/-- MOV_QUOTA of a function. -/
def State.quotaOf (s : State) : Fn → Nat
  | .pf => (s.movQuota[16]).toNat
  | .vf p => (s.movQuota[p.val]'(by omega)).toNat

/-- R327: a Mover ring may be enabled: a channel of its own is not HALTED, the quota has room, a channel is FREE. -/
def State.canBind (s : State) (r : RingId) : Bool :=
  (s.chanOf r).isNone && s.chansHeld r.fn < s.quotaOf r.fn && (List.finRange 32).any fun m => !s.chans[m].bound

/-- R327: bind the lowest-numbered FREE channel; MV_BYTES := 0. -/
def State.bindChan (s : State) (r : RingId) : State :=
  match (List.finRange 32).find? fun m => !s.chans[m].bound with
  | none => s
  | some m =>
    (s.modChan m fun _ => { Channel.reset with st := .idle, ring := some r }).modRing r fun R =>
      { R with mv := { R.mv with bytes := 0 } }

/-- MOVER_HALTED (Table 12-11). -/
def State.postHalted (s : State) (r : RingId) (m : MovNo) (cause : Nat) : State :=
  s.post r.fn ⟨0x0501, r.fn.source, BitVec.ofNat 32 (r.num + 256 * m.val + 65536 * cause), 0⟩

/-- R345: halt a bound channel. MV_BYTES and the ring's indices hold undefined values from then on: free values. -/
def State.haltChan (s : State) (m : MovNo) (cause : Nat) : State :=
  match s.chans[m].ring with
  | none => s
  | some r =>
    let b := s.free 32
    let s := s.took
    let d := s.free 17
    let s := s.took
    let e := s.free 17
    let s := s.took
    let idx (v : BitVec 17) : Idx := ⟨v.getLsbD 16, v.toNat % 65536⟩
    let s := s.modChan m fun c => { c with st := .halted, run := none, chain := none }
    let s := s.modRing r fun R =>
      { R with state := .disabled, dev := idx d, sw := idx e, mv := { R.mv with bytes := b } }
    s.postHalted r m cause

/-- R346: a HALTED channel returns to FREE; MV_BYTES reads 0. -/
def State.freeChan (s : State) (m : MovNo) : State :=
  match s.chans[m].ring with
  | none => s
  | some r =>
    (s.modChan m fun _ => Channel.reset).modRing r fun R => { R with mv := { R.mv with bytes := 0 } }

/-- R344: partition reset, SCRUBBING or COMMIT for a leftover binding: HALTED followed by RESET. -/
def State.dropChans (s : State) (p : Pid) : State :=
  (List.finRange 32).foldl (fun s m =>
    match s.chans[m].ring with
    | some (.vf q _) =>
      if q = p then (if s.chans[m].st = .halted then s.freeChan m else (s.haltChan m 2).freeChan m) else s
    | _ => s) s

/-- The descriptor in an entry (Table 12-1). -/
def descOf (b : Bytes) : Desc :=
  let d := leAt b 0 4
  { own := bitOf d 31, bad := bitOf d 30, wb := bitOf d 29, irq := bitOf d 28, cont := bitOf d 27,
    csum := BitVec.ofNat 2 (bitsOf d 25 2), flush := bitOf d 24, kind := BitVec.ofNat 4 (bitsOf d 20 4),
    tier := BitVec.ofNat 4 (bitsOf d 16 4), tag := BitVec.ofNat 16 d, len := BitVec.ofNat 32 (leAt b 4 4),
    src := BitVec.ofNat 64 (leAt b 8 8), dst := BitVec.ofNat 64 (leAt b 16 8), rsv := BitVec.ofNat 64 (leAt b 24 8) }

/-- Table 12-3: the writeback form. -/
def Desc.writeback (d : Desc) (st : Status) (done csum : Nat) (detail : W32) : Bytes :=
  leVec 2 d.tag ++ leVec 1 st.code
    ++ leBytes 1 (bnat d.flush + 2 * d.csum.toNat + 8 * bnat d.cont + 16 * bnat d.irq + 32 + 64 * bnat st.isError)
    ++ leBytes 4 done ++ leVec 8 d.src ++ leVec 8 d.dst ++ leBytes 4 csum ++ leVec 4 detail

/-- TNT_MV_BAD_CNT. -/
def State.countBad (s : State) (fn : Fn) (st : Status) : State :=
  match fn with
  | .pf => s
  | .vf p => if st.isError then s.modPrt p fun P => { P with mvBad := satAdd P.mvBad 1 } else s

/-- MV_BYTES: DONE of OK and FETCH_LATE writebacks. -/
def State.countBytes (s : State) (r : RingId) (st : Status) (done : Nat) : State :=
  if st.isError then s
  else
    let was := (s.ring r).mv.bytes.toNat
    let s := s.modRing r fun R => { R with mv := { R.mv with bytes := R.mv.bytes + BitVec.ofNat 32 done } }
    match r.fn with
    | .vf p => if 2 ^ 32 ≤ was + done then s.perfWrap (.vf p) 8 else s
    | .pf => s

/-- R330, R333: write a descriptor's writeback in place and advance the device index past it; a lost function's goes to the hold
(R373), a ring in ERROR writes none (R343). The channel takes the next descriptor or goes IDLE (Table 12-5). -/
def State.writeback (s : State) (m : MovNo) (r : RingId) (d : Desc) (st : Status) (done csum : Nat) (detail : W32) : State :=
  let R := s.ring r
  let b := d.writeback st done csum detail
  let at_ := R.base + BitVec.ofNat 64 (R.dev.idx * 32)
  let drop := R.state != .active
  let s := (s.countBad r.fn st).countBytes r st done
  let s :=
    if drop then s
    else
      let s' := if s.lost r.fn then s.hold r.fn (.moverWb r.num at_ b d.irq) else s.hostWrite r.fn at_ b
      let s' := s'.modRing r fun R => { R with dev := R.dev.next R.size, iwbDue := true }
      if s.lost r.fn then s' else s'.noteEntry r d.irq
  let s := s.modChan m fun c => { c with run := none, st := if (s.ring r).queued then .running else .idle }
  s.busyFn r.fn

/-! ### Meter records (R378, R475, R476) -/

/-- The operator meter ring can take an entry now. -/
def State.meterRing (s : State) (fn : Fn) : Option RingId :=
  match s.enabledOf fn 4 with
  | some r => if (s.ring r).state = .active && !(s.ring r).full && !s.lost fn then some r else none
  | none => none

/-- A record with its PHASE bit (Table 17-3, byte 7 bit 0). -/
def recordPhase (b : Bytes) (ph : Bool) : Bytes := b.set 7 (byteAt b 7 ||| (if ph then 1 else 0))

/-- R476: the tenant copy of a record, and TNT_MTR_LAST. -/
def State.tenantRecord (s : State) (p : Pid) (b : Bytes) : State :=
  let s := s.modPrt p fun P => { P with mtr := { P.mtr with last := b } }
  match s.meterRing (.vf p) with
  | some r => s.writeEntry r false (recordPhase b)
  | none => s.modPrt p fun P => { P with mtr := { P.mtr with lost := satAdd P.mtr.lost 1 } }

/-- The records still held. -/
def State.modMtrHold (s : State) (r : List HeldRec) : State := { s with mtr := { s.mtr with hold := r } }

/-- Write held records while the operator meter ring takes them, oldest first. -/
def flushHeldRecs : List HeldRec → State → State
  | [], s => s
  | h :: r, s =>
    match s.meterRing .pf with
    | none => s
    | some q =>
      flushHeldRecs r ((s.writeEntry q false (recordPhase h.bytes)).modMtrHold r)

/-- R378: deliver the held records, in SEQ order, while the ring has room. -/
def State.flushRecords (s : State) : State := flushHeldRecs s.mtr.hold s

end Sys2Proof.Machine
end

