-- ==== Sys2Proof/Machine/Access.lean ====
section
/-! DEFINITION. Machine/Access.lean: which accesses and requests are served: the functions' BARs (R22, R362, R517, R535, R590),
the host-line cache (R363, R372), the sled's retention (R498) and the hold of a lost function (R373). -/

namespace Sys2Proof.Machine

/-- The link takes memory requests (R367). -/
def State.linkOpen (s : State) : Bool := s.link.up && !(s.link.ideShut && !s.sec.ide)

/-- The PF's registers answer, every block of them (R517, R535). -/
def State.pfOpen (s : State) : Bool := s.linkOpen && s.boot.hostReady && s.boot.form = .normal

/-- R517, R535: the PF offsets that the running form serves. -/
def State.pfServes (s : State) (off : Nat) : Bool :=
  let sys := off < 0x10000
  let fls := 0x40000 ≤ off && off < 0x50000
  let sec := 0x50000 ≤ off && off < 0x60000
  let sbd := 0x500000 ≤ off
  s.linkOpen && s.boot.hostReady &&
    match s.boot.form with
    | .normal => true
    | .limited => sys || fls || sec || sbd
    | .recovery => sys || fls || sbd
    | .rom => off = 0 || (0x100 ≤ off && off < 0x114) || fls

/-- R362, R590: the VF of a partition is present. -/
def State.vfPresent (s : State) (p : Pid) : Bool := s.pfOpen && s.link.vfEnable && p.val + 1 ≤ s.link.numVfs

/-- Table 1-6: the VF's registers are served in full. -/
def State.vfFull (s : State) (p : Pid) : Bool :=
  s.vfPresent p && match (s.life p).st with
    | .ready | .running | .napping | .suspended => true
    | _ => false

/-- Table 1-6, R379: the attach group of the VF is served. -/
def State.vfAttach (s : State) (p : Pid) : Bool :=
  s.vfPresent p && match (s.life p).st with
    | .ready | .running | .napping | .suspended | .detached | .retained => true
    | _ => false

/-- Table 1-6: TNT_STATE is served. -/
def State.vfState (s : State) (p : Pid) : Bool := s.vfPresent p && (s.life p).st.holds

/-- The function's registers are served. -/
def State.open_ (s : State) : Fn → Bool
  | .pf => s.pfOpen
  | .vf p => s.vfFull p

/-- The package has power, and the sled is not in retention and not leaving it (R498, R553). -/
def State.sledUp (s : State) : Bool := s.pwr.pkgUp && !s.pwr.retained && s.pwr.retExit.isNone

/-- R498: an event of the host, the operator or the fabric makes the sled leave retention. -/
def State.exitRetention (s : State) : State :=
  if s.pwr.retained && s.pwr.retExit.isNone then s.modPwr fun P => { P with retExit := some s.pwr.clk } else s

/-- The context's engines and its rings' sequencers take work: a partition's by its state, the operator's until its loss (R377). -/
def State.fnWorks (s : State) : Fn → Bool
  | .pf => s.boot.hostReady && s.boot.form = .normal && s.sledUp && !s.lost .pf
  | .vf p => s.sledUp && (s.life p).working

/-- Work that has started runs on. -/
def State.fnRuns (s : State) : Fn → Bool
  | .pf => s.boot.hostReady && s.boot.form = .normal && s.sledUp
  | .vf p => s.sledUp && (s.life p).finishing

/-- The lines of a host range. -/
def hostLines (iova : W64) (n : Nat) : List W64 :=
  if n = 0 then []
  else (List.range ((iova.toNat % 64 + n - 1) / 64 + 1)).map fun i => BitVec.ofNat 64 (iova.toNat / 64 * 64 + 64 * i)

/-- R363: the lines a context holds. -/
def cacheLines : Fn → Nat
  | .pf => 1024
  | .vf _ => 960

/-- R372: a host read can be answered now: the function is reached, or the host-line cache holds every line. -/
def State.canRead (s : State) (fn : Fn) (iova : W64) (n : Nat) : Bool :=
  !s.lost fn || (hostLines iova n).all fun l => s.link.cache.contains (fn, l)

/-- The lines of a host range that a context does not hold. -/
def State.newLines (s : State) (fn : Fn) (iova : W64) (n : Nat) : List W64 :=
  (hostLines iova n).filter fun l => !s.link.cache.contains (fn, l)

/-- R363: lines enter the context's own part of the cache; the oldest lines leave it (log entry 10). -/
def State.cacheIn (s : State) (fn : Fn) (new : List W64) : State :=
  let all := s.link.cache ++ new.map fun l => (fn, l)
  let own := all.filter (·.1 = fn)
  let gone := own.take (own.length - cacheLines fn)
  { s with link := { s.link with cache := all.filter fun x => !gone.contains x } }

/-- R363: a read of entries or lists. Lines not held are fetched over the host link. A lost function's read is served from the cache
alone (R372). -/
def State.fetchLines (s : State) (fn : Fn) (iova : W64) (n : Nat) : State :=
  if s.lost fn then s
  else
    let new := s.newLines fn iova n
    (s.hostBytes fn (64 * new.length)).cacheIn fn new

/-- R86, R373: entries a function holds, and places reserved by work that has started. -/
def State.holdUsed (s : State) (fn : Fn) : Nat :=
  (s.fnSt fn).held.length
    + ((ringsOf fn).map fun r => ((s.ring r).cmds.filter fun k => !k.unstarted && !k.cancelled).length).sum
    + (s.chans.toList.filter fun c => c.run.isSome && c.ring.map (·.fn) = some fn).length

/-- R373: a lost function's work starts only with a place in the hold. -/
def State.holdRoom (s : State) (fn : Fn) : Bool := !s.lost fn || s.holdUsed fn < 4096

end Sys2Proof.Machine
end

