-- ==== Sys2Proof/Machine/Rings.lean ====
section
/-! DEFINITION. Machine/Rings.lean: the ring, doorbell, interrupt and mailbox commands (chapter 3, and the readiness rules of
chapter 4). -/

namespace Sys2Proof.Machine

/-! ### Ring configuration (R71 to R76) -/

/-- R74, Table 3-3: one write to a configuration register of a ring, at its offset in the ring's block. -/
def Ring.configure (R : Ring) (off : Nat) (v : W32) : Ring :=
  let n := v.toNat
  let locked := R.state != .disabled
  let lock (R : Ring) : Ring := { R with errFlags := R.errFlags ||| 0x10 }
  match off with
  | 0x04 => if locked then lock R else
      { R with cfgVec := BitVec.ofNat 6 (n / 2 ^ 24), cfgCq := BitVec.ofNat 6 (n / 2 ^ 16),
               cfgEngine := BitVec.ofNat 4 (n / 2 ^ 12), cfgLog := BitVec.ofNat 5 (n / 2 ^ 4), cfgKind := BitVec.ofNat 3 n }
  | 0x08 => if locked then lock R else { R with base := BitVec.ofNat 64 (R.base.toNat / 2 ^ 32 * 2 ^ 32 + n) }
  | 0x0C => if locked then lock R else { R with base := BitVec.ofNat 64 (n * 2 ^ 32 + R.base.toNat % 2 ^ 32) }
  | 0x10 => { R with iwbAddr := BitVec.ofNat 64 (R.iwbAddr.toNat / 2 ^ 32 * 2 ^ 32 + n / 8 * 8), iwbEn := bitOf n 0 }
  | 0x14 => { R with iwbAddr := BitVec.ofNat 64 (n * 2 ^ 32 + R.iwbAddr.toNat % 2 ^ 32) }
  | 0x18 => { R with irqEach := bitOf n 31, irqTime := BitVec.ofNat 15 (n / 2 ^ 16), irqCount := BitVec.ofNat 16 n }
  | 0x28 => { R with errFlags := R.errFlags &&& ~~~(BitVec.ofNat 6 n) }
  | _ => R

/-- RING_CONFIG_WRITE (R74). -/
def execRingConfigWrite (r : RingId) (off : Nat) (v : W32) (s : State) : Host.Outcome State Fault Refusal :=
  .next (if s.open_ r.fn then s.modRing r (·.configure off v) else s)

/-- Table 3-2: the classes a submission ring of the function may have. -/
def classAllowed (fn : Fn) (e : Nat) : Bool :=
  match fn with
  | .pf => e = 5 || e = 6
  | .vf _ => 1 ≤ e && e ≤ 6

/-- R71 to R73, R75, R327: the configuration of a ring may be enabled. -/
def State.validConfig (s : State) (r : RingId) : Bool :=
  let R := s.ring r
  let k := R.cfgKind.toNat
  k ≤ 5 && 4 ≤ R.cfgLog.toNat && R.cfgLog.toNat ≤ 16 && R.base.toNat % 4096 = 0 &&
    (if k = 0 then
      classAllowed r.fn R.cfgEngine.toNat && match r.sibling R.cfgCq.toNat with
        | some q => (s.ring q).isKind 1 && (s.ring q).state = .active
        | none => false
    else k = 1 || (R.cfgEngine = 0 && R.cfgCq = 0)) &&
    (!(3 ≤ k) || (s.enabledOf r.fn k).isNone) && (k != 2 || s.canBind r)

/-- Entries of a function that wait for ring number `n` are discarded (R383). -/
def State.discardHeld (s : State) (fn : Fn) (n : Nat) : State :=
  s.modFn fn fun f => { f with held := f.held.filter fun e => !e.forRing n }

/-- R506, R547: events that arose while the operator event ring could not be reached are posted in order once it is enabled. -/
def State.postKept (s : State) : State :=
  s.flash.owed.foldl (fun (s : State) (e : Event) => s.post .pf e) { s with flash := { s.flash with owed := [] } }

/-- What enabling a ring starts: held completions (R383), owed events (R93), held records (R378), a Mover channel (R327). -/
def State.ringOpened (s : State) (r : RingId) : State :=
  let k := (s.ring r).cfgKind.toNat
  let s := if k = 1 then s.drainHeld r else s.discardHeld r.fn r.num
  if k = 2 then s.bindChan r
  else if k = 4 then s.flushRecords
  else if k = 5 then (match r.fn with
    | .pf => (s.payOwed .pf r).postKept
    | fn => s.payOwed fn r)
  else s

/-- RING_ENABLE (R75): RING_CTL.EN := 1. -/
def State.ringEnable (s : State) (r : RingId) : State :=
  if !s.open_ r.fn || (s.ring r).state != .disabled then s
  else if !s.validConfig r then s.modRing r fun R => { R with errFlags := R.errFlags ||| 0x01 }
  else
    (s.modRing r fun R =>
      { R with
        state := .active, errCode := 0, dev := ⟨false, 0⟩, sw := ⟨false, 0⟩, evtSeq := 0, sinceIrq := 0, firstAt := none,
        iwbDue := false, iwbLast := none, rebased := false, dirty := false, cancels := [] }).ringOpened r

/-- RING_ENABLE. -/
def execRingEnable (r : RingId) (s : State) : Host.Outcome State Fault Refusal := .next (s.ringEnable r)

/-- Complete commands CANCELLED with STARTED clear, in order (R76, R95). -/
def State.cancelAll (s : State) (r : RingId) (ks : List Cmd) : State :=
  ks.foldl (fun s k => s.complete ⟨r, k.seq⟩ false .cancelled 0) s

/-- The unstarted commands of a ring. -/
def Ring.unstarted (R : Ring) : List Cmd := R.cmds.filter (·.unstarted)

/-- Enabled submission rings of the function name a completion ring. -/
def State.cqNamed (s : State) (q : RingId) : Bool :=
  (ringsOf q.fn).any fun t => (s.ring t).isKind 0 && (s.ring t).state != .disabled && (s.ring t).cfgCq.toNat = q.num

/-- R76, Table 3-5: EN := 0. -/
def State.ringDisable (s : State) (r : RingId) : State :=
  let R := s.ring r
  let off (s : State) : State := s.modRing r fun R => { R with state := .disabled }
  if R.state = .disabled || R.state = .stopping then s
  else if R.isKind 2 then
    match s.chanOf r with
    | some m => s.haltChan m 0
    | none => off s
  else if R.state = .error then
    s.modRing r fun R =>
      { R with state := .disabled, cmds := (R.cmds.filter (!·.unstarted)).map fun k => { k with mute := true } }
  else if R.isKind 0 then
    ((s.modRing r fun R => { R with state := .stopping }).cancelAll r R.unstarted).stopIfDone r
  else if R.isKind 1 && s.cqNamed r then s.modRing r fun R => { R with errFlags := R.errFlags ||| 0x20 }
  else off s

/-- RING_DISABLE (R76). -/
def execRingDisable (r : RingId) (s : State) : Host.Outcome State Fault Refusal :=
  .next (if s.open_ r.fn then s.ringDisable r else s)

/-- The size of one entry (Table 3-1). -/
def Ring.entrySize (R : Ring) : Nat :=
  match R.cfgKind.toNat with
  | 0 => 64 | 1 => 16 | 2 => 32 | 3 => 256 | 4 => 256 | _ => 32

/-- The index before `i`. -/
def Idx.prev (i : Idx) (n : Nat) : Idx := if i.idx = 0 then ⟨!i.wrap, n - 1⟩ else { i with idx := i.idx - 1 }

/-- RING_ENTRY_ACCESS_FAIL (R76, R77, R81, R343): a host access of a ring fails. -/
def State.ringAccessFail (s : State) (r : RingId) (what : RingAccess) : State :=
  let R := s.ring r
  let live := (R.state = .active || R.state = .stopping) && !s.lost r.fn
  let iova (i : Idx) : W64 := R.base + BitVec.ofNat 64 (i.idx * R.entrySize)
  match what with
  | .entryRead => if live && R.queued then s.ringError r 1 (iova R.dev) else s
  | .entryWrite =>
    if live && !R.isKind 0 && R.dev != ⟨false, 0⟩ then s.ringError r 2 (iova (R.dev.prev R.size)) else s
  | .indexWrite =>
    if live && R.iwbEn then s.modRing r fun R => { R with iwbEn := false, errFlags := R.errFlags ||| 0x08 } else s

/-- RING_ENTRY_ACCESS_FAIL. -/
def execRingEntryAccessFail (r : RingId) (what : RingAccess) (s : State) : Host.Outcome State Fault Refusal :=
  .next (s.ringAccessFail r what)

/-! ### Doorbells (R79, R87, R89) -/

/-- The index in a doorbell or index register. -/
def idxOf (v : W32) : Idx := ⟨v.getLsbD 16, v.toNat % 65536⟩

/-- R79: the occupancy that a doorbell value gives. -/
def Ring.claims (R : Ring) (i : Idx) : Option Nat :=
  if R.isKind 0 || R.isKind 2 then occupancy i R.dev R.size
  else if i.idx < R.size then occupancy R.dev i R.size else none

/-- R79: an invalid doorbell. -/
def State.badDoorbell (s : State) (r : RingId) (v : W32) (range : Bool) : State :=
  (s.modRing r fun R => { R with errFlags := R.errFlags ||| (if range then 0x02 else 0x04) }).post r.fn
    ⟨0x0005, r.fn.source, BitVec.ofNat 32 (r.num + (if range then 256 else 512)), v.zeroExtend 64⟩

/-- R87, R89: what an accepted software index brings about. -/
def State.doorbellEffect (s : State) (r : RingId) (was : Idx) : State :=
  let R := s.ring r
  if R.isKind 0 || R.isKind 2 then
    if R.sw = was then s
    else
      let s := s.busyFn r.fn
      match r with
      | .pf _ => s.exitRetention
      | .vf p n =>
        if (s.life p).st = .napping then
          (s.modPrt p fun P => { P with bells := P.bells ||| BitVec.ofNat 64 (2 ^ n.val) }).wakePartition p
        else s
  else if R.isKind 1 then s.drainHeld r
  else if R.isKind 4 then s.flushRecords
  else if R.isKind 5 then s.payOwed r.fn r
  else s

/-- DOORBELL_WRITE (R87): a DB_IDX write. -/
def State.doorbell (s : State) (r : RingId) (v : W32) : State :=
  let R := s.ring r
  let i := idxOf v
  if !s.open_ r.fn || s.lost r.fn || R.state != .active then s
  else if R.size ≤ i.idx then s.badDoorbell r v true
  else match R.claims i with
    | none => s.badDoorbell r v false
    | some _ => (s.modRing r fun R => { R with sw := i }).doorbellEffect r R.sw

/-- DOORBELL_WRITE. -/
def execDoorbellWrite (r : RingId) (v : W32) (s : State) : Host.Outcome State Fault Refusal := .next (s.doorbell r v)

/-! ### The command header (R84, Tables 3-6 to 3-8) -/

/-- FLAGS bits of Table 3-7 as a number: FENCE 1, IRQ 2, BARRIER 4, RT 8, CHAIN 0x10, SPEC 0x20, PRIO 0x40. -/
def flagsPlain : Nat := 0x53

/-- R102 to R104, R176, R212, R249, R278, R304, R350: the flags an opcode accepts; none where it is not defined. -/
def flagsOf (fn : Fn) (cls eng opc : Nat) (rtEn : Bool) : Option Nat :=
  let oper := fn = .pf
  if eng = 0 then
    if opc = 1 then some (if oper then flagsPlain else flagsPlain + 4)
    else if opc = 2 then some flagsPlain
    else if 3 ≤ opc && opc ≤ 5 && !oper then some flagsPlain
    else none
  else if opc = 0x80 then
    let rt := if rtEn && (cls = 1 || cls = 2 || cls = 5) then 8 else 0
    if oper then some (flagsPlain + 0x20)
    else if cls = 3 then some (flagsPlain + 4)
    else some (flagsPlain + 4 + 0x20 + rt)
  else if cls = 4 then
    if opc = 4 then some (flagsPlain + 4)
    else if (1 ≤ opc && opc ≤ 5) || (0x40 ≤ opc && opc ≤ 0x44) then some flagsPlain
    else none
  else none

/-- R84, Table 3-8, R46: the DETAIL of the first header check that fails (log entry 11). -/
def headerDetail (fn : Fn) (cls : Nat) (rtEn : Bool) (e : Bytes) : Option W32 :=
  let h := headerOf e
  let eng := h.engine.toNat
  let opc := h.opc.toNat
  if !headerClean e then some 0x102
  else if cls != 4 && (eng = cls || eng = 4) && 0x40 ≤ opc && opc ≤ 0x43 then some 0x0B
  else if eng != 0 && eng != cls then some 0x101
  else match flagsOf fn cls eng opc rtEn with
    | none => some 0x100
    | some m =>
      if h.barId.val != 0 && !h.barrier then some 0x103
      else if (h.flags &&& ~~~(BitVec.ofNat 8 m)) != 0 then some 0x104
      else none

/-- EPOCH_COMMIT and EPOCH_REVOKE act on their epoch whatever the revoked set holds (log entry 12). -/
def Header.actsOnEpoch (h : Header) : Bool := h.engine = 0 && (h.opc = 4 || h.opc = 5)

/-- The epoch is revoked for the commands of a function (R122). -/
def State.revokedFor (s : State) (fn : Fn) (e : Epoch) : Bool :=
  match fn with
  | .pf => false
  | .vf p => (s.prt p).ep.revoked.contains e

/-- R176: the deadline of an RT command that is consumed now. -/
def RtState.deadlineAt (t : RtState) (now : Nat) : Nat :=
  let d := t.deadline.toNat * 1000
  let cur := if t.begun then t.curStart else t.start.toNat + t.shift
  if now ≤ cur + d then cur + d else cur + t.period.toNat * 1000 + d

/-! ### Consumption (R80, R84, R95, R122, R372) -/

/-- Some lower-numbered ring that woke the partition has not been acted on (R89). -/
def State.lowerBell (s : State) (r : RingId) : Bool :=
  match r with
  | .pf _ => false
  | .vf p n =>
    (List.finRange 64).any fun k =>
      k.val < n.val && (s.prt p).bells.getLsbD k.val && (s.ring (.vf p k)).queued

/-- The partition is DRAINING: what is consumed completes CANCELLED (R26). -/
def State.drains (s : State) (fn : Fn) : Bool :=
  match fn with
  | .pf => false
  | .vf p => (s.life p).st = .draining

/-- An entry of the ring may be consumed now. -/
def State.consumable (s : State) (r : RingId) : Bool :=
  let R := s.ring r
  let live := match r.fn with
    | .pf => true
    | .vf p => (s.life p).st.committed
  R.isKind 0 && R.queued && s.canRead r.fn (R.base + BitVec.ofNat 64 (64 * R.dev.idx)) 64
    && (s.drains r.fn || (live && (R.state = .stopping || !R.cancels.isEmpty))
      || (s.fnWorks r.fn && R.state = .active && !s.lowerBell r))

/-- A pending cancellation of the ring covers an entry (R94). -/
def Ring.covers (R : Ring) (tag : W16) : Bool :=
  R.cancels.any fun q => R.consumed < q.bound && (q.tag.isNone || q.tag = some tag)

/-- The command that an entry becomes. -/
def State.newCmd (s : State) (r : RingId) (e : Bytes) : Cmd :=
  let R := s.ring r
  let h := headerOf e
  let h := if h.engine = 0 then h else { h with engine := R.cfgEngine }
  { seq := R.consumed, hdr := h, operands := (e.drop 16).take 48, stage := .waiting, fenceMet := false, readyAt := none,
    promoted := false, cancelled := R.covers h.tag, revoked := false,
    deadline := match r with
      | .vf p _ => if h.rt then some ((s.prt p).rt.deadlineAt s.pwr.time.toNat) else none
      | .pf _ => none,
    missed := false, lateFetch := false, waited := false, quarAt := none, pairAt := none, wait := none, mute := false, spans := [], run := none }

/-- How a command ends at its consumption, if it does. -/
def State.consumeOutcome (s : State) (r : RingId) (k : Cmd) (e : Bytes) : Option (Status × W32) :=
  let rtEn := match r with
    | .vf p _ => (s.prt p).rt.en
    | .pf _ => false
  if (s.ring r).state = .stopping then some (.cancelled, 0)
  else if k.cancelled then none
  else match headerDetail r.fn (s.ring r).cfgEngine.toNat rtEn e with
    | some d => some (.malformed, d)
    | none =>
      if s.drains r.fn then some (.cancelled, 0)
      else if s.revokedFor r.fn k.hdr.epoch && !k.hdr.actsOnEpoch then some (.epochRevoked, 0)
      else none

/-- Clear a ring's pending bit once the device acts on the ring (R89). -/
def State.bellDone (s : State) (r : RingId) : State :=
  match r with
  | .pf _ => s
  | .vf p n => s.modPrt p fun P => { P with bells := P.bells &&& ~~~(BitVec.ofNat 64 (2 ^ n.val)) }

/-! ### Readiness and arbitration (R108 to R110) -/

/-- The command a ring would start next. -/
def Ring.head? (R : Ring) : Option Cmd := R.cmds.find? fun k => k.unstarted && !k.cancelled

/-- FENCE applies: every earlier command of the ring has completed. -/
def Ring.firstOf (R : Ring) (k : Cmd) : Bool := R.cmds.all fun j => k.seq ≤ j.seq

/-- OPC FENCE. -/
def Header.isFence (h : Header) : Bool := h.engine = 0 && h.opc = 2

/-- Table 6-9, R180: under SKIP_FRAME an RT command does not start once its deadline has come. -/
def State.skipsRt (s : State) (r : RingId) (k : Cmd) : Bool :=
  match r, k.deadline with
  | .vf p _, some d => (s.life p).pausedAt.isNone && (s.prt p).rt.policy = 1 && d ≤ s.pwr.time.toNat
  | _, _ => false

/-- Table 4-6, R109, R373: the conditions of a head command, but for FLAGS.FENCE's flushing read and the execution slot. -/
def State.conditions (s : State) (r : RingId) (k : Cmd) : Bool :=
  let R := s.ring r
  s.fnWorks r.fn && (R.state = .active || R.state = .error) && k.stage = .waiting
    && (!k.hdr.chain || R.cmds.all fun j => j.seq + 1 != k.seq)
    && (!(k.hdr.fence || k.hdr.isFence) || R.firstOf k)
    && (!s.revokedFor r.fn k.hdr.epoch || k.hdr.actsOnEpoch)
    && (R.state = .error || match r.sibling R.cfgCq.toNat with
      | some q => s.lost r.fn || !s.cqHeld q
      | none => false)
    && s.holdRoom r.fn && !s.skipsRt r k

/-- R113: the flushing read before the start is still needed. -/
def State.needsFlush (s : State) (r : RingId) (k : Cmd) : Bool := k.hdr.fence && !k.hdr.isFence && (s.ring r).dirty && !k.fenceMet

/-- Execution slots of a class (R127, R212, R249, R278, R303, R350). -/
def State.slots (s : State) (fn : Fn) (cls : Nat) : Nat :=
  match fn with
  | .pf => if cls = 5 then 2 else 8
  | .vf p =>
    match cls with
    | 1 => 16
    | 2 => (s.quadsOf p).length
    | 3 => 1
    | 4 => 4
    | 5 => 2
    | _ => 8

/-- A completion of the compute class that the device still holds (R86, R127). -/
def HeldEntry.computes : HeldEntry → Bool
  | .completion _ c => c.engine = 1 && c.started
  | .moverWb _ _ _ _ => false

/-- Slots in use: started commands, injected commands (R238), and compute completions not yet written. -/
def State.slotsUsed (s : State) (fn : Fn) (cls : Nat) : Nat :=
  let started := ((ringsOf fn).map fun r =>
    ((s.ring r).cmds.filter fun k => k.hdr.engine.toNat = cls && !k.unstarted && !k.cancelled).length).sum
  let extra := match fn with
    | .pf => 0
    | .vf p => if cls = 1 then (s.prt p).scb.injected.length
        + (if s.lost fn then 0 else ((s.fnSt fn).held.filter HeldEntry.computes).length) else 0
  started + extra

/-- The arbitration level of R110. -/
def Cmd.level (k : Cmd) : Nat := if k.hdr.rt then 1 else if k.hdr.prio || k.promoted then 3 else 4

/-- The rings of a function whose head could take a slot of a class now, with their heads. -/
def State.contenders (s : State) (fn : Fn) (cls : Nat) : List (RingId × Cmd) :=
  (ringsOf fn).filterMap fun r =>
    match (s.ring r).head? with
    | some k => if k.hdr.engine.toNat = cls && s.conditions r k && !s.needsFlush r k then some (r, k) else none
    | none => none

/-- The credit left to a ring in this round of the weighted round robin: QOS + 1 at the start of a round. -/
def State.credit (s : State) (r : RingId) (cls : Nat) (k : Cmd) : Nat :=
  match (s.fnSt r.fn).wrr.find? fun x => x.1 = cls && x.2.1 = r.num with
  | some x => x.2.2
  | none => k.hdr.qos.toNat + 1

/-- Oldest first, then the lower ring. -/
def olderOf (a b : RingId × Cmd) : RingId × Cmd :=
  let t (x : RingId × Cmd) : Nat := x.2.readyAt.getD 0
  if t b < t a || (t b = t a && b.1.num < a.1.num) then b else a

/-- R110: the ring whose head takes the next slot of a class. -/
def State.winner (s : State) (fn : Fn) (cls : Nat) : Option RingId :=
  let c := s.contenders fn cls
  let best := (c.map fun x => x.2.level).foldl min 4
  let g := c.filter fun x => x.2.level = best
  match g with
  | [] => none
  | x :: rest =>
    if best < 4 then some (rest.foldl olderOf x).1
    else match g.find? fun y => 0 < s.credit y.1 cls y.2 with
      | some y => some y.1
      | none => some x.1

/-- The credits after a level-4 start: one less for the ring that starts, in a new round where none had any left. -/
def State.spend (s : State) (r : RingId) (cls : Nat) (k : Cmd) : State :=
  if k.level != 4 then s
  else
    let left := s.credit r cls k
    let fresh := left = 0
    s.modFn r.fn fun f =>
      let kept := f.wrr.filter fun x => x.1 != cls || (!fresh && x.2.1 != r.num)
      { f with wrr := kept ++ [(cls, r.num, if fresh then k.hdr.qos.toNat else left - 1)] }

/-- R110: heads that have become ready carry the time. -/
def State.noteReady (s : State) (fn : Fn) : State :=
  (ringsOf fn).foldl (fun s r =>
    match (s.ring r).head? with
    | some k =>
      if k.readyAt.isNone && s.conditions r k && !s.needsFlush r k then
        s.modCmd ⟨r, k.seq⟩ fun k => { k with readyAt := some s.pwr.clk }
      else s
    | none => s) s

/-- COMMAND_CONSUME (R80): the device reads the next entry of a submission ring and checks its header. -/
def State.consume (s : State) (r : RingId) (e : Bytes) : State :=
  if !s.consumable r then s
  else
    let k := s.newCmd r e
    let R := s.ring r
    let out := s.consumeOutcome r k e
    let at_ := R.base + BitVec.ofNat 64 (64 * R.dev.idx)
    let s := s.fetchLines r.fn at_ 64
    let s := (s.modRing r fun R =>
      { R with
        dev := R.dev.next R.size, consumed := R.consumed + 1, iwbDue := true, cmds := R.cmds ++ [k],
        cxlCount := if k.cancelled then satAdd R.cxlCount 1 else R.cxlCount }).bellDone r
    let s := match out with
      | some (st, d) => s.complete ⟨r, k.seq⟩ false st d
      | none => s
    (s.busyFn r.fn).noteReady r.fn

/-- COMMAND_CONSUME. -/
def execCommandConsume (r : RingId) (entry : Bytes) (s : State) : Host.Outcome State Fault Refusal := .next (s.consume r entry)

/-- R303: a solver command takes the lowest-numbered idle Tiger of its partition. -/
def State.takeTiger (s : State) (c : CmdRef) : State :=
  match c.ring with
  | .pf _ => s
  | .vf p _ =>
    match (s.quadsOf p).find? fun q => s.tigers[q].isNone with
    | some q => { s with tigers := vmod s.tigers q fun _ => some c }
    | none => s

/-- COMMAND_READY_START (R108, R110): the head command of a ring starts, or issues the flushing read of FLAGS.FENCE. -/
def State.readyStart (s : State) (r : RingId) : State :=
  match (s.ring r).head? with
  | none => s
  | some k =>
    let cls := k.hdr.engine.toNat
    let c : CmdRef := ⟨r, k.seq⟩
    if !s.conditions r k then s
    else if s.needsFlush r k then s.modCmd c fun k => { k with stage := .preFlush s.pwr.clk }
    else if cls = 0 then (s.modCmd c fun k => { k with stage := .started }).noteReady r.fn
    else if s.slotsUsed r.fn cls < s.slots r.fn cls && s.winner r.fn cls = some r then
      let s := (s.spend r cls k).modCmd c fun k => { k with stage := .started }
      (if cls = 2 then s.takeTiger c else s).noteReady r.fn
    else s

/-- COMMAND_READY_START. -/
def execCommandReadyStart (r : RingId) (s : State) : Host.Outcome State Fault Refusal := .next (s.readyStart r)

/-- COMMAND_PROMOTION (R110): a level-4 command that has been ready for 1 ms without starting. -/
def State.promote (s : State) (c : CmdRef) : State :=
  match s.cmd? c with
  | some k =>
    if k.stage = .waiting && k.level = 4 && match k.readyAt with
        | some t => 1000000 ≤ s.since t
        | none => false
    then s.modCmd c fun k => { k with promoted := true } else s
  | none => s

/-- COMMAND_PROMOTION. -/
def execCommandPromotion (c : CmdRef) (s : State) : Host.Outcome State Fault Refusal := .next (s.promote c)

/-! ### Index writeback and interrupts (R81, R90, R91) -/

/-- INDEX_WRITEBACK (R81). -/
def State.indexWriteback (s : State) (r : RingId) : State :=
  let R := s.ring r
  let spaced := match R.iwbLast with
    | some t => 1000 ≤ s.since t
    | none => true
  if R.state != .disabled && R.iwbEn && R.iwbDue && !s.lost r.fn && spaced then
    (s.hostWrite r.fn R.iwbAddr (leVec 4 R.dev.word)).modRing r fun R =>
      { R with iwbDue := false, iwbLast := some s.pwr.clk }
  else s

/-- INDEX_WRITEBACK. -/
def execIndexWriteback (r : RingId) (s : State) : Host.Outcome State Fault Refusal := .next (s.indexWriteback r)

/-- IRQ_MODERATION_TIMEOUT (R90): RING_IRQ.TIME has passed since the first entry after the last interrupt. -/
def State.irqTimeout (s : State) (r : RingId) : State :=
  let R := s.ring r
  match R.firstAt with
  | some t =>
    if R.irqTime != 0 && R.irqTime.toNat * 1000 ≤ s.since t then
      (s.modRing r fun R => { R with sinceIrq := 0, firstAt := none }).msix r.fn R.cfgVec
    else s
  | none => s

/-- IRQ_MODERATION_TIMEOUT. -/
def execIrqModerationTimeout (r : RingId) (s : State) : Host.Outcome State Fault Refusal := .next (s.irqTimeout r)

/-- MSIX_UNMASK (R91): the host gives a vector its address and data, unmasks it and has MSI-X of the function enabled; a pending
message follows (log entry 13). -/
def State.msixUnmask (s : State) (fn : Fn) (v : Fin 64) (addr : W64) (data : W32) : State :=
  let was := (s.fnSt fn).msix[v].pending
  let s := s.modFn fn fun f =>
    { f with msixEn := true, msixMask := false, msix := vmod f.msix v fun _ => ⟨addr, data, false, false⟩ }
  if was then s.msix fn (BitVec.ofNat 6 v.val) else s

/-- MSIX_UNMASK. -/
def execMsixUnmask (fn : Fn) (vec : Fin 64) (addr : W64) (data : W32) (s : State) : Host.Outcome State Fault Refusal :=
  .next (s.msixUnmask fn vec addr data)

/-! ### Cancellation (R94 to R97) -/

/-- DB_CANCEL (R94): the matching unstarted commands will never start; those not yet consumed are matched at their consumption. -/
def State.dbCancel (s : State) (r : RingId) (v : W32) : State :=
  let R := s.ring r
  if !s.open_ r.fn || s.lost r.fn || !R.isKind 0 || R.state = .disabled then s
  else
    let tag : Option W16 := if v.getLsbD 31 then none else some (v.truncate 16)
    let hit (k : Cmd) : Bool := tag.isNone || tag = some k.hdr.tag
    let n := (R.cmds.filter fun k => k.unstarted && !k.cancelled && hit k).length
    let ahead := if R.state = .error then 0 else (occupancy R.sw R.dev R.size).getD 0
    s.modRing r fun R =>
      { R with
        cxlDone := false, cxlCount := satAdd 0 n, cxlSome := R.cmds.any fun k => !k.unstarted && hit k,
        cancels := R.cancels ++ [⟨tag, R.consumed + ahead⟩],
        cmds := R.cmds.map fun k => if k.unstarted && hit k then { k with cancelled := true } else k }

/-- DB_CANCEL. -/
def execDbCancel (r : RingId) (v : W32) (s : State) : Host.Outcome State Fault Refusal := .next (s.dbCancel r v)

/-- CANCEL_MATCHING_DONE (R94, R95): matching has reached the entries handed over before the write; the cancelled commands complete. -/
def State.cancelDone (s : State) (r : RingId) : State :=
  let R := s.ring r
  if R.cancels.isEmpty || R.cancels.any (fun q => R.consumed < q.bound && R.state != .error) then s
  else
    ((s.modRing r fun R => { R with cancels := [], cxlDone := true }).cancelAll r
      (R.cmds.filter fun k => k.unstarted && k.cancelled)).noteReady r.fn

/-- CANCEL_MATCHING_DONE. -/
def execCancelMatchingDone (r : RingId) (s : State) : Host.Outcome State Fault Refusal := .next (s.cancelDone r)

/-! ### Mailbox (R98 to R100) -/

/-- Change a function's mailbox. -/
def State.modMail (s : State) (fn : Fn) (f : Mailbox → Mailbox) : State := s.modFn fn fun x => { x with mail := f x.mail }

/-- R98: the MB_ERR bits that an inbound header earns. -/
def mailHeaderErr (fn : Fn) (b : Bytes) : BitVec 3 :=
  let bad := bitsOf (byteAt b 0).toNat 4 3 != 0 || 248 < (byteAt b 1).toNat || leAt b 6 2 != 0
  let noDest := fn = .pf && bitsOf (byteAt b 0).toNat 0 4 != 0
  BitVec.ofNat 3 (2 * bnat bad + 4 * bnat noDest)

/-- MAILBOX_ERROR. -/
def State.mailError (s : State) (fn : Fn) (bits : BitVec 3) (slot : SlotNo) : State :=
  (s.modMail fn fun m => { m with err := m.err ||| bits }).post fn
    ⟨0x0006, fn.source, BitVec.ofNat 32 (bits.toNat + 256 * slot.val), 0⟩

/-- MB_IN_POST (R98, R89). -/
def State.mailPost (s : State) (fn : Fn) (v : W32) : State :=
  let i : SlotNo := ⟨v.toNat % 16, Nat.mod_lt _ (by omega)⟩
  let m := (s.fnSt fn).mail
  if !s.open_ fn || (fn != .pf && s.lost fn) then s
  else if m.inOwn.getLsbD i.val then s.mailError fn 1 i
  else
    let err := mailHeaderErr fn m.inSlots[i]
    if err != 0 then
      ((s.modMail fn fun m => { m with inOwn := setBit m.inOwn i true }).mailError fn err i).freeInSlot fn i
    else
      let s := s.modMail fn fun m => { m with inOwn := setBit m.inOwn i true, posted := m.posted ++ [i] }
      match fn with
      | .vf p => if (s.life p).st = .napping then s.wakePartition p else s
      | .pf => s

/-- MB_IN_POST. -/
def execMbInPost (fn : Fn) (v : W32) (s : State) : Host.Outcome State Fault Refusal := .next (s.mailPost fn v)

/-- MB_OUT_RELEASE (R100): a write to MB_OUT_VALID. -/
def execMbOutRelease (fn : Fn) (v : W32) (s : State) : Host.Outcome State Fault Refusal :=
  .next (if s.open_ fn then s.modMail fn fun m => { m with outValid := m.outValid &&& ~~~(v.truncate 16) } else s)

/-- R99: the next service message that may be answered: the first in POST order, once no reply waits for room. -/
def State.serviceMsg (s : State) (fn : Fn) : Option (SlotNo × Bytes) :=
  let m := (s.fnSt fn).mail
  if m.waiting.any fun w => w.slot.isSome then none
  else match m.posted.find? fun i => bitsOf (byteAt m.inSlots[i] 0).toNat 0 4 = 0 with
    | some i => some (i, m.inSlots[i])
    | none => none

/-- R99, R100: a service reply is placed, and its request consumed; or it waits for room. -/
def State.reply (s : State) (fn : Fn) (i : SlotNo) (typ : W16) (payload : Bytes) : State :=
  let m : OutMsg := ⟨0, typ, payload, some i, none⟩
  if s.canSend fn && (s.fnSt fn).mail.waiting.isEmpty then (s.placeMsg fn m).freeInSlot fn i
  else s.modMail fn fun b => { b with waiting := b.waiting ++ [m] }

/-- The TYPE of a message. -/
def msgType (b : Bytes) : W16 := BitVec.ofNat 16 (leAt b 2 2)

/-- SERVICE_PING (R99, Table 3-16). -/
def execServicePing (fn : Fn) (s : State) : Host.Outcome State Fault Refusal :=
  .next (match s.serviceMsg fn with
    | some (i, b) => if msgType b = 1 then s.reply fn i 0x8001 ((b.drop 8).take (byteAt b 1).toNat) else s
    | none => s)

/-- SERVICE_HEARTBEAT (R99, R370): no reply; the function's heartbeat timer restarts. -/
def execServiceHeartbeat (fn : Fn) (s : State) : Host.Outcome State Fault Refusal :=
  .next (match s.serviceMsg fn with
    | some (i, b) =>
      if msgType b = 2 then
        (s.modFn fn fun f => { f with loss := { f.loss with hbLast := some s.pwr.clk, hbFrom := s.pwr.clk } }).freeInSlot fn i
      else s
    | none => s)

/-- SERVICE_TIME (R99, Table 3-16). -/
def execServiceTime (fn : Fn) (s : State) : Host.Outcome State Fault Refusal :=
  .next (match s.serviceMsg fn with
    | some (i, b) => if msgType b = 3 then s.stamped.reply fn i 0x8003 (leBytes 8 s.stamp) else s
    | none => s)

/-- SERVICE_UNKNOWN (R99, Table 3-16). -/
def execServiceUnknown (fn : Fn) (s : State) : Host.Outcome State Fault Refusal :=
  .next (match s.serviceMsg fn with
    | some (i, b) =>
      let t := msgType b
      if t = 1 || t = 2 || t = 3 then s else s.reply fn i (t ||| 0x8000) [1]
    | none => s)

end Sys2Proof.Machine
end

