-- ==== Sys2Proof/Machine/Fabric.lean ====
section
/-! DEFINITION. Machine/Fabric.lean: routes, reachability and sending over the fabric (R407, R408, R416 to R424, R427), as shared operations. -/

namespace Sys2Proof.Machine

/-! ### Routes (R416 to R419) -/

/-- The size of dimension `k` in a DIMS field. -/
def dimSize (dims : BitVec 15) (k : Nat) : Nat := bitsOf dims.toNat (5 * k) 5 + 1

/-- R407: the coordinate of a node in dimension `k`. -/
def coordOf (n : W16) (k : Nat) : Nat := bitsOf n.toNat (5 * k) 5

/-- R407: a spare ID, or none. -/
def isSpare (n : W16) : Bool := n.getLsbD 15

/-- R411: the use of a port: 0 unused, 1 torus, 2 express; 3 acts as 0, and so does a torus port of a dimension of size 1. -/
def FabConfig.use (C : FabConfig) (pt : PortNo) : Nat :=
  let u := bitsOf C.puse.toNat (2 * pt.val) 2
  if u = 3 then 0
  else if u = 1 && (6 ≤ pt.val || dimSize C.dims (pt.val / 2) = 1) then 0
  else u

/-- R418: the port is usable. A restripe keeps it so: packets wait in its retry buffer (R399, R403). -/
def State.usable (s : State) (pt : PortNo) : Bool :=
  (s.ports[pt].st = .active || s.ports[pt].st = .restripe) && s.ports[pt].nbr.st = .ok && s.net.active.use pt != 0

/-- R416: the hops left in dimension `k`, and whether the direction is +. -/
def FabConfig.dimHops (C : FabConfig) (dest : W16) (k : Nat) : Nat × Bool :=
  let D := dimSize C.dims k
  let d := (coordOf dest k + D - coordOf C.node k % D) % D
  (min d (D - d), d ≤ D - d)

/-- Table 15-2: the port of a dimension and direction. -/
def torusPort (k : Fin 3) (plus : Bool) : PortNo := ⟨2 * k.val + bnat (!plus), by unfold bnat; split <;> omega⟩

/-- R418: the output port toward a node, and whether the step is non-minimal. -/
def State.route (s : State) (dest : W16) (steps : Nat) : Option (PortNo × Bool) :=
  let C := s.net.active
  let ports (l : List PortNo) : Option (PortNo × Bool) := (l.find? s.usable).map (·, false)
  let ovr := match C.ovr.toList.find? fun o => o.valid && o.dest = dest with
    | some o => ports (o.primary.toFin :: if o.altValid then [o.alt.toFin] else [])
    | none => none
  if C.node = 0xFFFF then none
  else if ovr.isSome || isSpare dest then ovr
  else
    let left := if isSpare C.node then [] else (List.finRange 3).filter fun k => (C.dimHops dest k.val).1 != 0
    let minimal := ports (left.map fun k => torusPort k (C.dimHops dest k.val).2)
    let away := match left with
      | k :: _ =>
        let pt := torusPort k (!(C.dimHops dest k.val).2)
        if 3 ≤ dimSize C.dims k.val && s.usable pt && steps < 2 then some (pt, true) else none
      | [] => none
    let dflt := if C.dfltValid then ports [C.dflt.toFin] else none
    match minimal, away, dflt with
    | some r, _, _ => some r
    | none, some r, _ => some r
    | none, none, d => d

/-! ### Reachability (R427, R428) -/

/-- The node is listed in the active lost table. -/
def State.listedLost (s : State) (n : W16) : Bool :=
  (List.finRange 64).any fun i => s.net.active.lostValid.getLsbD i.val && s.net.active.lost[i] = n

/-- Why a node cannot be reached from this sled, if it cannot. -/
def State.unreachable (s : State) (n : W16) : Option Nat :=
  if n = s.net.active.node then none
  else if s.listedLost n then some 4
  else match s.net.unreach.find? (·.1 = n) with
    | some x => some x.2.1
    | none => if (s.route n 0).isNone then some 1 else none

/-- Change the network part. -/
def State.modNet (s : State) (f : Network → Network) : State := { s with net := f s.net }

/-- R427: a node becomes unreachable: NODE_UNREACHABLE is posted once. -/
def State.markUnreach (s : State) (n : W16) (reason : Nat) : State :=
  if s.net.unreach.any (·.1 = n) then s
  else (s.modNet fun N => { N with unreach := N.unreach ++ [(n, reason, s.pwr.clk)] }).postDev 0x0713 (n.toNat + 65536 * reason) 0

/-! ### Sending (R397, R420, R423) -/

/-- A port takes packets: its retry buffer keeps them, and its counters step (Table 14-6). -/
def State.portSend (s : State) (pt : PortNo) (x : Packet) : State :=
  let was := s.ports[pt]
  let s := s.modPort pt fun P =>
    { P with retry := P.retry ++ [x], ackAt := if P.retry.isEmpty then s.pwr.clk else P.ackAt,
             txBytes := P.txBytes + BitVec.ofNat 64 x.bytes, txPkt := P.txPkt + BitVec.ofNat 64 x.count }
  let s := if 2 ^ 64 ≤ was.txBytes.toNat + x.bytes || 2 ^ 64 ≤ was.txPkt.toNat + x.count then s.perfWrap .pf (8 + pt.val) else s
  s.emit (.fabric (some pt) 0 [x.dest.toNat, x.slice.toNat, x.tc.val, x.count, x.bytes])

/-- R464, Table 17-2: packet bytes of a partition. -/
def State.fabBytes (s : State) (p : Pid) (n : Nat) : State := (s.accrue p 4 n).sharedEnergy p (80 * n)

/-- R397, R418: packets go out on the port in force; none: they are counted as unroutable and their node becomes unreachable. -/
def State.forward (s : State) (x : Packet) : State :=
  match s.route x.dest x.steps with
  | some (pt, away) => s.portSend pt { x with steps := x.steps + bnat away }
  | none => (s.modNet fun N => { N with noRoute := satAdd N.noRoute x.count }).markUnreach x.dest 1

/-- R420, R423: partition `p` sends a transaction of `n` payload bytes to a node, in its slice. What framing adds, and into how many
packets it is cut, no rule gives (R390): free values (log entry 26). -/
def State.fabSend (s : State) (p : Pid) (dest : W16) (tc : Fin 4) (n : Nat) (op : Option OpRef) : State :=
  if dest = s.net.active.node then s
  else
    let bytes := n + (s.free 16).toNat
    let s := s.took
    let count := 1 + (s.free 16).toNat
    let s := s.took
    let sl := (s.life p).slice
    let s := s.forward ⟨dest, sl, tc, count, bytes, 0, op⟩
    if (s.unreachable dest).isSome then s
    else
      let q := s.net.e2eSeq
      (s.fabBytes p bytes).modNet fun N =>
        { N with e2eSeq := q + 1, e2e := N.e2e ++ [⟨dest, sl, tc, q, s.pwr.clk, s.pwr.clk, count, bytes, op⟩] }

/-- The group is installed for the partition (R277). -/
def State.groupOf (s : State) (p : Pid) (g : W16) : Option Group :=
  (s.prt p).gx.groups.toList.findSome? fun x => match x with
    | some y => if y.id = g then some y else none
    | none => none

/-- A transaction to the collective unit that serves a group's collectives: where that is cannot be observed (R288, R390), so the member
is a free choice (log entry 26). -/
def State.fabSendUnit (s : State) (p : Pid) (g : Group) (tc : Fin 4) (n : Nat) (op : Option OpRef) : State :=
  let i := (s.free 12).toNat % max 1 g.nmemb
  s.took.fabSend p (g.nodes.getD i s.net.active.node) tc n op

/-- The transactions of an operation end with it. -/
def State.dropE2e (s : State) (o : OpRef) : State := s.modNet fun N => { N with e2e := N.e2e.filter (·.op != some o) }

/-! ### Groups (R277, R425) -/

/-- The installed group `g` becomes `x`. -/
def State.setGroup (s : State) (p : Pid) (g : W16) (x : Option Group) : State :=
  s.modPrt p fun P => { P with gx := { P.gx with groups := P.gx.groups.map fun y => if y.map (·.id) = some g then x else y } }

/-- Install a group in the first free place. -/
def State.addGroup (s : State) (p : Pid) (x : Group) : State :=
  match (List.finRange 16).find? fun i => ((s.prt p).gx.groups[i]).isNone with
  | some i => s.modPrt p fun P => { P with gx := { P.gx with groups := vmod P.gx.groups i fun _ => some x } }
  | none => s

/-- An operation of the list is still under way. -/
def State.runsLeft (s : State) (p : Pid) (l : List OpRef) : List OpRef :=
  l.filter fun o => (s.prt p).gx.runs.any (·.op = o)

/-- R425: group operations whose users have ended take place. -/
def State.grpSettle (s : State) : State :=
  s.net.grpWait.foldl (fun s w =>
    let left := s.runsLeft w.pid w.users
    if !left.isEmpty then s.modNet fun N => { N with grpWait := N.grpWait ++ [{ w with users := left }] }
    else (s.setGroup w.pid w.group none).modNet fun N => { N with grpBusy := false, grpRes := 0 })
    (s.modNet fun N => { N with grpWait := [] })

/-- A fabric operation's run goes, with its transactions. -/
def State.dropRun (s : State) (p : Pid) (o : OpRef) : State :=
  ((s.modPrt p fun P => { P with gx := { P.gx with runs := P.gx.runs.filter (·.op != o) } }).dropE2e o).grpSettle

end Sys2Proof.Machine
end

