-- ==== Sys2Proof/Machine/Reach.lean ====
section
/-! DEFINITION. Machine/Reach.lean: when an access to TA is served at once and when it waits: moves (R187), sleeping quads (R66),
run-ahead tags (R242) and steward instances before their fetch-back (R234). -/

namespace Sys2Proof.Machine

/-! ### Steward instances -/

/-- The position of a marker in the plan; NMARK where the plan has none (R218, R219). -/
def Plan.posOf (P : Plan) (back : Bool) (mb step : Nat) : Nat := P.marks.findIdx fun m => m.back = back && m.mb = mb && m.step = step

/-- pos_need of an instance: its marker BACK(mb, NEED_STEP). -/
def Scarab.posNeed (S : Scarab) (x : Inst) : Nat :=
  match S.plan with
  | some P => match P.recs[x.rec_]? with
    | some r => P.posOf true x.mb r.need
    | none => 0
  | none => 0

/-- A core field of a record: taken modulo the core count, or spread over the cores (chapter 8, Table 8-3). -/
def State.planCore (s : State) (p : Pid) (field : BitVec 8) (i : Nat) : Option Core :=
  let n := (s.coresOf p).length
  if n = 0 then none else s.absCore p (if field = 0xFF then i % n else field.toNat % n)

/-- R231: the tile's home is its fetch-back destination. -/
def State.atDest (s : State) (p : Pid) (r : PlanRec) (i : Nat) (h : Home) : Bool :=
  match r.fdest.toNat with
  | 0 => true
  | 1 => match s.planCore p r.fcore i with
    | some c => h = .tileMem c
    | none => true
  | 2 => h.isStaging
  | _ => h.inStacked

/-- A fetch-back task of the tile has not been issued. -/
def Scarab.fetchPending (S : Scarab) (t : TileNo) : Bool := S.tasks.any fun k => k.kind = .fetch && k.tile = t

/-- R230: the tile holds the lossy form. -/
def Scarab.isLossy (S : Scarab) (t : TileNo) : Bool := S.lossy.any (·.tile = t)

/-- R234: an access to the tile waits for its fetch-back. -/
def State.stewWaits (s : State) (p : Pid) (t : TileNo) : Bool :=
  let S := (s.prt p).scb
  match S.instOf t, s.tile? p t with
  | some (x, r, i), some k =>
    match x.st with
    | .placed => k.isDropped || S.isLossy t || !s.atDest p r i k.home
    | .fetching => k.isDropped || S.isLossy t || S.fetchPending t
    | _ => false
  | _, _ => false

/-! ### Waiting (R187, R242) -/

/-- R124: the tag of run-ahead work; none where its epoch is not ahead of C. -/
def State.aheadTag (s : State) (p : Pid) (spec : Bool) (e : Epoch) : Option Epoch :=
  if spec && e.ahead (s.prt p).ep.c then some e else none

/-- The tag of a command's work. -/
def State.tagOf (s : State) (r : RingId) (h : Header) : Option Epoch :=
  match r with
  | .vf p _ => s.aheadTag p h.spec h.epoch
  | .pf _ => none

/-- R242: a tile of the range carries a tag other than the access's own. -/
def State.tagBlocks (s : State) (p : Pid) (ts : List TileNo) (tag : Option Epoch) : Bool :=
  ts.any fun t => match s.tile? p t with
    | some x => x.tag.isSome && x.tag != tag
    | none => false

/-- An access to the range waits. -/
def State.blocked (s : State) (p : Pid) (ts : List TileNo) (tag : Option Epoch) : Bool :=
  !s.canAccess p ts || s.tagBlocks p ts tag || ts.any (s.stewWaits p)

/-- The command's access to the range was accepted earlier and has waited since (R55). -/
def State.accepted (s : State) (c : CmdRef) (ts : List TileNo) : Bool :=
  match s.cmd? c with
  | some k => k.waited && ts.all fun t => k.spans.any (spanHas t)
  | none => false

/-- R44, R203: where a range is denied to a command, and how. -/
def State.deny (s : State) (c : CmdRef) (p : Pid) (ts : List TileNo) : Option (Status × W32) :=
  (s.prt p).mem.deny (s.accepted c ts) ts

/-- Table 8-12: ARG0 of an instance's event. -/
def Inst.arg0 (x : Inst) : Nat := x.rec_ + 65536 * x.mb

/-- R234: an instance counts as late, once; the first of a run posts FETCH_LATE_FIRST. -/
def State.countLate (s : State) (p : Pid) (x : Inst) : State :=
  let was := (s.prt p).scb
  if x.late then s
  else
    let s := (s.modInst p x.rec_ x.mb fun y => { y with late := true }).modScb p fun S =>
      { S with lateCnt := S.lateCnt + 1, lateFirst := true }
    let s := if was.lateCnt = onesOf 32 then s.perfWrap (.vf p) 2 else s
    if was.lateFirst then s else s.postPart p 0x0201 x.arg0 (was.posNeed x + 2 ^ 32 * was.runEpoch.toNat)

/-- R234: an access that waits makes the fetch-back due at once, and the instance counts as late once. -/
def State.demandFetch (s : State) (p : Pid) (t : TileNo) : State :=
  if !s.stewWaits p t then s
  else match (s.prt p).scb.instOf t with
    | none => s
    | some (x, _, _) =>
      (s.modInst p x.rec_ x.mb fun y => { y with due := some (y.due.getD s.pwr.time.toNat) }).countLate p x

/-- What waiting for a range brings about for a command: counts, demands, and the start of a quarantine wait. -/
def State.noteBlocked (s : State) (c : CmdRef) (p : Pid) (ts : List TileNo) (tag : Option Epoch) : State :=
  match s.cmd? c with
  | none => s
  | some k =>
    let late := ts.any (s.stewWaits p)
    let q := s.tagBlocks p ts tag
    let s := if k.waited then s else s.countWaits p ts
    let s := ts.foldl (fun s t => s.demandFetch p t) s
    s.modCmd c fun k =>
      { k with waited := true, spans := ts.map (·, 1), lateFetch := k.lateFetch || late,
               quarAt := if q then some (k.quarAt.getD s.pwr.clk) else none }

/-- The access has been served. -/
def State.noteServed (s : State) (c : CmdRef) : State := s.modCmd c fun k => { k with waited := false, spans := [], quarAt := none, pairAt := none }

end Sys2Proof.Machine
end

