-- ==== Sys2Proof/Machine/Units.lean ====
section
/-! DEFINITION. Machine/Units.lean: stream units, pairs and barriers as the commands of several chapters touch them (R119, R120,
R159, R160, R168, R174). -/

namespace Sys2Proof.Machine

/-! ### Units and pairs -/

/-- The stream part of a relative core. -/
def State.core (s : State) (p : Pid) (c : RelCore) : CoreStreams := (s.prt p).cores[c]

/-- Change the stream part of a core. -/
def State.modCore (s : State) (p : Pid) (c : RelCore) (f : CoreStreams → CoreStreams) : State :=
  s.modPrt p fun P => { P with cores := vmod P.cores c f }

/-- A stream unit. -/
def State.unit (s : State) (u : UnitRef) : StreamUnit := (s.core u.pid u.core).units[u.unit]

/-- Change a stream unit. -/
def State.modUnit (s : State) (u : UnitRef) (f : StreamUnit → StreamUnit) : State :=
  s.modCore u.pid u.core fun c => { c with units := vmod c.units u.unit f }

/-- A buffer pair. -/
def State.pair (s : State) (b : PairRef) : Pair := (s.core b.pid b.core).pairs[b.pair]

/-- Change a buffer pair. -/
def State.modPair (s : State) (b : PairRef) (f : Pair → Pair) : State :=
  s.modCore b.pid b.core fun c => { c with pairs := vmod c.pairs b.pair f }

/-- Every unit of a partition. -/
def unitsOf (p : Pid) : List UnitRef :=
  (List.finRange 64).flatMap fun c => (List.finRange 4).map fun u => ⟨p, c, u⟩

/-- Every pair of a partition. -/
def pairsOf (p : Pid) : List PairRef :=
  (List.finRange 64).flatMap fun c => (List.finRange 16).map fun b => ⟨p, c, b⟩

/-- R160: the core's bit of STR_FAULT_CORE, and STR_IRQ. -/
def State.streamFault (s : State) (p : Pid) (c : RelCore) : State :=
  let s := s.modPrt p fun P => { P with rt := { P.rt with faultCore := P.rt.faultCore ||| BitVec.ofNat 64 (2 ^ c.val) } }
  if (s.prt p).rt.strIrqEn then s.msix (.vf p) (s.prt p).rt.strVec else s

/-- R168: a bound pair becomes BROKEN. -/
def State.breakPair (s : State) (b : PairRef) : State :=
  if (s.pair b).bound && !(s.pair b).broken then
    (s.modPair b fun x => { x with broken := true }).streamFault b.pid b.core
  else s

/-- The pair is produced by a unit. -/
def Pair.madeBy (x : Pair) (u : UnitRef) : Bool :=
  x.bound && !x.cprod && x.prodCore.toNat = u.core.val && x.prodUnit.toNat = u.unit.val

/-- R168: the pairs a unit produces become BROKEN. -/
def State.breakPairsOf (s : State) (u : UnitRef) : State :=
  ((pairsOf u.pid).filter fun b => (s.pair b).madeBy u).foldl State.breakPair s

/-- The MOVs a unit has issued go on as placement only. -/
def StreamUnit.drop (x : StreamUnit) : StreamUnit := { x with wait := .none, movs := x.movs.map fun m => { m with live := false } }

/-- R159, R160: a unit enters FAULT; its issued MOVs complete as placement. -/
def State.suFault (s : State) (u : UnitRef) (f : SuFault) : State :=
  ((s.modUnit u fun x => { x.drop with st := .fault, fault := f }).streamFault u.pid u.core).breakPairsOf u

/-- The unit goes on at instruction `pc`; past the last one it faults (R157). -/
def State.suGo (s : State) (u : UnitRef) (pc : Nat) : State :=
  let s := s.modUnit u fun x => { x with pc := pc, wait := .none }
  match (s.unit u).image with
  | some i => if pc < i.instrs.length then s else s.suFault u .pcRange
  | none => s

/-- The unit goes on with the next instruction. -/
def State.suNext (s : State) (u : UnitRef) : State := s.suGo u ((s.unit u).pc + 1)

/-! ### Barriers -/

/-- A barrier of a partition. -/
def State.bar (s : State) (p : Pid) (b : BarNo) : Barrier := (s.prt p).bars[b]

/-- Change a barrier. -/
def State.modBar (s : State) (p : Pid) (b : BarNo) (f : Barrier → Barrier) : State :=
  s.modPrt p fun P => { P with bars := vmod P.bars b f }

/-- What an arrival meets (R118, R120). -/
inductive Arrival where
  | unconfigured | broken
  | waits (gen : Nat)
  deriving DecidableEq, Repr

/-- R118 to R120: how an arrival at a barrier fares; beyond COUNT it belongs to the next generation (R119). -/
def Barrier.meets (x : Barrier) : Arrival :=
  if !x.cfg then .unconfigured
  else if x.broken then .broken
  else .waits ((x.gen.toNat + x.arrived / x.count.toNat) % 65536)

/-- R118: one arrival. R119: the collective unit is told when a FABRIC barrier's own COUNT is reached. -/
def State.countArrival (s : State) (p : Pid) (b : BarNo) : State :=
  let x := s.bar p b
  let s := s.modBar p b fun x => { x with arrived := x.arrived + 1, firstAt := some (x.firstAt.getD s.pwr.clk) }
  match s.groupOf p x.group with
  | some g => if x.fabric && x.arrived + 1 = x.count.toNat then s.fabSendUnit p g 0 0 none else s
  | none => s

/-- The status that an arrival which cannot wait gives its command or operation. -/
def Arrival.failure (a : Arrival) (b : BarNo) : Option (Status × W32) :=
  match a with
  | .unconfigured => some (.malformed, 0xE5)
  | .broken => some (.fenceTimeout, BitVec.ofNat 32 (0x20000 + b.val))
  | .waits _ => none

end Sys2Proof.Machine
end

