-- ==== Sys2Proof/Machine/Lists.lean ====
section
/-! DEFINITION. Machine/Lists.lean: command lists and their common operations, fences and barriers (chapter 4), and the mailbox
operations of lists. -/

namespace Sys2Proof.Machine

/-! ### Operations of a list (R105, R107, R134) -/

/-- Table 4-4, R134, R278, R304, R350 and the update list: the SIZE of an operation (0: any), where the class defines it. -/
def lopSize (fn : Fn) (cls lop : Nat) : Option Nat :=
  let part := fn != .pf
  match lop with
  | 0x80 => some 0
  | 0x81 => if part then some 4 else none
  | 0x82 => if part then some 3 else none
  | 0x83 => if part then some 2 else none
  | 0x84 => some 2
  | 0x85 => some 3
  | _ =>
    match cls, lop with
    | 1, 1 => some 8 | 1, 2 => some 5 | 1, 3 => some 6 | 1, 4 => some 4
    | 2, 1 => some 8 | 2, 2 => some 3 | 2, 3 => some 2 | 2, 4 => some 12
    | 3, 1 => some 6 | 3, 2 => some 6 | 3, 3 => some 8
    | 5, 1 => some 6
    | 6, 1 => some 8 | 6, 2 => some 4 | 6, 3 => some 4 | 6, 4 => some 4 | 6, 5 => some 4
    | _, _ => none

/-- ARG must be 0: the common operations, and those of the solver, update, Mover and fabric classes. -/
def argZero (cls lop : Nat) : Bool := 0x80 ≤ lop || cls = 2 || cls = 3 || cls = 5 || cls = 6

/-- The checks of Table 4-5 and R134 that an operation's start makes (log entry 14). -/
def ListOp.check (fn : Fn) (cls : Nat) (o : ListOp) : Option W32 :=
  match lopSize fn cls o.lop.toNat with
  | none => some 0xE3
  | some n =>
    if n != 0 && o.size != n then some 0xE2
    else if o.badBits || (argZero cls o.lop.toNat && o.arg != 0) then some 0xE4
    else none

/-- The operation before index `i` has not ended. -/
def ListRun.prevActive (r : ListRun) (i : Nat) : Bool := r.active.any fun a => a.idx + 1 = i

/-- The earlier in list order. -/
def earlier (a b : Option (Nat × Status × W32)) : Option (Nat × Status × W32) :=
  match a, b with
  | some x, some y => if y.1 < x.1 then b else a
  | some _, none => a
  | none, _ => b

/-- R107: record how operation `i` ended. -/
def ListRun.note (r : ListRun) (i : Nat) (st : Status) (d : W32) : ListRun :=
  if st.isError then { r with error := earlier r.error (some (i, st, d)) }
  else if st.isWarning then { r with warning := earlier r.warning (some (i, st, d)) }
  else r

/-- R107: the status of a list that has ended. -/
def ListRun.verdict (r : ListRun) : Status × W32 :=
  match r.error, r.warning with
  | some (_, st, d), _ => (st, d)
  | none, some (_, st, d) => (st, d)
  | none, none => (.ok, 0)

/-- Change the run of a command's list. -/
def State.modRun (s : State) (c : CmdRef) (f : ListRun → ListRun) : State :=
  s.modCmd c fun k => { k with run := k.run.map f }

/-- RING_FAULT_OP (R107). -/
def State.faultOp (s : State) (c : CmdRef) (k : Cmd) (r : ListRun) : State :=
  match r.error with
  | some (i, _, _) => s.modRing c.ring fun R => { R with faultTag := k.hdr.tag, faultOp := BitVec.ofNat 12 i }
  | none => s

/-- R105, R107: what follows the start or the end of an operation: an operation that fails its check, and the end of the list. -/
def State.advance (s : State) (c : CmdRef) : State :=
  match s.cmd? c with
  | none => s
  | some k =>
    match k.run with
    | none => s
    | some r =>
      let bad : Option W32 :=
        match r.ops[r.next]? with
        | some o =>
          if r.error.isNone && !(o.waitPrev && r.prevActive r.next) then o.check c.ring.fn k.hdr.engine.toNat else none
        | none => none
      let r' := match bad with
        | some d => r.note r.next .malformed d
        | none => r
      let s := s.modRun c fun _ => r'
      if r'.active.isEmpty && (r'.error.isSome || r'.ops.length ≤ r'.next) then
        let s := s.faultOp c k r'
        match bad, r.next with
        | some d, 0 => s.refuse c d
        | _, _ => s.finish c r'.verdict.1 r'.verdict.2
      else s

/-- The operation `o` may start now: it is the next of a running list, it is this operation of this class, and what it waits for has
ended. Operations of the solver and Mover classes run one at a time (R303, R351). -/
def State.nextOp (s : State) (o : OpRef) (cls lop : Nat) : Option (Cmd × ListOp) :=
  match s.cmd? o.cmd with
  | none => none
  | some k =>
    match k.run with
    | none => none
    | some r =>
      match r.ops[o.idx]? with
      | none => none
      | some op =>
        if k.stage = .running && r.next = o.idx && r.error.isNone && op.lop.toNat = lop
          && (0x80 ≤ lop || k.hdr.engine.toNat = cls) && (op.check o.cmd.ring.fn k.hdr.engine.toNat).isNone
          && !(op.waitPrev && r.prevActive o.idx)
          && ((k.hdr.engine != 2 && k.hdr.engine != 5) || r.active.isEmpty) && s.fnRuns o.cmd.ring.fn
        then some (k, op) else none

/-- An operation that has started and not ended. -/
def State.activeOp (s : State) (o : OpRef) : Option (Cmd × ActiveOp) :=
  match s.cmd? o.cmd with
  | none => none
  | some k =>
    match k.run with
    | none => none
    | some r => (r.active.find? (·.idx = o.idx)).map (k, ·)

/-- The operations of a function in execution. -/
def State.activeOps (s : State) (fn : Fn) : List OpRef :=
  (ringsOf fn).flatMap fun r => (s.ring r).cmds.flatMap fun k => match k.run with
    | some x => x.active.map fun a => ⟨⟨r, k.seq⟩, a.idx⟩
    | none => []

/-- A new active operation. -/
def State.newOp (s : State) (o : OpRef) (op : ListOp) (spans : List (TileNo × Nat)) : ActiveOp :=
  { idx := o.idx, op := op, since := s.pwr.clk, spans := spans, wait := none, gen := none, desc := none, bad := [], lostCores := [] }

/-- An operation starts and goes on. A wait under R234 before its start is a warning of its own (R235). -/
def State.opBegin (s : State) (o : OpRef) (a : ActiveOp) : State :=
  let late := match s.cmd? o.cmd with
    | some k => k.lateFetch
    | none => false
  let s := (s.noteServed o.cmd).modCmd o.cmd fun k => { k with lateFetch := false }
  let s := s.modRun o.cmd fun r =>
    let r := { r with next := o.idx + 1, active := r.active ++ [a] }
    if late then r.note o.idx .fetchLate 0 else r
  s.advance o.cmd

/-- Change an active operation. -/
def State.modOp (s : State) (o : OpRef) (f : ActiveOp → ActiveOp) : State :=
  s.modRun o.cmd fun r => { r with active := r.active.map fun a => if a.idx = o.idx then f a else a }

/-- An active operation ends (R107). -/
def State.opEnd (s : State) (o : OpRef) (st : Status) (d : W32) : State :=
  (s.modRun o.cmd fun r => { r with active := r.active.filter (·.idx != o.idx) }.note o.idx st d).advance o.cmd

/-- An operation starts and ends in one step. -/
def State.opInstant (s : State) (o : OpRef) (st : Status) (d : W32) : State :=
  let late := match s.cmd? o.cmd with
    | some k => k.lateFetch
    | none => false
  let s := (s.noteServed o.cmd).modCmd o.cmd fun k => { k with lateFetch := false }
  (s.modRun o.cmd fun r =>
    let r := { r with next := o.idx + 1 }
    if st.isError then r.note o.idx st d
    else if late then r.note o.idx .fetchLate 0
    else r.note o.idx st d).advance o.cmd

/-! ### EXEC_LIST (R102, R105, R106, R372) -/

/-- EXEC_LIST: the device reads the list and checks it. -/
def State.execList (s : State) (c : CmdRef) (list : Bytes) : State :=
  match s.cmd? c with
  | none => s
  | some k =>
    let iova := leAt k.operands 0 8
    let len := leAt k.operands 8 4
    if k.stage != .started || k.hdr.opc != 0x80 || k.hdr.engine = 0 || k.hdr.engine = 3 || !s.fnRuns c.ring.fn then s
    else if iova % 64 = 0 && 24 ≤ len && len ≤ 2 ^ 20 && len % 8 = 0 && !s.canRead c.ring.fn (BitVec.ofNat 64 iova) len then
      s.modCmd c fun k => { k with wait := some .read }
    else match parseList iova len list with
      | .error d => s.refuse c d
      | .ok ops =>
        let s := s.fetchLines c.ring.fn (BitVec.ofNat 64 iova) len
        if !zeroIn k.operands 12 48 then s.refuse c 0xEA
        else
          (s.modCmd c fun k =>
            { k with stage := .running, wait := none,
                     run := some { ops := ops, next := 0, active := [], error := none, warning := none, chain := none } }).advance c

/-- EXEC_LIST. -/
def execExecList (c : CmdRef) (list : Bytes) (s : State) : Host.Outcome State Fault Refusal := .next (s.execList c list)

/-! ### Fences (R113, R114) -/

/-- TNT_FENCE_TMO in ms: 1 to 1,000; 0 acts as 10 (Table 4-8). -/
def State.fenceTmo (s : State) (fn : Fn) : Nat :=
  match fn with
  | .pf => 10
  | .vf p =>
    let t := (s.prt p).ep.fenceTmo.toNat
    if t = 0 then 10 else min t 1000

/-- The function's inline command: started, of this class and opcode. -/
def State.inline_ (s : State) (c : CmdRef) (engine : BitVec 4) (opc : BitVec 8) : Option Cmd :=
  if s.fnRuns c.ring.fn then s.startedCmd c engine opc else none

/-- CONTROL_NOP (R103, R104). -/
def execControlNop (c : CmdRef) (s : State) : Host.Outcome State Fault Refusal :=
  .next (match s.inline_ c 0 1 with
    | some k => if zeroIn k.operands 0 48 then s.finish c .ok 0 else s.refuse c 0xEA
    | none => s)

/-- CONTROL_FENCE (R113): the flushing read, where a write of the ring has still to be confirmed. -/
def execControlFence (c : CmdRef) (s : State) : Host.Outcome State Fault Refusal :=
  .next (match s.inline_ c 0 2 with
    | some k =>
      if !zeroIn k.operands 0 48 then s.refuse c 0xEA
      else if (s.ring c.ring).dirty then
        s.modCmd c fun k => { k with stage := .postFlush s.pwr.clk .ok 0 }
      else s.conclude c .ok 0
    | none => s)

/-- The ring's host writes are confirmed, unless other commands of the ring may still have written. -/
def State.confirmed (s : State) (c : CmdRef) : State :=
  s.modRing c.ring fun R => if R.cmds.all fun k => k.seq = c.seq || k.unstarted then { R with dirty := false } else R

/-- R113: the flushing read of a command has been answered. -/
def State.flushDone (s : State) (c : CmdRef) : State :=
  match s.cmd? c with
  | none => s
  | some k =>
    if s.lost c.ring.fn then s
    else match k.stage with
      | .preFlush _ => if k.cancelled then s else
        ((s.confirmed c).modCmd c fun k => { k with stage := .waiting, fenceMet := true }).noteReady c.ring.fn
      | .postFlush _ st d => (s.confirmed c).conclude c st d
      | _ => s

/-- A descriptor's flushing read has been answered (R335). -/
def DescRun.flushed (d : DescRun) : DescRun := { d with flushAt := none, ended := some (d.ended.getD (.ok, 0)) }

/-- FLUSH_READ_DONE (R113, R335). -/
def execFlushReadDone (w : Issuer) (s : State) : Host.Outcome State Fault Refusal :=
  .next (match w with
    | .cmd c => s.flushDone c
    | .op o =>
      match s.activeOp o with
      | some (_, a) =>
        match a.desc with
        | some d => if d.flushAt.isSome && !s.lost o.cmd.ring.fn then
            s.modOp o fun a => { a with desc := some d.flushed } else s
        | none => s
      | none => s
    | .chan m =>
      match s.chans[m].run, s.chans[m].ring with
      | some d, some r => if d.flushAt.isSome && !s.lost r.fn then
          s.modChan m fun c => { c with run := some d.flushed } else s
      | _, _ => s
    | _ => s)

/-- FENCE_TIMEOUT (R114): the flushing read has not completed within TNT_FENCE_TMO. -/
def execFenceTimeout (c : CmdRef) (s : State) : Host.Outcome State Fault Refusal :=
  .next (match s.cmd? c with
    | none => s
    | some k =>
      let past (t : Nat) : Bool := s.fenceTmo c.ring.fn * 1000000 ≤ s.since t && !s.lost c.ring.fn
      match k.stage with
      | .preFlush t => if past t && !k.cancelled then (s.complete c false .fenceTimeout 0xF0).noteReady c.ring.fn else s
      | .postFlush t _ _ => if past t then s.conclude c .fenceTimeout 0xF0 else s
      | _ => s)

/-! ### Barriers (R117 to R120) -/

/-- Table 4-7: the reserved bits of BAR_CFG's operands, by offset from byte 16; GROUP is 0 for LOCAL scope. -/
def barCfgClean (o : Bytes) : Bool :=
  bitsOf (leAt o 0 4) 5 27 = 0 && bitsOf (leAt o 4 2) 12 4 = 0 && bitsOf (leAt o 6 1) 1 7 = 0 && leAt o 7 1 = 0
    && leAt o 10 2 = 0 && zeroIn o 16 48 && (bitOf (leAt o 6 1) 0 || leAt o 8 2 = 0)

/-- BAR_CFG (R117). -/
def State.barCfg (s : State) (c : CmdRef) (p : Pid) (k : Cmd) : State :=
  let o := k.operands
  let b : BarNo := ⟨leAt o 0 1 % 32, Nat.mod_lt _ (by omega)⟩
  let count := BitVec.ofNat 12 (leAt o 4 2)
  let fabric := bitOf (leAt o 6 1) 0
  let group := BitVec.ofNat 16 (leAt o 8 2)
  if !barCfgClean o then s.refuse c 0xEA
  else if (s.bar p b).arrived != 0 then s.refuse c 0xE6
  else if fabric && count != 0 && (s.groupOf p group).isNone then s.refuse c 0xE7
  else
    (s.modBar p b fun _ =>
      if count = 0 then Barrier.reset
      else { Barrier.reset with cfg := true, fabric := fabric, count := count, group := group,
                                timeout := BitVec.ofNat 32 (leAt o 12 4) }).finish c .ok 0

/-- BAR_CFG. -/
def execBarCfg (c : CmdRef) (s : State) : Host.Outcome State Fault Refusal :=
  .next (match s.inline_ c 0 3, c.ring with
    | some k, .vf p _ => s.barCfg c p k
    | _, _ => s)

/-- A command leaves its barrier: with its own result, or with the barrier's failure where it had no error of its own (R120). -/
def State.leaveBarrier (s : State) (c : CmdRef) (fail : Option (Status × W32)) : State :=
  match s.cmd? c with
  | none => s
  | some k =>
    let go (st : Status) (d : W32) : State :=
      match fail with
      | some (fs, fd) => if st.isError then s.flushOwn c k st d else s.flushOwn c k fs fd
      | none => s.flushOwn c k st d
    match k.stage with
    | .worked st d => go st d
    | .atBarrier _ st d => go st d
    | _ => s

/-- The commands of a partition that wait at a generation of a barrier, by ascending ring. -/
def State.cmdsAt (s : State) (p : Pid) (b : BarNo) (gen : Nat) : List CmdRef :=
  (ringsOf (.vf p)).flatMap fun r => (s.ring r).cmds.filterMap fun k =>
    match k.stage with
    | .atBarrier g _ _ => if g = gen && k.hdr.barId = b then some ⟨r, k.seq⟩ else none
    | _ => none

/-- The operations of a partition that wait at a generation of a barrier. -/
def State.opsAt (s : State) (p : Pid) (b : BarNo) (gen : Nat) : List OpRef :=
  (ringsOf (.vf p)).flatMap fun r => (s.ring r).cmds.flatMap fun k =>
    match k.run with
    | some x => x.active.filterMap fun a =>
        if a.gen = some gen && a.op.field 8 1 = b.val then some ⟨⟨r, k.seq⟩, a.idx⟩ else none
    | none => []

/-- The stream units of a partition that wait at a generation of a barrier. -/
def State.unitsAt (s : State) (p : Pid) (b : BarNo) (gen : Nat) : List UnitRef :=
  (unitsOf p).filter fun u => match (s.unit u).wait with
    | .barrier k g _ => k = b && g = gen
    | _ => false

/-- R174: a unit leaves its barrier: it goes on, it stops in DONE, or it faults. -/
def State.unitLeaves (s : State) (u : UnitRef) (fail : Bool) : State :=
  match (s.unit u).wait with
  | .barrier _ _ ending =>
    if fail then s.suFault u .barBroken
    else if ending then s.modUnit u fun x => { x with wait := .none, st := .done }
    else s.suNext u
  | _ => s

/-- All waiters of a generation leave together (R119, R120). -/
def State.letGo (s : State) (p : Pid) (b : BarNo) (gen : Nat) (fail : Option (Status × W32)) : State :=
  let us := s.unitsAt p b gen
  let cs := s.cmdsAt p b gen
  let os := s.opsAt p b gen
  let s := us.foldl (fun s u => s.unitLeaves u fail.isSome) s
  let s := cs.foldl (fun s c => s.leaveBarrier c fail) s
  os.foldl (fun s o => match fail with
    | some (st, d) => s.opEnd o st d
    | none => s.opEnd o .ok 0) s

/-- R119: a generation releases. -/
def State.releaseBarrier (s : State) (p : Pid) (b : BarNo) : State :=
  let x := s.bar p b
  let rest := x.arrived - x.count.toNat
  (s.modBar p b fun x =>
    { x with gen := x.gen + 1, arrived := rest, firstAt := if rest = 0 then none else some s.pwr.clk }).letGo p b x.gen.toNat none

/-- R119: a LOCAL generation releases when its arrivals reach COUNT. -/
def State.releaseIfFull (s : State) (p : Pid) (b : BarNo) : State :=
  let x := s.bar p b
  if x.cfg && !x.fabric && !x.broken && x.count.toNat ≤ x.arrived then s.releaseBarrier p b else s

/-- R120: a barrier becomes BROKEN; every waiter of the generation ends at once. -/
def State.breakBarrier (s : State) (p : Pid) (b : BarNo) (st : Status) (d : W32) : State :=
  let g := (s.bar p b).gen.toNat
  let s := (s.modBar p b fun x => { x with broken := true, arrived := 0, firstAt := none }).letGo p b g (some (st, d))
  s.letGo p b ((g + 1) % 65536) (some (st, d))

/-- BARRIER_ARRIVAL (R118): a command with FLAGS.BARRIER has finished its work. -/
def State.barrierArrival (s : State) (c : CmdRef) : State :=
  match s.cmd? c, c.ring with
  | some k, .vf p _ =>
    match k.stage with
    | .worked st d =>
      let b := k.hdr.barId
      let a := (s.bar p b).meets
      match a, a.failure b with
      | .waits g, _ =>
        ((s.modCmd c fun k => { k with stage := .atBarrier g st d }).countArrival p b).releaseIfFull p b
      | _, f => s.leaveBarrier c f
    | _ => s
  | _, _ => s

/-- BARRIER_ARRIVAL. -/
def execBarrierArrival (c : CmdRef) (s : State) : Host.Outcome State Fault Refusal := .next (s.barrierArrival c)

/-- FABRIC_BARRIER_RELEASE (R119): the collective unit reports that every member has reached its COUNT. It wakes a NAPPING
partition (Table 1-5). -/
def execFabricBarrierRelease (p : Pid) (b : BarNo) (s : State) : Host.Outcome State Fault Refusal :=
  .next (let x := s.bar p b
    if x.cfg && x.fabric && !x.broken && x.count.toNat ≤ x.arrived then (s.wakePartition p).releaseBarrier p b else s)

/-- BARRIER_TIMEOUT (R120): TIMEOUT µs have passed since the generation's first arrival. -/
def execBarrierTimeout (p : Pid) (b : BarNo) (s : State) : Host.Outcome State Fault Refusal :=
  .next (let x := s.bar p b
    match x.firstAt with
    | some t =>
      if x.cfg && !x.broken && x.timeout != 0 && (s.life p).pausedAt.isNone && x.timeout.toNat * 1000 ≤ s.since t then
        s.breakBarrier p b .fenceTimeout (BitVec.ofNat 32 (0x10000 + b.val))
      else s
    | none => s)

/-! ### Common operations (Table 4-4) -/

/-- LIST_NOP: padding. -/
def execListNop (o : OpRef) (s : State) : Host.Outcome State Fault Refusal :=
  .next (match s.nextOp o 0 0x80 with
    | some _ => s.opInstant o .ok 0
    | none => s)

/-- A range lies inside one object: none, or how the access ends (R44). -/
def State.inOneObject (s : State) (c : CmdRef) (p : Pid) (ta n : Nat) : Option (Status × W32) :=
  let m := (s.prt p).mem
  match s.deny c p (tilesOf ta n) with
  | some e => some e
  | none =>
    match m.objOf (tileOf ta), m.objOf (tileOf (ta + n - 1)) with
    | some a, some b => if a.id = b.id then none else some (.accessFault, BitVec.ofNat 32 (tileOf ta))
    | _, _ => some (.accessFault, BitVec.ofNat 32 (tileOf ta))

/-- The first posted slot of an engine queue (R99). -/
def Mailbox.queueHead (m : Mailbox) (q : Nat) : Option SlotNo :=
  m.posted.find? fun i => bitsOf (byteAt m.inSlots[i] 0).toNat 0 4 = q

/-- MB_RECV's fields are good (Table 4-5, 0xE9). -/
def recvOk (op : ListOp) : Bool :=
  let q := op.field 8 1
  1 ≤ q && q ≤ 15 && op.zero 9 12 && op.zero 24 32 && op.field 16 8 % 8 = 0 && op.field 16 8 < 2 ^ 48

/-- The message of an MB_RECV is consumed into its destination, where the access need not wait (R99). -/
def State.recvNow (s : State) (o : OpRef) (p : Pid) (op : ListOp) (k : Cmd) (started : Bool) : State :=
  let ta := op.field 16 8
  let ts := tilesOf ta 256
  let tag := s.tagOf o.cmd.ring k.hdr
  let done (s : State) (st : Status) (d : W32) : State := if started then s.opEnd o st d else s.opInstant o st d
  match (s.fnSt (.vf p)).mail.queueHead (op.field 8 1) with
  | none => if started then s else s.opBegin o (s.newOp o op [spanOf ta 256])
  | some i =>
    match (s.prt p).mem.deny (started || s.accepted o.cmd ts) ts with
    | some (st, d) => done s st d
    | none =>
      if s.blocked p ts tag then s.noteBlocked o.cmd p ts tag
      else done ((s.store p ta ((s.fnSt (.vf p)).mail.inSlots[i]) tag).freeInSlot (.vf p) i) .ok 0

/-- MB_RECV (R99): it starts, and consumes the next message of its queue; or it goes on waiting for one. -/
def State.mbRecv (s : State) (o : OpRef) : State :=
  match o.cmd.ring with
  | .pf _ => s
  | .vf p _ =>
    match s.nextOp o 0 0x81, s.activeOp o with
    | some (k, op), _ =>
      if !recvOk op then s.opInstant o .malformed 0xE9
      else match s.inOneObject o.cmd p (op.field 16 8) 256 with
        | some (st, d) => s.opInstant o st d
        | none => s.recvNow o p op k false
    | none, some (k, a) => if a.op.lop = 0x81 && s.fnRuns (.vf p) then s.recvNow o p a.op k true else s
    | none, none => s

/-- MB_RECV. -/
def execMbRecv (o : OpRef) (s : State) : Host.Outcome State Fault Refusal := .next (s.mbRecv o)

/-- MB_RECV_TIMEOUT: an MB_RECV still waiting after TIMEOUT µs. -/
def execMbRecvTimeout (o : OpRef) (s : State) : Host.Outcome State Fault Refusal :=
  .next (match s.activeOp o with
    | some (_, a) =>
      let tmo := a.op.field 12 4
      if a.op.lop = 0x81 && tmo != 0 && tmo * 1000 ≤ s.since a.since then
        s.opEnd o .fenceTimeout (BitVec.ofNat 32 (0x30000 + a.op.field 8 1))
      else s
    | none => s)

/-- MB_SEND's fields are good (Table 4-5, 0xE9). -/
def sendOk (op : ListOp) : Bool :=
  let q := op.field 8 1
  1 ≤ q && q ≤ 15 && op.field 9 1 ≤ 248 && op.zero 12 16 && op.field 16 8 % 8 = 0 && op.field 16 8 < 2 ^ 48

/-- MB_SEND (R100): the payload is read, and the message placed; or the operation waits for room. -/
def State.mbSend (s : State) (o : OpRef) : State :=
  match o.cmd.ring, s.nextOp o 0 0x82 with
  | .vf p _, some (k, op) =>
    let n := op.field 9 1
    let ta := op.field 16 8
    let ts := tilesOf ta n
    let tag := s.tagOf o.cmd.ring k.hdr
    if !sendOk op then s.opInstant o .malformed 0xE9
    else match (if n = 0 then none else s.inOneObject o.cmd p ta n) with
      | some (st, d) => s.opInstant o st d
      | none =>
        if s.blocked p ts tag then s.noteBlocked o.cmd p ts tag
        else
          let m : OutMsg := ⟨op.field 8 1, BitVec.ofNat 16 (op.field 10 2), s.load p ta n, none, some o⟩
          let s := s.loaded p ta n
          if s.canSend (.vf p) && (s.fnSt (.vf p)).mail.waiting.isEmpty then (s.placeMsg (.vf p) m).opInstant o .ok 0
          else (s.modMail (.vf p) fun b => { b with waiting := b.waiting ++ [m] }).opBegin o (s.newOp o op [])
  | _, _ => s

/-- MB_SEND. -/
def execMbSend (o : OpRef) (s : State) : Host.Outcome State Fault Refusal := .next (s.mbSend o)

/-- MAILBOX_OUTBOUND_PLACE (R100): the first message that waits for room is placed; its request is consumed, or its operation ends. -/
def State.outboundPlace (s : State) (fn : Fn) : State :=
  match (s.fnSt fn).mail.waiting with
  | [] => s
  | m :: rest =>
    if !s.canSend fn then s
    else
      let s := (s.modMail fn fun b => { b with waiting := rest }).placeMsg fn m
      let s := match m.slot with
        | some i => s.freeInSlot fn i
        | none => s
      match m.sender with
      | some o => s.opEnd o .ok 0
      | none => s

/-- MAILBOX_OUTBOUND_PLACE. -/
def execMailboxOutboundPlace (fn : Fn) (s : State) : Host.Outcome State Fault Refusal := .next (s.outboundPlace fn)

/-- BAR_ARRIVE (R118). -/
def State.barArrive (s : State) (o : OpRef) : State :=
  match o.cmd.ring, s.nextOp o 0 0x83 with
  | .vf p _, some (_, op) =>
    let b : BarNo := ⟨op.field 8 1 % 32, Nat.mod_lt _ (by omega)⟩
    if 32 ≤ op.field 8 1 || !op.zero 9 16 then s.opInstant o .malformed 0xE4
    else
      let a := (s.bar p b).meets
      match a, a.failure b with
      | .waits g, _ =>
        ((s.opBegin o { s.newOp o op [] with gen := some g }).countArrival p b).releaseIfFull p b
      | _, some (st, d) => s.opInstant o st d
      | _, none => s
  | _, _ => s

/-- BAR_ARRIVE. -/
def execBarArrive (o : OpRef) (s : State) : Host.Outcome State Fault Refusal := .next (s.barArrive o)

/-- The bytes a TIMESTAMP or WRITE_VALUE operation writes now. -/
def State.hostOpBytes (s : State) (op : ListOp) : Bytes := if op.lop = 0x84 then leBytes 8 s.stamp else leBytes 8 (op.field 16 8)

/-- The host write of a TIMESTAMP or WRITE_VALUE operation. -/
def State.hostOpWrite (s : State) (o : OpRef) (op : ListOp) : State :=
  let b := s.hostOpBytes op
  let s := if op.lop = 0x84 then s.stamped else s
  s.dataWrite o.cmd.ring (BitVec.ofNat 64 (op.field 8 8)) b

/-- A TIMESTAMP or WRITE_VALUE operation; for a lost function its write waits (R374). -/
def State.hostOp (s : State) (o : OpRef) (lop : Nat) : State :=
  match s.nextOp o 0 lop with
  | none => s
  | some (_, op) =>
    if op.field 8 8 % 8 != 0 then s.opInstant o .malformed 0xE4
    else if s.lost o.cmd.ring.fn then s.opBegin o { s.newOp o op [] with wait := some .write }
    else (s.hostOpWrite o op).opInstant o .ok 0

/-- TIMESTAMP (Table 4-4). -/
def execTimestamp (o : OpRef) (s : State) : Host.Outcome State Fault Refusal := .next (s.hostOp o 0x84)

/-- WRITE_VALUE (Table 4-4). -/
def execWriteValue (o : OpRef) (s : State) : Host.Outcome State Fault Refusal := .next (s.hostOp o 0x85)

end Sys2Proof.Machine
end

