-- ==== Sys2Proof/Machine/Epochs.lean ====
section
/-! DEFINITION. Machine/Epochs.lean: commits, revokes and job decisions (R121 to R125), with what they do to tiles, pairs, residual
banks, steward instances and fabric operations (R169, R221, R241 to R245, R285, R299). -/

namespace Sys2Proof.Machine

/-- R428: the DETAIL of a path loss. -/
def pathLost (node reason : Nat) : W32 := BitVec.ofNat 32 (node % 65536 + 65536 * reason)

/-! ### Steward instances close (R221) -/

/-- The tiles of an instance: the first and how many. -/
def Scarab.range (S : Scarab) (rec_ mb : Nat) : Option (TileNo × Nat) :=
  match S.plan with
  | none => none
  | some P => P.recs[rec_]?.map fun r => (P.instBase r mb, r.tiles)

/-- A window access of the partition waits for a tile of the range. -/
def Memory.windowWaits (m : Memory) (b n : Nat) : Bool := m.waits.any fun w => b ≤ tileOf w.ta && tileOf w.ta < b + n

/-- Accesses accepted earlier, or moves, still concern the range. -/
def State.rangeBusy (s : State) (p : Pid) (b n : Nat) : Bool :=
  let m := (s.prt p).mem
  s.busySpan p b n || m.windowWaits b n || m.tiles.any fun t => t.isMoving && b ≤ t.num && t.num < b + n

/-- Free a range: homes, contents and ledger data of its tiles. -/
def State.freeRange (s : State) (p : Pid) (b n : Nat) : State :=
  let out (t : TileNo) : Bool := t < b || b + n ≤ t
  let s := s.modMem p fun m =>
    { m with tiles := m.tiles.filter fun t => out t.num, bytes := clearBytes m.bytes (b * tileBytes) ((b + n) * tileBytes),
             staged := m.staged.filter fun x => out x.tile, last := m.last.filter fun x => out x.tile }
  s.modScb p fun S => { S with lossy := S.lossy.filter fun l => out l.tile }

/-- The last part of a close: the instance becomes CLOSED, unless accesses accepted earlier go on. -/
def State.closeEnd (s : State) (p : Pid) (rec_ mb : Nat) : State :=
  match (s.prt p).scb.range rec_ mb with
  | none => s
  | some (b, n) =>
    let failed := (s.prt p).scb.insts.any fun x => x.is rec_ mb && x.st = .failed
    if failed then s.modScb p fun S => { S with insts := S.insts.filter fun x => !x.is rec_ mb }
    else if s.rangeBusy p b n then s
    else (s.freeRange p b n).modScb p fun S => { S with insts := S.insts.filter fun x => !x.is rec_ mb }

/-- R221: close an instance. -/
def State.closeInst (s : State) (p : Pid) (x : Inst) : State :=
  let s := s.modScb p fun S =>
    { S with tasks := S.tasks.filter fun k => !(k.rec_ = x.rec_ && k.mb = x.mb),
             insts := S.insts.map fun y => if y.is x.rec_ x.mb then { y with closing := true } else y }
  let s := match x.st, (s.prt p).scb.range x.rec_ x.mb with
    | .failed, _ => s
    | _, some (b, n) => s.modMem p fun m =>
        { m with tiles := m.tiles.map fun (t : Tile) => if b ≤ t.num && t.num < b + n then { t with closing := true } else t }
    | _, none => s
  s.closeEnd p x.rec_ x.mb

/-- Close every instance that `f` selects. -/
def State.closeInsts (s : State) (p : Pid) (f : Inst → Bool) : State :=
  ((s.prt p).scb.insts.filter fun x => f x && !x.closing).foldl (fun s x => s.closeInst p x) s

/-- The open run and its instances close. -/
def State.closeRun (s : State) (p : Pid) : State :=
  (s.closeInsts p fun _ => true).modScb p fun S => { S with runOpen := false }

/-! ### Commit and revoke (R121, R122) -/

/-- R169: what a decision on epochs does to a pair: `gone`: the epoch was revoked, so the half becomes FREE. -/
def Pair.decide (x : Pair) (hit : Epoch → Bool) (gone : Bool) : Pair :=
  match x.quar with
  | some e => if hit e then (if gone then { x with quar := none, valid := false, remain := 0 } else { x with quar := none }) else x
  | none => x

/-- Apply a change to every pair of a partition. -/
def State.mapPairs (s : State) (p : Pid) (f : Pair → Pair) : State :=
  s.modPrt p fun P => { P with cores := P.cores.map fun c => { c with pairs := c.pairs.map f } }

/-- R285: a residual slot at a commit: its bank flips once its epoch is no longer ahead of `c`. -/
def ResSlot.commit (x : ResSlot) (c : Epoch) : ResSlot :=
  match x.pending with
  | some e => if e.ahead c then x else { x with bank := !x.bank, pending := none }
  | none => x

/-- R285: a residual slot at a revoke: its pending mark clears. -/
def ResSlot.revoke (x : ResSlot) (e : Epoch) : ResSlot := if x.pending = some e then { x with pending := none } else x

/-- R121, R169, R243, R285: a commit of an epoch ahead of C takes effect. -/
def State.commitEpoch (s : State) (p : Pid) (e : Epoch) : State :=
  let done (x : Epoch) : Bool := !x.ahead e
  let s := s.modPrt p fun P =>
    { P with
      ep := { P.ep with c := e, byCommit := !P.ep.revoked.contains e, revoked := P.ep.revoked.filter (·.ahead e) },
      mem := { P.mem with tiles := P.mem.tiles.map fun t => if t.tag.any done then { t with tag := none } else t },
      gx := { P.gx with slots := P.gx.slots.map fun x => x.commit e } }
  s.mapPairs p fun x => x.decide done false

/-- R244: a tile that carries a revoked tag becomes ZERO at its home; a move under way goes on as placement. -/
def State.revokeTile (s : State) (p : Pid) (t : Tile) : State :=
  if t.isMoving then
    let s := s.modMem p fun m => { m with bytes := clearBytes m.bytes (t.num * tileBytes) ((t.num + 1) * tileBytes) }
    s.modTile p t.num fun x => { x with tag := none, clearAfter := true }
  else s.zeroTile p t.num

/-- R122: the unstarted commands of an epoch complete EPOCH_REVOKED; started ones will. -/
def State.revokeCmds (s : State) (p : Pid) (e : Epoch) : State :=
  let hit (k : Cmd) : Bool := k.hdr.epoch = e && !k.hdr.actsOnEpoch
  (ringsOf (.vf p)).foldl (fun s r =>
    let s := s.modRing r fun R => { R with cmds := R.cmds.map fun k => if hit k && !k.unstarted then { k with revoked := true } else k }
    ((s.ring r).cmds.filter fun k => hit k && k.unstarted && !k.cancelled).foldl
      (fun s k => s.complete ⟨r, k.seq⟩ false .epochRevoked 0) s) s

/-- R299: the fabric operations of an epoch end at once. -/
def State.revokeRuns (s : State) (p : Pid) (e : Epoch) : State :=
  ((s.prt p).gx.runs.filter (·.epoch = e)).foldl (fun s r => (s.dropRun p r.op).opEnd r.op .epochRevoked 0) s

/-- R122, R169, R244, R285, R299: a revoke of an epoch ahead of C that is not in the set takes effect. -/
def State.revokeEpoch (s : State) (p : Pid) (e : Epoch) : State :=
  let s := s.modPrt p fun P =>
    { P with ep := { P.ep with revoked := P.ep.revoked ++ [e] },
             gx := { P.gx with slots := P.gx.slots.map fun x => x.revoke e } }
  let s := s.revokeCmds p e
  let halves := (s.prt p).cores.toList.flatMap fun c => c.pairs.toList.flatMap fun (x : Pair) =>
    if x.quar = some e then (List.range x.half).map (x.base + ·) else []
  let s := s.spoilTiles p halves
  let s := ((s.prt p).mem.tiles.filter fun t => t.tag = some e).foldl (fun s t => s.revokeTile p t) s
  let s := s.mapPairs p fun x => x.decide (· = e) true
  let s := if (s.prt p).scb.runOpen && (s.prt p).scb.runEpoch = e then s.closeRun p else s
  (s.revokeRuns p e).noteReady (.vf p)

/-- R244: a write of run-ahead work whose epoch has been revoked leaves the tiles ZERO; any other write stores its bytes. -/
def State.put (s : State) (p : Pid) (ta : Nat) (b : Bytes) (tag : Option Epoch) (dead : Bool) : State :=
  if dead then (tilesOf ta b.length).foldl (fun s t => s.zeroTile p t) s else s.store p ta b tag

/-- The command's run-ahead outputs are discarded: its epoch was revoked after it started. -/
def Cmd.dead (k : Cmd) : Bool := k.revoked && k.hdr.spec

/-! ### The commands -/

/-- How a revoke of an epoch fares before it acts: done without effect, or refused (R122). -/
inductive RevokeCheck where
  | notAhead | already | full | ok
  deriving DecidableEq, Repr

/-- R122: the checks of a revoke. -/
def EpochState.check (E : EpochState) (e : Epoch) : RevokeCheck :=
  if !e.ahead E.c then .notAhead
  else if E.revoked.contains e then .already
  else if 64 ≤ E.revoked.length then .full
  else .ok

/-- A revoke takes effect, and its command `c` ends. -/
def State.revokeBy (s : State) (c : CmdRef) (p : Pid) (e : Epoch) : State :=
  match (s.prt p).ep.check e with
  | .notAhead => s.refuse c 0xE8
  | .already => s.finish c .ok 0
  | .full => s.finish c .quotaExceeded 0x10
  | .ok => (s.revokeEpoch p e).finish c .ok 0

/-- A commit takes effect, and its command ends. -/
def State.commitBy (s : State) (c : CmdRef) (p : Pid) (e : Epoch) : State :=
  ((if e.ahead (s.prt p).ep.c then s.commitEpoch p e else s).noteReady (.vf p)).finish c .ok 0

/-- The decision point of a partition (R426). -/
def State.decisionPoint (s : State) (p : Pid) : Option W16 :=
  if s.net.active.pdpValid.getLsbD p.val then some s.net.active.pdp[p.val] else none

/-- This sled holds the decision point of the partition's slice. -/
def State.decidesHere (s : State) (p : Pid) : Bool :=
  match s.decisionPoint p with
  | some n => n = s.net.active.node
  | none => false

/-- R123, R426: the partition's decision point cannot be asked. -/
def State.noDecision (s : State) (p : Pid) : Option W32 :=
  match s.decisionPoint p with
  | none => some (pathLost 0xFFFF 7)
  | some n => (s.unreachable n).map (pathLost n.toNat)

/-- SCOPE of an epoch command is not reserved and the rest is 0 (R105, Table 4-1). -/
def epochOperandsOk (o : Bytes) : Bool := leAt o 0 1 ≤ 1 && zeroIn o 1 48

/-- EPOCH_COMMIT and EPOCH_REVOKE (R121 to R123). With SCOPE JOB the command waits for the decision, unless it can have no effect. -/
def State.epochCommand (s : State) (c : CmdRef) (commit : Bool) : State :=
  match s.inline_ c 0 (if commit then 4 else 5), c.ring with
  | some k, .vf p _ =>
    let e := k.hdr.epoch
    let E := (s.prt p).ep
    let here (s : State) : State := if commit then s.commitBy c p e else s.revokeBy c p e
    if !epochOperandsOk k.operands then s.refuse c 0xEA
    else if leAt k.operands 0 1 = 0 then here s
    else if (if commit then !e.ahead E.c else E.check e != .ok) then here s
    else match s.noDecision p with
      | some d => s.finish c .fabricPathLost d
      | none =>
        let s := s.modCmd c fun k => { k with stage := .running }
        match s.decisionPoint p with
        | some n => s.fabSend p n 0 0 none
        | none => s
  | _, _ => s

/-- EPOCH_COMMIT (R121). -/
def execEpochCommit (c : CmdRef) (s : State) : Host.Outcome State Fault Refusal := .next (s.epochCommand c true)

/-- EPOCH_REVOKE (R122). -/
def execEpochRevoke (c : CmdRef) (s : State) : Host.Outcome State Fault Refusal := .next (s.epochCommand c false)

/-- The commands of JOB scope that wait for a decision on an epoch; `opc` 4 for commits, 5 for revokes. -/
def State.jobWaiters (s : State) (p : Pid) (e : Epoch) (opc : BitVec 8) : List CmdRef :=
  (ringsOf (.vf p)).flatMap fun r => (s.ring r).cmds.filterMap fun k =>
    if k.stage = .running && k.hdr.engine = 0 && k.hdr.opc = opc && k.hdr.epoch = e then some ⟨r, k.seq⟩ else none

/-- R123: the decision that governs: the first recorded where this sled is the decision point, else the one reported. -/
def State.governs (s : State) (p : Pid) (e : Epoch) (commit : Bool) : Bool × State :=
  if !s.decidesHere p then (commit, s)
  else
    let sl := (s.life p).slice
    match s.jobs.find? fun j => j.slice = sl && j.epoch = e with
    | some j => (j.commit, s)
    | none => (commit, { s with jobs := s.jobs ++ [⟨sl, e, commit⟩] })

/-- The decision on an epoch that governs takes effect on this sled, and the commands that waited for it end (R123). -/
def State.decideJob (s : State) (p : Pid) (e : Epoch) (commit : Bool) : State :=
  let (d, s) := s.governs p e commit
  let commits := s.jobWaiters p e 4
  let revokes := s.jobWaiters p e 5
  let full := !d && (s.prt p).ep.check e = .full
  let s :=
    if d then (if e.ahead (s.prt p).ep.c then s.commitEpoch p e else s)
    else if (s.prt p).ep.check e = .ok then s.revokeEpoch p e else s
  let s := commits.foldl (fun s c => if d then s.finish c .ok 0 else s.finish c .epochRevoked 0) s
  let s := revokes.foldl (fun s c =>
    if d then s.refuse c 0xE8 else if full then s.finish c .quotaExceeded 0x10 else s.finish c .ok 0) s
  s.noteReady (.vf p)

/-- JOB_EPOCH_DECISION (R123): the decision on an epoch reaches this sled. -/
def State.jobDecision (s : State) (p : Pid) (e : Epoch) (commit : Bool) : State :=
  if (s.life p).st.committed then s.decideJob p e commit else s

/-- JOB_EPOCH_DECISION. -/
def execJobEpochDecision (p : Pid) (e : Epoch) (commit : Bool) (s : State) : Host.Outcome State Fault Refusal :=
  .next (s.jobDecision p e commit)

/-- TNT_EPOCH_WRITE (R125): in READY the write sets C and empties the set; elsewhere it is discarded. -/
def execTntEpochWrite (p : Pid) (v : W32) (s : State) : Host.Outcome State Fault Refusal :=
  .next (if s.vfFull p && (s.life p).st = .ready then
    s.modPrt p fun P => { P with ep := { P.ep with c := v, revoked := [], byCommit := false } } else s)

end Sys2Proof.Machine
end

