-- ==== Sys2Proof/Machine/Numerics.lean ====
section
/-! DEFINITION. Machine/Numerics.lean: the number formats, exact arithmetic and roundings of chapters 5, 9 and 11 (R131, R141 to R149). -/

namespace Sys2Proof.Machine

/-! ### Values -/

/-- A number before it is stored: NaN, an infinity, or ± m × 2^e with a signed zero. -/
inductive Val where
  | nan
  | inf (neg : Bool)
  | fin (neg : Bool) (m : Nat) (e : Int)
  deriving DecidableEq, Repr

/-- +0. -/
def Val.zero : Val := .fin false 0 0

/-- The value is finite. -/
def Val.isFin : Val → Bool
  | .fin _ _ _ => true
  | _ => false

/-- The value is ±0. -/
def Val.isZero : Val → Bool
  | .fin _ m _ => m = 0
  | _ => false

/-- The sign bit. -/
def Val.isNeg : Val → Bool
  | .nan => false
  | .inf n => n
  | .fin n _ _ => n

/-- − v. -/
def Val.neg : Val → Val
  | .nan => .nan
  | .inf n => .inf !n
  | .fin n m e => .fin (!n) m e

/-- |v|. -/
def Val.abs : Val → Val
  | .nan => .nan
  | .inf _ => .inf false
  | .fin _ m e => .fin false m e

/-- v × 2^k. -/
def Val.scale (v : Val) (k : Int) : Val :=
  match v with
  | .fin n m e => .fin n m (e + k)
  | _ => v

/-- A finite value in units of 2^q, where q is at most its exponent; 0 for any other. -/
def Val.units (v : Val) (q : Int) : Int :=
  match v with
  | .fin n m e => let k : Int := (m * 2 ^ (e - q).toNat : Nat); if n then -k else k
  | _ => 0

/-- The exponent of a finite value. -/
def Val.exp : Val → Int
  | .fin _ _ e => e
  | _ => 0

/-- The integer `z` times 2^q; a zero is +0. -/
def Val.ofInt (z : Int) (q : Int) : Val := .fin (z < 0) z.natAbs q

/-- a < b, for values that are not NaN. -/
def Val.lt (a b : Val) : Bool :=
  match a, b with
  | .inf n, .inf m => n && !m
  | .inf n, _ => n
  | _, .inf m => !m
  | _, _ => let q := min a.exp b.exp; a.units q < b.units q

/-! ### Exact arithmetic (R146) -/

/-- The exact product; ∞ × 0 is NaN. -/
def Val.mul (a b : Val) : Val :=
  match a, b with
  | .nan, _ => .nan
  | _, .nan => .nan
  | .fin n m e, .fin k l f => .fin (n != k) (m * l) (e + f)
  | _, _ => if a.isZero || b.isZero then .nan else .inf (a.isNeg != b.isNeg)

/-- The exact sum; +∞ with −∞ is NaN. A zero sum is −0 only where every term is −0. -/
def Val.sum (l : List Val) : Val :=
  if l.any (· = .nan) || (l.contains (.inf true) && l.contains (.inf false)) then .nan
  else if l.contains (.inf true) then .inf true
  else if l.contains (.inf false) then .inf false
  else
    let q := l.foldl (fun q v => min q v.exp) (match l with
      | v :: _ => v.exp
      | [] => 0)
    let z := l.foldl (fun z v => z + v.units q) (0 : Int)
    if z = 0 then .fin (!l.isEmpty && l.all fun v => v.isZero && v.isNeg) 0 0 else Val.ofInt z q

/-- a + b, exactly. -/
def Val.add (a b : Val) : Val := Val.sum [a, b]

/-- a − b, exactly. -/
def Val.sub (a b : Val) : Val := a.add b.neg

/-- Table 5-7: MAX. -/
def Val.max (a b : Val) : Val :=
  if a = .nan || b = .nan then .nan
  else if a.isZero && b.isZero then (if a.isNeg then b else a)
  else if a.lt b then b else a

/-- Table 5-7: MIN. -/
def Val.min (a b : Val) : Val :=
  if a = .nan || b = .nan then .nan
  else if a.isZero && b.isZero then (if a.isNeg then a else b)
  else if b.lt a then b else a

/-! ### Floating-point formats (R131) -/

/-- A floating-point format: exponent and fraction bits; E4M3 alone has no infinities (`ieee` false). -/
structure Fmt where
  eb   : Nat
  mb   : Nat
  ieee : Bool
  deriving DecidableEq, Repr

/-- FP32. -/
def fp32 : Fmt := ⟨8, 23, true⟩
/-- BF16. -/
def bf16 : Fmt := ⟨8, 7, true⟩
/-- FP16. -/
def fp16 : Fmt := ⟨5, 10, true⟩
/-- FP8 E4M3. -/
def e4m3 : Fmt := ⟨4, 3, false⟩
/-- FP8 E5M2. -/
def e5m2 : Fmt := ⟨5, 2, true⟩
/-- IEEE 754-2019 binary64. -/
def fp64 : Fmt := ⟨11, 52, true⟩

/-- The exponent of the least subnormal. -/
def Fmt.qmin (f : Fmt) : Int := 2 - (2 ^ (f.eb - 1) : Nat) - f.mb
/-- The significand of the largest finite value. -/
def Fmt.maxM (f : Fmt) : Nat := if f.ieee then 2 ^ (f.mb + 1) - 1 else 2 ^ (f.mb + 1) - 2
/-- The exponent of the largest finite value. -/
def Fmt.maxE (f : Fmt) : Int := f.qmin + (2 ^ f.eb : Nat) - (if f.ieee then 3 else 2)
/-- The largest finite value of a sign. -/
def Fmt.maxVal (f : Fmt) (neg : Bool) : Val := .fin neg f.maxM f.maxE

/-- The value that bits stand for. -/
def Fmt.decode (f : Fmt) (b : Nat) : Val :=
  let neg := bitOf b (f.eb + f.mb)
  let x := bitsOf b f.mb f.eb
  let m := bitsOf b 0 f.mb
  if f.ieee && x = 2 ^ f.eb - 1 then (if m = 0 then .inf neg else .nan)
  else if !f.ieee && x = 2 ^ f.eb - 1 && m = 2 ^ f.mb - 1 then .nan
  else if x = 0 then .fin neg m f.qmin
  else .fin neg (2 ^ f.mb + m) (f.qmin + (x : Int) - 1)

/-- The number of bits of a number. -/
def bitLen (n : Nat) : Nat := if n = 0 then 0 else Nat.log2 n + 1

/-- The bits of a value that the format holds. NaN is canonical (Table 5-1). -/
def Fmt.encode (f : Fmt) (v : Val) : Nat :=
  let sign (n : Bool) : Nat := bnat n * 2 ^ (f.eb + f.mb)
  match v with
  | .nan => if f.ieee then (2 ^ f.eb - 1) * 2 ^ f.mb + 2 ^ (f.mb - 1) else 2 ^ (f.eb + f.mb) - 1
  | .inf n => sign n + (2 ^ f.eb - 1) * 2 ^ f.mb
  | .fin n m e =>
    if m = 0 then sign n
    else
      let q := max f.qmin (e + (bitLen m : Int) - (f.mb + 1 : Nat))
      let k := if q ≤ e then m * 2 ^ (e - q).toNat else m / 2 ^ (q - e).toNat
      if k < 2 ^ f.mb then sign n + k else sign n + (q - f.qmin + 1).toNat * 2 ^ f.mb + (k - 2 ^ f.mb)

/-- Round m / 2^k to nearest, ties to even. -/
def shiftRne (m k : Nat) : Nat :=
  let n := m / 2 ^ k
  let r := m % 2 ^ k
  if 2 * r < 2 ^ k || (2 * r = 2 ^ k && n % 2 = 0) || k = 0 then n else n + 1

/-- R141, R142: round a value to the format, to nearest with ties to even. -/
def Fmt.round (f : Fmt) (sat : Bool) (v : Val) : Val :=
  let past (n : Bool) : Val := if f.ieee then .inf n else .nan
  match v with
  | .nan => .nan
  | .inf n => if f.ieee then .inf n else if sat then f.maxVal n else .nan
  | .fin n m e =>
    let q := max f.qmin (e + (bitLen m : Int) - (f.mb + 1 : Nat))
    let r : Val := if q ≤ e then .fin n m e else .fin n (shiftRne m (q - e).toNat) q
    if (f.maxVal false).lt r.abs then (if sat then f.maxVal n else past n) else r

/-- One rounding to FP32; overflow gives an infinity. -/
def rn32 (v : Val) : Val := fp32.round false v

/-- FP32 bits. -/
def Val.bits32 (v : Val) : W32 := BitVec.ofNat 32 (fp32.encode v)

/-- The value of FP32 bits. -/
def val32 (w : W32) : Val := fp32.decode w.toNat

/-- The order of magnitudes by FP32 bits, where a NaN ranks above +∞ (R283, R309). -/
def topKey (a : Val) : Nat := a.abs.bits32.toNat % 2 ^ 31

/-- An integer saturated to [lo, hi]. -/
def clampInt (lo hi z : Int) : Int := max lo (min hi z)

/-- The integer nearest to a finite value, ties to even, saturated to [lo, hi]; R143 for the others. -/
def Val.toInt (v : Val) (lo hi : Int) : Int :=
  match v with
  | .nan => 0
  | .inf n => if n then lo else hi
  | .fin n m e =>
    let k : Nat := if 0 ≤ e then m * 2 ^ e.toNat else shiftRne m (-e).toNat
    let z : Int := if n then -(k : Int) else k
    clampInt lo hi z

/-! ### Division and square root, correctly rounded -/

/-- The bits of the square root of n, from bit i − 1 down. -/
def isqrtFrom (n r : Nat) : Nat → Nat
  | 0 => r
  | i + 1 => isqrtFrom n (if (r + 2 ^ i) * (r + 2 ^ i) ≤ n then r + 2 ^ i else r) i

/-- The integer square root. -/
def isqrt (n : Nat) : Nat := isqrtFrom n 0 (bitLen n / 2 + 1)

/-- a / b, with enough bits and a sticky bit below them for one rounding to `f`. -/
def Fmt.div (f : Fmt) (a b : Val) : Val :=
  match a, b with
  | .nan, _ => .nan
  | _, .nan => .nan
  | .inf _, .inf _ => .nan
  | .inf n, _ => .inf (n != b.isNeg)
  | .fin n _ _, .inf k => .fin (n != k) 0 0
  | .fin n m e, .fin k l g =>
    if l = 0 then (if m = 0 then .nan else .inf (n != k))
    else
      let j := f.mb + 4 + bitLen l
      let x := m * 2 ^ j
      f.round false (.fin (n != k) (2 * (x / l) + bnat (x % l ≠ 0)) (e - g - j - 1))

/-- √v, correctly rounded to `f`. -/
def Fmt.sqrt (f : Fmt) (v : Val) : Val :=
  match v with
  | .nan => .nan
  | .inf n => if n then .nan else .inf false
  | .fin n m e =>
    if m = 0 then .fin n 0 0
    else if n then .nan
    else
      let j := 2 * (f.mb + 4) + (if e % 2 = 0 then 0 else 1)
      let x := m * 2 ^ j
      let r := isqrt x
      f.round false (.fin false (2 * r + bnat (r * r ≠ x)) ((e - j) / 2 - 1))

/-! ### Elements (Table 5-1, R143, R144) -/

/-- The floating-point format of a code. -/
def fmtOf : Nat → Option Fmt
  | 0 => some fp32 | 1 => some bf16 | 2 => some fp16 | 3 => some e4m3 | 4 => some e5m2 | _ => none

/-- The format code is defined. -/
def fmtOk (c : Nat) : Bool := c ≤ 6
/-- The format is FP8. -/
def isFp8 (c : Nat) : Bool := c = 3 || c = 4
/-- The format is an integer. -/
def isInt (c : Nat) : Bool := c = 5 || c = 6
/-- The bytes of an element. -/
def elemSize : Nat → Nat
  | 0 => 4 | 1 => 2 | 2 => 2 | 6 => 4 | _ => 1

/-- The value of an element's bits. -/
def decodeElem (c b : Nat) : Val :=
  match fmtOf c with
  | some f => f.decode b
  | none => Val.ofInt (signed (8 * elemSize c) b) 0

/-- R143: a two's-complement number of a format's bytes. -/
def wrapInt (c : Nat) (z : Int) : Nat := (z % (2 ^ (8 * elemSize c) : Nat)).toNat

/-- R141 to R143: the bits to which a value converts. -/
def encodeElem (c : Nat) (sat : Bool) (v : Val) : Nat :=
  match fmtOf c with
  | some f => f.encode (f.round sat v)
  | none => if c = 5 then wrapInt 5 (v.toInt (-128) 127) else wrapInt 6 (v.toInt (-(2 ^ 31)) (2 ^ 31 - 1))

/-- R148: an input of the vector unit, in FP32. -/
def vecInput (c b : Nat) : Val := if c = 6 then rn32 (decodeElem c b) else decodeElem c b

/-- R144: the AUTO scale for values stored in format `f`. -/
def autoScale (f : Fmt) (vs : List Val) : Int :=
  let amax := vs.foldl (fun a v => if v.isFin then a.max v.abs else a) Val.zero
  match amax with
  | .fin _ m e =>
    if m = 0 then 0
    else
      let k := e + (bitLen m : Int) - (f.maxE + (bitLen f.maxM : Int))
      let fits (k : Int) : Bool := !(f.maxVal false).lt (amax.scale (-k))
      let k := if fits k then k else k + 1
      clampInt (-128) 127 k
  | _ => 0

/-! ### The bounded operations of Table 5-7 -/

/-- One unit in the last place of FP32 at a value. -/
def ulp32 (v : Val) : Val :=
  match v with
  | .fin _ m e => .fin false 1 (max (-149) (e + (bitLen m : Int) - 24))
  | _ => Val.zero

/-- 1 / x lies within one ulp of r: |r x − 1| ≤ ulp |x|. -/
def recipOk (x r : Val) : Bool :=
  let u := ulp32 (fp32.div (.fin false 1 0) x)
  r.isFin && !(u.mul x.abs).lt ((r.mul x).sub (.fin false 1 0)).abs

/-- 1 / √x lies within one ulp of r ≥ 0: (r − u)² x ≤ 1 ≤ (r + u)² x, with r − u taken as 0 where it is negative. -/
def rsqrtOk (x r : Val) : Bool :=
  let one : Val := .fin false 1 0
  let u := ulp32 (fp32.div one (fp32.sqrt x))
  let lo := (r.sub u).max Val.zero
  let hi := r.add u
  r.isFin && !r.isNeg && !one.lt ((lo.mul lo).mul x) && !((hi.mul hi).mul x).lt one

/-- The result the device gives a bounded operation: the one opaque function of the input. -/
def boundedVal (vop : Nat) (x : Val) : Val := val32 (Config.bounded vop x.bits32)

/-- Table 5-7, R148: VOP 0x10 to 0x16. The stated special values are exact; any other result is the device's own, and for RECIP
and RSQRT one that its bound admits (log entry 15). -/
def boundedOp (vop : Nat) (x : Val) : Val :=
  if x = .nan then .nan
  else match vop with
  | 0x10 => match x with
    | .inf n => if n then Val.zero else .inf false
    | _ => boundedVal vop x
  | 0x11 => if x.isZero then .inf true else if x.isNeg then .nan else match x with
    | .inf n => .inf n
    | _ => boundedVal vop x
  | 0x12 => match x with
    | .inf n => .fin n 0 0
    | _ =>
      let c := fp32.div (.fin false 1 0) x
      let r := boundedVal vop x
      if x.isZero || !recipOk x r then c else r
  | 0x13 => if x.isZero then .inf x.isNeg else if x.isNeg then .nan else match x with
    | .inf _ => Val.zero
    | _ =>
      let r := boundedVal vop x
      if rsqrtOk x r then r else fp32.div (.fin false 1 0) (fp32.sqrt x)
  | _ => boundedVal vop x

/-- Table 5-7: the result of a VOP on FP32 inputs. -/
def vecOp (vop : Nat) (x y z imm : Val) : Val :=
  match vop with
  | 0x00 => x
  | 0x01 => rn32 (x.add y)
  | 0x02 => rn32 (x.sub y)
  | 0x03 => rn32 (x.mul y)
  | 0x04 => rn32 ((x.mul y).add z)
  | 0x05 => x.max y
  | 0x06 => x.min y
  | 0x07 => rn32 (x.mul imm)
  | 0x08 => rn32 (x.add imm)
  | 0x09 => if x = .nan then .nan else if Val.zero.lt x then x else Val.zero
  | _ => boundedOp vop x

end Sys2Proof.Machine
end

