-- ==== Sys2Proof/Machine/Pairs.lean ====
section
/-! DEFINITION. Machine/Pairs.lean: buffer pairs as compute operations and stream units meet them (R165 to R169), and read-ahead
(R200). -/

namespace Sys2Proof.Machine

/-- A tile of the consumer view. -/
def Pair.inCons (x : Pair) (t : TileNo) : Bool := x.base ≤ t && t < x.base + x.half

/-- A tile of the producer view. -/
def Pair.inProd (x : Pair) (t : TileNo) : Bool := x.base + x.half ≤ t && t < x.base + 2 * x.half

/-- The consumer half can be read: VALID and not quarantined (R165, R169). -/
def Pair.ready (x : Pair) : Bool := x.valid && x.quar.isNone && !x.broken

/-- The consumer half is FREE with no holders (R166). -/
def Pair.open_ (x : Pair) : Bool := !x.valid && x.holders.isEmpty && !x.broken

/-- R165: one release. -/
def Pair.release (x : Pair) : Pair :=
  if x.remain = 0 then { x with overrel := true }
  else { x with remain := x.remain - 1, valid := x.valid && x.remain != 1 }

/-- Exchange two blocks of `n` bytes, at `a` and at `a + n`; the list keeps its order. -/
def swapBytes (m : List Host.Cell) (a n : Nat) : List Host.Cell :=
  m.filter (fun c => c.1 < a) ++ (m.filter fun c => a + n ≤ c.1 && c.1 < a + 2 * n).map (fun c => (c.1 - n, c.2))
    ++ (m.filter fun c => a ≤ c.1 && c.1 < a + n).map (fun c => (c.1 + n, c.2)) ++ m.filter fun c => a + 2 * n ≤ c.1

/-- The number a tile bears after the two views have exchanged their homes. -/
def Pair.swapped (x : Pair) (t : TileNo) : TileNo :=
  if x.inCons t then t + x.half else if x.inProd t then t - x.half else t

/-- R166: exchange the homes of the two halves, with what they hold. -/
def Memory.swapHalves (m : Memory) (x : Pair) : Memory :=
  { m with tiles := m.tiles.map fun t => { t with num := x.swapped t.num },
           bytes := swapBytes m.bytes (x.base * tileBytes) (x.half * tileBytes) }

/-- R166, R169: a swap. `tag`: the run-ahead tag of the unit that swaps; `dead`: that epoch is revoked, so the half is FREE. -/
def State.swapPair (s : State) (b : PairRef) (tag : Option Epoch) (dead : Bool) : State :=
  let x := s.pair b
  (s.modMem b.pid fun m => m.swapHalves x).modPair b fun x =>
    { x with valid := !dead, remain := if dead then 0 else x.uses, stale := false, swaps := x.swaps + 1, quar := if dead then none else tag }

/-- The bound pairs with CCONS whose consumer view a read touches. -/
def State.pairsRead (s : State) (p : Pid) (ts : List TileNo) : List PairRef :=
  (pairsOf p).filter fun b => let x := s.pair b; x.bound && x.ccons && ts.any x.inCons

/-- R168: the wait on a pair has lasted longer than its TIMEOUT. -/
def State.pairOver (s : State) (b : PairRef) (since : Option Nat) : Bool :=
  let x := s.pair b
  match since with
  | some t => x.timeout != 0 && x.timeout.toNat * 1000 ≤ s.since t
  | none => false

/-- R168: the DETAIL of a compute operation that ends on a pair. -/
def pairDetail (b : PairRef) (past : Bool) : W32 :=
  BitVec.ofNat 32 ((if past then 0x50000 else 0x40000) + 16 * b.core.val + b.pair.val)

/-- The operation holds the pair's consumer half. -/
def Pair.heldBy (x : Pair) (o : OpRef) : Bool := x.holders.contains (.op o)

/-- R165: the operation takes hold of every half of the list that is ready. -/
def State.holdPairs (s : State) (o : OpRef) (bs : List PairRef) : State :=
  bs.foldl (fun s b =>
    let x := s.pair b
    if x.ready && !x.heldBy o then s.modPair b fun x => { x with holders := x.holders ++ [.op o] } else s) s

/-- The first pair of the list that ends the operation, and how (R168). -/
def State.pairEnd (s : State) (o : OpRef) (bs : List PairRef) (since : Option Nat) : Option W32 :=
  bs.findSome? fun b =>
    let x := s.pair b
    if x.heldBy o then none
    else if x.broken then some (pairDetail b false)
    else if s.pairOver b since then some (pairDetail b true)
    else none

/-- R165: an operation lets its halves go: the end of its hold is one release. -/
def State.letPairsGo (s : State) (p : Pid) (sel : OpRef → Bool) : State :=
  s.mapPairs p fun x =>
    let mine (h : Holder) : Bool := match h with
      | .op o => sel o
      | .mov _ => false
    let n := (x.holders.filter mine).length
    Nat.repeat Pair.release n { x with holders := x.holders.filter (!mine ·) }

/-- R166: an operation that wrote a producer view has ended. -/
def State.countProducer (s : State) (p : Pid) (ts : List TileNo) : State :=
  s.mapPairs p fun x => if x.bound && x.cprod && ts.any x.inProd then { x with writes := x.writes + 1 } else x

/-! ### Stream units -/

/-- The relative core after a core in the ring (R172). -/
def State.successor (s : State) (p : Pid) (c : RelCore) : RelCore :=
  let n := (s.coresOf p).length
  if h : n = 0 then c else ⟨(c.val + 1) % n % 64, Nat.mod_lt _ (by omega)⟩

/-- The run-ahead tag of a unit's work, and whether that epoch is revoked (R124, R241). -/
def State.unitTag (s : State) (u : UnitRef) : Option Epoch := s.aheadTag u.pid true (s.unit u).tag

/-- The unit's epoch is in the revoked set. -/
def State.unitDead (s : State) (u : UnitRef) : Bool := (s.prt u.pid).ep.revoked.contains (s.unit u).tag

/-! ### Read-ahead (R200) -/

/-- A reader reads a tile: what was staged for it is used; two successive reads of a STREAMING object start read-ahead. -/
def Memory.readBy (m : Memory) (r : Reader) (t : TileNo) (now : Nat) : Memory :=
  let staged := m.staged.filter fun x => !(x.reader = r && x.tile = t)
  let follows := m.last.any fun x => x.reader = r && x.tile + 1 = t
  let last := m.last.filter (·.reader != r) ++ [⟨r, t⟩]
  match m.objOf t with
  | some o =>
    if o.hint = 4 then
      let want := ((List.range 8).map (t + 2 + ·)).filter fun x =>
        x < o.base + o.tiles && !staged.any fun y => y.reader = r && y.tile = x
      let more := if follows then (want.take (32 - staged.length)).map fun x => ⟨r, x, now⟩ else []
      { m with staged := staged ++ more, last := last }
    else { m with staged := staged }
  | none => m

/-- A reader reads a range. -/
def State.readBy (s : State) (p : Pid) (r : Reader) (ts : List TileNo) : State :=
  ts.foldl (fun s t => s.modMem p fun m => m.readBy r t s.pwr.clk) s

/-- READ_AHEAD_EXPIRE (R200): a staged tile is discarded 10 ms after staging. -/
def execReadAheadExpire (p : Pid) (i : Nat) (s : State) : Host.Outcome State Fault Refusal :=
  .next (match (s.prt p).mem.staged[i]? with
    | some x => if 10000000 ≤ s.since x.at_ then s.modMem p fun m => { m with staged := m.staged.eraseIdx i } else s
    | none => s)

end Sys2Proof.Machine
end

