-- ==== Sys2Proof/Machine/Compute.lean ====
section
/-! DEFINITION. Machine/Compute.lean: the compute operations of chapter 5: layout (R132, R133), operand checks (R128, R134 to R140),
results (R141 to R149) and their start and end (R130, R139, R165 to R168). -/

namespace Sys2Proof.Machine

/-! ### Matrices (R132, R133) -/

/-- A matrix operand: format, first tile, stride, and its rows and columns in elements. -/
structure Mat where
  fmt   : Nat
  first : TileNo
  ld    : Nat
  rows  : Nat
  cols  : Nat
  deriving DecidableEq, Repr

/-- The columns of a tile of a format (Table 5-1). -/
def tileCols (c : Nat) : Nat := 512 / elemSize c

/-- The tile rows. -/
def Mat.r (M : Mat) : Nat := (M.rows + 127) / 128
/-- The tile columns. -/
def Mat.q (M : Mat) : Nat := (M.cols + tileCols M.fmt - 1) / tileCols M.fmt
/-- R133: the first and last tile of the span. -/
def Mat.span (M : Mat) : TileNo × TileNo := (M.first, M.first + (M.r - 1) * M.ld + M.q - 1)
/-- Its tiles, row by row. -/
def Mat.tiles (M : Mat) : List TileNo := (List.range M.r).flatMap fun i => (List.range M.q).map fun j => M.first + i * M.ld + j
/-- Its tiles as spans. -/
def Mat.spans (M : Mat) : List (TileNo × Nat) := (List.range M.r).map fun i => (M.first + i * M.ld, M.q)

/-- R133: the TA of element (r, c). -/
def Mat.elemTa (M : Mat) (r c : Nat) : Nat :=
  let w := tileCols M.fmt
  (M.first + r / 128 * M.ld + c / w) * tileBytes + r % 128 * 512 + c % w * elemSize M.fmt

/-- The bits of element (r, c). -/
def Mat.bits (M : Mat) (m : List Host.Cell) (r c : Nat) : Nat := leAt (readBytes m (M.elemTa r c) (elemSize M.fmt)) 0 (elemSize M.fmt)

/-- The value of element (r, c). -/
def Mat.val (M : Mat) (m : List Host.Cell) (r c : Nat) : Val := decodeElem M.fmt (M.bits m r c)

/-- A scale vector: its TA, the stride of its matrix, and the matrix's tile rows and columns (R144). -/
structure Scl where
  ta : Nat
  ld : Nat
  r  : Nat
  q  : Nat
  deriving DecidableEq, Repr

/-- The TA of the scale byte of tile (i, j). -/
def Scl.at_ (S : Scl) (i j : Nat) : Nat := S.ta + i * S.ld + j
/-- The scale of tile (i, j). -/
def Scl.get (S : Scl) (m : List Host.Cell) (i j : Nat) : Int := signed 8 (readByte m (S.at_ i j)).toNat
/-- The tiles the scale bytes lie in. -/
def Scl.tiles (S : Scl) : List TileNo := (List.range S.r).flatMap fun i => tilesOf (S.at_ i 0) S.q
/-- The first and last tile of a scale vector. -/
def Scl.span (S : Scl) : TileNo × TileNo := (tileOf S.ta, tileOf (S.at_ (S.r - 1) (S.q - 1)))

/-- The scale of element (r, c) of a matrix; 0 without a vector. -/
def scaleOf (S : Option Scl) (M : Mat) (m : List Host.Cell) (r c : Nat) : Int :=
  match S with
  | some S => S.get m (r / 128) (c / tileCols M.fmt)
  | none => 0

/-- R133: the writes of a matrix; `e`: the scale of each tile. -/
def Mat.emit (D : Mat) (sat : Bool) (val : Nat → Nat → Val) (e : Nat → Nat → Int) : Writes :=
  let w := tileCols D.fmt
  (List.range D.r).flatMap fun i => (List.range D.q).flatMap fun j =>
    let k := -(e i j)
    (List.range (min 128 (D.rows - 128 * i))).map fun rr =>
      (D.elemTa (128 * i + rr) (w * j), (List.range (min w (D.cols - w * j))).flatMap fun c =>
        leBytes (elemSize D.fmt) (encodeElem D.fmt sat ((val (128 * i + rr) (w * j + c)).scale k)))

/-- R144: the AUTO scale of tile (i, j) of an output. -/
def Mat.auto (D : Mat) (val : Nat → Nat → Val) (i j : Nat) : Int :=
  let w := tileCols D.fmt
  match fmtOf D.fmt with
  | some f => autoScale f ((List.range (min 128 (D.rows - 128 * i))).flatMap fun rr =>
      (List.range (min w (D.cols - w * j))).map fun c => val (128 * i + rr) (w * j + c))
  | none => 0

/-- R144: the writes of a matrix with AUTO scales, and the scale bytes. -/
def Mat.emitAuto (D : Mat) (S : Scl) (sat : Bool) (val : Nat → Nat → Val) : Writes :=
  D.emit sat val (D.auto val) ++
    (List.range S.r).flatMap fun i => (List.range S.q).map fun j => (S.at_ i j, [BitVec.ofInt 8 (D.auto val i j)])

/-! ### Results -/

/-- A compute operation: what it reads and writes, whether a scale TA or a reserved field is wrong, and its result. -/
structure ComputeOp where
  reads  : List Mat
  out    : Mat
  sreads : List Scl
  sout   : Option Scl
  inPlace : List Nat
  badScl : Bool
  badRsv : Bool
  result   : List Host.Cell → Writes

/-- R145, R146: one element of a floating-point MATMUL. `a`, `b`: the values along k; `e`: the scale of the group that starts at k. -/
def matElem (a b : Nat → Val) (e : Nat → Int) (c : Val) (groups : Nat) : Val :=
  (List.range groups).foldl (fun acc g =>
    let p := (List.range 16).map fun i => (a (16 * g + i)).mul (b (16 * g + i))
    rn32 (acc.add (rn32 ((Val.sum p).scale (e (16 * g)))))) c

/-- R147: one element of an INT8 MATMUL. -/
def matInt (a b : Nat → Int) (c : Int) (groups : Nat) : Int :=
  (List.range groups).foldl (fun acc g =>
    clampInt (-(2 ^ 31)) (2 ^ 31 - 1) (acc + ((List.range 16).map fun i => a (16 * g + i) * b (16 * g + i)).foldl (· + ·) 0)) c

/-- The integer that an element's value is. -/
def Val.int (v : Val) : Int := v.units 0

/-- MATMUL's result (R145 to R147); `ta`, `tb`: TRANS_A and TRANS_B (R136). -/
def matmulResult (A B : Mat) (C : Option Mat) (D : Mat) (SA SB SD : Option Scl) (ta tb sat : Bool) (k : Nat) (m : List Host.Cell) :
    Writes :=
  let ai (r i : Nat) : Nat × Nat := if ta then (i, r) else (r, i)
  let bi (i c : Nat) : Nat × Nat := if tb then (c, i) else (i, c)
  let av (r i : Nat) : Val := A.val m (ai r i).1 (ai r i).2
  let bv (i c : Nat) : Val := B.val m (bi i c).1 (bi i c).2
  let cv (r c : Nat) : Val := match C with
    | some M => M.val m r c
    | none => Val.zero
  let val (r c : Nat) : Val :=
    if isInt A.fmt then Val.ofInt (matInt (fun i => (av r i).int) (fun i => (bv i c).int) (cv r c).int (k / 16)) 0
    else matElem (av r) (fun i => bv i c)
      (fun i => scaleOf SA A m (ai r i).1 (ai r i).2 + scaleOf SB B m (bi i c).1 (bi i c).2) (cv r c) (k / 16)
  match SD with
  | some S => D.emitAuto S sat val
  | none => D.emit sat val fun _ _ => 0

/-- The body fields of an operation, as little-endian numbers. -/
def matmulFmtOk (fa fb fd fc : Nat) (acc : Bool) : Bool :=
  (if (fa = 1 || fa = 2) && fb = fa then fd ≤ 2
   else if isFp8 fa && isFp8 fb then fd ≤ 4
   else fa = 5 && fb = 5 && fd = 6)
  && (if acc then (fc = fd || fc = 0) && (fa != 5 || fc = 6) else fc = 0)

/-- A scale vector for a matrix of FP8. -/
def Mat.scl (M : Mat) (ta : Nat) : Option Scl := if isFp8 M.fmt then some ⟨ta, M.ld, M.r, M.q⟩ else none

/-- MATMUL's operands (Table 5-3, R135): a failed check of format or dimension, or the operation. -/
def parseMatmul (o : ListOp) : Except W32 ComputeOp :=
  let f := o.field 8 2
  let fa := bitsOf f 0 4
  let fb := bitsOf f 4 4
  let fd := bitsOf f 8 4
  let fc := bitsOf f 12 4
  let fl := o.field 10 1
  let ta := bitOf fl 0
  let tb := bitOf fl 1
  let acc := bitOf fl 2
  let m := 128 * o.field 12 2
  let n := 128 * o.field 14 2
  let k := 128 * o.field 16 2
  if !matmulFmtOk fa fb fd fc acc then .error 0x10
  else if m = 0 || n = 0 || k = 0 then .error 0x11
  else
    let A : Mat := ⟨fa, o.field 20 4, o.field 36 2, if ta then k else m, if ta then m else k⟩
    let B : Mat := ⟨fb, o.field 24 4, o.field 38 2, if tb then n else k, if tb then k else n⟩
    let C : Option Mat := if acc then some ⟨fc, o.field 28 4, o.field 40 2, m, n⟩ else none
    let D : Mat := ⟨fd, o.field 32 4, o.field 42 2, m, n⟩
    let SA := A.scl (o.field 44 6)
    let SB := B.scl (o.field 50 6)
    let SD := D.scl (o.field 56 6)
    .ok { reads := [A, B] ++ C.toList, out := D, sreads := SA.toList ++ SB.toList, sout := SD, inPlace := [2],
          badScl := (SA.isNone && o.field 44 6 != 0) || (SB.isNone && o.field 50 6 != 0) || (SD.isNone && o.field 56 6 != 0),
          badRsv := fl / 16 != 0 || o.field 11 1 != 0 || o.field 18 2 != 0 || o.field 62 2 != 0
            || (!acc && (o.field 28 4 != 0 || o.field 40 2 != 0)),
          result := matmulResult A B C D SA SB SD ta tb (bitOf fl 3) k }

/-- R137: SMODE is allowed for the formats. -/
def smodeOk (src dst sm : Nat) : Bool :=
  match sm with
  | 0 => true
  | 1 => isFp8 dst && !isFp8 src && !isInt src
  | 2 => isFp8 src != isFp8 dst && !isInt src && !isInt dst
  | _ => false

/-- CONVERT's result (R141 to R144). -/
def convertResult (S D : Mat) (sat : Bool) (sm scale : Nat) (m : List Host.Cell) : Writes :=
  let pre : Option Scl := if sm = 2 && isFp8 S.fmt then some ⟨scale, S.ld, S.r, S.q⟩ else none
  let val (r c : Nat) : Val := (vecInput S.fmt (S.bits m r c)).scale (scaleOf pre S m r c)
  let sd : Scl := ⟨scale, D.ld, D.r, D.q⟩
  if sm = 1 then D.emitAuto sd sat val
  else if sm = 2 && isFp8 D.fmt then D.emit sat val fun i j => sd.get m i j
  else D.emit sat val fun _ _ => 0

/-- CONVERT's operands (Table 5-5). -/
def parseConvert (o : ListOp) : Except W32 ComputeOp :=
  let f := o.field 8 1
  let src := bitsOf f 0 4
  let dst := bitsOf f 4 4
  let fl := o.field 9 1
  let sm := bitsOf fl 1 2
  let m := 128 * o.field 12 2
  let n := 128 * o.field 14 2
  let ta := o.field 28 6
  if !fmtOk src || !fmtOk dst then .error 0x10
  else if m = 0 || n = 0 then .error 0x11
  else
    let S : Mat := ⟨src, o.field 16 4, o.field 24 2, m, n⟩
    let D : Mat := ⟨dst, o.field 20 4, o.field 26 2, m, n⟩
    let bad := !smodeOk src dst sm || (sm = 0 && ta != 0)
    .ok { reads := [S], out := D,
          sreads := if !bad && sm = 2 then [if isFp8 src then ⟨ta, S.ld, S.r, S.q⟩ else ⟨ta, D.ld, D.r, D.q⟩] else [],
          sout := if !bad && sm = 1 then some ⟨ta, D.ld, D.r, D.q⟩ else none, inPlace := [], badScl := bad,
          badRsv := fl / 8 != 0 || o.field 10 2 != 0 || o.field 34 6 != 0, result := convertResult S D (bitOf fl 0) sm ta }

/-- Table 5-7: the operands a VOP uses, of X, Y and Z; none where it is reserved. -/
def vopUses (vop : Nat) : Option Nat :=
  if vop = 0 || (7 ≤ vop && vop ≤ 9) || (0x10 ≤ vop && vop ≤ 0x16) then some 1
  else if vop = 4 then some 3
  else if vop ≤ 6 then some 2
  else none

/-- VEC_EW's result (R148). -/
def vecEwResult (X : Mat) (Y Z : Option Mat) (D : Mat) (vop : Nat) (bc sat : Bool) (imm : W32) (m : List Host.Cell) : Writes :=
  let get (M : Option Mat) (r c : Nat) : Val := match M with
    | some M => vecInput M.fmt (M.bits m r c)
    | none => Val.zero
  D.emit sat (fun r c => vecOp vop (get (some X) r c) (get Y (if bc then 0 else r) c) (get Z r c) (val32 imm)) fun _ _ => 0

/-- VEC_EW's operands (Table 5-6). -/
def parseVecEw (o : ListOp) : Except W32 ComputeOp :=
  let vop := o.field 8 1
  let fl := o.field 9 1
  let bc := bitOf fl 1
  let f := o.field 10 2
  let uses := (vopUses vop).getD 1
  let m := 128 * o.field 12 2
  let n := 128 * o.field 14 2
  let X : Mat := ⟨bitsOf f 0 4, o.field 16 4, o.field 32 2, m, n⟩
  let Y : Mat := ⟨bitsOf f 4 4, o.field 20 4, o.field 34 2, if bc then 1 else m, n⟩
  let Z : Mat := ⟨bitsOf f 8 4, o.field 24 4, o.field 36 2, m, n⟩
  let D : Mat := ⟨bitsOf f 12 4, o.field 28 4, o.field 38 2, m, n⟩
  let reads := [X] ++ (if 2 ≤ uses then [Y] else []) ++ (if uses = 3 then [Z] else [])
  if !reads.all (fun M => fmtOk M.fmt) || !fmtOk D.fmt then .error 0x10
  else if m = 0 || n = 0 then .error 0x11
  else
    .ok { reads := reads, out := D, sreads := [], sout := none, inPlace := [0, 1, 2], badScl := false,
          badRsv := (vopUses vop).isNone || fl / 4 != 0 || o.field 44 4 != 0 || (bc && uses < 2)
            || (uses < 2 && (Y.first != 0 || Y.ld != 0)) || (uses < 3 && (Z.first != 0 || Z.ld != 0)),
          result := vecEwResult X (if 2 ≤ uses then some Y else none) (if uses = 3 then some Z else none) D vop bc (bitOf fl 0)
            (BitVec.ofNat 32 (o.field 40 4)) }

/-- R149: the tree over 256 partial results; `w` halves from 128 on. -/
def redTree (op : Val → Val → Val) : Nat → List Val → Val
  | 0, l => l.headD Val.zero
  | n + 1, l => redTree op n ((List.range (2 ^ n)).map fun j => op (l.getD j Val.zero) (l.getD (j + 2 ^ n) Val.zero))

/-- R149: one row. -/
def redRow (rop n : Nat) (x : Nat → Val) : Val :=
  let op (a b : Val) : Val := if rop < 2 then rn32 (a.add b) else a.max b
  let f (v : Val) : Val := if rop = 1 then rn32 (v.mul v) else if rop = 3 then v.abs else v
  let init : Val := if rop = 2 then .inf true else Val.zero
  let lanes := (List.range 256).map fun j =>
    (List.range ((n + 255 - j) / 256)).foldl (fun acc i => op acc (f (x (256 * i + j)))) init
  redTree op 8 lanes

/-- VEC_RED's operands (Table 5-8, R138). -/
def parseVecRed (o : ListOp) : Except W32 ComputeOp :=
  let rop := o.field 8 1
  let f := o.field 9 1
  let m := 128 * o.field 12 2
  let n := 128 * o.field 14 2
  let X : Mat := ⟨bitsOf f 0 4, o.field 16 4, o.field 24 2, m, n⟩
  let D : Mat := ⟨0, o.field 20 4, o.field 26 2, m, 1⟩
  if !fmtOk X.fmt then .error 0x10
  else if m = 0 || n = 0 then .error 0x11
  else
    .ok { reads := [X], out := D, sreads := [], sout := none, inPlace := [], badScl := false,
          badRsv := 4 ≤ rop || f / 16 != 0 || o.field 10 2 != 0 || o.field 28 4 != 0,
          result := fun c => D.emit false (fun r _ => redRow rop n fun i => vecInput X.fmt (X.bits c r i)) fun _ _ => 0 }

/-- The operands of a compute operation by its code. -/
def parseCompute (o : ListOp) : Except W32 ComputeOp :=
  match o.lop.toNat with
  | 1 => parseMatmul o
  | 2 => parseConvert o
  | 3 => parseVecEw o
  | _ => parseVecRed o

/-- Two ranges of tiles meet. -/
def spansMeet (a b : TileNo × TileNo) : Bool := a.1 ≤ b.2 && b.1 ≤ a.2

/-- R140: the output overlaps an input, other than an exact in-place alias. -/
def ComputeOp.overlaps (C : ComputeOp) : Bool :=
  let D := C.out
  let same (M : Mat) : Bool := M.first = D.first && M.ld = D.ld && elemSize M.fmt = elemSize D.fmt
  (C.reads.mapIdx fun i M => spansMeet M.span D.span && !(C.inPlace.contains i && same M)).any id
    || (C.sreads ++ C.sout.toList).any fun S => spansMeet S.span D.span

/-- R128, R135 to R140: the operand checks of a compute operation for a partition of `n` cores, in the order of Table 5-9 (log entry 16). -/
def checkCompute (n : Nat) (o : ListOp) : Except W32 ComputeOp :=
  let first := bitsOf o.arg.toNat 0 8
  let nc := bitsOf o.arg.toNat 8 8
  match parseCompute o with
  | .error d => .error d
  | .ok C =>
    if nc = 0 || n < first + nc then .error 0x12
    else if C.overlaps then .error 0x13
    else if C.badScl then .error 0x14
    else if C.badRsv || o.arg.toNat / 65536 != 0 || (C.reads ++ [C.out]).any fun M => M.ld < M.q then .error 0x15
    else .ok C

/-- The tiles an operation reads. -/
def ComputeOp.readTiles (C : ComputeOp) : List TileNo := C.reads.flatMap (·.tiles) ++ C.sreads.flatMap (·.tiles)

/-- Every tile of an operation, in the order of its operands. -/
def ComputeOp.tiles (C : ComputeOp) : List TileNo :=
  C.reads.flatMap (·.tiles) ++ C.out.tiles ++ (C.sreads ++ C.sout.toList).flatMap (·.tiles)

/-- The ranges an operation has access to while it runs (R55). -/
def ComputeOp.spans (C : ComputeOp) : List (TileNo × Nat) :=
  C.reads.flatMap (·.spans) ++ C.out.spans ++ (C.sreads ++ C.sout.toList).flatMap fun S =>
    (List.range S.r).map fun i => spanOf (S.at_ i 0) S.q

/-! ### What an operation does to memory -/

/-- An operation reads its operands and writes its results. -/
def State.runCompute (s : State) (p : Pid) (C : ComputeOp) (tag : Option Epoch) (dead : Bool) : State :=
  let ws := C.result (s.prt p).mem.bytes
  let s := C.readTiles.foldl (fun s t => s.touch p t tileBytes false) s
  s.storeAll p ws tag dead

/-- The pieces an operation may write, where every tile of it may be written. -/
def ComputeOp.mayWrite (C : ComputeOp) (s : State) (p : Pid) : Writes :=
  (C.result (s.prt p).mem.bytes).filter fun w => match s.tile? p (tileOf w.1) with
    | some x => x.st != .poisoned && !x.isMoving
    | none => false

/-- A compute operation starts (R130, R139, R165): its checks, its wait for pairs, its wait for tiles, its work. -/
def State.computeOp (s : State) (o : OpRef) (lop : Nat) : State :=
  match o.cmd.ring, s.nextOp o 1 lop with
  | .vf p _, some (k, op) =>
    match checkCompute (s.coresOf p).length op with
    | .error d => s.opInstant o .malformed d
    | .ok C =>
      let ts := C.tiles
      let tag := s.tagOf o.cmd.ring k.hdr
      let bs := s.pairsRead p C.readTiles
      let done (s : State) (st : Status) (d : W32) : State := (s.letPairsGo p (· = o)).opInstant o st d
      match s.deny o.cmd p ts with
      | some (.accessFault, d) => done s .accessFault d
      | e =>
        let s := s.holdPairs o bs
        match s.pairEnd o bs k.pairAt with
        | some d => done s .fenceTimeout d
        | none =>
          if bs.any fun b => !(s.pair b).heldBy o then
            s.modCmd o.cmd fun k => { k with pairAt := some (k.pairAt.getD s.pwr.clk) }
          else match e with
            | some (st, d) => done (s.spoil p (C.mayWrite s p) tag k.dead) st d
            | none =>
              if s.blocked p ts tag then s.noteBlocked o.cmd p ts tag
              else (s.runCompute p C tag k.dead).opBegin o (s.newOp o op C.spans)
  | _, _ => s

/-- MATMUL (R145). -/
def execMatmul (o : OpRef) (s : State) : Host.Outcome State Fault Refusal := .next (s.computeOp o 1)

/-- CONVERT (R141). -/
def execConvert (o : OpRef) (s : State) : Host.Outcome State Fault Refusal := .next (s.computeOp o 2)

/-- VEC_EW (R148). -/
def execVecEw (o : OpRef) (s : State) : Host.Outcome State Fault Refusal := .next (s.computeOp o 3)

/-- VEC_RED (R149). -/
def execVecRed (o : OpRef) (s : State) : Host.Outcome State Fault Refusal := .next (s.computeOp o 4)

/-- R129: the relative cores that compute output tiles of an operation. -/
def shareCores (C : ComputeOp) (op : ListOp) : List Nat :=
  (List.range (min (bitsOf op.arg.toNat 8 8) C.out.tiles.length)).map (bitsOf op.arg.toNat 0 8 + ·)

/-- R512: an operation that lost a share ends CANCELLED, and names the first core lost. -/
def State.endLost (s : State) (o : OpRef) (p : Pid) (r : Nat) : State :=
  (s.letPairsGo p (· = o)).opEnd o .cancelled (BitVec.ofNat 32 (0x90000 + r))

/-- COMPUTE_OP_END (R130): every core of the group has written its output tiles. -/
def State.computeEnd (s : State) (o : OpRef) : State :=
  match o.cmd.ring, s.activeOp o with
  | .vf p _, some (k, a) =>
    if k.hdr.engine = 1 && a.op.lop.toNat ≤ 4 && s.fnRuns (.vf p) then
      let cores := max 1 (bitsOf a.op.arg.toNat 8 8)
      let s := s.energy p ((if a.op.lop = 1 then 3200 else 800) * cores * s.since a.since)
      match a.lostCores with
      | r :: _ => s.endLost o p r
      | [] =>
      let s := s.letPairsGo p (· = o)
      let s := match checkCompute (s.coresOf p).length a.op with
        | .ok C => s.countProducer p C.out.tiles
        | .error _ => s
      s.opEnd o .ok 0
    else s
  | _, _ => s

/-- COMPUTE_OP_END. -/
def execComputeOpEnd (o : OpRef) (s : State) : Host.Outcome State Fault Refusal := .next (s.computeEnd o)

end Sys2Proof.Machine
end

