-- ==== Sys2Proof/Machine/Weevil.lean ====
section
/-! DEFINITION. Machine/Weevil.lean: update commands: their lists, the norm-and-finite reduction, the optimisers, stochastic rounding and
the result record (R249 to R276). -/

namespace Sys2Proof.Machine

/-! ### The update list (Tables 9-1 to 9-5) -/

/-- A finite FP32 value that is not below 0. -/
def finNonNeg (w : W32) : Bool := (val32 w).isFin && (!(val32 w).isNeg || (val32 w).isZero)

/-- A finite FP32 value in [0, 1). -/
def unitRange (w : W32) : Bool := finNonNeg w && (val32 w).lt (.fin false 1 0)

/-- Table 9-3. -/
def hyperOf (o : ListOp) : UpdHyper :=
  { alg := o.field 8 1, nesterov := bitOf (o.field 9 1) 0, noBias := bitOf (o.field 9 1) 1, lr := BitVec.ofNat 32 (o.field 12 4),
    b1 := BitVec.ofNat 32 (o.field 16 4), b2 := BitVec.ofNat 32 (o.field 20 4), eps := BitVec.ofNat 32 (o.field 24 4),
    wd := BitVec.ofNat 32 (o.field 28 4), trMax := BitVec.ofNat 32 (o.field 32 4), stream := BitVec.ofNat 32 (o.field 36 4) }

/-- Table 9-4. -/
def shardOf (o : ListOp) (h : UpdHyper) (ix : Nat) : UpdShard :=
  { hyper := h, hyperIx := ix, gfmt := BitVec.ofNat 4 (o.field 8 1 / 16), m1Fp32 := bitOf (o.field 9 1) 0,
    m2Fp32 := bitOf (o.field 9 1) 1, tgroup := BitVec.ofNat 16 (o.field 10 2), nelem := o.field 12 4, base := o.field 16 8,
    pTile := o.field 24 4, gTile := o.field 28 4, m1Tile := o.field 32 4, m2Tile := o.field 36 4 }

/-- A shard has a second moment. -/
def UpdShard.hasM2 (x : UpdShard) : Bool := x.hyper.alg != 0
/-- Bytes of a gradient element. -/
def UpdShard.gSize (x : UpdShard) : Nat := elemSize x.gfmt.toNat
/-- Bytes of a first moment. -/
def UpdShard.m1Size (x : UpdShard) : Nat := if x.m1Fp32 then 4 else 2
/-- Bytes of a second moment. -/
def UpdShard.m2Size (x : UpdShard) : Nat := if x.m2Fp32 then 4 else 2

/-- R253: the tiles of a flat operand, as a span. -/
def flatSpan (first : TileNo) (n size : Nat) : TileNo × Nat := (first, (n * size + 65535) / 65536)
/-- R253: the TA of element `j` of a flat operand. -/
def flatTa (first : TileNo) (j size : Nat) : Nat := first * tileBytes + j * size

/-- The span of the gradients. -/
def UpdShard.gSpan (x : UpdShard) : TileNo × Nat := flatSpan x.gTile x.nelem x.gSize
/-- The spans that the shard writes. -/
def UpdShard.wSpans (x : UpdShard) : List (TileNo × Nat) :=
  [flatSpan x.pTile x.nelem 2, flatSpan x.m1Tile x.nelem x.m1Size]
    ++ if x.hasM2 then [flatSpan x.m2Tile x.nelem x.m2Size] else []
/-- Every span of the shard. -/
def UpdShard.spans (x : UpdShard) : List (TileNo × Nat) := x.gSpan :: x.wSpans

/-- Two spans share a tile. -/
def rangesMeet (a b : TileNo × Nat) : Bool := a.1 < b.1 + b.2 && b.1 < a.1 + a.2

/-- Some two spans of a list share a tile. -/
def anyMeet : List (TileNo × Nat) → Bool
  | [] => false
  | x :: r => r.any (rangesMeet x) || anyMeet r

/-- The checks of Table 9-5 on UPD_BEGIN; `held`: the collective unit holds its GROUP for the partition. -/
def beginCheck (o : ListOp) (held : W16 → Bool) : Option W32 :=
  let g := BitVec.ofNat 16 (o.field 8 2)
  if !o.zero 10 12 || !o.zero 32 48 || o.field 24 8 % 64 ≠ 0 then some 0x52
  else if !finNonNeg (BitVec.ofNat 32 (o.field 12 4)) then some 0x54
  else if g != 0 && !held g then some 0x57
  else none

/-- The checks of Table 9-5 on UPD_HYPER. -/
def hyperCheck (o : ListOp) : Option W32 :=
  let h := hyperOf o
  if 2 < h.alg || 4 ≤ o.field 9 1 || (h.nesterov && h.alg != 0) || (h.noBias && h.alg = 0) || !o.zero 10 12 || !o.zero 40 48 then
    some 0x52
  else if finNonNeg h.lr && unitRange h.b1 && (if h.alg = 0 then h.b2 = 0 else unitRange h.b2)
      && (if h.alg = 0 then h.eps = 0 else finNonNeg h.eps && !(val32 h.eps).isZero) && finNonNeg h.wd
      && (if h.alg = 2 then finNonNeg h.trMax else h.trMax = 0) then none
  else some 0x54

/-- The checks of Table 9-5 on an UPD_SHARD, given the shards before it. -/
def shardCheck (o : ListOp) (x : UpdShard) (before : List UpdShard) : Option W32 :=
  let alg0 := x.hyper.alg = 0
  if 4 ≤ o.field 9 1 || !o.zero 40 64 then some 0x52
  else if o.field 8 1 % 16 ≠ 1 || 2 < x.gfmt.toNat || (alg0 && (x.m2Fp32 || x.m2Tile ≠ 0)) then some 0x53
  else if x.nelem = 0 || 2 ^ 59 < x.base + x.nelem
      || before.any (fun y => y.base < x.base + x.nelem && x.base < y.base + y.nelem) then some 0x55
  else if anyMeet x.spans || before.any (fun y =>
      x.wSpans.any (fun a => y.spans.any (rangesMeet a)) || y.wSpans.any fun a => x.spans.any (rangesMeet a)) then some 0x56
  else if x.tgroup != 0 && (x.hyper.alg ≠ 2 || before.any fun y => y.tgroup = x.tgroup && y.hyperIx ≠ x.hyperIx) then some 0x58
  else none

/-- R251: the structure of an update list; `h`: an UPD_HYPER came before. -/
def structureOk (ops : List ListOp) : Bool :=
  let kinds := ops.map (·.lop.toNat)
  kinds.head? = some 1 && (kinds.drop 1).all (fun l => l = 2 || l = 3) && ops.all (fun o => !o.waitPrev)
    && kinds[1]? != some 3

/-- The shards of a list, with the first check that fails in list order (R107, Table 9-5). -/
def readShards (ix : Nat) (h : Option (UpdHyper × Nat)) (acc : List UpdShard) : List ListOp → Except W32 (List UpdShard)
  | [] => .ok acc
  | o :: r =>
    if o.lop = 2 then
      match hyperCheck o with
      | some d => .error d
      | none => readShards (ix + 1) (some (hyperOf o, ix)) acc r
    else match h with
      | none => .error 0x51
      | some (y, iy) =>
        let x := shardOf o y iy
        match shardCheck o x acc with
        | some d => .error d
        | none => readShards (ix + 1) h (acc ++ [x]) r

/-- R252: an update list checked under Table 9-5: its UPD_BEGIN and its shards. -/
def readUpdate (ops : List ListOp) (held : W16 → Bool) : Except W32 (ListOp × List UpdShard) :=
  if !structureOk ops then .error 0x51
  else match ops with
    | [] => .error 0x51
    | b :: r => match beginCheck b held with
      | some d => .error d
      | none => match readShards 1 none [] r with
        | .error d => .error d
        | .ok xs => .ok (b, xs)

/-! ### The update command and its tiles (R249, R250, R255) -/

/-- Change the Weevil part of a partition. -/
def State.modWvl (s : State) (p : Pid) (f : Weevil → Weevil) : State := s.modPrt p fun P => { P with wvl := f P.wvl }

/-- Change the update in progress. -/
def State.modUpd (s : State) (p : Pid) (f : Update → Update) : State := s.modWvl p fun W => { W with upd := W.upd.map f }

/-- The update command `c` in this pass, on a partition whose engines run. -/
def State.updIn (s : State) (c : CmdRef) (pass : WvlPass) : Option (Pid × Update) :=
  match c.ring with
  | .vf p _ =>
    match (s.prt p).wvl.upd with
    | some u => if u.cmd = c && (s.prt p).wvl.pass = pass && u.fin.isNone && s.fnRuns (.vf p) then some (p, u) else none
    | none => none
  | .pf _ => none

/-- The tiles of a span. -/
def spanTiles (x : TileNo × Nat) : List TileNo := (List.range x.2).map (x.1 + ·)

/-- How an access of the update to a tile ends, if it fails: a failure its requests have met, or R44 and R203. -/
def State.updDeny (s : State) (p : Pid) (u : Update) (t : TileNo) : Option (Status × W32) :=
  match u.errs.find? fun e => e.2 = BitVec.ofNat 32 t with
  | some e => some e
  | none => (s.prt p).mem.deny ((s.cmd? u.cmd).any fun k => k.spans.any (spanHas t)) [t]

/-- Whether accesses of the update to the tiles that do not fail must wait, and the state that waits. -/
def State.updWaits (s : State) (p : Pid) (u : Update) (ts : List TileNo) : Option State :=
  let live := ts.filter fun t => (s.updDeny p u t).isNone
  if !s.blocked p live (some u.epoch) then none
  else
    let spans := match s.cmd? u.cmd with
      | some k => k.spans
      | none => []
    some ((s.noteBlocked u.cmd p live (some u.epoch)).modCmd u.cmd fun k => { k with spans := spans })

/-- A pass of the update has been served: what its reads do to the tiles. -/
def State.updServed (s : State) (p : Pid) (u : Update) (xs : List (TileNo × Nat)) : State :=
  let s := s.modCmd u.cmd fun k => { k with waited := false, quarAt := none }
  (xs.flatMap spanTiles).foldl (fun s t => s.touch p t tileBytes false) s

/-! ### The result record and the end (R273) -/

/-- The DETAIL of an unreachable member whose node this sled does not know (R428). -/
def State.pathUnknown (s : State) : W32 := pathLost 0xFFFF (1 + (s.free 3).toNat % 7)

/-- gnorm of an exact sum of squares, in FP64 (R260). -/
def gnormOf (sum : Nat) : Val := fp64.sqrt (fp64.round false (.fin false sum (-298)))

/-- Table 9-8. -/
def Update.record (u : Update) (t : W32) (cause : Nat) : Bytes :=
  let n := match u.part with
    | some x => x.nonfinite
    | none => 0
  let bad := match u.verdict with
    | some v => v.badMembers
    | none => 0
  leVec 4 u.epoch ++ leBytes 4 cause ++ leVec 4 t ++ leVec 4 u.factor ++ leVec 8 u.gnorm ++ leBytes 4 (min n 0xFFFFFFFF)
    ++ leBytes 2 (min bad 0xFFFF) ++ leBytes 2 0 ++ leBytes 8 (u.lowBad.getD (2 ^ 64 - 1)) ++ leBytes 4 (min u.kept 0xFFFFFFFF)
    ++ leBytes 4 (min u.sat 0xFFFFFFFF) ++ leVec 8 u.verdictAt ++ leBytes 8 0

/-- R273, R374: the update writes its record, and completes. A record that cannot reach a lost host waits for the attach. -/
def State.endUpdate (s : State) (p : Pid) : State :=
  match (s.prt p).wvl.upd with
  | none => s
  | some u =>
    match u.fin with
    | none => s
    | some (st, d) =>
      if u.resIova != 0 && s.lost (.vf p) then s.modCmd u.cmd fun k => { k with wait := some .write }
      else
        let bad := u.recBad && u.resIova != 0
        let (st, d) : Status × W32 := if bad then (.busError, 0) else (st, d)
        let s := if u.resIova = 0 || bad then s
          else s.dataWrite u.cmd.ring u.resIova (u.record (s.prt p).wvl.t (s.prt p).wvl.lastCause.toNat)
        (s.modWvl p fun W => { W with upd := none, pass := .idle }).finish u.cmd st d

/-- The update ends with a status. -/
def State.updEnds (s : State) (p : Pid) (st : Status) (d : W32) : State :=
  (s.modUpd p fun u => { u with fin := some (st, d) }).endUpdate p

/-- ARG1 of Table 9-13. -/
def Update.arg1 (u : Update) (n : Nat) : Nat := min n 0xFFFFFFFF + 2 ^ 32 * u.epoch.toNat

/-- R259: a member that has contributed loses its decision point. -/
def State.orphan (s : State) (p : Pid) (u : Update) (d : W32) : State :=
  ((s.modWvl p fun W => { W with lastCause := 4 }).postPart p 0x0303 0 (u.arg1 0)).updEnds p .fabricPathLost d

/-! ### UPDATE_COMMAND -/

/-- UPDATE_COMMAND (R249 to R256, R426). -/
def State.updateCommand (s : State) (c : CmdRef) (list : Bytes) : State :=
  match s.cmd? c, c.ring with
  | some k, .vf p _ =>
    let iova := leAt k.operands 0 8
    let len := leAt k.operands 8 4
    if k.stage != .started || k.hdr.opc != 0x80 || k.hdr.engine != 3 || !s.fnRuns c.ring.fn then s
    else if iova % 64 = 0 && 24 ≤ len && len ≤ 2 ^ 20 && len % 8 = 0 && !s.canRead c.ring.fn (BitVec.ofNat 64 iova) len then
      s.modCmd c fun k => { k with wait := some .read }
    else match parseList iova len list with
      | .error d => s.refuse c d
      | .ok ops =>
        let s := s.fetchLines c.ring.fn (BitVec.ofNat 64 iova) len
        match ops.findSome? (·.check c.ring.fn 3) with
        | some d => s.refuse c d
        | none =>
          if !zeroIn k.operands 12 48 then s.refuse c 0xEA
          else if !k.hdr.epoch.ahead (s.prt p).ep.c then s.refuse c 0x50
          else match readUpdate ops (fun g => (s.groupOf p g).isSome) with
            | .error d => s.refuse c d
            | .ok (b, xs) =>
              let u : Update :=
                { cmd := c, epoch := k.hdr.epoch, group := BitVec.ofNat 16 (b.field 8 2), clip := BitVec.ofNat 32 (b.field 12 4),
                  seed := BitVec.ofNat 64 (b.field 16 8), resIova := BitVec.ofNat 64 (b.field 24 8), shards := xs, part := none,
                  lowBad := none, errs := [], verdict := none, verdictAt := 0, factor := 0x3F800000, gnorm := 0, ratios := [],
                  kept := 0, sat := 0, recBad := false, fin := none }
              let ts := (xs.flatMap (·.spans)).flatMap spanTiles
              let spans := (ts.filter fun t => (s.prt p).mem.reach false t).map (·, 1)
              let s := s.modCmd c fun k => { k with stage := .running, wait := none, spans := spans }
              let s := s.modWvl p fun W => { W with pass := .norm, epochReg := u.epoch, upd := some u }
              if u.group != 0 && (s.decisionPoint p).isNone then
                (s.modWvl p fun W => { W with lastCause := 4 }).updEnds p .fabricPathLost (pathLost 0xFFFF 7)
              else s
  | _, _ => s

/-- UPDATE_COMMAND. -/
def execUpdateCommand (c : CmdRef) (list : Bytes) (s : State) : Host.Outcome State Fault Refusal := .next (s.updateCommand c list)

/-! ### The reduction (R257 to R259) -/

/-- Table 9-6: the first cause in table order; `revoked`: E was revoked; `lost`: a member was unreachable; `missing`: a
contribution is missing at the timeout. -/
def causeOf (revoked lost missing : Bool) (ps : List NormPart) : Nat :=
  if revoked then 6
  else if lost then 4
  else if ps.any (·.opError) then 2
  else if ps.any (·.stopped) then 5
  else if ps.any (fun x => x.nonfinite != 0) then 1
  else if missing then 3
  else 0

/-- The verdict message of a cause. -/
def verdictMsg (cause : Nat) (ps : List NormPart) : VerdictMsg :=
  ⟨cause, (ps.map (·.sum)).sum, (ps.filter fun x => x.nonfinite != 0).length⟩

/-- The decision that this sled, as decision point, took first for an epoch of a slice (R123). -/
def State.decisionOf (s : State) (sl : BitVec 12) (e : Epoch) : Option Bool :=
  (s.jobs.find? fun j => j.slice = sl && j.epoch = e).map (·.commit)

/-- Replace a reduction. -/
def State.setRed (s : State) (r : Reduction) : State :=
  { s with reds := s.reds.map fun (x : Reduction) => if x.slice = r.slice && x.epoch = r.epoch then r else x }

/-- R258: the decision point decides a reduction, and its decision on E is on its way to every member. -/
def State.decideRed (s : State) (r : Reduction) (missing : Bool) : State :=
  let cause := causeOf (s.decisionOf r.slice r.epoch = some false) r.lost.isSome missing r.parts
  let v := verdictMsg cause r.parts
  let s := s.setRed { r with decided := some v }
  let s := if (s.decisionOf r.slice r.epoch).isSome then s else { s with jobs := s.jobs ++ [⟨r.slice, r.epoch, cause = 0⟩] }
  s.emit (.fabric none 1 [r.slice.toNat, r.epoch.toNat, cause, v.sum, v.badMembers])

/-- The reduction of an epoch of a slice. -/
def State.red? (s : State) (sl : BitVec 12) (e : Epoch) : Option Reduction := s.reds.find? fun r => r.slice = sl && r.epoch = e

/-- R259: TNT_WVL_REDUCE_TMO as it acts. -/
def tmoActs (ms : Nat) : Nat := if ms = 0 then 1000 else min ms 60000

/-- A contribution reaches the decision point on this sled; a stopped member's replaces the one it had made (R271). -/
def State.contribute (s : State) (sl : BitVec 12) (e : Epoch) (members tmoMs : Nat) (x : NormPart) : State :=
  let r : Reduction := (s.red? sl e).getD ⟨sl, e, members, [], s.pwr.clk, tmoActs tmoMs, none, none⟩
  if r.decided.isSome || (!x.stopped && r.parts.any (·.rank = x.rank)) || r.members ≤ x.rank then s
  else
    let r := { r with parts := r.parts.filter (·.rank != x.rank) ++ [x] }
    let s := { s with reds := s.reds.filter (fun y => !(y.slice = sl && y.epoch = e)) ++ [r] }
    if r.members ≤ r.parts.length then s.decideRed r false else s

/-- A member's contribution goes to the decision point: on this sled, or over the fabric. -/
def State.sendPart (s : State) (p : Pid) (u : Update) (x : NormPart) : State :=
  let sl := (s.life p).slice
  let n := match s.groupOf p u.group with
    | some g => g.nmemb
    | none => 1
  let tmo := (s.prt p).wvl.reduceTmo.toNat
  if s.decidesHere p then s.contribute sl u.epoch n tmo x
  else match s.decisionPoint p with
    | some d => (s.fabSend p d 0 0 none).emit
        (.fabric none 2 [sl.toNat, u.epoch.toNat, n, tmo, x.rank, x.sum, x.nonfinite, bnat x.opError, bnat x.stopped])
    | none => s

/-- DECISION_CONTRIBUTION (R258): a member's contribution arrives; this sled must serve the slice as its decision point. -/
def execDecisionContribution (slice : BitVec 12) (e : Epoch) (members tmoMs rank sum nonfinite : Nat) (opError stopped : Bool)
    (s : State) : Host.Outcome State Fault Refusal :=
  .next (if (List.finRange 16).any fun p => (s.life p).slice = slice && (s.life p).st.committed && s.decidesHere p then
    s.contribute slice e members tmoMs ⟨rank, sum, nonfinite, opError, stopped⟩ else s)

/-- REDUCTION_TIMEOUT (R259). -/
def execReductionTimeout (slice : BitVec 12) (e : Epoch) (s : State) : Host.Outcome State Fault Refusal :=
  .next (match s.red? slice e with
    | some r => if r.decided.isNone && r.tmoMs * 1000000 ≤ s.since r.firstAt then s.decideRed r true else s
    | none => s)

/-- R258: a node has become unreachable: reductions that its member has still to join are decided PATH_LOST. -/
def State.redsLose (s : State) (n : W16) (reason : Nat) : State :=
  s.reds.foldl (fun s r =>
    let gs := (List.finRange 16).flatMap fun p =>
      if (s.life p).slice = r.slice then ((s.prt p).gx.groups.toList.filterMap id).filter (·.nmemb = r.members) else []
    let hit := match gs with
      | g :: _ => (List.range g.nmemb).any fun i => g.nodes[i]? = some n && !r.parts.any (·.rank = i)
      | [] => false
    if r.decided.isNone && hit then
      let r := { r with lost := some (pathLost n.toNat reason) }
      (s.setRed r).decideRed r false
    else s) s

/-! ### NORM_PASS_END -/

/-- The gradient of element `j`, as FP32 (R143). -/
def UpdShard.grad (x : UpdShard) (m : List Host.Cell) (j : Nat) : Val :=
  rn32 (decodeElem x.gfmt.toNat (leAt (readBytes m (flatTa x.gTile j x.gSize) x.gSize) 0 x.gSize))

/-- The square of a finite FP32 value, in units of 2^-298. -/
def square (v : Val) : Nat := (v.units (-149)).natAbs * (v.units (-149)).natAbs

/-- R257: one shard's part of the sum, its non-finite elements and the lowest global index among them. -/
def UpdShard.norm (x : UpdShard) (m : List Host.Cell) : Nat × List Nat :=
  (List.range x.nelem).foldl (fun a j =>
    let g := x.grad m j
    if g.isFin then (a.1 + square g, a.2) else (a.1, a.2 ++ [x.base + j])) (0, [])

/-- NORM_PASS_END (R254, R255, R257). -/
def State.normEnd (s : State) (c : CmdRef) : State :=
  match s.updIn c .norm with
  | none => s
  | some (p, u) =>
    let ts := (u.shards.map (·.gSpan)).flatMap spanTiles
    match s.updWaits p u ts with
    | some s' => s'
    | none =>
      let err := ts.findSome? (s.updDeny p u)
      let sums := u.shards.map fun x => x.norm (s.prt p).mem.bytes
      let bad := sums.flatMap (·.2)
      let rank := match s.groupOf p u.group with
        | some g => g.rank
        | none => 0
      let part : NormPart := ⟨rank, (sums.map (·.1)).sum, bad.length, err.isSome, false⟩
      let low := bad.foldl (fun a i => some (match a with | some b => min b i | none => i)) none
      let errs := match err with
        | some e => [e]
        | none => []
      let v := if u.group = 0 then some (verdictMsg (causeOf false false false [part]) [part]) else none
      let u := { u with part := some part, lowBad := low, errs := errs, verdict := v }
      let s := (s.updServed p u (u.shards.map (·.gSpan))).modWvl p fun W => { W with pass := .verdict, upd := some u }
      if u.group = 0 then s
      else match s.noDecision p with
        | some d => s.orphan p u d
        | none => s.sendPart p u part

/-- NORM_PASS_END. -/
def execNormPassEnd (c : CmdRef) (s : State) : Host.Outcome State Fault Refusal := .next (s.normEnd c)

/-! ### VERDICT (R258 to R261, R269) -/

/-- Table 9-6: the status of the member, by cause. -/
def State.skipStatus (s : State) (p : Pid) (u : Update) (cause : Nat) : Status × W32 :=
  match cause with
  | 6 => (.epochRevoked, 0)
  | 4 =>
    match (s.red? (s.life p).slice u.epoch).bind (·.lost) with
    | some d => (.fabricPathLost, d)
    | none => (.fabricPathLost, s.pathUnknown)
  | 2 => u.errs.head?.getD (.nonfiniteSkip, 2)
  | 5 => (.nonfiniteSkip, 5)
  | 3 => (.fenceTimeout, 0x00070000)
  | _ => (.nonfiniteSkip, 1)

/-- R260: the clipping factor. -/
def clipFactor (clip : W32) (gnorm : Val) : W32 :=
  if clip = 0 || !(val32 clip).lt gnorm then 0x3F800000 else (fp32.div (val32 clip) gnorm).bits32

/-- A verdict takes effect on this member. -/
def State.takeVerdict (s : State) (p : Pid) (u : Update) (v : VerdictMsg) : State :=
  let e := u.epoch
  let cause := if (s.prt p).ep.revoked.contains e then 6 else v.cause
  let g := if v.badMembers != 0 then Val.inf false else gnormOf v.sum
  let bits := BitVec.ofNat 64 (fp64.encode g)
  let s := s.decideJob p e (cause = 0)
  let s := if cause = 6 then s else s.modCmd u.cmd fun k => { k with revoked := false }
  let u := { u with verdict := some { v with cause := cause }, verdictAt := s.pwr.time, gnorm := bits }
  let s := s.modWvl p fun W => { W with lastCause := BitVec.ofNat 4 cause, gnorm := bits, upd := some u }
  if cause = 0 then
    let u := { u with factor := clipFactor u.clip g, errs := [] }
    s.modWvl p fun W =>
      { W with t := W.t + 1, upd := some u, pass := if u.shards.any (·.hyper.alg = 2) then .trust else .apply }
  else
    let (st, d) := s.skipStatus p u cause
    let s := if cause = 4 then s.took else s
    let n := match u.part with
      | some x => x.nonfinite
      | none => 0
    ((s.modWvl p fun W => { W with skipCnt := satAdd W.skipCnt 1 }).postPart p 0x0301
      (cause + 65536 * min v.badMembers 0xFFFF) (u.arg1 n)).updEnds p st d

/-- VERDICT: the verdict formed here, where the step is this sled's alone or this sled holds the decision point; else the one that the
decision point sent. A partition whose update command was stopped takes its decision on the epoch alone. -/
def State.verdict (s : State) (p : Pid) (cause sum bad : Nat) : State :=
  match (s.prt p).wvl.upd with
  | none => s
  | some u =>
    if (s.prt p).wvl.pass != .verdict || u.fin.isSome || !s.fnRuns (.vf p) then s
    else
      let v : Option VerdictMsg :=
        if u.group = 0 then u.verdict
        else if s.decidesHere p then (s.red? (s.life p).slice u.epoch).bind (·.decided)
        else if cause ≤ 6 then some ⟨cause, sum, bad⟩ else none
      match v with
      | some v => s.takeVerdict p u v
      | none => s

/-- VERDICT. -/
def execVerdict (p : Pid) (cause sum bad : Nat) (s : State) : Host.Outcome State Fault Refusal := .next (s.verdict p cause sum bad)

/-- DECISION_POINT_UNREACHABLE (R259). -/
def execDecisionPointUnreachable (p : Pid) (s : State) : Host.Outcome State Fault Refusal :=
  .next (match (s.prt p).wvl.upd, s.noDecision p with
    | some u, some d =>
      if (s.prt p).wvl.pass = .verdict && u.group != 0 && u.fin.isNone && s.fnRuns (.vf p) then s.orphan p u d else s
    | _, _ => s)

/-! ### The optimisers (R261 to R263) -/

/-- v^n, exactly. -/
def Val.pow (v : Val) (n : Nat) : Val :=
  match v with
  | .fin g m e => .fin (g && n % 2 = 1) (m ^ n) (e * n)
  | _ => v

/-- 1. -/
def Val.one : Val := .fin false 1 0

/-- The constants of R261. -/
structure HyperK where
  a1  : Val
  a2  : Val
  bc1 : Val
  bc2 : Val

/-- R261, for update count `t`. -/
def UpdHyper.consts (h : UpdHyper) (t : Nat) : HyperK :=
  let bc (b : W32) : Val := if h.noBias then Val.one else rn32 (Val.one.sub (rn32 ((val32 b).pow t)))
  { a1 := rn32 (Val.one.sub (val32 h.b1)), a2 := rn32 (Val.one.sub (val32 h.b2)), bc1 := bc h.b1, bc2 := bc h.b2 }

/-- RN(a × b). -/
def rmul (a b : Val) : Val := rn32 (a.mul b)
/-- RN(a + b). -/
def radd (a b : Val) : Val := rn32 (a.add b)
/-- RN(a − b). -/
def rsub (a b : Val) : Val := rn32 (a.sub b)

/-- The values of one element before storage: u, m' and v' (R262). -/
def UpdHyper.direction (h : UpdHyper) (k : HyperK) (w m v g : Val) : Val × Val × Val :=
  let b1 := val32 h.b1
  let wd := rmul (val32 h.wd) w
  if h.alg = 0 then
    let m' := radd (rmul b1 m) g
    let d := if h.nesterov then radd g (rmul b1 m') else m'
    (radd d wd, m', Val.zero)
  else
    let m' := radd (rmul b1 m) (rmul k.a1 g)
    let v' := radd (rmul (val32 h.b2) v) (rmul k.a2 (rmul g g))
    let den := radd (fp32.sqrt (fp32.div v' k.bc2)) (val32 h.eps)
    (radd (fp32.div (fp32.div m' k.bc1) den) wd, m', v')

/-- One element's stored weight, moments and gradient, with the clipping factor applied (R260). -/
structure ElemIn where
  w : Val
  m : Val
  v : Val
  g : Val

/-- The bits of an element of a flat operand. -/
def flatBits (m : List Host.Cell) (first : TileNo) (j size : Nat) : Nat := leAt (readBytes m (flatTa first j size) size) 0 size

/-- A moment's value. -/
def momentVal (m : List Host.Cell) (first : TileNo) (j size : Nat) : Val :=
  if size = 4 then fp32.decode (flatBits m first j 4) else bf16.decode (flatBits m first j 2)

/-- The inputs of element `j`. -/
def UpdShard.elem (x : UpdShard) (m : List Host.Cell) (factor : W32) (j : Nat) : ElemIn :=
  let g := x.grad m j
  { w := bf16.decode (flatBits m x.pTile j 2), m := momentVal m x.m1Tile j x.m1Size,
    v := if x.hasM2 then momentVal m x.m2Tile j x.m2Size else Val.zero,
    g := if factor = 0x3F800000 then g else rmul g (val32 factor) }

/-- The tiles of element `j`. -/
def UpdShard.elemTiles (x : UpdShard) (j : Nat) : List TileNo :=
  [tileOf (flatTa x.pTile j 2), tileOf (flatTa x.gTile j x.gSize), tileOf (flatTa x.m1Tile j x.m1Size)]
    ++ if x.hasM2 then [tileOf (flatTa x.m2Tile j x.m2Size)] else []

/-- The trust group of shard number `i` (Table 9-4). -/
def UpdShard.trustKey (x : UpdShard) (i : Nat) : Nat := if x.tgroup = 0 then 65536 + i else x.tgroup.toNat

/-- The shards with their numbers. -/
def Update.numbered (u : Update) : List (UpdShard × Nat) := u.shards.zip (List.range u.shards.length)

/-- R263: the ratio of a trust group from its two exact sums. -/
def trustRatio (sw su : Val) (trMax : W32) : W32 :=
  let wn := fp64.sqrt (fp64.round false sw)
  let un := fp64.sqrt (fp64.round false su)
  let r := if wn.isZero || un.isZero then Val.one else fp32.div wn un
  (if (val32 trMax).isZero then r else r.min (val32 trMax)).bits32

/-- R263: the exact sums of w² and u² over a trust group. -/
def Update.trustSums (u : Update) (m : List Host.Cell) (t key : Nat) : Val × Val :=
  let es := (u.numbered.filter fun x => x.1.hyper.alg = 2 && x.1.trustKey x.2 = key).flatMap fun x =>
    let k := x.1.hyper.consts t
    (List.range x.1.nelem).map fun j =>
      let e := x.1.elem m u.factor j
      (e.w, (x.1.hyper.direction k e.w e.m e.v e.g).1)
  (Val.sum (es.map fun e => e.1.mul e.1), Val.sum (es.map fun e => e.2.mul e.2))

/-- TRUST_PASS_END (R263). A trust group that has a tile whose access fails has a ratio that nothing states: a free value (log
entry 25). -/
def State.trustEnd (s : State) (c : CmdRef) : State :=
  match s.updIn c .trust with
  | none => s
  | some (p, u) =>
    let xs := u.numbered.filter fun x => x.1.hyper.alg = 2
    let spans := xs.flatMap fun x => x.1.spans
    match s.updWaits p u (spans.flatMap spanTiles) with
    | some s' => s'
    | none =>
      let keys := (xs.map fun x => x.1.trustKey x.2).eraseDups
      let t := (s.prt p).wvl.t.toNat
      let m := (s.prt p).mem.bytes
      let cap (k : Nat) : W32 := match xs.find? fun x => x.1.trustKey x.2 = k with
        | some x => x.1.hyper.trMax
        | none => 0
      let broken (k : Nat) : Bool := xs.any fun x =>
        x.1.trustKey x.2 = k && ((x.1.spans.flatMap spanTiles).any fun t => (s.updDeny p u t).isSome)
      let (s, rs) := keys.foldl (fun (a : State × List (Nat × W32)) k =>
        if broken k then (a.1.took, a.2 ++ [(k, a.1.free 32)])
        else (a.1, a.2 ++ [(k, let z := u.trustSums m t k; trustRatio z.1 z.2 (cap k))])) (s, [])
      (s.updServed p u spans).modWvl p fun W => { W with pass := .apply, upd := W.upd.map fun u => { u with ratios := rs } }

/-- TRUST_PASS_END. -/
def execTrustPassEnd (c : CmdRef) (s : State) : Host.Outcome State Fault Refusal := .next (s.trustEnd c)

/-! ### Storage (R264, R266 to R268) -/

/-- R267: one round of Philox4x32. -/
def philoxRound (k : Nat × Nat) (c : Nat × Nat × Nat × Nat) : Nat × Nat × Nat × Nat :=
  let (c0, c1, c2, c3) := c
  let p0 := 0xD2511F53 * c0
  let p1 := 0xCD9E8D57 * c2
  (((p1 / 2 ^ 32) ^^^ c1) ^^^ k.1, p1 % 2 ^ 32, ((p0 / 2 ^ 32) ^^^ c3) ^^^ k.2, p0 % 2 ^ 32)

/-- R267: the rounds that are left. -/
def philoxFrom (k : Nat × Nat) (c : Nat × Nat × Nat × Nat) : Nat → Nat × Nat × Nat × Nat
  | 0 => c
  | n + 1 => philoxFrom ((k.1 + 0x9E3779B9) % 2 ^ 32, (k.2 + 0xBB67AE85) % 2 ^ 32) (philoxRound k c) n

/-- R267: Philox4x32-10 with the key and counter of Table 9-7 for group `q` of eight elements. -/
def philox (seed : W64) (q purpose : Nat) (epoch : Epoch) (stream : W32) : Nat × Nat × Nat × Nat :=
  philoxFrom (seed.toNat % 2 ^ 32, seed.toNat / 2 ^ 32)
    (q % 2 ^ 32, purpose * 2 ^ 24 + q / 2 ^ 32 % 2 ^ 24, epoch.toNat, stream.toNat) 10

/-- R267: the 16-bit random value of the element with global index `i`. -/
def rndOf (seed : W64) (i purpose : Nat) (epoch : Epoch) (stream : W32) : Nat :=
  let (x0, x1, x2, x3) := philox seed (i / 8) purpose epoch stream
  let x := match i % 8 / 2 with
    | 0 => x0 | 1 => x1 | 2 => x2 | _ => x3
  if i % 2 = 0 then x % 65536 else x / 65536

/-- R266: a finite FP32 value rounded stochastically to BF16 bits, and whether it saturated. -/
def stochastic (v : Val) (rnd : Nat) : Nat × Bool :=
  let b := v.bits32.toNat
  let y := (b % 2 ^ 31 + rnd) / 65536
  if 0x7F80 ≤ y then (b / 2 ^ 31 * 2 ^ 15 + 0x7F7F, true) else (b / 2 ^ 31 * 2 ^ 15 + y, false)

/-- A moment before storage, in its format (R262, R266). -/
def storeMoment (v : Val) (isFp32 : Bool) (rnd : Nat) : Bytes × Bool :=
  if isFp32 then (leBytes 4 v.bits32.toNat, false) else let r := stochastic v rnd; (leBytes 2 r.1, r.2)

/-- What one element's update does: its writes, or that it keeps its values (R264); whether it saturated (R266). -/
structure ElemOut where
  writes : Writes
  kept   : Bool
  sat    : Bool

/-- R262, R264, R266: one element of a shard. -/
def UpdShard.applyElem (x : UpdShard) (u : Update) (m : List Host.Cell) (t key j : Nat) : ElemOut :=
  let e := x.elem m u.factor j
  let (d, m', v') := x.hyper.direction (x.hyper.consts t) e.w e.m e.v e.g
  let lr := val32 x.hyper.lr
  let lrr := if x.hyper.alg = 2 then
      match u.ratios.find? (·.1 = key) with
      | some r => rmul lr (val32 r.2)
      | none => lr
    else lr
  let w' := rsub e.w (rmul lrr d)
  if !(w'.isFin && m'.isFin && v'.isFin) then ⟨[], true, false⟩
  else
    let rnd (purpose : Nat) : Nat := rndOf u.seed (x.base + j) purpose u.epoch x.hyper.stream
    let w := stochastic w' (rnd 0)
    let a := storeMoment m' x.m1Fp32 (rnd 1)
    let b := storeMoment v' x.m2Fp32 (rnd 2)
    ⟨[(flatTa x.pTile j 2, leBytes 2 w.1), (flatTa x.m1Tile j x.m1Size, a.1)]
      ++ (if x.hasM2 then [(flatTa x.m2Tile j x.m2Size, b.1)] else []), false, w.2 || a.2 || (x.hasM2 && b.2)⟩

/-- R250: the Weevil unit of a parameter tile. -/
def State.wvlUnit (s : State) (p : Pid) (t : TileNo) : Fin 6 :=
  match s.tile? p t with
  | some x => match x.home with
    | .stacked k _ => k
    | _ => ⟨t % 6, Nat.mod_lt _ (by omega)⟩
  | none => ⟨t % 6, Nat.mod_lt _ (by omega)⟩

/-- WVL_ELEM of a unit steps by `n`; a wrap sets its bit of MTR_PERF_WRAP. -/
def State.countElems (s : State) (k : Fin 6) (n : Nat) : State :=
  let was := (s.mtr.wvlElem[k]).toNat
  let s := { s with mtr := { s.mtr with wvlElem := vmod s.mtr.wvlElem k (· + BitVec.ofNat 64 n) } }
  if 2 ^ 64 ≤ was + n then s.perfWrap .pf k.val else s

/-- The elements of an update whose tiles do not fail, in element order: shard, trust key and place. -/
def State.applied (s : State) (p : Pid) (u : Update) : List (UpdShard × Nat × Nat) :=
  u.numbered.flatMap fun x => ((List.range x.1.nelem).filter fun j =>
    (x.1.elemTiles j).all fun t => (s.updDeny p u t).isNone).map fun j => (x.1, x.1.trustKey x.2, j)

/-- R262 to R266: the elements' new values are stored; `take` says which elements of the pass reach storage (R271). -/
def State.applyAll (s : State) (p : Pid) (u : Update) (take : Nat → Bool) : State :=
  let m := (s.prt p).mem.bytes
  let t := (s.prt p).wvl.t.toNat
  let all := s.applied p u
  let es := ((all.zip (List.range all.length)).filter fun x => take x.2).map (·.1)
  let outs := es.map fun x => x.1.applyElem u m t x.2.1 x.2.2
  let kept := (outs.filter (·.kept)).length
  let sat := (outs.filter (·.sat)).length
  let s := (List.finRange 6).foldl (fun s k =>
    s.countElems k (es.filter fun x => s.wvlUnit p (tileOf (flatTa x.1.pTile x.2.2 2)) = k).length) s
  let s := (s.storeAll p (outs.flatMap (·.writes)) none false).energy p (20 * es.length)
  s.modWvl p fun W =>
    { W with keptCnt := satAdd W.keptCnt kept, satCnt := satAdd W.satCnt sat,
             upd := W.upd.map fun u => { u with kept := kept, sat := sat } }

/-- APPLY_PASS_END (R262 to R266, R272, R273). -/
def State.applyEnd (s : State) (c : CmdRef) : State :=
  match s.updIn c .apply with
  | none => s
  | some (p, u) =>
    let spans := u.shards.flatMap (·.spans)
    match s.updWaits p u (spans.flatMap spanTiles) with
    | some s' => s'
    | none =>
      let err := u.shards.findSome? fun x =>
        (List.range x.nelem).findSome? fun j => (x.elemTiles j).findSome? (s.updDeny p u)
      let s := (s.applyAll p u fun _ => true).updServed p u (u.shards.map (·.gSpan))
      match err with
      | some (st, d) => s.updEnds p st d
      | none => s.updEnds p .ok 0

/-- APPLY_PASS_END. -/
def execApplyPassEnd (c : CmdRef) (s : State) : Host.Outcome State Fault Refusal := .next (s.applyEnd c)

/-! ### Stopping (R271) -/

/-- The free bits that say which elements of a stopped Apply pass reached storage. -/
def State.chance (s : State) (i : Nat) : Bool := (Config.freeBits 1 (s.nfree + i)).toNat = 1

/-- R271: the partition's update command is stopped at once, and completes with the status of the stop. Before its verdict it is
withdrawn with cause STOPPED; in the Apply pass each element holds its old values or its new ones. -/
def State.stopUpdate (s : State) (p : Pid) (st : Status) (d : W32) : State :=
  match (s.prt p).wvl.upd with
  | none => s
  | some u =>
    if u.fin.isSome then s
    else match (s.prt p).wvl.pass with
      | .norm | .verdict =>
        let rank := match s.groupOf p u.group with
          | some g => g.rank
          | none => 0
        let s := s.modWvl p fun W => { W with lastCause := 5 }
        let s := if u.group = 0 then
            ((s.decideJob p u.epoch false).modWvl p fun W => { W with skipCnt := satAdd W.skipCnt 1 }).postPart p 0x0301 5
              (u.arg1 (match u.part with | some x => x.nonfinite | none => 0))
          else if (s.noDecision p).isNone then s.sendPart p u ⟨rank, 0, 0, false, true⟩ else s
        (s.modCmd u.cmd fun k => { k with revoked := false }).updEnds p st d
      | pass =>
        let n := (s.applied p u).length
        let s' := if pass = .apply then { s with nfree := s.nfree + n }.applyAll p u s.chance else s
        (s'.postPart p 0x0302 0 (u.arg1 0)).updEnds p st d

end Sys2Proof.Machine
end

