-- ==== Sys2Proof/Machine/Exchange.lean ====
section
/-! DEFINITION. Machine/Exchange.lean: the fabric list operations: GX, ALLGATHER, BCAST, SEND and RECV (R278 to R302). -/

namespace Sys2Proof.Machine

/-! ### Operands (Tables 10-2, 10-4 to 10-6) -/

/-- Table 10-2. -/
def gxOf (o : ListOp) : GxFields :=
  let f := o.field 8 1
  { reduce := bitsOf f 0 2 = 1, mode := bitsOf f 2 2, avg := bitOf f 4, res := bitOf f 5, fmt := bitsOf (o.field 9 1) 0 4,
    topkN := o.field 9 1 / 16, drop := bitOf (o.field 10 2) 0, group := BitVec.ofNat 16 (o.field 12 2), owner0 := o.field 14 2,
    nelem := o.field 16 4, gTile := o.field 20 4, oTile := o.field 24 4, rTile := o.field 28 4, resBase := o.field 32 4,
    dlUs := o.field 36 4 }

/-- Elements of a full bucket. -/
def GxFields.full (f : GxFields) : Nat := if f.fmt = 0 then 262144 else 524288
/-- NB. -/
def GxFields.nb (f : GxFields) : Nat := (f.nelem + f.full - 1) / f.full
/-- The elements of bucket `b`. -/
def GxFields.len (f : GxFields) (b : Nat) : Nat := min f.full (f.nelem - b * f.full)
/-- The tiles of a residual bank (R284). -/
def GxFields.rt (f : GxFields) : Nat := if f.fmt = 0 then 16 else 32
/-- The first tile of bank `k` of bucket `b` (R284). -/
def GxFields.bankTile (f : GxFields) (b : Nat) (k : Bool) : TileNo := f.rTile + (2 * b + bnat k) * f.rt
/-- The TA of the gradients of bucket `b`. -/
def GxFields.gTa (f : GxFields) (b : Nat) : Nat := (f.gTile + 16 * b) * tileBytes
/-- The TA of the outputs of bucket `b`. -/
def GxFields.oTa (f : GxFields) (b : Nat) : Nat := (f.oTile + 16 * b) * tileBytes
/-- The bytes of bucket `b`. -/
def GxFields.bytes (f : GxFields) (b : Nat) : Nat := f.len b * elemSize f.fmt
/-- The span of the gradients, and that of the outputs from `o`. -/
def GxFields.flat (f : GxFields) (o : TileNo) : TileNo × Nat := flatSpan o f.nelem (elemSize f.fmt)
/-- The span of the residual banks. -/
def GxFields.rSpan (f : GxFields) : TileNo × Nat :=
  let last := f.nb - 1
  (f.rTile, if f.res then (2 * last + 1) * f.rt + (f.len last * 4 + 65535) / 65536 else 0)

/-- The state of a residual slot (R285). -/
def Exchange.slot (g : Exchange) (n : Nat) : ResSlot := (g.slots.find? (·.slot = n)).getD ⟨n, false, none⟩

/-- The residual slots of a GX, each with its pending epoch. -/
def Exchange.pendings (g : Exchange) (f : GxFields) : List (Option Epoch) :=
  if f.res then (List.range f.nb).map fun b => (g.slot (f.resBase + b)).pending else []

/-- The checks of Table 10-6 on a GX, in table order. -/
def State.gxCheck (s : State) (p : Pid) (k : Cmd) (o : ListOp) : Option W32 :=
  let f := gxOf o
  let kind := bitsOf (o.field 8 1) 0 2
  let g := s.groupOf p f.group
  if (s.aheadTag p k.hdr.spec k.hdr.epoch).isNone then some 0x60
  else if 2 ≤ kind || f.mode = 3 || bitsOf (o.field 8 1) 6 2 ≠ 0 || 2 < f.fmt || 2 ≤ o.field 10 2 || !o.zero 40 64 || f.nelem = 0
      || (if f.mode = 1 then f.topkN < 3 || 10 < f.topkN else f.topkN ≠ 0) || (kind = 0 && f.owner0 ≠ 0) then some 0x61
  else if (!f.res && (f.mode ≠ 0 || !f.drop || f.rTile ≠ 0 || f.resBase ≠ 0)) || (f.res && 16383 < f.resBase + f.nb - 1) then some 0x62
  else if ((s.prt p).gx.pendings f).contains (some k.hdr.epoch) then some 0x63
  else if !g.any (fun g => f.owner0 < g.nmemb) then some 0x64
  else if (f.oTile ≠ f.gTile && rangesMeet (f.flat f.oTile) (f.flat f.gTile)) || rangesMeet f.rSpan (f.flat f.gTile)
      || rangesMeet f.rSpan (f.flat f.oTile) then some 0x67
  else none

/-! ### What every fabric operation does -/

/-- Change the exchange part of a partition. -/
def State.modGx (s : State) (p : Pid) (f : Exchange → Exchange) : State := s.modPrt p fun P => { P with gx := f P.gx }

/-- The fabric operation's run, with its partition, its group and its tag. -/
def State.fabRun (s : State) (o : OpRef) : Option (Pid × FabRun × Group) :=
  match o.cmd.ring with
  | .vf p _ =>
    match (s.prt p).gx.runs.find? (·.op = o) with
    | some r => (s.groupOf p r.group).map fun g => (p, r, g)
    | none => none
  | .pf _ => none

/-- Change the run of a fabric operation. -/
def State.setRun (s : State) (p : Pid) (r : FabRun) : State :=
  s.modGx p fun g => { g with runs := g.runs.map fun x => if x.op = r.op then r else x }

/-- A fabric operation ends. -/
def State.fabEnd (s : State) (p : Pid) (o : OpRef) (st : Status) (d : W32) : State := (s.dropRun p o).opEnd o st d

/-- The tag of the operation's own accesses (R282, R290). -/
def State.runTag (s : State) (p : Pid) (r : FabRun) : Option Epoch := s.aheadTag p r.spec r.epoch

/-- How an access of the operation to tiles fares: it fails, it waits, or it is made. -/
inductive Reaches where
  | fails (st : Status) (d : W32)
  | waits
  | now

/-- R44, R203, R280, R242: the operation's access to tiles, made under `tag`. -/
def State.reaches (s : State) (p : Pid) (o : OpRef) (ts : List TileNo) (tag : Option Epoch) : Reaches :=
  let old (t : TileNo) : Bool := (s.activeOp o).any fun a => a.2.spans.any (spanHas t)
  match ts.findSome? fun t => (s.prt p).mem.deny (old t) [t] with
  | some (st, d) => .fails st d
  | none => if s.blocked p ts tag then .waits else .now

/-- Run `f` where the access can be made; otherwise the operation ends or waits. -/
def State.withTiles (s : State) (p : Pid) (o : OpRef) (ts : List TileNo) (tag : Option Epoch) (f : State → State) : State :=
  match s.reaches p o ts tag with
  | .fails st d => s.fabEnd p o st d
  | .waits => s.noteBlocked o.cmd p ts tag
  | .now => f (if (s.cmd? o.cmd).any (·.waited) then s.noteServed o.cmd else s)

/-- R245: the tag under which fabric data tagged `e` lands: none where it is stale. -/
def State.landTag (s : State) (p : Pid) (e : Epoch) : Option (Option Epoch) :=
  let E := (s.prt p).ep
  if e.ahead E.c then some (some e) else if e = E.c && E.byCommit then some none else none

/-- The epoch of the work was revoked here (R299). -/
def State.runDead (s : State) (p : Pid) (r : FabRun) : Bool := (s.prt p).ep.revoked.contains r.epoch

/-- A fabric operation starts (R279): it takes its group's next sequence number when it is a collective. -/
def State.fabBegin (s : State) (p : Pid) (o : OpRef) (op : ListOp) (k : Cmd) (g : W16) (coll : Bool) (spans : List (TileNo × Nat))
    (kind : FabKind) : State :=
  let seq := match s.groupOf p g with
    | some x => x.seq
    | none => 0
  let live := spans.flatMap fun x => (spanTiles x).filterMap fun t => if (s.prt p).mem.reach false t then some (t, 1) else none
  let s := s.opBegin o (s.newOp o op live)
  let s := if coll then s.modGx p fun x => { x with groups := x.groups.map fun y => y.map fun y => if y.id = g then { y with seq := y.seq + 1 } else y } else s
  s.modGx p fun x => { x with runs := x.runs ++ [⟨o, g, seq, k.hdr.epoch, k.hdr.spec, s.pwr.clk, kind⟩] }

/-! ### GX -/

/-- An empty bucket. -/
def Bucket.empty : Bucket := ⟨none, [], false, .none, false⟩

/-- GX (R278 to R286). A slot that is pending another epoch makes it wait (R286). -/
def State.gx (s : State) (o : OpRef) : State :=
  match s.nextOp o 6 1, o.cmd.ring with
  | some (k, op), .vf p _ =>
    let f := gxOf op
    match s.gxCheck p k op with
    | some d => s.opInstant o .malformed d
    | none =>
      if ((s.prt p).gx.pendings f).any (·.isSome) then s
      else s.fabBegin p o op k f.group true ([f.flat f.gTile, f.flat f.oTile] ++ if f.res then [f.rSpan] else [])
        (.gx f (List.replicate f.nb Bucket.empty))
  | _, _ => s

/-- GX. -/
def execGx (o : OpRef) (s : State) : Host.Outcome State Fault Refusal := .next (s.gx o)

/-! ### Encoding (R283) -/

/-- The contribution values a_i of a bucket. -/
def GxFields.values (f : GxFields) (m : List Host.Cell) (b : Nat) (bank : Bool) : List Val :=
  let z := elemSize f.fmt
  (List.range (f.len b)).map fun i =>
    let g := decodeElem f.fmt (leAt (readBytes m (f.gTa b + i * z) z) 0 z)
    if f.res then radd g (fp32.decode (leAt (readBytes m (f.bankTile b bank * tileBytes + 4 * i) 4) 0 4)) else g

/-- R283: the element at `i` is among the `k` that TOPK selects. -/
def selected (as : List Val) (k i : Nat) : Bool :=
  let x := topKey (as.getD i Val.zero)
  (as.mapIdx fun j a => bnat (x < topKey a || (x = topKey a && j < i))).sum < k

/-- R283: s of SIGN. -/
def signScale (as : List Val) : Val :=
  if as.all (·.isFin) then fp32.div (Val.sum (as.map (·.abs))) (.fin false as.length 0) else .nan

/-- A value rounded to FMT, as the FP32 value it stands for. -/
def GxFields.viaFmt (f : GxFields) (a : Val) : Val :=
  match fmtOf f.fmt with
  | some F => F.round false a
  | none => a

/-- Table 10-3: sent_i of every element of a bucket. -/
def GxFields.encode (f : GxFields) (as : List Val) : List Val :=
  match f.mode with
  | 0 => as.map f.viaFmt
  | 1 =>
    let k := max 1 (as.length / 2 ^ f.topkN)
    as.mapIdx fun i a => if selected as k i then f.viaFmt a else Val.zero
  | _ =>
    let z := signScale as
    as.map fun a => if a.isNeg then z.neg else z

/-- Table 10-3: wire bytes of a bucket. -/
def GxFields.wire (f : GxFields) (b : Nat) : Nat :=
  match f.mode with
  | 0 => f.bytes b
  | 1 => max 1 (f.len b / 2 ^ f.topkN) * (4 + elemSize f.fmt)
  | _ => (f.len b + 7) / 8 + 4

/-! ### Reduction (R287) -/

/-- One level of the tree. -/
def pairUp : List Val → List Val
  | a :: b :: r => radd a b :: pairUp r
  | l => l

/-- `n` levels. -/
def treeSum : Nat → List Val → Val
  | 0, l => l.headD Val.zero
  | n + 1, l => treeSum n (pairUp l)

/-- The levels of the tree over `n` members. -/
def treeLevels (n : Nat) : Nat := if n ≤ 1 then 0 else bitLen (n - 1)

/-- R287: the result of one element, in FMT. -/
def GxFields.reduceElem (f : GxFields) (nmemb : Nat) (parts : List Contribution) (i : Nat) : Nat :=
  let n := treeLevels nmemb
  let v (j : Nat) : Val := match parts.find? (·.rank = j) with
    | some c => val32 (c.sent.getD i 0)
    | none => Val.zero
  let sum := treeSum n ((List.range (2 ^ n)).map v)
  let r := if f.avg then fp32.div sum (.fin false nmemb 0) else sum
  match fmtOf f.fmt with
  | some F => F.encode (F.round false r)
  | none => 0

/-- R287: the result of a bucket, as bytes. -/
def GxFields.reduceAll (f : GxFields) (nmemb b : Nat) (parts : List Contribution) : Bytes :=
  (List.range (f.len b)).flatMap fun i => leBytes (elemSize f.fmt) (f.reduceElem nmemb parts i)

/-! ### Buckets (R281, R285, R294 to R297) -/

/-- The bucket's result exists. -/
def Bucket.complete (x : Bucket) (nmemb : Nat) : Bool := x.closed || nmemb ≤ x.parts.length

/-- The missing ranks of a bucket whose result exists. -/
def Bucket.missing (x : Bucket) (nmemb : Nat) : List Nat := (List.range nmemb).filter fun j => !x.parts.any (·.rank = j)

/-- This member writes bucket `b` (R281). -/
def GxFields.writes (f : GxFields) (g : Group) (b : Nat) : Bool := !f.reduce || (f.owner0 + b) % g.nmemb = g.rank

/-- R285: residual values go to the bank that is not in force, and the slot is pending E. -/
def State.putResidual (s : State) (p : Pid) (f : GxFields) (e : Epoch) (b : Nat) (r : List Val) (tag : Option Epoch) : State :=
  let x := (s.prt p).gx.slot (f.resBase + b)
  let s := s.store p (f.bankTile b (!x.bank) * tileBytes) (r.flatMap fun v => leBytes 4 v.bits32.toNat) tag
  s.modGx p fun g => { g with slots := g.slots.filter (·.slot != f.resBase + b) ++ [{ x with pending := some e }] }

/-- The tiles that this member's own part of bucket `b` reads and writes. -/
def State.ownTiles (s : State) (p : Pid) (f : GxFields) (b : Nat) : List TileNo :=
  let x := (s.prt p).gx.slot (f.resBase + b)
  let bank (k : Bool) : List TileNo := if f.res then tilesOf (f.bankTile b k * tileBytes) (4 * f.len b) else []
  tilesOf (f.gTa b) (f.bytes b) ++ bank x.bank ++ bank (!x.bank)

/-- R297: one bucket that lacks a contribution is counted, and the first of an epoch is posted. -/
def State.straggler (s : State) (p : Pid) (f : GxFields) (e : Epoch) (low : Nat) : State :=
  let was := (s.prt p).gx
  let s := s.modGx p fun g =>
    if f.drop then { g with dropCnt := satAdd g.dropCnt 1 } else { g with carryCnt := g.carryCnt + 1 }
  let s := if !f.drop && was.carryCnt = onesOf 32 then s.perfWrap (.vf p) 6 else s
  if was.firstEpoch.contains e then s
  else
    (s.modGx p fun g => { g with firstEpoch := g.firstEpoch.filter (·.ahead (s.prt p).ep.c) ++ [e] }).postPart p 0x0311
      (bnat f.drop + 65536 * low) (f.group.toNat + 2 ^ 32 * e.toNat)

/-- R296: the end of a GX whose buckets have all landed. -/
def State.gxDone (s : State) (p : Pid) (r : FabRun) (g : Group) (f : GxFields) (bs : List Bucket) : State :=
  if !bs.all (·.landed) then s
  else
    let short := (bs.mapIdx fun b (x : Bucket) => (b, x.missing g.nmemb)).filter fun x => !x.2.isEmpty
    let hit := short.any fun x => f.res || f.writes g x.1
    let low := short.foldl (fun a x => min a (x.2.headD 4095)) 4095
    if hit then
      s.fabEnd p r.op (if f.drop then .stragglerDropped else .stragglerCarried)
        (BitVec.ofNat 32 (min short.length 0xFFFF + 65536 * low))
    else s.fabEnd p r.op .ok 0

/-- Bucket `b` of a run becomes `x`. -/
def State.setBucket (s : State) (p : Pid) (r : FabRun) (f : GxFields) (bs : List Bucket) (b : Nat) (x : Bucket) : State :=
  s.setRun p { r with kind := .gx f (bs.set b x) }

/-- The result of a bucket reaches this member, once its own part is settled (R281, R282, R294). Stale results are discarded (R245). -/
def State.landBucket (s : State) (o : OpRef) (b : Nat) : State :=
  match s.fabRun o with
  | some (p, r, g) =>
    match r.kind with
    | .gx f bs =>
      match bs[b]? with
      | some x =>
        if x.landed || x.own = .none || !x.complete g.nmemb then s
        else
          let past (s : State) : State :=
            let s := if (x.missing g.nmemb).isEmpty then s else s.straggler p f r.epoch ((x.missing g.nmemb).headD 0)
            let s := s.setBucket p r f bs b { x with landed := true }
            s.gxDone p r g f (bs.set b { x with landed := true })
          if !f.writes g b then past s
          else match s.landTag p r.epoch with
            | none => (s.modScb p fun S => { S with staleCnt := satAdd S.staleCnt 1 }).fabEnd p o .epochRevoked 1
            | some tag =>
              s.withTiles p o (tilesOf (f.oTa b) (f.bytes b)) (some r.epoch) fun s =>
                past (s.store p (f.oTa b) (f.reduceAll g.nmemb b x.parts) tag)
      | none => s
    | _ => s
  | none => s

/-- The member of a group that cannot be reached and has still to contribute, with why (R298, R428). -/
def State.lostMember (s : State) (g : Group) (done : Nat → Bool) : Option W32 :=
  (List.range g.nmemb).findSome? fun j =>
    match g.nodes[j]? with
    | some n => if done j || j = g.rank then none else (s.unreachable n).map (pathLost n.toNat)
    | none => none

/-- This member's own part of bucket `b`: it contributes; or, late, it carries or drops (R294, R295). -/
def State.ownBucket (s : State) (o : OpRef) (b : Nat) (late : Bool) : State :=
  match s.fabRun o with
  | some (p, r, g) =>
    match r.kind with
    | .gx f bs =>
      match bs[b]? with
      | some x =>
        if x.own != .none || x.closed != late then s
        else match if late then none else s.lostMember g (fun j => x.parts.any (·.rank = j)) with
          | some d => s.fabEnd p o .fabricPathLost d
          | none =>
            s.withTiles p o (s.ownTiles p f b) (some r.epoch) fun s =>
              let m := (s.prt p).mem.bytes
              let as := f.values m b ((s.prt p).gx.slot (f.resBase + b)).bank
              let sent := f.encode as
              let res := if late && !f.drop then as else (as.zip sent).map fun z => rsub z.1 z.2
              let s := s.loaded p (f.gTa b) (f.bytes b)
              let s := if f.res then s.putResidual p f r.epoch b res (s.runTag p r) else s
              let s := if late then s else s.fabSendUnit p g 1 (f.wire b) (some o)
              let x' : Bucket := if late then { x with own := .late }
                else { x with own := .sent, openedAt := some (x.openedAt.getD s.pwr.clk),
                              parts := x.parts ++ [⟨g.rank, sent.map (·.bits32)⟩] }
              (s.setBucket p r f bs b x').landBucket o b
      | none => s
    | _ => s
  | none => s

/-- BUCKET_CONTRIBUTION (R279, R287, R294): a member's values of bucket `k` reach the collective unit; with this member's own rank, it
contributes. A bucket of another length is that of an operation that differs (R279). -/
def State.bucketContribution (s : State) (o : OpRef) (b rank : Nat) (sent : List W32) : State :=
  match s.fabRun o with
  | some (p, r, g) =>
    match r.kind with
    | .gx f bs =>
      match bs[b]? with
      | some x =>
        if x.closed || g.nmemb ≤ rank || x.parts.any (·.rank = rank) then s
        else if rank = g.rank then (if s.fnRuns (.vf p) then s.ownBucket o b false else s)
        else if sent.length ≠ f.len b then s.fabEnd p o .malformed 0x65
        else
          let x' : Bucket := { x with openedAt := some (x.openedAt.getD s.pwr.clk), parts := x.parts ++ [⟨rank, sent⟩] }
          (s.setBucket p r f bs b x').landBucket o b
      | none => s
    | _ => s
  | none => s

/-- BUCKET_CONTRIBUTION. -/
def execBucketContribution (o : OpRef) (k rank : Nat) (sent : List W32) (s : State) : Host.Outcome State Fault Refusal :=
  .next (s.bucketContribution o k rank sent)

/-- BUCKET_DEADLINE (R294): DL_US has passed since the bucket's first contribution. -/
def State.bucketDeadline (s : State) (o : OpRef) (b : Nat) : State :=
  match s.fabRun o with
  | some (p, r, g) =>
    match r.kind with
    | .gx f bs =>
      match bs[b]? with
      | some x =>
        match x.openedAt with
        | some t =>
          if f.dlUs ≠ 0 && f.dlUs * 1000 ≤ s.since t && !x.complete g.nmemb then
            (s.setBucket p r f bs b { x with closed := true }).landBucket o b
          else s
        | none => s
      | none => s
    | _ => s
  | none => s

/-- BUCKET_DEADLINE. -/
def execBucketDeadline (o : OpRef) (k : Nat) (s : State) : Host.Outcome State Fault Refusal := .next (s.bucketDeadline o k)

/-- LATE_CONTRIBUTION (R295). -/
def execLateContribution (o : OpRef) (k : Nat) (s : State) : Host.Outcome State Fault Refusal :=
  .next (match o.cmd.ring with
    | .vf p _ => if s.fnRuns (.vf p) then s.ownBucket o k true else s
    | .pf _ => s)

/-! ### ALLGATHER and BCAST (R290) -/

/-- ALLGATHER and BCAST start. -/
def State.gather (s : State) (o : OpRef) (bcast : Bool) : State :=
  match s.nextOp o 6 (if bcast then 3 else 2), o.cmd.ring with
  | some (k, op), .vf p _ =>
    let gid := BitVec.ofNat 16 (op.field 10 2)
    let root := op.field 12 2
    let src := op.field 16 4
    let dst := op.field 20 4
    let n := op.field 24 4
    if !op.zero 8 10 || !op.zero 14 16 || !op.zero 28 32 || n = 0 || 65535 < n || (!bcast && root ≠ 0) then s.opInstant o .malformed 0x61
    else match s.groupOf p gid with
      | none => s.opInstant o .malformed 0x64
      | some g =>
        if g.nmemb ≤ root then s.opInstant o .malformed 0x64
        else if !bcast && rangesMeet (src, n) (dst, n * g.nmemb) then s.opInstant o .malformed 0x67
        else
          let sends := !bcast || g.rank = root
          let spans := (if sends then [(src, n)] else []) ++ (if bcast then (if sends then [] else [(dst, n)]) else [(dst, n * g.nmemb)])
          s.fabBegin p o op k gid true spans (.gather (if bcast then some root else none) src dst n [] false)
  | _, _ => s

/-- ALLGATHER. -/
def execAllgather (o : OpRef) (s : State) : Host.Outcome State Fault Refusal := .next (s.gather o false)

/-- BCAST. -/
def execBcast (o : OpRef) (s : State) : Host.Outcome State Fault Refusal := .next (s.gather o true)

/-- No transaction of the operation waits for its acknowledgement. -/
def State.allAcked (s : State) (o : OpRef) : Bool := !s.net.e2e.any (·.op = some o)

/-- R290, R292: an operation ends once everything it receives has landed and everything it sends has been acknowledged. -/
def State.fabDone (s : State) (o : OpRef) : State :=
  match s.fabRun o with
  | some (p, r, g) =>
    match r.kind with
    | .gather root _ _ _ landed sent =>
      let sends := root.all (· = g.rank)
      let want := match root with
        | none => List.range g.nmemb
        | some j => if j = g.rank then [] else [j]
      if (!sends || sent) && want.all landed.contains && s.allAcked o then s.fabEnd p o .ok 0 else s
    | .send _ _ _ _ _ _ sent => if sent && s.allAcked o then s.fabEnd p o .ok 0 else s
    | _ => s
  | none => s

/-- Send whole tiles to ranks. -/
def State.sendTiles (s : State) (p : Pid) (o : OpRef) (g : Group) (ranks : List Nat) (n : Nat) (tc : Fin 4) : State :=
  ranks.foldl (fun s j => s.fabSend p (g.nodes.getD j s.net.active.node) tc (n * tileBytes) (some o)) s

/-- This member's own tiles of an ALLGATHER or BCAST go out, and an ALLGATHER's to their own place. -/
def State.gatherOwn (s : State) (p : Pid) (r : FabRun) (g : Group) (root : Option Nat) (src dst n : Nat) (landed : List Nat) : State :=
  let o := r.op
  let here := if root.isNone then (spanTiles (dst + g.rank * n, n)) else []
  match s.lostMember g (fun _ => false) with
  | some d => s.fabEnd p o .fabricPathLost d
  | none =>
    s.withTiles p o (spanTiles (src, n) ++ here) (s.runTag p r) fun s =>
      let b := s.load p (src * tileBytes) (n * tileBytes)
      let s := s.loaded p (src * tileBytes) (n * tileBytes)
      let s := if root.isNone then s.store p ((dst + g.rank * n) * tileBytes) b (s.runTag p r) else s
      let s := s.sendTiles p o g ((List.range g.nmemb).filter (· ≠ g.rank)) n 1
      (s.setRun p { r with kind := .gather root src dst n (if root.isNone then landed ++ [g.rank] else landed) true }).fabDone o

/-- Fabric data that cannot land: stale (R245, R293). -/
def State.staleLanding (s : State) (p : Pid) (o : OpRef) : State :=
  (s.modScb p fun S => { S with staleCnt := satAdd S.staleCnt 1 }).fabEnd p o .epochRevoked 1

/-- Another member's tiles of an ALLGATHER or BCAST land. -/
def State.gatherLand (s : State) (p : Pid) (r : FabRun) (root : Option Nat) (src dst n : Nat) (landed : List Nat) (sent : Bool)
    (rank : Nat) (data : Bytes) : State :=
  let o := r.op
  let first := if root.isNone then dst + rank * n else dst
  if data.length ≠ n * tileBytes then s.fabEnd p o .malformed 0x65
  else
    let tag := if r.spec then s.landTag p r.epoch else some none
    match tag with
    | none => s.staleLanding p o
    | some tag =>
      s.withTiles p o (spanTiles (first, n)) (s.runTag p r) fun s =>
        ((s.store p (first * tileBytes) data tag).setRun p
          { r with kind := .gather root src dst n (landed ++ [rank]) sent }).fabDone o

/-! ### SEND and RECV (R291 to R293) -/

/-- Another SEND (or RECV) of the same key is active (R291). -/
def State.keyBusy (s : State) (p : Pid) (g : W16) (sends : Bool) (chan mb peer : Nat) : Bool :=
  (s.prt p).gx.runs.any fun r => r.group = g && match r.kind with
    | .send c m q _ _ _ _ => sends && c = chan && m = mb && q = peer
    | .recv c m q _ _ _ _ => !sends && c = chan && m = mb && q = peer
    | _ => false

/-- SEND and RECV start. -/
def State.channelOp (s : State) (o : OpRef) (sends : Bool) : State :=
  match s.nextOp o 6 (if sends then 4 else 5), o.cmd.ring with
  | some (k, op), .vf p _ =>
    let chan := op.field 8 1
    let mb := op.field 9 1
    let gid := BitVec.ofNat 16 (op.field 10 2)
    let peer := op.field 12 2
    let b14 := op.field 14 1
    let b15 := op.field 15 1
    let tile := op.field 16 4
    let n := op.field 20 4
    let tmo := op.field 24 4
    let dk := !sends && b14 = 1
    let bad := 64 ≤ chan || 64 ≤ mb || n = 0 || 65535 < n || !op.zero 28 32
      || (if sends then b14 ≠ 0 || b15 ≠ 0 else 2 ≤ b14 || (if dk then 16 ≤ b15 || 64 ≤ tile else b15 ≠ 0))
    if bad then s.opInstant o .malformed 0x61
    else match s.groupOf p gid with
      | none => s.opInstant o .malformed 0x64
      | some g =>
        if g.nmemb ≤ peer || peer = g.rank then s.opInstant o .malformed 0x64
        else if s.keyBusy p gid sends chan mb peer then s
        else match s.unreachable (g.nodes.getD peer 0) with
          | some d => s.opInstant o .fabricPathLost (pathLost (g.nodes.getD peer 0).toNat d)
          | none =>
            let kind : FabKind := if sends then .send chan mb peer tile n tmo false
              else .recv chan mb peer n tmo tile
                (if dk then some (⟨tile % 64, Nat.mod_lt _ (by omega)⟩, ⟨b15 % 16, Nat.mod_lt _ (by omega)⟩) else none)
            s.fabBegin p o op k gid false (if dk then [] else [(tile, n)]) kind
  | _, _ => s

/-- SEND. -/
def execSend (o : OpRef) (s : State) : Host.Outcome State Fault Refusal := .next (s.channelOp o true)

/-- RECV. -/
def execRecv (o : OpRef) (s : State) : Host.Outcome State Fault Refusal := .next (s.channelOp o false)

/-- The matching RECV of a SEND is active: its tiles go out (R291, R421). -/
def State.sendNow (s : State) (p : Pid) (r : FabRun) (g : Group) (chan mb peer tile n tmo : Nat) : State :=
  let o := r.op
  s.withTiles p o (spanTiles (tile, n)) (s.runTag p r) fun s =>
    let s := s.loaded p (tile * tileBytes) (n * tileBytes)
    let s := s.sendTiles p o g [peer] n (if (s.prt p).rt.en then 3 else 2)
    match s.unreachable (g.nodes.getD peer 0) with
    | some d => s.fabEnd p o .fabricPathLost (pathLost (g.nodes.getD peer 0).toNat d)
    | none => s.setRun p { r with kind := .send chan mb peer tile n tmo true }

/-- R292: tiles of a SEND land in the producer half of a pair, which then swaps. -/
def State.landInPair (s : State) (p : Pid) (o : OpRef) (b : PairRef) (n : Nat) (data : Bytes) (tag : Option Epoch) : State :=
  let x := s.pair b
  if !x.bound || x.cprod || x.half ≠ n || x.broken then s.fabEnd p o .malformed 0x66
  else if !x.open_ then s
  else
    let first := x.base + x.half
    s.withTiles p o (spanTiles (first, n)) tag fun s =>
      ((s.store p (first * tileBytes) data none).swapPair b tag false).fabEnd p o .ok 0

/-- Tiles of a SEND land for a RECV. -/
def State.recvLand (s : State) (p : Pid) (r : FabRun) (n : Nat) (tile : TileNo) (pair : Option (RelCore × PairNo)) (e : Option Epoch)
    (data : Bytes) : State :=
  let o := r.op
  if data.length ≠ n * tileBytes then s.fabEnd p o .malformed 0x66
  else
    let tag := match e with
      | some e => s.landTag p e
      | none => some none
    match tag with
    | none => s.staleLanding p o
    | some tag =>
      match pair with
      | some (c, q) => s.landInPair p o ⟨p, c, q⟩ n data tag
      | none => s.withTiles p o (spanTiles (tile, n)) tag fun s => (s.store p (tile * tileBytes) data tag).fabEnd p o .ok 0

/-- The partition takes fabric data (R424). -/
def State.takesFabric (s : State) (p : Pid) : Bool :=
  match (s.life p).st with
  | .empty | .configuring | .retained | .draining | .scrubbing => false
  | _ => s.sledUp

/-- FABRIC_LANDING: what the fabric brings an operation from a member. For a GX, results that waited for their tiles land. For an
ALLGATHER or BCAST, the tiles of `rank` land; its own rank stands for its own tiles, which go out. For a SEND, its RECV is active and the
transfer is made; bytes are the refusal of a RECV that does not fit it (R291). For a RECV, the tiles of its SEND land. -/
def State.fabricLanding (s : State) (o : OpRef) (rank : Nat) (tag : Option Epoch) (data : Bytes) : State :=
  match s.fabRun o with
  | some (p, r, g) =>
    if !s.takesFabric p then s.exitRetention
    else match r.kind with
      | .gx _ _ => s.landBucket o rank
      | .gather root src dst n landed sent =>
        if landed.contains rank || g.nmemb ≤ rank then s
        else if rank = g.rank then
          (if root.all (· = g.rank) && !sent && s.fnRuns (.vf p) then s.gatherOwn p r g root src dst n landed else s)
        else if root.all (· = rank) then s.gatherLand p r root src dst n landed sent rank data
        else s
      | .send chan mb peer tile n tmo sent =>
        if rank ≠ peer || sent then s
        else if !data.isEmpty then s.fabEnd p o .malformed 0x66
        else if s.fnRuns (.vf p) then s.sendNow p r g chan mb peer tile n tmo else s
      | .recv _ _ peer n _ tile pair => if rank = peer then s.recvLand p r n tile pair tag data else s
  | none => s

/-- FABRIC_LANDING. -/
def execFabricLanding (o : OpRef) (rank : Nat) (tag : Option Epoch) (data : Bytes) (s : State) : Host.Outcome State Fault Refusal :=
  .next (s.fabricLanding o rank tag data)

/-- SEND_RECV_TIMEOUT (R293). -/
def execSendRecvTimeout (o : OpRef) (s : State) : Host.Outcome State Fault Refusal :=
  .next (match s.fabRun o with
    | some (p, r, _) =>
      let past (chan tmo : Nat) : State :=
        if tmo ≠ 0 && tmo * 1000 ≤ s.since r.since then s.fabEnd p o .fenceTimeout (BitVec.ofNat 32 (0x80000 + chan)) else s
      match r.kind with
      | .send chan _ _ _ _ tmo _ => past chan tmo
      | .recv chan _ _ _ tmo _ _ => past chan tmo
      | _ => s
    | none => s)

/-! ### Unreachable members (R293, R298) -/

/-- The operation still needs the member of a rank. -/
def FabRun.needs (r : FabRun) (g : Group) (rank : Nat) : Bool :=
  rank != g.rank && rank < g.nmemb && match r.kind with
    | .gx _ bs => bs.any fun x => !x.complete g.nmemb && !x.parts.any (·.rank = rank)
    | .gather root _ _ _ landed _ => match root with
      | none => !landed.contains rank
      | some j => j = rank || j = g.rank
    | .send _ _ peer _ _ _ _ => peer = rank
    | .recv _ _ peer _ _ _ _ => peer = rank

/-- An operation that needs a member ends FABRIC_PATH_LOST. -/
def State.peerLost (s : State) (o : OpRef) (rank reason : Nat) : State :=
  match s.fabRun o with
  | some (p, r, g) =>
    if r.needs g rank then s.fabEnd p o .fabricPathLost (pathLost (g.nodes.getD rank 0xFFFF).toNat reason) else s
  | none => s

/-- COLLECTIVE_PEER_UNREACHABLE (R298): the fabric reports a member unreachable. Reasons 2, 5 and 6 come from sleds further on; the
others hold of this sled's own routes. -/
def execCollectivePeerUnreachable (o : OpRef) (rank reason : Nat) (s : State) : Host.Outcome State Fault Refusal :=
  .next (match s.fabRun o with
    | some (_, _, g) =>
      let n := g.nodes.getD rank 0xFFFF
      if reason = 2 || reason = 5 || reason = 6 || s.unreachable n = some reason then s.peerLost o rank reason else s
    | none => s)

end Sys2Proof.Machine
end

