-- ==== Sys2Proof/Machine/Security.lean ====
section
/-! DEFINITION. Machine/Security.lean: slot wheel, measurements, SPDM, JTAG and the entropy source (chapter 16). -/

namespace Sys2Proof.Machine

/-- Change the security part. -/
def State.modSec (s : State) (f : Security → Security) : State := { s with sec := f s.sec }

/-! ### The slot wheel (R447, R448) -/

/-- The positions a partition owns. -/
def Security.owned (S : Security) (p : Pid) : Nat := (S.wheel.toList.filter (· = some p)).length

/-- SEC_FSLOT_USED. -/
def Security.used (S : Security) : Nat := (S.wheel.toList.filter (·.isSome)).length

/-- R448: the first unowned position at or after `want`, modulo 64, becomes the partition's. -/
def takeSlot (p : Pid) (w : Vector (Option Pid) 64) (want : Nat) : Vector (Option Pid) 64 :=
  match (List.range 64).find? fun i => (w[(want + i) % 64]'(Nat.mod_lt _ (by omega))).isNone with
  | some i => w.set ((want + i) % 64) (some p) (Nat.mod_lt _ (by omega))
  | none => w

/-- R448: choose the positions of a FENCED partition with `n` slots. -/
def Security.claim (S : Security) (p : Pid) (n : Nat) : Security :=
  { S with wheel := (List.range n).foldl (fun w i => takeSlot p w (i * 64 / n)) S.wheel }

/-- R448, R452: the positions of a partition return to the shared slots. -/
def Security.unclaim (S : Security) (p : Pid) : Security :=
  { S with wheel := S.wheel.map fun o => if o = some p then none else o }

/-- SEC_FSLOTS_WRITE (R448): a value above 48 reads back as 48. -/
def execSecFslotsWrite (p : Pid) (v : W32) (s : State) : Host.Outcome State Fault Refusal :=
  .next (let L := s.life p
    if s.pfServes 0x50040 && (L.st = .empty || L.st = .configuring || (L.st = .ready && !L.timingAct)) then
      s.modSec fun S => { S with fslots := S.fslots.set p.val (BitVec.ofNat 6 (min 48 (v.toNat % 64))) p.isLt }
    else s)

/-! ### Keys and the entropy source (R440 to R442) -/

/-- The key ID of a partition. -/
def keyId (p : Pid) : Fin 17 := ⟨p.val + 1, by omega⟩

/-- R440: generate a key; SEC_KEYGEN sticks at its end (Table 17-5). -/
def State.newKey (s : State) (k : Fin 17) : State :=
  let key := Config.drbg 512 s.nfree
  s.took.modSec fun S =>
    { S with keyValid := S.keyValid ||| BitVec.ofNat 17 (2 ^ k.val), keys := S.keys.set k.val key k.isLt,
             keygen := vmod S.keygen k fun n => satAdd n 1 }

/-- R442: overwrite a key slot with zeros and post KEY_RETIRED. -/
def State.retireKey (s : State) (p : Pid) : State :=
  let k := keyId p
  (s.modSec fun S =>
    { S with keyValid := S.keyValid &&& ~~~(BitVec.ofNat 17 (2 ^ k.val)), keys := S.keys.set k.val 0 k.isLt }).postOper p 0x0802
      k.val (s.sec.keygen[k]).toNat

/-- Some partition is committed: KEY_VALID[16:1] is not 0. -/
def Security.tenantKeys (S : Security) : Bool := S.keyValid.toNat / 2 != 0

/-- ENTROPY_FAULT (R441): a health test fails; the start-up tests run in the boot after a sled cold reset. -/
def execEntropyFault (startup : Bool) (s : State) : Host.Outcome State Fault Refusal :=
  .next (if s.sec.rngFail || (startup && !(s.boot.afterCold && !s.boot.hostReady)) then s
    else (s.modSec fun S => { S with rngFail := true }).postDev 0x0801 (if startup then 1 else 2) 0)

/-! ### Tenant measurement (R460) -/

/-- Word `i` of D, in byte order. -/
def Measure.dBytes (m : Measure) : Bytes := m.d.toList.flatMap fun w => leVec 4 w

/-- R460: M := SHA-384(M ‖ D). -/
def Measure.extend (m : Measure) : Measure :=
  { m with m := BitVec.ofNat 384 (leAt (sha384 (leVec 48 m.m ++ m.dBytes)) 0 48), cnt := m.cnt + 1 }

/-- TNT_MEAS_GO. -/
def execTntMeasGo (p : Pid) (v : W32) (s : State) : Host.Outcome State Fault Refusal :=
  .next (if s.vfFull p && v.getLsbD 0 then s.modPrt p fun P => { P with meas := P.meas.extend } else s)

/-! ### Measurement blocks (R459, Tables 16-6 to 16-8) -/

/-- Table 16-7: the security state block. -/
def State.secBlock (s : State) : Bytes :=
  leBytes 1 s.flash.fuses ++ leVec 1 s.flash.runEpoch
    ++ leBytes 1 (bnat s.link.ideReq + 2 * bnat s.sec.rngFail + 4 * bnat s.sec.session.isSome)
    ++ leBytes 1 s.sec.used ++ leVec 8 Config.serial ++ leBytes 4 0

/-- Table 16-8: the block of a partition. -/
def State.prtBlock (s : State) (p : Pid) : Bytes :=
  let L := s.life p
  let P := s.prt p
  if L.st = .empty then leBytes 80 p.val
  else
    leBytes 1 p.val ++ leBytes 1 L.st.code
      ++ leBytes 1 (bnat L.timingAct + 2 * bnat L.hostloss + 4 * bnat P.tok.consent + 8 * bnat L.retainSram)
      ++ leBytes 1 (s.sec.owned p) ++ leVec 2 L.quadsAct ++ leVec 1 L.floorAct ++ leVec 1 L.boardAct ++ leVec 2 L.slice
      ++ leBytes 2 0 ++ leVec 4 (s.sec.keygen[keyId p]) ++ leVec 4 P.meas.cnt ++ leBytes 4 0 ++ leVec 8 P.meas.committedAt
      ++ leVec 48 P.meas.m

/-- The indices in a responder's scope. -/
def measScope : Responder → List Nat
  | .vf p => [1, 2, 3, 4, 0x10 + p.val]
  | _ => [1, 2, 3, 4] ++ (List.range 16).map (0x10 + ·)

/-- The block of an index. -/
def State.measBlock (s : State) (i : Nat) : Bytes :=
  if i ≤ 3 then leVec 48 (Config.imageDigest i)
  else if i = 4 then s.secBlock
  else s.prtBlock ⟨(i - 0x10) % 16, Nat.mod_lt _ (by omega)⟩

/-! ### SPDM (R454 to R459) -/

/-- The number under which a responder's connection stands. -/
def connOf : Responder → Fin 19
  | .pf => 0
  | .vf p => ⟨p.val + 1, by omega⟩
  | .smbus => 17
  | .vdm => 18

/-- The responder answers: a function's DOE while it is present, the management controller's while it runs the device. -/
def State.answers (s : State) : Responder → Bool
  | .pf | .vdm => s.link.up && s.boot.hostReady
  | .vf p => s.vfPresent p
  | .smbus => s.boot.hostReady

/-- A response: its SPDM code and its fields (log entry 29). -/
def State.spdmSay (s : State) (r : Responder) (code : Nat) (fields : List Nat) : State := s.emit (.reply (connOf r).val code fields)

/-- An ERROR response with its error code. -/
def State.spdmError (s : State) (r : Responder) (e : Nat) : State := s.spdmSay r 0x7F [e]

/-- InvalidRequest. -/
def spdmInvalid : Nat := 0x01
/-- UnexpectedRequest. -/
def spdmUnexpected : Nat := 0x04
/-- Unspecified. -/
def spdmUnspecified : Nat := 0x05
/-- UnsupportedRequest. -/
def spdmUnsupported : Nat := 0x07

/-- The connection of a responder. -/
def State.conn (s : State) (r : Responder) : SpdmConn := s.sec.conns[connOf r]

/-- Bring a connection to a point. -/
def State.setConn (s : State) (r : Responder) (c : SpdmConn) : State :=
  s.modSec fun S => { S with conns := S.conns.set (connOf r).val c (connOf r).isLt }

/-- SPDM_GET_VERSION: version 1.3 alone. -/
def execSpdmGetVersion (r : Responder) (s : State) : Host.Outcome State Fault Refusal :=
  .next (if s.answers r then (s.setConn r .version).spdmSay r 0x04 [0x1300] else s)

/-- A step of the negotiation, in its order. -/
def State.negotiate (s : State) (r : Responder) (from_ goal : SpdmConn) (code : Nat) (fields : List Nat) : State :=
  if !s.answers r then s
  else if s.conn r = from_ then (s.setConn r goal).spdmSay r code fields
  else s.spdmError r spdmUnexpected

/-- SPDM_GET_CAPABILITIES: CTExponent 16. -/
def execSpdmGetCapabilities (r : Responder) (s : State) : Host.Outcome State Fault Refusal :=
  .next (s.negotiate r .version .capabilities 0x61 [16])

/-- SPDM_NEGOTIATE_ALGORITHMS: the one set of Table 16-5. -/
def execSpdmNegotiateAlgorithms (r : Responder) (s : State) : Host.Outcome State Fault Refusal :=
  .next (s.negotiate r .capabilities .negotiated 0x63 [])

/-- A request on a negotiated connection. -/
def State.spdm (s : State) (r : Responder) (f : State → State) : State :=
  if !s.answers r then s else if s.conn r = .negotiated then f s else s.spdmError r spdmUnexpected

/-- SPDM_GET_DIGESTS: the digest of the chain in slot 0. -/
def execSpdmGetDigests (r : Responder) (s : State) : Host.Outcome State Fault Refusal :=
  .next (s.spdm r fun s => s.spdmSay r 0x01 ((sha384 Config.certChain).map (·.toNat)))

/-- SPDM_GET_CERTIFICATE: a portion of the chain, and how much follows it; slot 0 only. -/
def execSpdmGetCertificate (r : Responder) (slot off len : Nat) (s : State) : Host.Outcome State Fault Refusal :=
  .next (s.spdm r fun s =>
    if slot != 0 || Config.certChain.length ≤ off then s.spdmError r spdmInvalid
    else
      let b := (Config.certChain.drop off).take len
      s.spdmSay r 0x02 ([b.length, Config.certChain.length - off - b.length] ++ b.map (·.toNat)))

/-- R455, R456: a response signed with the identity key, its secret drawn from the DRBG; what the transcript holds besides, the requester
chooses, so its digest is a free value (log entry 29). -/
def State.spdmSigned (s : State) (r : Responder) (code : Nat) (fields : List Nat) : State :=
  if s.sec.rngFail then s.spdmError r spdmUnspecified
  else
    let t := s.free 384
    let s := s.took
    let k := Config.drbg 384 s.nfree
    let (a, b) := Config.ecdsaSign (leVec 48 t) k
    s.took.spdmSay r code (fields ++ [a.toNat, b.toNat])

/-- SPDM_CHALLENGE. -/
def execSpdmChallenge (r : Responder) (slot : Nat) (s : State) : Host.Outcome State Fault Refusal :=
  .next (s.spdm r fun s => if slot != 0 then s.spdmError r spdmInvalid else s.spdmSigned r 0x03 [])

/-- SPDM_GET_MEASUREMENTS: index 0 asks how many indices there are, 0xFF for all of them. -/
def execSpdmGetMeasurements (r : Responder) (index : Nat) (signed : Bool) (s : State) : Host.Outcome State Fault Refusal :=
  .next (s.spdm r fun s =>
    let l := if index = 0xFF then (measScope r) else (measScope r).filter (· = index)
    if index != 0 && l.isEmpty then s.spdmError r spdmInvalid
    else
      let fields := if index = 0 then [(measScope r).length] else l.flatMap fun i => i :: (s.measBlock i).map (·.toNat)
      if signed then s.spdmSigned r 0x60 fields else s.spdmSay r 0x60 fields)

/-- SPDM_SESSION (R458): a session starts or ends, with the cause of its end. -/
def State.postSession (s : State) (started : Bool) (cause : Nat) (id : W32) : State :=
  s.post .pf ⟨0x0804, 16, BitVec.ofNat 32 (bnat started + 2 * cause), id.zeroExtend 64⟩

/-- R458: the session ends. -/
def State.endSession (s : State) (cause : Nat) : State :=
  match s.sec.session with
  | some x => (s.modSec fun S => { S with session := none }).postSession false cause x.id
  | none => s

/-- A request of the session, on the PF DOE alone (Table 16-5). -/
def State.sessionReq (s : State) (r : Responder) (f : SpdmSession → State → State) : State :=
  s.spdm r fun s =>
    if r != .pf then s.spdmError r spdmUnsupported
    else match s.sec.session with
      | some x => f x s
      | none => s.spdmError r spdmUnexpected

/-- Change the session. -/
def State.modSession (s : State) (f : SpdmSession → SpdmSession) : State :=
  s.modSec fun S => { S with session := S.session.map f }

/-- SPDM_KEY_EXCHANGE (R458): a session that exists ends first. -/
def execSpdmKeyExchange (r : Responder) (s : State) : Host.Outcome State Fault Refusal :=
  .next (s.spdm r fun s =>
    if r != .pf then s.spdmError r spdmUnsupported
    else if s.sec.rngFail then s.spdmError r spdmUnspecified
    else
      let s := s.endSession 1
      let id := s.free 32
      ((s.took.modSec fun S => { S with session := some ⟨id, false, 0⟩ }).postSession true 0 id).spdmSigned r 0x64 [id.toNat])

/-- SPDM_FINISH: the session is established. -/
def execSpdmFinish (r : Responder) (s : State) : Host.Outcome State Fault Refusal :=
  .next (s.sessionReq r fun x s =>
    if x.established then s.spdmError r spdmUnexpected
    else (s.modSession fun x => { x with established := true }).spdmSay r 0x65 [])

/-- A request inside the established session. -/
def State.insideSession (s : State) (r : Responder) (f : State → State) : State :=
  s.sessionReq r fun x s => if x.established then f s else s.spdmError r spdmUnexpected

/-- SPDM_HEARTBEAT. -/
def execSpdmHeartbeat (r : Responder) (s : State) : Host.Outcome State Fault Refusal :=
  .next (s.insideSession r fun s => s.spdmSay r 0x68 [])

/-- SPDM_KEY_UPDATE. -/
def execSpdmKeyUpdate (r : Responder) (s : State) : Host.Outcome State Fault Refusal :=
  .next (s.insideSession r fun s => (s.modSession fun x => { x with keyUpdates := x.keyUpdates + 1 }).spdmSay r 0x69 [])

/-- SPDM_END_SESSION. -/
def execSpdmEndSession (r : Responder) (s : State) : Host.Outcome State Fault Refusal :=
  .next (s.insideSession r fun s => (s.spdmSay r 0x6C []).endSession 0)

/-- SPDM_VENDOR_DEFINED_REQUEST (R367, R458): IDE key programming, accepted only inside the session; with the keys set up both IDE streams
are secure. -/
def execSpdmVendorDefinedRequest (r : Responder) (secure : Bool) (s : State) : Host.Outcome State Fault Refusal :=
  .next (s.insideSession r fun s =>
    if secure then (s.modSec fun S => { S with ide := true }).spdmSay r 0x7E [] else s.spdmError r spdmUnexpected)

/-! ### JTAG (R446) -/

/-- The channel number of the JTAG port among the replies. -/
def jtagChannel : Nat := 32

/-- JTAG_BYPASS. -/
def execJtagBypass (s : State) : Host.Outcome State Fault Refusal := .next (s.modSec fun S => { S with jtag := .bypass })

/-- JTAG_IDCODE: the code that no rule gives is a free value. -/
def execJtagIdcode (s : State) : Host.Outcome State Fault Refusal :=
  .next ((s.took.modSec fun S => { S with jtag := .idcode }).emit (.reply jtagChannel 0 [(s.free 32).toNat]))

/-- JTAG_SAMPLE_PRELOAD. -/
def execJtagSamplePreload (s : State) : Host.Outcome State Fault Refusal := .next (s.modSec fun S => { S with jtag := .sample })

/-- An instruction that drives pins: executed while no partition is committed, and otherwise BYPASS with JTAG_REFUSED. -/
def State.jtagDrive (s : State) (j : Jtag) (code : BitVec 8) : State :=
  if s.sec.tenantKeys then (s.modSec fun S => { S with jtag := .bypass }).postDev 0x0805 code.toNat 0
  else s.modSec fun S => { S with jtag := j }

/-- JTAG_EXTEST. -/
def execJtagExtest (code : BitVec 8) (s : State) : Host.Outcome State Fault Refusal := .next (s.jtagDrive .extest code)

/-- JTAG_CLAMP. -/
def execJtagClamp (code : BitVec 8) (s : State) : Host.Outcome State Fault Refusal := .next (s.jtagDrive .clamp code)

/-- JTAG_HIGHZ. -/
def execJtagHighz (code : BitVec 8) (s : State) : Host.Outcome State Fault Refusal := .next (s.jtagDrive .highz code)

end Sys2Proof.Machine
end

