-- ==== Sys2Proof/Machine/Meters.lean ====
section
/-! DEFINITION. Machine/Meters.lean: the eight meters, their records and their latches (chapter 17). -/

namespace Sys2Proof.Machine

/-! ### Values (R464, R465, Table 17-5) -/

/-- R465: internal units to one unit of meter `k`. -/
def meterUnit : Fin 8 → Nat
  | 0 => 1000 | 1 => 16000 | 2 => 16384000 | 3 => 1048576000 | 4 => 1 | 5 => 1 | 6 => 1000000000 | 7 => 1

/-- The value of meter `k` that is read or recorded. -/
def Meters.value (m : Meters) (k : Fin 8) : W64 :=
  let n := m.acc[k] / meterUnit k
  if 2 ^ 64 - 1 ≤ n then onesOf 64 else BitVec.ofNat 64 n

/-- The eight values. -/
def Meters.values (m : Meters) : Vector W64 8 := Vector.ofFn fun k => m.value k

/-- Change a partition's meters. -/
def State.modMtr (s : State) (p : Pid) (f : Meters → Meters) : State := s.modPrt p fun P => { P with mtr := f P.mtr }

/-- Table 17-5: meter `k` saturates, once in a partition's lifetime. -/
def State.saturate (s : State) (p : Pid) (k : Fin 8) : State :=
  let m := (s.prt p).mtr
  if m.value k = onesOf 64 && !m.satMask.getLsbD k.val then
    let s := s.modMtr p fun m => { m with satMask := m.satMask ||| BitVec.ofNat 8 (2 ^ k.val) }
    (s.postOper p 0x0901 k.val 0).postPart p 0x0901 k.val 0
  else s

/-- Every meter of a partition is held against its range. -/
def State.saturateAll (s : State) (p : Pid) : State := (List.finRange 8).foldl (fun s k => s.saturate p k) s

/-! ### Storage samples and energy at a 1 ms boundary (R466 to R468) -/

/-- R466: the storage samples of one millisecond: tile-ms in tile memory and staging, tile-ms in stacked DRAM, sector-ms. -/
def Memory.sample (m : Memory) : Nat × Nat × Nat :=
  (m.homed fun h => h.inTile || h.isStaging, m.homed Home.inStacked, (m.tiles.map (·.sectors)).sum)

/-- R467: what a FENCED partition has accrued in the millisecond that ends. -/
def Meters.settle (m : Meters) : Meters :=
  { m with acc := Vector.ofFn fun (k : Fin 8) => m.acc[k] + m.due[k], due := Vector.replicate 8 0 }

/-- Add to a meter at once. -/
def Meters.now (m : Meters) (k : Fin 8) (n : Nat) : Meters := { m with acc := vmod m.acc k (· + n) }

/-- The energy of every metered partition under the shared-resource rows this millisecond. -/
def State.sharedTotal (s : State) : Nat :=
  ((List.finRange 16).map fun p => if (s.life p).st.metered then (s.prt p).mtr.shared else 0).sum

/-- R468: a SHARED partition's energy of a millisecond: its quads' samples, and its share of the shared domains and of the RDIMM
rails, in proportion to its energy under the shared-resource rows; in pJ, a milliwatt for a millisecond being 10^6. -/
def State.sharedMs (s : State) (p : Pid) (x : Samples) (total : Nat) : Nat :=
  let own := ((s.quadsOf p).map fun q => x.quads[q]).sum
  let part := if total = 0 then 0 else (x.shared + x.rdimm) * 1000000 * (s.prt p).mtr.shared / total
  own * 1000000 + part

/-- What the 1 ms boundary does to one partition's meters; a quad held costs a FENCED one 200,000,000 pJ. -/
def State.meterMs (s : State) (x : Samples) (total : Nat) (p : Pid) : State :=
  let L := s.life p
  if !L.st.metered then s
  else
    let (a, b, c) := (s.prt p).mem.sample
    let e := if L.timingAct then 200000000 * (s.quadsOf p).length else s.sharedMs p x total
    (s.modMtr p fun m => ((((m.settle.now 1 a).now 2 b).now 3 c).now 6 e)).saturateAll p

/-- R466 to R468: the 1 ms boundary for the meters of every partition. -/
def State.metersMs (s : State) (x : Samples) : State :=
  let total := s.sharedTotal
  let s := (List.finRange 16).foldl (fun s p => s.meterMs x total p) s
  (List.finRange 16).foldl (fun s p => s.modMtr p fun m => { m with shared := 0 }) s

/-- CORE_US and the core clocks' energy over `ns` of one Cicada cycle: four cores for each quad in RUN (Table 17-1). -/
def State.coreTime (s : State) (ns : Nat) (p : Pid) : State :=
  let n := 4 * ((s.quadsOf p).filter fun q => s.quads[q].st = .run).length
  (s.accrue p 0 (n * ns)).energy p (1100 * n * ns)

/-! ### Records (R470 to R474) -/

/-- R473: IVL in ns. -/
def Meters.interval (m : Meters) : Nat :=
  let v := m.ivl.toNat
  (if v = 0 || 60 < v then 60 else v) * 1000000000

/-- Table 17-3: bytes 0 to 159 of a record. -/
def State.recordBytes (s : State) (p : Pid) (tEnd : Nat) (final uns : Bool) : Bytes :=
  let m := (s.prt p).mtr
  let L := s.life p
  leBytes 4 0x43524D50 ++ leBytes 2 1 ++ leBytes 1 p.val
    ++ leBytes 1 (2 * bnat final + 4 * bnat L.timingAct + 8 * bnat uns + 16 * bnat (m.satMask != 0) + 32 * bnat (m.pseq = 0))
    ++ leVec 8 Config.serial ++ leVec 8 s.mtr.instance_ ++ leVec 8 s.mtr.seq ++ leVec 4 m.pseq
    ++ leVec 4 (s.sec.keygen[keyId p]) ++ leVec 8 (s.prt p).meas.committedAt ++ leVec 8 m.tStart ++ leBytes 8 tEnd
    ++ (m.values.toList.flatMap fun v => leVec 8 v)
    ++ leVec 2 L.quadsAct ++ leVec 1 L.floorAct ++ leVec 1 L.boardAct ++ leVec 2 L.slice
    ++ leBytes 1 (bnat L.timingAct + 2 * bnat L.hostloss) ++ leBytes 1 L.st.code ++ leVec 1 m.satMask ++ leBytes 23 0

/-- R472 to R474: form a record; it waits for its signature. -/
def State.formRecord (s : State) (p : Pid) (tEnd : Nat) (final : Bool) : State :=
  let s := s.saturateAll p
  let uns := s.sec.rngFail
  let b := s.recordBytes p tEnd final uns
  let s := { s with mtr := { s.mtr with
    seq := s.mtr.seq + 1, unsigned := if uns then satAdd s.mtr.unsigned 1 else s.mtr.unsigned,
    forming := s.mtr.forming ++ [FormedRec.mk p s.mtr.seq b uns] } }
  s.modMtr p fun m => { m with pseq := m.pseq + 1, tStart := BitVec.ofNat 64 tEnd, mark := tEnd, missArmed := true }

/-- R473: the boundary that partition `p` owes a record for: the latest one passed since the last was judged, once the 1 ms boundary
it coincides with has been taken (R474). -/
def State.owedBoundary (s : State) (p : Pid) : Option Nat :=
  let m := (s.prt p).mtr
  let t := s.pwr.time.toNat / m.interval * m.interval
  if (s.life p).st.metered && m.mark < t && t ≤ s.pwr.lastMs * 1000000 then some t else none

/-- METER_INTERVAL_BOUNDARY (R473, R474): records of one cycle are formed in ascending PID. -/
def State.intervalBoundary (s : State) (p : Pid) : State :=
  ((List.finRange 16).filter fun q => q ≤ p).foldl (fun s q =>
    match s.owedBoundary q with
    | some t => s.formRecord q t false
    | none => s) s

/-- METER_INTERVAL_BOUNDARY. -/
def execMeterIntervalBoundary (p : Pid) (s : State) : Host.Outcome State Fault Refusal := .next (s.intervalBoundary p)

/-- R471, R456: the signed form of a record: r and s after bytes 0 to 159, or UNSIGNED and zeros. -/
def FormedRec.signed (f : FormedRec) (uns : Bool) (secret : BitVec 384) : Bytes :=
  if uns then f.bytes.set 7 (byteAt f.bytes 7 ||| 8) ++ List.replicate 96 0
  else
    let g := Config.ecdsaSign f.bytes secret
    f.bytes ++ leVec 48 g.1 ++ leVec 48 g.2

/-- R475: a record that finds no room on the operator meter ring enters the hold; beyond 65,536 it is lost. -/
def State.recordOut (s : State) (p : Pid) (seq : W64) (b : Bytes) : State :=
  match s.mtr.hold.isEmpty, s.meterRing .pf with
  | true, some q => s.writeEntry q false (recordPhase b)
  | _, _ =>
    if s.mtr.hold.length < 65536 then s.modMtrHold (s.mtr.hold ++ [HeldRec.mk p seq b])
    else
      let armed := s.link.mtrLostArmed
      let s := { s with link := { s.link with mtrLost := satAdd s.link.mtrLost 1, mtrLostArmed := false } }
      if armed then s.postDev 0x0903 p.val seq.toNat else s

/-- The record belongs to the partition's present lifetime. -/
def State.sameLife (s : State) (p : Pid) (b : Bytes) : Bool :=
  (s.life p).st.holds && leAt b 36 4 = (s.sec.keygen[keyId p]).toNat && leAt b 40 8 = (s.prt p).meas.committedAt.toNat

/-- METER_RECORD_SIGNED (R471, R472, R475, R476): the oldest record formed is signed, and goes first to the operator and then to the
tenant. -/
def State.recordSigned (s : State) : State :=
  match s.mtr.forming with
  | [] => s
  | f :: rest =>
    let uns := f.unsigned || s.sec.rngFail
    let b := f.signed uns (Config.drbg 384 s.nfree)
    let s := if uns then s else s.took
    let s := { s with mtr := { s.mtr with
      forming := rest, unsigned := if uns && !f.unsigned then satAdd s.mtr.unsigned 1 else s.mtr.unsigned } }
    let s := s.recordOut f.pid f.seq b
    if s.sameLife f.pid b then s.tenantRecord f.pid b else s

/-- METER_RECORD_SIGNED. -/
def execMeterRecordSigned (s : State) : Host.Outcome State Fault Refusal := .next s.recordSigned

/-- MTR_IVL_WRITE (R473): the new interval governs the boundaries that lie after the write. -/
def execMtrIvlWrite (p : Pid) (v : W32) (s : State) : Host.Outcome State Fault Refusal :=
  .next (if s.pfServes 0x60040 then
    (s.intervalBoundary p).modMtr p fun m => { m with ivl := BitVec.ofNat 6 v.toNat, mark := max m.mark s.pwr.time.toNat }
  else s)

/-- Meters at COMMIT: zero but for the interval, which is the operator's (R464, R469). -/
def Meters.commit (m : Meters) (now : W64) : Meters := { Meters.reset with ivl := m.ivl, tStart := now, mark := now.toNat }

/-! ### Latches (R480) -/

/-- METER_LATCH_READ: the low word of meter 0 returns its low half and latches all eight meters for the reading function. -/
def State.meterLatch (s : State) (fn : Fn) (p : Pid) : State :=
  let v := (s.prt p).mtr.values
  let low : W32 := (v[0]).truncate 32
  match fn with
  | .pf => if s.pfServes 0x60100 then
      (s.modMtr p fun m => { m with latchPf := some v }).emit (.regValue .pf (0x60100 + 0x40 * p.val) low)
    else s
  | .vf q => if q = p && s.vfFull p then
      (s.modMtr p fun m => { m with latchVf := some v }).emit (.regValue fn 0x60000 low)
    else s

/-- METER_LATCH_READ. -/
def execMeterLatchRead (fn : Fn) (p : Pid) (s : State) : Host.Outcome State Fault Refusal := .next (s.meterLatch fn p)

end Sys2Proof.Machine
end

