-- ==== Sys2Proof/Machine/Checksums.lean ====
section
/-! DEFINITION. Machine/Checksums.lean: CRC-32C and the Internet checksum (R218, R338, R339). -/

namespace Sys2Proof.Machine

/-- One bit of CRC-32C: reflected polynomial 0x82F63B78. -/
def crcBit (c : W32) : W32 := if c.getLsbD 0 then (c >>> 1) ^^^ 0x82F63B78 else c >>> 1

/-- One byte of CRC-32C. -/
def crcByte (c : W32) (b : Byte) : W32 := Nat.repeat crcBit 8 (c ^^^ b.zeroExtend 32)

/-- The CRC state after bytes. -/
def crcBytes (c : W32) (b : Bytes) : W32 := b.foldl crcByte c

/-- CRC-32C: initial value and final XOR of all ones. -/
def crc32c (b : Bytes) : W32 := crcBytes 0xFFFFFFFF b ^^^ 0xFFFFFFFF

/-- The 16-bit sums of RFC 1071 fold their carries. -/
def fold16 (n : Nat) : Nat := let m := n % 65536 + n / 65536; m % 65536 + m / 65536

/-- The one's complement sum after a byte; `odd`: the byte is the second of its 16-bit big-endian word. -/
def sumByte (x : Nat × Bool) (b : Byte) : Nat × Bool :=
  (fold16 (x.1 + if x.2 then b.toNat else 256 * b.toNat), !x.2)

/-- The running sum after bytes. -/
def sumBytes (x : Nat × Bool) (b : Bytes) : Nat × Bool := b.foldl sumByte x

end Sys2Proof.Machine
end

