-- ==== Sys2Proof/Machine/Steward.lean ====
section
/-! DEFINITION. Machine/Steward.lean: where steward tiles go: rooms, victims, the demotion lattice, and the tasks of the Scarab
(R223 to R240). -/

namespace Sys2Proof.Machine

/-! ### Instances -/

/-- Chapter 8: an instance is live in every state but CLOSED and FAILED (R220). -/
def Inst.live (x : Inst) : Bool := x.st != .failed && x.st != .closed

/-- The ledger entry of an instance. -/
def Scarab.inst? (S : Scarab) (rec_ mb : Nat) : Option Inst := S.insts.find? (·.is rec_ mb)

/-- A record of the loaded plan. -/
def Scarab.rec? (S : Scarab) (r : Nat) : Option PlanRec :=
  match S.plan with
  | some P => P.recs[r]?
  | none => none

/-- TNT_SCB_LIVE (R220). -/
def Scarab.liveTiles (S : Scarab) : Nat :=
  (S.insts.map fun x => if x.live then ((S.rec? x.rec_).map (·.tiles)).getD 0 else 0).sum

/-- The tiles of an instance, with their places in it. -/
def Scarab.instTiles (S : Scarab) (rec_ mb : Nat) : List (TileNo × Nat) :=
  match S.range rec_ mb with
  | some (b, n) => (List.range n).map fun i => (b + i, i)
  | none => []

/-- The partition's steward is at rest (R240). -/
def State.scbPaused (s : State) (p : Pid) : Bool := (s.life p).st = .suspended || (s.life p).st = .retained

/-! ### Places (R223, R227, R233) -/

/-- A place that a steward placement asks for. -/
inductive Spot where
  | core (c : Core)
  | staging | stacked | board
  deriving DecidableEq, Repr

/-- A home lies in a place; of stacked DRAM, in the floor, where R227 looks for victims. -/
def Spot.holds (d : Spot) (h : Home) : Bool :=
  match d with
  | .core c => h = .tileMem c
  | .staging => h.isStaging
  | .stacked => h.inFloor
  | .board => h.isBoard

/-- The staging slots a partition's tiles take, moves under way included. -/
def Memory.stagingUsed (m : Memory) : Nat :=
  (m.tiles.filter fun t => match t.st with
    | .moving x => t.home.isStaging || x.dst.isStaging
    | .dropped r => r && t.home.isStaging
    | _ => t.home.isStaging).length

/-- Where a tile goes in a place that has room for it (R189, R190, R195, R198). -/
def State.room (s : State) (p : Pid) (t : TileNo) (d : Spot) : Option Place :=
  let m := (s.prt p).mem
  match d with
  | .core c => if m.slotsOn c < 128 then some ⟨some (.tileMem c), none⟩ else none
  | .staging => if m.stagingUsed < (s.tier.stgQuota[p]).toNat then some ⟨some .staging, none⟩ else none
  | .stacked =>
    let pl := s.placeStacked p t true none
    match pl.home with
    | some h => if h.inStacked then some pl else none
    | none => none
  | .board => if s.boardRoom then some ⟨some .board, none⟩ else none

/-- The production place of tile `i` of a record (R223). -/
def State.produceSpot (s : State) (p : Pid) (r : PlanRec) (i : Nat) : Spot :=
  if r.khome then .staging
  else match s.planCore p r.pcore i with
    | some c => .core c
    | none => .stacked

/-- The fetch-back destination of tile `i` of a record (R231). -/
def State.fetchSpot (s : State) (p : Pid) (r : PlanRec) (i : Nat) : Spot :=
  match r.fdest.toNat with
  | 1 => match s.planCore p r.fcore i with
    | some c => .core c
    | none => .stacked
  | 2 => .staging
  | _ => .stacked

/-- R233: the places tried after the destination, in order. -/
def State.fallbacks (s : State) (p : Pid) (r : PlanRec) (i : Nat) : List Spot :=
  (match s.planCore p r.fcore i with
    | some c => [.core c]
    | none => []) ++ [.staging, .stacked, .board]

/-! ### Demotion (R225 to R228, Table 8-8) -/

/-- Table 8-8: the next step of the lattice. -/
def nextDisp (r : PlanRec) : Disp → Option Disp
  | .keep => some .stack
  | .stack => some (if r.rcOk then .recompute else .squeeze)
  | .squeeze => some .spill
  | .spill => none
  | .recompute => none

/-- R225: SQUEEZE moves issued on the sled and not yet ended. -/
def State.squeezing (s : State) : Nat :=
  ((List.finRange 16).map fun p =>
    let P := s.prt p
    (P.mem.tiles.filter fun t => match t.st with
      | .moving m => m.dst.isBoard && match m.cause with
        | .scarab r b => match P.scb.inst? r b with
          | some x => x.disp = .squeeze && (x.st != .fetching || P.scb.fetchPending t.num)
          | none => false
        | _ => false
      | _ => false).length).sum

/-- The backlog has reached SCB_SQ_BACKLOG (Table 8-8; 0 acts as 1). -/
def State.squeezeFull (s : State) : Bool := max 1 s.sqBacklog.toNat ≤ s.squeezing

/-- A tile of a steward instance other than this one is on its way out of a place. -/
def State.vacating (s : State) (p : Pid) (rec_ mb : Nat) (d : Spot) : Bool :=
  let P := s.prt p
  P.mem.tiles.any fun t => d.holds t.home && match P.scb.instOf t.num with
    | some (y, _, _) => !y.is rec_ mb && match t.st with
      | .moving m => !d.holds m.dst
      | _ => P.scb.tasks.any fun k => k.kind = .dispose && k.tile = t.num
    | none => false

/-- R227: `y` is a victim before `z`: the later pos_need, then the higher record and micro-batch. -/
def Scarab.before (S : Scarab) (y z : Inst) : Bool :=
  if S.posNeed y != S.posNeed z then S.posNeed z < S.posNeed y
  else if y.rec_ != z.rec_ then z.rec_ < y.rec_
  else z.mb < y.mb

/-- The first of a list in an order. -/
def firstBy {α : Type} (lt : α → α → Bool) : List α → Option α
  | [] => none
  | x :: r => some (r.foldl (fun b y => if lt y b then y else b) x)

/-- The instances with a tile in a place. -/
def State.instsIn (s : State) (p : Pid) (d : Spot) : List Inst :=
  let P := s.prt p
  P.scb.insts.filter fun y => (P.scb.instTiles y.rec_ y.mb).any fun t => match P.mem.tile? t.1 with
    | some k => !k.isDropped && d.holds k.home
    | none => false

/-- R227: the victim of a placement of instance `x` in a place, where one must yield to it. -/
def State.victimInst (s : State) (p : Pid) (x : Inst) (d : Spot) : Option Inst :=
  let P := s.prt p
  let ok (y : Inst) : Bool :=
    !y.is x.rec_ x.mb && (y.st = .open_ || y.st = .placed) && !y.closing
      && !P.mem.anyMoving ((P.scb.instTiles y.rec_ y.mb).map (·.1))
      && ((P.scb.rec? y.rec_).bind fun r => nextDisp r y.disp).isSome
  match firstBy P.scb.before ((s.instsIn p d).filter ok) with
  | some y => if P.scb.posNeed x < P.scb.posNeed y then some y else none
  | none => none

/-- R226, R228: an instance takes one step down the lattice. -/
def State.stepDown (s : State) (p : Pid) (x : Inst) : State :=
  match (s.prt p).scb.rec? x.rec_ with
  | some r => match nextDisp r x.disp with
    | some d => (s.modInst p x.rec_ x.mb fun y => { y with disp := d }).countDemotion p
    | none => s
  | none => s

/-- Add a task. -/
def State.addTask (s : State) (p : Pid) (k : Task) : State := s.modScb p fun S => { S with tasks := S.tasks ++ [k] }

/-- Tasks that move the tiles of an instance that lie in a place to the home of its disposition. -/
def State.disposeIn (s : State) (p : Pid) (x : Inst) (d : Home → Bool) (due : Nat) : State :=
  ((s.prt p).scb.instTiles x.rec_ x.mb).foldl (fun s t =>
    match s.tile? p t.1 with
    | some k =>
      if k.isDropped || !d k.home || (s.prt p).scb.tasks.any fun j => j.kind = .dispose && j.tile = t.1 then s
      else s.addTask p ⟨.dispose, x.rec_, x.mb, t.1, due⟩
    | none => s) s

/-- R227, R592: an instance is demoted by one step, and its tiles in the place leave it. -/
def State.demote (s : State) (p : Pid) (x : Inst) (d : Spot) : State :=
  (s.stepDown p x).disposeIn p x d.holds s.pwr.time.toNat

/-- R592: a steward instance in the tile memory of a core yields to a pin; which yields first is the order of R227 (log entry 21). -/
def State.yieldTo (s : State) (p : Pid) (c : Core) : State :=
  let live := (s.instsIn p (.core c)).filter fun x => x.live && !x.closing
  match firstBy (s.prt p).scb.before live with
  | some x => s.demote p x (.core c)
  | none => s

/-! ### Tasks (R233, R237, R239) -/

/-- How a task fares: its move has been chosen, it has changed something and waits, or it waits. -/
inductive Issue where
  | done (s : State)
  | changed (s : State)
  | waits

/-- R224, R185: a RECOMPUTE instance's RESIDENT tiles become DROPPED; the others keep their state (log entry 20). -/
def State.dropTile (s : State) (p : Pid) (t : TileNo) : State :=
  match s.tile? p t with
  | some x =>
    if x.st = .resident then
      (s.modMem p fun m => { m with bytes := clearBytes m.bytes (t * tileBytes) ((t + 1) * tileBytes) }).modTile p t fun x =>
        { x with st := .dropped false, sectors := 0, raw := false, tag := none }
    else s
  | none => s

/-- Drop every tile of an instance. -/
def State.dropInst (s : State) (p : Pid) (x : Inst) : State :=
  ((s.prt p).scb.instTiles x.rec_ x.mb).foldl (fun s t => s.dropTile p t.1) s

/-- Where a tile of an instance with its present disposition goes (R224, R225, R227); `n` steps of the lattice are left. An OPEN
instance that has come down to RECOMPUTE keeps its data until its disposition (log entry 21). -/
def State.disposeTile (s : State) (p : Pid) (rec_ mb : Nat) (t : TileNo) : Nat → Issue
  | 0 => .done s
  | n + 1 =>
    match (s.prt p).scb.inst? rec_ mb, (s.prt p).scb.rec? rec_ with
    | some x, some r =>
      let down (s : State) : Issue := (s.stepDown p x).disposeTile p rec_ mb t n
      let board : Issue := match s.room p t .board with
        | some pl => .done (s.moveTo p t pl (.scarab rec_ mb))
        | none => .done s
      match x.disp with
      | .keep => .done s
      | .stack =>
        match s.room p t .stacked with
        | some pl => .done (s.moveTo p t pl (.scarab rec_ mb))
        | none =>
          if s.vacating p rec_ mb .stacked then .waits
          else match s.victimInst p x .stacked with
            | some y => .changed (s.demote p y .stacked)
            | none => if (nextDisp r x.disp).isSome then down s else board
      | .squeeze => if s.squeezeFull then down s else board
      | .spill => board
      | .recompute => if x.st = .placed then .done (s.dropInst p x) else board
    | _, _ => .done s

/-- Where a tile goes at its fetch-back (R227, R233). -/
def State.fetchTile (s : State) (p : Pid) (rec_ mb : Nat) (t : TileNo) : Issue :=
  match (s.prt p).scb.instOf t with
  | none => .done s
  | some (x, r, i) =>
    let go (pl : Place) : Issue := .done (s.moveTo p t pl (.scarab rec_ mb))
    match s.room p t (s.fetchSpot p r i) with
    | some pl => go pl
    | none =>
      if s.vacating p rec_ mb (s.fetchSpot p r i) then .waits
      else match s.victimInst p x (s.fetchSpot p r i) with
        | some y => .changed (s.demote p y (s.fetchSpot p r i))
        | none => match (s.fallbacks p r i).findSome? fun d => s.room p t d with
          | some pl => go pl
          | none => .done s

/-- A tile of an OPEN instance takes its production home once that has room (R223; log entry 22). -/
def State.produceTile (s : State) (p : Pid) (rec_ mb : Nat) (t : TileNo) : Issue :=
  match (s.prt p).scb.instOf t with
  | none => .done s
  | some (x, r, i) =>
    if x.st != .open_ then .done s
    else match s.room p t (s.produceSpot p r i) with
      | some pl => .done (s.moveTo p t pl (.scarab rec_ mb))
      | none => if s.vacating p rec_ mb (s.produceSpot p r i) then .waits else .done s

/-- Table 8-7: a FETCHING instance whose last tile is at its destination is READY. -/
def State.checkReady (s : State) (p : Pid) (rec_ mb : Nat) : State :=
  let P := s.prt p
  match P.scb.inst? rec_ mb with
  | some x =>
    let open_ := P.scb.tasks.any fun k => (k.kind = .fetch || k.kind = .inject) && k.rec_ = rec_ && k.mb = mb
    let busy := (P.scb.instTiles rec_ mb).any fun t => match P.mem.tile? t.1 with
      | some k => k.isMoving || k.isDropped
      | none => false
    if x.st = .fetching && !open_ && !busy && !P.scb.injected.any fun j => j.rec_ = rec_ && j.mb = mb then
      s.modInst p rec_ mb fun y => { y with st := .ready }
    else s
  | none => s

/-- R237: the homes of a RECOMPUTE instance's DROPPED tiles are reserved: its destination, else the first place with room. -/
def State.reserveTiles (s : State) (p : Pid) (rec_ mb : Nat) : State :=
  ((s.prt p).scb.instTiles rec_ mb).foldl (fun s t =>
    match s.tile? p t.1, (s.prt p).scb.rec? rec_ with
    | some k, some r =>
      if !k.isDropped then s
      else match (s.fetchSpot p r t.2 :: s.fallbacks p r t.2).findSome? fun d => s.room p t.1 d with
        | some pl =>
          let s := match pl.evict with
            | some v => s.evict v
            | none => s
          match pl.home with
          | some h => s.modTile p t.1 fun k => { k with st := .dropped true, home := h }
          | none => s
        | none => s
    | _, _ => s) s

/-- Slots of the compute class that the partition's commands and injections hold (R127, R238). -/
def State.injectRoom (s : State) (p : Pid) : Bool :=
  (s.prt p).scb.injected.length < 4 && s.slotsUsed (.vf p) 1 < s.slots (.vf p) 1

/-- R237, R238: inject an instance's segment. -/
def State.injectInst (s : State) (p : Pid) (rec_ mb : Nat) : Issue :=
  if !s.injectRoom p then .waits
  else
    let was := (s.prt p).scb.recompCnt
    let s := (s.reserveTiles p rec_ mb).modScb p fun S =>
      { S with injected := S.injected ++ [⟨rec_, mb⟩], recompCnt := S.recompCnt + 1 }
    .done (if was = onesOf 32 then s.perfWrap (.vf p) 4 else s)

/-- Moves of the Scarab under way for a partition: move slots in use (R239). -/
def State.scbMoves (s : State) (p : Pid) : Nat :=
  ((s.prt p).mem.tiles.filter fun t => match t.st with
    | .moving m => match m.cause with
      | .scarab _ _ => true
      | _ => false
    | _ => false).length

/-- The partition is committed and FENCED. -/
def State.fenced (s : State) (p : Pid) : Bool := (s.life p).st.holds && (s.life p).timingAct

/-- R239: a move slot is free for a partition: 4 of its own for a FENCED one, the rest shared. -/
def State.slotFree (s : State) (p : Pid) : Bool :=
  if s.fenced p then s.scbMoves p < 4
  else
    let shared := (List.finRange 16).filter (!s.fenced ·)
    (shared.map s.scbMoves).sum < 64 - 4 * (16 - shared.length)

/-- R239: the class of a task: fetch-backs of real-time partitions, other fetch-backs, dispositions and demotions. -/
def State.taskClass (s : State) (p : Pid) (k : Task) : Nat :=
  match k.kind with
  | .fetch | .inject => if (s.prt p).rt.en then 0 else 1
  | _ => 2

/-- R239: one task goes before another. -/
def State.taskBefore (s : State) (a b : Pid × Nat × Task) : Bool :=
  let ca := s.taskClass a.1 a.2.2
  let cb := s.taskClass b.1 b.2.2
  if ca != cb then ca < cb
  else if a.2.2.due != b.2.2.due then a.2.2.due < b.2.2.due
  else if a.1 != b.1 then a.1.val < b.1.val
  else a.2.1 < b.2.1

/-- Insert in an order. -/
def insertBy {α : Type} (lt : α → α → Bool) (x : α) : List α → List α
  | [] => [x]
  | y :: r => if lt x y then x :: y :: r else y :: insertBy lt x r

/-- The tasks of the sled, in the order of R239. -/
def State.taskOrder (s : State) : List (Pid × Nat × Task) :=
  let all := (List.finRange 16).flatMap fun p => ((s.prt p).scb.tasks.mapIdx fun i k => (p, i, k))
  all.foldr (insertBy s.taskBefore) []

/-- Try one task: a MOVING tile is not chosen (R188), and a move needs a slot. -/
def State.tryTask (s : State) (p : Pid) (k : Task) : Issue :=
  if s.scbPaused p then .waits
  else if k.kind = .inject then s.injectInst p k.rec_ k.mb
  else if !s.slotFree p || (s.prt p).mem.anyMoving [k.tile] then .waits
  else match k.kind with
    | .fetch => s.fetchTile p k.rec_ k.mb k.tile
    | .dispose => s.disposeTile p k.rec_ k.mb k.tile 4
    | _ => s.produceTile p k.rec_ k.mb k.tile

/-- Take a task off the list. -/
def State.dropTask (s : State) (p : Pid) (i : Nat) : State := s.modScb p fun S => { S with tasks := S.tasks.eraseIdx i }

/-- The lossy mark of a tile that has reached its destination goes: it has been expanded (R230). -/
def State.expand (s : State) (p : Pid) (t : TileNo) : State := s.modScb p fun S => { S with lossy := S.lossy.filter (·.tile != t) }

/-- A task has been issued; a fetch-back that moved nothing has arrived. -/
def State.taskIssued (s : State) (p : Pid) (k : Task) : State :=
  if k.kind = .fetch then
    (if (s.prt p).mem.anyMoving [k.tile] then s else s.expand p k.tile).checkReady p k.rec_ k.mb
  else s

/-- The first task of a list that can be issued, or changes something. -/
def State.issueFirst (s : State) : List (Pid × Nat × Task) → State
  | [] => s
  | (p, i, k) :: r =>
    match (s.dropTask p i).tryTask p k with
    | .done s' => s'.taskIssued p k
    | .changed s' => s'.modScb p fun S => { S with tasks := S.tasks ++ [k] }
    | .waits => s.issueFirst r

end Sys2Proof.Machine
end

