-- ==== Sys2Proof/Machine/Scarab.lean ====
section
/-! DEFINITION. Machine/Scarab.lean: plans, runs, markers, fetch-back and recompute (chapter 8). -/

namespace Sys2Proof.Machine

/-! ### The plan image (R218, R219) -/

/-- Table 8-3: the record at an offset. -/
def planRecAt (b : Bytes) (o : Nat) : PlanRec :=
  let b7 := leAt b (o + 7) 1
  { tileOff := leAt b o 4, tiles := leAt b (o + 4) 2, fmt := BitVec.ofNat 4 (leAt b (o + 6) 1),
    disp := match b7 % 8 with
      | 0 => .keep | 1 => .stack | 2 => .squeeze | 3 => .spill | _ => .recompute,
    sqLossy := bitOf b7 3, rcOk := bitOf b7 4, khome := bitOf b7 5, prod := leAt b (o + 8) 2, lastFwd := leAt b (o + 10) 2,
    need := leAt b (o + 12) 2, leadUs := leAt b (o + 14) 2, pcore := BitVec.ofNat 8 (leAt b (o + 16) 1),
    fcore := BitVec.ofNat 8 (leAt b (o + 17) 1), fdest := BitVec.ofNat 2 (leAt b (o + 18) 1),
    seg := BitVec.ofNat 16 (leAt b (o + 20) 2) }

/-- Table 8-6, 0x33: a record's fields and reserved bits are in range. -/
def planRecOk (b : Bytes) (o nseg stride : Nat) : Bool :=
  let r := planRecAt b o
  let b7 := leAt b (o + 7) 1
  let seg := r.seg.toNat < nseg
  r.tiles != 0 && r.tileOff + r.tiles ≤ stride && leAt b (o + 6) 1 < 16 && fmtOk r.fmt.toNat && b7 % 8 ≤ 4 && b7 / 64 = 0
    && leAt b (o + 18) 1 < 4 && leAt b (o + 19) 1 = 0 && zeroIn b (o + 22) (o + 32) && (seg || r.seg = 0xFFFF)
    && (!r.sqLossy || r.fmt.toNat ≤ 2) && (!(r.disp = .recompute || r.rcOk) || seg)
    && !(r.fdest = 0 && (r.disp = .recompute || r.sqLossy || r.rcOk))

/-- Table 8-4: the marker at an offset, unless its reserved bits are not 0 or its micro-batch is out of range. -/
def markerAt (b : Bytes) (o nmb : Nat) : Option Marker :=
  let w := leAt b o 4
  if bitOf w 30 || bitsOf w 16 8 != 0 || nmb ≤ bitsOf w 24 6 then none
  else some ⟨bitOf w 31, bitsOf w 24 6, bitsOf w 0 16⟩

/-- Two regions [a, b) and [c, d) of the image overlap. -/
def regionsMeet (x y : Nat × Nat) : Bool := x.1 < x.2 && y.1 < y.2 && x.1 < y.2 && y.1 < x.2

/-- No two regions of a list overlap. -/
def disjoint : List (Nat × Nat) → Bool
  | [] => true
  | x :: r => !r.any (regionsMeet x) && disjoint r

/-- Table 8-5: a segment's list and relocation regions, and its number of relocations. -/
def segAt (b : Bytes) (o : Nat) : Nat × Nat × Nat × Nat := (leAt b o 4, leAt b (o + 4) 4, leAt b (o + 8) 4, leAt b (o + 12) 4)

/-- Table 8-6, 0x35: a segment's list passes R105 and R134 with the operations a segment may hold, and its relocations lie in it. -/
def segmentAt (b : Bytes) (o : Nat) : Option Segment :=
  let (lo, ll, ro, nr) := segAt b o
  let l := (b.drop lo).take ll
  let rels := (List.range nr).map fun j => leAt b (ro + 4 * j) 4
  match parseList lo ll l with
  | .error _ => none
  | .ok ops =>
    if ops.all (fun p => (1 ≤ p.lop.toNat && p.lop.toNat ≤ 4 || p.lop = 0x80) && (p.check (.vf 0) 1).isNone)
      && rels.all fun v => v < 2 ^ 24 && v % 4 = 0 && v + 4 ≤ ll then some ⟨l, rels⟩
    else none

/-- The positions of a record for a micro-batch: pos_prod, pos_disp, pos_need; the number of markers where one is absent. -/
def Plan.positions (P : Plan) (r : PlanRec) (mb : Nat) : Nat × Nat × Nat :=
  (P.posOf false mb r.prod, P.posOf false mb r.lastFwd + 1, P.posOf true mb r.need)

/-- Table 8-6, 0x34: every record's positions exist and stand in order. -/
def Plan.ordered (P : Plan) : Bool :=
  P.recs.all fun r => (List.range P.nmb).all fun mb =>
    let (a, d, n) := P.positions r mb
    a < d && d - 1 < n && n < P.marks.length

/-- No two elements of a list are equal. -/
def distinct {α : Type} [BEq α] : List α → Bool
  | [] => true
  | x :: r => !r.contains x && distinct r

/-- R219: the checks of Table 8-6 on the bytes of an image, 0x31 to 0x35. -/
def parsePlan (b : Bytes) : Except W32 Plan :=
  let nmb := leAt b 6 1
  let nrec := leAt b 8 4
  let nseg := leAt b 12 4
  let nmark := leAt b 16 4
  let stride := leAt b 20 4
  let base := leAt b 24 8
  let peak := leAt b 32 4
  let est := leAt b 36 4
  let ro := leAt b 40 4
  let mo := leAt b 44 4
  let so := leAt b 48 4
  let crc := crc32c (b.take 56 ++ [0, 0, 0, 0] ++ b.drop 60)
  if leAt b 0 4 != 0x50424353 || leAt b 4 2 != 1 || crc.toNat != leAt b 56 4 || leAt b 7 1 != 0 || !zeroIn b 60 128
    || base / 2 ^ 48 != 0 then .error 0x31
  else if nmb = 0 || 64 < nmb || nrec = 0 || 65536 < nrec || 65536 < nrec * nmb || 4096 < nseg || nmark < 2 || 65536 < nmark
    || stride = 0 || 16777216 < stride || peak = 0 || 16777216 < peak || est < 1000 || 1000000000 < est || ro % 64 != 0
    || mo % 64 != 0 || so % 64 != 0 || (nseg = 0 && so != 0) then .error 0x32
  else
    let core := [(0, 128), (ro, ro + 32 * nrec), (mo, mo + 4 * nmark)]
    let segs := (List.range nseg).map fun i => segAt b (so + 16 * i)
    let parts := segs.flatMap fun x => [(x.1, x.1 + x.2.1), (x.2.2.1, x.2.2.1 + 4 * x.2.2.2)]
    let fits (x : Nat × Nat) : Bool := x.2 ≤ b.length
    if !(core ++ [(so, so + 16 * nseg)]).all fits || !disjoint (core ++ [(so, so + 16 * nseg)])
      || segs.any (fun x => x.1 % 64 != 0 || x.2.2.1 % 4 != 0 || 4096 < x.2.2.2) || !parts.all fits
      || parts.any (fun x => core.any (regionsMeet x)) then .error 0x32
    else if !(List.range nrec).all fun i => planRecOk b (ro + 32 * i) nseg stride then .error 0x33
    else
      let marks := (List.range nmark).map fun i => markerAt b (mo + 4 * i) nmb
      let P : Plan :=
        { nmb := nmb, mbStride := stride, base := tileOf base, peak := peak, est := est,
          recs := (List.range nrec).map fun i => planRecAt b (ro + 32 * i), marks := marks.filterMap id, segs := [] }
      if marks.any (·.isNone) || !distinct P.marks || !P.ordered then .error 0x34
      else
        let S := (List.range nseg).map fun i => segmentAt b (so + 16 * i)
        if S.any (·.isNone) then .error 0x35 else .ok { P with segs := S.filterMap id }

/-! ### PLAN_LOAD and PLAN_UNLOAD (R212 to R214, R219) -/

/-- The tiles of a partition's non-pinned tenant-defined objects: U (R49). -/
def Memory.used (m : Memory) : Nat := ((m.objs.filter fun o => !o.steward && o.hint != 1).map (·.tiles)).sum

/-- 16,384 F + 262,144 B (R49). -/
def State.budget (s : State) (p : Pid) : Nat :=
  tilesPerGib * (s.life p).floorAct.toNat + tilesPerBoard * (s.life p).boardAct.toNat

/-- PEAK_TILES of the loaded plan; 0 without one (R214). -/
def Scarab.peakTiles (S : Scarab) : Nat :=
  match S.plan with
  | some P => P.peak
  | none => 0

/-- A range of tiles overlaps an object. -/
def Memory.overlaps (m : Memory) (b n : Nat) : Bool := m.objs.any fun o => o.base < b + n && b < o.base + o.tiles

/-- R213: install a plan that has been checked. -/
def State.installPlan (s : State) (p : Pid) (P : Plan) : State :=
  let objs := (List.range P.nmb).map fun i =>
    ({ id := BitVec.ofNat 32 (0xFFFFFF00 + i), hint := 0, core := 0, base := P.base + i * P.mbStride, tiles := P.mbStride,
       steward := true, releasing := none } : Obj)
  (s.modMem p fun m => { m with objs := m.objs ++ objs }).modScb p fun S =>
    { S with plan := some P, interval := P.est, insts := [], tasks := [], lossy := [] }

/-- PLAN_LOAD. Reserved operand bytes and an image shorter than its header give 0x30, an unaligned STEW_BASE 0x36 (log entry 23). -/
def State.planLoad (s : State) (c : CmdRef) (p : Pid) (k : Cmd) : State :=
  let m := (s.prt p).mem
  let ta := leAt k.operands 0 8
  let n := leAt k.operands 8 4
  let ts := tilesOf ta n
  let inside := match m.objOf (tileOf ta) with
    | some o => !o.steward && o.releasing.isNone && tileOf (ta + n - 1) < o.base + o.tiles
    | none => false
  if ta % 64 != 0 || 2 ^ 24 < n || n < 128 || !zeroIn k.operands 12 48 || 2 ^ 48 < ta + n || !inside then s.refuse c 0x30
  else match s.deny c p ts with
  | some (st, d) => s.finish c st d
  | none =>
    if s.blocked p ts none then s.noteBlocked c p ts none
    else
      let b := s.load p ta n
      let s := (s.loaded p ta n).noteServed c
      if leAt b 52 4 != n then s.refuse c 0x30
      else match parsePlan b with
      | .error d => s.refuse c d
      | .ok P =>
        let all := P.nmb * P.mbStride
        if leAt b 24 8 % tileBytes != 0 || P.base = 0 || 2 ^ 32 < P.base + all || m.overlaps P.base all then s.refuse c 0x36
        else if (s.prt p).scb.plan.isSome then s.refuse c 0x37
        else if s.budget p < m.used + P.peak then s.finish c .quotaExceeded 0x20
        else if 32768 < m.objs.length + P.nmb then s.finish c .quotaExceeded 0x21
        else (s.installPlan p P).finish c .ok 0

/-- PLAN_LOAD. -/
def execPlanLoad (c : CmdRef) (s : State) : Host.Outcome State Fault Refusal :=
  .next (match s.inline_ c 4 1, c.ring with
    | some k, .vf p _ => s.planLoad c p k
    | _, _ => s)

/-- Every instance has closed. -/
def Scarab.allClosed (S : Scarab) : Bool := S.insts.isEmpty

/-- The plan, the steward objects and the ledger go (R213, R221). -/
def State.dropPlan (s : State) (p : Pid) : State :=
  (s.modMem p fun m => { m with objs := m.objs.filter (!·.steward) }).modScb p fun S =>
    { S with plan := none, runOpen := false, insts := [], tasks := [], lossy := [] }

/-- A PLAN_UNLOAD or RUN_END that waits for its instances to close completes (R221). -/
def State.closesDone (s : State) (p : Pid) : State :=
  if !(s.prt p).scb.allClosed then s
  else
    (ringsOf (.vf p)).foldl (fun s r =>
      ((s.ring r).cmds.filter fun k => k.stage = .running && k.hdr.engine = 4 && (k.hdr.opc = 2 || k.hdr.opc = 5)).foldl
        (fun s k => (if k.hdr.opc = 2 then s.dropPlan p else s).finish ⟨r, k.seq⟩ .ok 0) s) s

/-- PLAN_UNLOAD; without a loaded plan it completes OK (log entry 23). -/
def execPlanUnload (c : CmdRef) (s : State) : Host.Outcome State Fault Refusal :=
  .next (match s.inline_ c 4 2, c.ring with
    | some k, .vf p _ =>
      if !zeroIn k.operands 0 48 then s.refuse c 0x38
      else if (s.prt p).scb.plan.isNone then s.finish c .ok 0
      else ((s.closeRun p).modCmd c fun k => { k with stage := .running }).closesDone p
    | _, _ => s)

/-! ### Runs and markers (R216, R222, R232) -/

/-- RUN_BEGIN (R216); it waits for instances of an earlier run that are still closing. -/
def execRunBegin (c : CmdRef) (s : State) : Host.Outcome State Fault Refusal :=
  .next (match s.inline_ c 4 3, c.ring with
    | some k, .vf p _ =>
      let S := (s.prt p).scb
      if !zeroIn k.operands 0 48 || S.plan.isNone || S.runOpen then s.refuse c 0x38
      else if !S.allClosed then s
      else
        (s.modScb p fun S =>
          { S with runOpen := true, runEpoch := k.hdr.epoch, marked := false, lateFirst := false }).finish c .ok 0
    | _, _ => s)

/-- R232: the interval estimate after a MARK at device time `t`. -/
def Scarab.timed (S : Scarab) (pos t : Nat) : Scarab :=
  if pos = 0 then { S with tLast := t, pLast := 0 }
  else { S with interval := (7 * S.interval + (t - S.tLast)) / 8, tLast := t, pLast := pos }

/-- R232: due(x) ≤ t, in a form without negative numbers. -/
def Scarab.dueBy (S : Scarab) (x : Inst) (t : Nat) : Bool :=
  match S.rec? x.rec_ with
  | some r => S.tLast + (S.posNeed x - S.pLast) * S.interval ≤ t + r.leadUs * 1000
  | none => false

/-- R232: an evaluation: PLACED instances fall due. -/
def State.evaluate (s : State) (p : Pid) : State :=
  let t := s.pwr.time.toNat
  let S := (s.prt p).scb
  if !S.runOpen || !S.marked || s.scbPaused p then s
  else s.modScb p fun S =>
    { S with insts := S.insts.map fun x =>
        if x.st = .placed && x.due.isNone && S.dueBy x t then { x with due := some t } else x }

/-- The instances of a plan in ascending record, then micro-batch, that `f` selects by their positions. -/
def Plan.pick (P : Plan) (f : Nat × Nat × Nat → Bool) : List (Nat × Nat) :=
  (List.range P.recs.length).flatMap fun r => (List.range P.nmb).filterMap fun mb =>
    match P.recs[r]? with
    | some x => if f (P.positions x mb) then some (r, mb) else none
    | none => none

/-- A new tile of a steward instance: ZERO at its home. -/
def newTile (t : TileNo) (h : Home) (now : Nat) : Tile :=
  { num := t, home := h, st := .zero, age := 0, boardAt := now, sectors := 0, raw := false, tag := none, bound := false,
    clearAfter := false, closing := false }

/-- Create a tile where a placement puts it; one that finds no space anywhere is not created. -/
def State.createTile (s : State) (p : Pid) (t : TileNo) (pl : Place) : State :=
  let s := match pl.evict with
    | some v => s.evict v
    | none => s
  match pl.home with
  | some h => s.modMem p fun m => { m with tiles := m.tiles ++ [newTile t h s.pwr.clk] }
  | none => s

/-- R223: create tile `i` of an instance that opens. While a victim leaves the production home the tile stands at the STACK home or in
the board tier, and follows once there is room (log entry 22). -/
def State.openTile (s : State) (p : Pid) (x : Inst) (r : PlanRec) (t : TileNo) (i : Nat) : State :=
  let d := s.produceSpot p r i
  let else_ (s : State) : State := match s.room p t .stacked with
    | some pl => s.createTile p t pl
    | none => s.createTile p t ⟨some .board, none⟩
  match s.room p t d with
  | some pl => s.createTile p t pl
  | none =>
    let later : Task := ⟨.toProduce, x.rec_, x.mb, t, s.pwr.time.toNat⟩
    if s.vacating p x.rec_ x.mb d then (else_ s).addTask p later
    else match s.victimInst p x d with
      | some y => (else_ (s.demote p y d)).addTask p later
      | none => else_ s

/-- Table 8-7: an instance opens, or fails at the limit of PEAK_TILES. The answer says whether it opened. -/
def State.openInst (s : State) (p : Pid) (rec_ mb : Nat) : State × Bool :=
  let S := (s.prt p).scb
  match S.rec? rec_, S.plan with
  | some r, some P =>
    let x : Inst :=
      { rec_ := rec_, mb := mb, st := .open_, disp := r.disp, lossless := false, late := false, due := none, closing := false }
    if P.peak < S.liveTiles + r.tiles then
      ((s.modScb p fun S => { S with insts := S.insts ++ [{ x with st := .failed }] }).postPart p 0x0203 x.arg0
        (2 ^ 32 * S.runEpoch.toNat), false)
    else
      let s := s.modScb p fun S => { S with insts := S.insts ++ [x] }
      ((List.range r.tiles).foldl (fun s i => s.openTile p x r (P.instBase r mb + i) i) s, true)
  | _, _ => (s, true)

/-- R224: the disposition of an OPEN instance is issued. -/
def State.placeInst (s : State) (p : Pid) (rec_ mb : Nat) : State :=
  match (s.prt p).scb.inst? rec_ mb with
  | some x =>
    if x.st != .open_ || x.closing then s
    else
      let s := s.modScb p fun S =>
        { S with tasks := S.tasks.filter fun k => !(k.rec_ = rec_ && k.mb = mb),
                 insts := S.insts.map fun y => if y.is rec_ mb then { y with st := .placed } else y }
      match x.disp with
      | .keep => s
      | .recompute => s.dropInst p x
      | _ => s.disposeIn p x (fun _ => true) s.pwr.time.toNat
  | none => s

/-- R222: the effects of a MARK, in their order; whether every instance opened. -/
def State.markEffects (s : State) (p : Pid) (P : Plan) (pos : Nat) : State × Bool :=
  let s := s.modScb p fun S => { S.timed pos s.pwr.time.toNat with pos := pos, marked := true }
  let closes := P.pick fun x => x.2.2 + 1 = pos
  let s := s.closeInsts p fun x => closes.any fun y => x.is y.1 y.2
  let s := (P.pick fun x => x.2.1 = pos).foldl (fun s y => s.placeInst p y.1 y.2) s
  let (s, ok) := (P.pick fun x => x.1 = pos).foldl (fun (a : State × Bool) y =>
    let (s, ok) := a.1.openInst p y.1 y.2
    (s, a.2 && ok)) (s, true)
  let lates := (s.prt p).scb.insts.filter fun x =>
    (s.prt p).scb.posNeed x = pos && x.live && x.st != .ready && !x.closing
  ((lates.foldl (fun s x => s.countLate p x) s).evaluate p, ok)

/-- MARK (R222). -/
def execMark (c : CmdRef) (s : State) : Host.Outcome State Fault Refusal :=
  .next (match s.inline_ c 4 4, c.ring with
    | some k, .vf p _ =>
      let S := (s.prt p).scb
      let pos := leAt k.operands 0 4
      match S.plan with
      | none => s.refuse c 0x38
      | some P =>
        if !zeroIn k.operands 4 48 || !S.runOpen || S.runEpoch != k.hdr.epoch || pos != (if S.marked then S.pos + 1 else 0)
          || P.marks.length ≤ pos then s.refuse c 0x38
        else
          let (s, ok) := s.markEffects p P pos
          if ok then s.finish c .ok 0 else s.finish c .quotaExceeded 0x22
    | _, _ => s)

/-- RUN_END (R216, R221). -/
def execRunEnd (c : CmdRef) (s : State) : Host.Outcome State Fault Refusal :=
  .next (match s.inline_ c 4 5, c.ring with
    | some k, .vf p _ =>
      let S := (s.prt p).scb
      if !zeroIn k.operands 0 48 || !S.runOpen || S.runEpoch != k.hdr.epoch then s.refuse c 0x38
      else ((s.closeRun p).modCmd c fun k => { k with stage := .running }).closesDone p
    | _, _ => s)

/-- INSTANCE_CLOSE_COMPLETE (R221): the accesses accepted before a close have ended. -/
def execInstanceCloseComplete (p : Pid) (rec_ mb : Nat) (s : State) : Host.Outcome State Fault Refusal :=
  .next (match (s.prt p).scb.inst? rec_ mb with
    | some x => if x.closing then (s.closeEnd p rec_ mb).closesDone p else s
    | none => s)

/-! ### Fetch-back (R231 to R233) -/

/-- FETCHBACK_EVALUATE (R232): an evaluation, due every microsecond. -/
def execFetchbackEvaluate (p : Pid) (s : State) : Host.Outcome State Fault Refusal := .next (s.evaluate p)

/-- R232: `y` is fetched back before `z`. -/
def Scarab.fetchBefore (S : Scarab) (y z : Inst) : Bool :=
  if S.posNeed y != S.posNeed z then S.posNeed y < S.posNeed z
  else if y.rec_ != z.rec_ then y.rec_ < z.rec_
  else y.mb < z.mb

/-- TNT_SCB_FB_MAX as it acts. -/
def Scarab.fetchMax (S : Scarab) : Nat := max 1 (min 16 S.fbMax.toNat)

/-- The tile is to be fetched back: lossy, or not on its way to its destination. -/
def State.toFetch (s : State) (p : Pid) (r : PlanRec) (t : TileNo × Nat) : Bool :=
  match s.tile? p t.1 with
  | some k => !k.isDropped && ((s.prt p).scb.isLossy t.1 || !s.atDest p r t.2 (match k.st with
      | .moving m => m.dst
      | _ => k.home))
  | none => false

/-- FETCHBACK_ISSUE (R232, R233, R237): the first due instance enters FETCHING, with a task for each tile that is not at its destination
and the injection of a RECOMPUTE; an instance with nothing to fetch is READY. -/
def State.fetchIssue (s : State) (p : Pid) (rec_ mb : Nat) : State :=
  let S := (s.prt p).scb
  let due := S.insts.filter fun x => x.st = .placed && x.due.isSome && !x.closing
  match firstBy S.fetchBefore due, S.rec? rec_ with
  | some x, some r =>
    if !x.is rec_ mb || s.scbPaused p || S.fetchMax ≤ (S.insts.filter (·.st = .fetching)).length then s
    else
      let at_ := x.due.getD 0
      let fetch := (S.instTiles rec_ mb).filter (s.toFetch p r)
      let s := s.modScb p fun S => { S with tasks := S.tasks.filter fun k => !(k.rec_ = rec_ && k.mb = mb) }
      if r.fdest = 0 then s.modInst p rec_ mb fun y => { y with st := .ready }
      else
        let s := s.modInst p rec_ mb fun y => { y with st := .fetching }
        let s := fetch.foldl (fun s t => s.addTask p ⟨.fetch, rec_, mb, t.1, at_⟩) s
        let s := if x.disp = .recompute then s.addTask p ⟨.inject, rec_, mb, 0, at_⟩ else s
        s.checkReady p rec_ mb
  | _, _ => s

/-- FETCHBACK_ISSUE. -/
def execFetchbackIssue (p : Pid) (rec_ mb : Nat) (s : State) : Host.Outcome State Fault Refusal := .next (s.fetchIssue p rec_ mb)

/-- SCARAB_TASK_ISSUE (R239): the first task that can be issued. -/
def execScarabTaskIssue (s : State) : Host.Outcome State Fault Refusal :=
  .next (if s.boot.hostReady && s.sledUp then s.issueFirst s.taskOrder else s)

/-! ### Lossy squeeze (R229, R230) -/

/-- The elements of a tile. -/
def tileElems (b : Bytes) (fmt : Nat) : List Val :=
  (List.range (tileBytes / elemSize fmt)).map fun i => decodeElem fmt (leAt b (elemSize fmt * i) (elemSize fmt))

/-- R229: the element that comes back from a lossy squeeze with scale `e`. -/
def squeezed (fmt : Nat) (e : Int) (v : Val) : Nat :=
  encodeElem fmt true ((decodeElem 3 (encodeElem 3 true (v.scale (-e)))).scale e)

/-- A tile has been squeezed: its values are those that expansion gives back, since no access sees the FP8 form. A tile with a NaN or an
infinity is kept losslessly, and counted. -/
def State.squeezeTile (s : State) (p : Pid) (t : TileNo) (fmt : Nat) : State :=
  let a := t * tileBytes
  let vs := tileElems (s.load p a tileBytes) fmt
  if vs.any (!·.isFin) then
    let was := (s.prt p).scb.sqfbCnt
    let s := s.modScb p fun S => { S with sqfbCnt := S.sqfbCnt + 1 }
    if was = onesOf 32 then s.perfWrap (.vf p) 5 else s
  else
    let e := autoScale e4m3 vs
    let b := vs.flatMap fun v => leBytes (elemSize fmt) (squeezed fmt e v)
    let s := s.modMem p fun m => { m with bytes := writeBytes m.bytes a b }
    (s.modTile p t fun x => { x with sectors := min x.sectors (if elemSize fmt = 4 then 16 else 32) }).modScb p fun S =>
      { S with lossy := S.lossy.filter (·.tile != t) ++ [⟨t, BitVec.ofInt 8 e⟩] }

/-! ### Recompute (R237, R238) -/

/-- R237: the segment's list with its relocated fields. -/
def Segment.relocated (g : Segment) (add : Nat) : Bytes :=
  g.rels.foldl (fun b o => b.take o ++ leBytes 4 (leAt b o 4 + add) ++ b.drop (o + 4)) g.list

/-- The operations of an instance's segment. -/
def Scarab.segOps (S : Scarab) (rec_ mb : Nat) : Option (List ListOp) :=
  match S.plan, S.rec? rec_ with
  | some P, some r =>
    match P.segs[r.seg.toNat]? with
    | some g => (parseList 0 g.list.length (g.relocated (mb * P.mbStride))).toOption
    | none => none
  | _, _ => none

/-- A tile that an injected operation must wait for: as for any access (R187, R234, R242), but the segment's own outputs. -/
def State.injectBlocks (s : State) (p : Pid) (rec_ mb : Nat) (tag : Option Epoch) (t : TileNo) : Bool :=
  let own := match (s.prt p).scb.instOf t with
    | some (x, _, _) => x.is rec_ mb
    | none => false
  !s.canAccess p [t] || s.tagBlocks p [t] tag || (!own && s.stewWaits p t)

/-- The compute operations of a list, with their tiles; none where one fails its checks. -/
def State.segCompute (s : State) (p : Pid) (ops : List ListOp) : List (Except W32 ComputeOp) :=
  (ops.filter (·.lop != 0x80)).map (checkCompute (s.coresOf p).length)

/-- Run the operations one after another up to the first that fails (R128, R139, R165). -/
def State.runSegment (s : State) (p : Pid) (tag : Option Epoch) (dead : Bool) : List (Except W32 ComputeOp) → State × Status
  | [] => (s, .ok)
  | .error _ :: _ => (s, .malformed)
  | .ok C :: r =>
    match (s.prt p).mem.deny false C.tiles with
    | some (st, _) => (s, st)
    | none =>
      let bs := s.pairsRead p C.readTiles
      if bs.any fun b => (s.pair b).broken then (s, .fenceTimeout) else
      let s := s.runCompute p C tag dead
      let s := bs.foldl (fun s b => s.modPair b Pair.release) s
      (s.countProducer p C.out.tiles).runSegment p tag dead r

/-- The tiles that a segment left DROPPED become ZERO, or POISONED after an error. -/
def State.restDropped (s : State) (p : Pid) (rec_ mb : Nat) (bad : Bool) : State :=
  ((s.prt p).scb.instTiles rec_ mb).foldl (fun s t => s.modTile p t.1 fun k =>
    if k.isDropped then { k with st := if bad then .poisoned else .zero } else k) s

/-- INJECTED_SEGMENT_END (R238): the segment has run; `failed`: an access of it failed under R202. -/
def State.segmentEnd (s : State) (p : Pid) (rec_ mb : Nat) (failed : Bool) : State :=
  let S := (s.prt p).scb
  if !S.injected.any (fun j => j.rec_ = rec_ && j.mb = mb) || !s.fnRuns (.vf p) then s
  else
    let gone (s : State) : State := s.modScb p fun S => { S with injected := S.injected.filter fun j => !(j.rec_ = rec_ && j.mb = mb) }
    match S.inst? rec_ mb, S.segOps rec_ mb with
    | some x, some ops =>
      if x.closing || x.st != .fetching then (gone s).noteReady (.vf p)
      else
        let tag := s.aheadTag p true S.runEpoch
        let Cs := s.segCompute p ops
        let ts := Cs.flatMap fun C => match C with
          | .ok C => C.tiles
          | .error _ => []
        let reads := Cs.flatMap fun C => match C with
          | .ok C => C.readTiles
          | .error _ => []
        if ts.any (s.injectBlocks p rec_ mb tag) then
          (ts.filter (s.injectBlocks p rec_ mb tag)).foldl (fun s t => s.demandFetch p t) s
        else if (s.pairsRead p reads).any fun b => !(s.pair b).ready && !(s.pair b).broken then s
        else
          let (s, st) := if failed then (s, Status.tierError) else s.runSegment p tag false Cs
          let s := (gone s).restDropped p rec_ mb st.isError
          let s := if st.isError then
              s.postPart p 0x0202 (x.arg0 + 2 ^ 24 * st.code.toNat) (2 ^ 32 * S.runEpoch.toNat) else s
          (s.checkReady p rec_ mb).noteReady (.vf p)
    | _, _ => (gone s).noteReady (.vf p)

/-- INJECTED_SEGMENT_END. -/
def execInjectedSegmentEnd (p : Pid) (rec_ mb : Nat) (failed : Bool) (s : State) : Host.Outcome State Fault Refusal :=
  .next (s.segmentEnd p rec_ mb failed)

/-- SCARAB_SETTING_WRITE (R248): SCB_SQ_BACKLOG through the PF, TNT_SCB_FB_MAX through a VF. -/
def execScarabSettingWrite (fn : Fn) (v : W32) (s : State) : Host.Outcome State Fault Refusal :=
  .next (match fn with
    | .pf => if s.pfOpen then { s with sqBacklog := v.truncate 12 } else s
    | .vf p => if s.vfFull p then s.modScb p fun S => { S with fbMax := v.truncate 5 } else s)

end Sys2Proof.Machine
end

