-- ==== Sys2Proof/Machine/Objects.lean ====
section
/-! DEFINITION. Machine/Objects.lean: objects, windows and BAR access checks (chapter 2), and TILE_CLEAR (R205, R206). -/

namespace Sys2Proof.Machine

/-! ### Operands and admission (R47, R49, R50, R592) -/

/-- Bytes 16 to 63 of an object command: fields outside those that `used` names are 0 (Table 2-2). -/
def objOperandsOk (o : Bytes) (attr base tiles iova : Bool) : Bool :=
  let a := leAt o 4 4
  (if attr then bitsOf a 3 5 = 0 && a / 65536 = 0 else a = 0) && (if base then leAt o 8 8 / 2 ^ 48 = 0 else leAt o 8 8 = 0)
    && (tiles || leAt o 16 4 = 0) && leAt o 20 4 = 0 && (iova || leAt o 24 8 = 0) && zeroIn o 32 48

/-- The core of tile `i` of an object with this CORE field, in a partition whose cores are given (chapter 2, "Operands"). -/
def pinCore (cores : List Core) (core : BitVec 8) (i : Nat) : Option Core :=
  if core = 0xFF then (if cores.length = 0 then none else cores[i % cores.length]?) else cores[core.toNat]?

/-- CORE is not one that the partition holds, or is not 0 without PIN_TILE (Table 2-5, 0x9). -/
def coreBad (n : Nat) (hint : BitVec 3) (core : BitVec 8) : Bool :=
  if hint = 1 then core != 0xFF && n ≤ core.toNat else core != 0

/-- The tile has, or is moving to, a slot of a core. -/
def Tile.toCore (t : Tile) (c : Core) : Bool :=
  match t.st with
  | .moving m => m.dst = .tileMem c
  | .dropped _ => false
  | _ => t.home = .tileMem c

/-- Pinned tiles of objects other than `id` on a core. -/
def Memory.pinnedOn (m : Memory) (c : Core) (id : W32) : Nat :=
  (m.tiles.filter fun t => t.toCore c && match m.objOf t.num with
    | some o => o.hint = 1 && o.id != id
    | none => false).length

/-- Slots of a core that tenant tiles hold, of objects other than `id`: pinned, bound, or still leaving (R592). -/
def Memory.tenantOn (m : Memory) (c : Core) (id : W32) : Nat :=
  (m.tiles.filter fun t => (t.home = .tileMem c || t.toCore c) && match m.objOf t.num with
    | some o => !o.steward && o.id != id
    | none => false).length

/-- The tiles of a range that an object with CORE `core` pins to core `c`. -/
def pinShare (cores : List Core) (core : BitVec 8) (n : Nat) (c : Core) : Nat :=
  ((List.range n).filter fun i => pinCore cores core i = some c).length

/-- R49, R592: pinning `n` tiles of object `id` with CORE `core` keeps within the limits of every core. -/
def State.pinsFit (s : State) (p : Pid) (id : W32) (n : Nat) (core : BitVec 8) : Bool :=
  let cs := s.coresOf p
  let m := (s.prt p).mem
  cs.all fun c =>
    let k := pinShare cs core n c
    k = 0 || (m.pinnedOn c id + k ≤ 96 && m.tenantOn c id + k ≤ 128)

/-- R592: the first core where steward placements must yield to a pin of `n` tiles of object `id`. -/
def State.mustYield (s : State) (p : Pid) (id : W32) (n : Nat) (core : BitVec 8) : Option Core :=
  let cs := s.coresOf p
  let m := (s.prt p).mem
  cs.find? fun c =>
    let k := pinShare cs core n c
    let own := (m.tiles.filter fun t => (t.home = .tileMem c || t.toCore c) && match m.objOf t.num with
      | some o => o.id = id
      | none => false).length
    k != 0 && 128 < m.slotsOn c - own + k

/-- Steward placements yield, one instance at a time; while tiles are on their way out nothing more yields. -/
def State.makeRoom (s : State) (p : Pid) (c : Core) : State :=
  if s.vacating p 65536 0 (.core c) then s else s.yieldTo p c

/-- R49, R214: U, with PEAK_TILES of a loaded plan, fits the budget when `more` tiles are added. -/
def State.budgetFits (s : State) (p : Pid) (more : Nat) : Bool :=
  (s.prt p).mem.used + more + (s.prt p).scb.peakTiles ≤ s.budget p

/-- TNT_TILES_FREE (R50, R214). -/
def State.tilesFree (s : State) (p : Pid) : Nat := s.budget p - ((s.prt p).mem.used + (s.prt p).scb.peakTiles)

/-! ### OBJ_DEFINE (R48, R49, R52) -/

/-- The fields of an OBJ_DEFINE. -/
def objOf (o : Bytes) : Obj :=
  { id := BitVec.ofNat 32 (leAt o 0 4), hint := BitVec.ofNat 3 (leAt o 4 4), core := BitVec.ofNat 8 (leAt o 5 1),
    base := tileOf (leAt o 8 8), tiles := leAt o 16 4, steward := false, releasing := none }

/-- Table 2-5: the first MALFORMED check of OBJ_DEFINE that fails. -/
def State.defineBad (s : State) (p : Pid) (o : Bytes) : Option W32 :=
  let m := (s.prt p).mem
  let x := objOf o
  if !objOperandsOk o true true true false then some 1
  else if x.hint = 6 || x.hint = 7 then some 2
  else if leAt o 8 8 % tileBytes != 0 || x.tiles = 0 || 16777216 < x.tiles then some 3
  else if x.base = 0 || 2 ^ 32 < x.base + x.tiles then some 4
  else if m.overlaps x.base x.tiles then some 5
  else if (m.obj? x.id).isSome || 0xFFFFFF00 ≤ x.id.toNat then some 6
  else if coreBad (s.coresOf p).length x.hint x.core then some 9
  else none

/-- Where tile `i` of an object that is defined goes (Table 2-3); OBJ_DEFINE evicts nothing under R190. -/
def State.definePlace (s : State) (p : Pid) (x : Obj) (i : Nat) : Place :=
  if x.hint = 1 then ⟨(pinCore (s.coresOf p) x.core i).map .tileMem, none⟩ else s.placeByHint p x.hint (x.base + i) false

/-- OBJ_DEFINE. A tile that finds no space ends the command with TIER_ERROR and nothing is defined (R204). -/
def State.objDefine (s : State) (c : CmdRef) (p : Pid) (k : Cmd) : State :=
  let x := objOf k.operands
  match s.defineBad p k.operands with
  | some d => s.refuse c d
  | none =>
    let m := (s.prt p).mem
    if 32768 ≤ m.objs.length then s.finish c .quotaExceeded 3
    else if x.hint = 1 && !s.pinsFit p x.id x.tiles x.core then s.finish c .quotaExceeded 1
    else if !s.budgetFits p (if x.hint = 1 then 0 else x.tiles) then s.finish c .quotaExceeded 2
    else match (if x.hint = 1 then s.mustYield p x.id x.tiles x.core else none) with
      | some core => s.makeRoom p core
      | none =>
        let s' := s.modMem p fun m => { m with objs := m.objs ++ [x] }
        let s' := (List.range x.tiles).foldl (fun s i => s.createTile p (x.base + i) (s.definePlace p x i)) s'
        match (List.range x.tiles).find? fun i => (s'.tile? p (x.base + i)).isNone with
        | some i => s.finish c .tierError (BitVec.ofNat 32 (x.base + i))
        | none => s'.finish c .ok 0

/-- OBJ_DEFINE. -/
def execObjDefine (c : CmdRef) (s : State) : Host.Outcome State Fault Refusal :=
  .next (match s.inline_ c 4 0x40, c.ring with
    | some k, .vf p _ => s.objDefine c p k
    | _, _ => s)

/-! ### OBJ_HINT (R54, R56) -/

/-- The object a command names, unless its release has been accepted. -/
def Memory.target (m : Memory) (o : Bytes) : Option Obj :=
  match m.obj? (BitVec.ofNat 32 (leAt o 0 4)) with
  | some x => if x.releasing.isNone then some x else none
  | none => none

/-- A tile of the object is bound, or its binding has begun. -/
def Memory.hasBound (m : Memory) (o : Obj) : Bool := m.tiles.any fun t => o.base ≤ t.num && t.num < o.base + o.tiles && t.bound

/-- R316: a registered schedule lies in the object. -/
def State.hasSchedule (s : State) (p : Pid) (o : Obj) : Bool :=
  (s.prt p).sol.handles.toList.any fun h => match h with
    | some x => o.base ≤ tileOf x.ta && tileOf x.ta < o.base + o.tiles
    | none => false

/-- Some tile is MOVING for a cause. -/
def Memory.movingFor (m : Memory) (cause : MoveCause) : Bool :=
  m.tiles.any fun t => match t.st with
    | .moving x => x.cause = cause
    | _ => false

/-- The moves of a re-hint, one tile after another; a tile that finds no space ends the command (R204). -/
def State.hintMoves (s : State) (c : CmdRef) (p : Pid) (o : Obj) (hint : BitVec 3) (core : BitVec 8) : State × Option TileNo :=
  (List.range o.tiles).foldl (fun a i =>
    let (s, bad) := a
    let t := o.base + i
    match s.tile? p t with
    | none => a
    | some x =>
      let pl : Place := if hint = 1 then ⟨(pinCore (s.coresOf p) core i).map .tileMem, none⟩ else s.placeByHint p hint t true
      if pl.home = some x.home then a
      else if pl.home.isNone then (s, some (bad.getD t))
      else (s.moveTo p t pl (.command c), bad)) (s, none)

/-- OBJ_HINT: the change of the entry, and the moves of R54. -/
def State.applyHint (s : State) (c : CmdRef) (p : Pid) (o : Obj) (hint : BitVec 3) (core : BitVec 8) : State :=
  let s := s.modMem p fun m => { m with objs := m.objs.map fun y => if y.id = o.id then { y with hint := hint, core := core } else y }
  if (o.hint = 1) = (hint = 1) && (hint != 1 || o.core = core) then s.finish c .ok 0
  else
    let (s, bad) := s.hintMoves c p o hint core
    match bad with
    | some t => s.finish c .tierError (BitVec.ofNat 32 t)
    | none =>
      if (s.prt p).mem.movingFor (.command c) then s.modCmd c fun k => { k with stage := .running } else s.finish c .ok 0

/-- OBJ_HINT. -/
def State.objHint (s : State) (c : CmdRef) (p : Pid) (k : Cmd) : State :=
  let m := (s.prt p).mem
  let hint := BitVec.ofNat 3 (leAt k.operands 4 4)
  let core := BitVec.ofNat 8 (leAt k.operands 5 1)
  if !objOperandsOk k.operands true false false false then s.refuse c 1
  else if hint = 6 || hint = 7 then s.refuse c 2
  else match m.target k.operands with
  | none => s.refuse c 7
  | some o =>
    let change := (o.hint = 1) != (hint = 1) || (hint = 1 && o.core != core)
    if o.steward then s.refuse c 8
    else if coreBad (s.coresOf p).length hint core then s.refuse c 9
    else if m.hasBound o then s.refuse c 0xA
    else if change && hint = 1 && !s.pinsFit p o.id o.tiles core then s.finish c .quotaExceeded 1
    else if change && !(if hint = 1 then m.used - (if o.hint = 1 then 0 else o.tiles) + (s.prt p).scb.peakTiles ≤ s.budget p
        else s.budgetFits p o.tiles) then s.finish c .quotaExceeded 2
    else if m.anyMoving ((List.range o.tiles).map (o.base + ·)) then s
    else match (if change && hint = 1 then s.mustYield p o.id o.tiles core else none) with
      | some core => s.makeRoom p core
      | none => s.applyHint c p o hint core

/-- OBJ_HINT. -/
def execObjHint (c : CmdRef) (s : State) : Host.Outcome State Fault Refusal :=
  .next (match s.inline_ c 4 0x41, c.ring with
    | some k, .vf p _ => s.objHint c p k
    | _, _ => s)

/-! ### OBJ_RELEASE and OBJ_QUERY (R55 to R57) -/

/-- The object whose release a command waits for. -/
def Memory.releasedBy (m : Memory) (c : CmdRef) : Option Obj := m.objs.find? fun o => o.releasing = some c

/-- R55: the release ends once nothing accepted before it goes on. -/
def State.releaseEnd (s : State) (c : CmdRef) (p : Pid) : State :=
  match (s.prt p).mem.releasedBy c with
  | none => s
  | some o =>
    if s.rangeBusy p o.base o.tiles then s
    else
      (((s.freeRange p o.base o.tiles).modMem p fun m => { m with objs := m.objs.filter (·.id != o.id) }).finish c .ok 0).noteReady
        c.ring.fn

/-- OBJ_RELEASE. -/
def State.objRelease (s : State) (c : CmdRef) (p : Pid) (k : Cmd) : State :=
  let m := (s.prt p).mem
  if !objOperandsOk k.operands false false false false then s.refuse c 1
  else match m.target k.operands with
  | none => s.refuse c 7
  | some o =>
    if o.steward then s.refuse c 8
    else if m.hasBound o || s.hasSchedule p o then s.refuse c 0xA
    else
      let s := s.modMem p fun m => { m with objs := m.objs.map fun y => if y.id = o.id then { y with releasing := some c } else y }
      (s.modCmd c fun k => { k with stage := .running }).releaseEnd c p

/-- OBJ_RELEASE. -/
def execObjRelease (c : CmdRef) (s : State) : Host.Outcome State Fault Refusal :=
  .next (match s.inline_ c 4 0x42, c.ring with
    | some k, .vf p _ => s.objRelease c p k
    | _, _ => s)

/-- OBJ_RELEASE_DRAINED (R55): the last earlier access has ended. -/
def execObjReleaseDrained (c : CmdRef) (s : State) : Host.Outcome State Fault Refusal :=
  .next (match c.ring with
    | .vf p _ => s.releaseEnd c p
    | .pf _ => s)

/-- Table 2-4: the record of an object. -/
def Memory.objRecord (m : Memory) (o : Obj) : Bytes :=
  let ts := m.tiles.filter fun t => o.base ≤ t.num && t.num < o.base + o.tiles
  let n (h : Home → Bool) : Nat := (ts.filter (·.homed h)).length
  leVec 4 o.id
    ++ leBytes 4 (o.hint.toNat + 256 * bnat o.steward + 512 * bnat (ts.any (·.st = .poisoned)) + 65536 * o.core.toNat)
    ++ leBytes 8 (o.base * tileBytes) ++ leBytes 4 o.tiles ++ leBytes 4 (n fun h => h.inTile || h.isStaging)
    ++ leBytes 4 (n Home.inStacked) ++ leBytes 4 (n Home.isBoard)

/-- OBJ_QUERY; for a lost function its write waits (R374). -/
def State.objQuery (s : State) (c : CmdRef) (p : Pid) (k : Cmd) : State :=
  let m := (s.prt p).mem
  let iova := leAt k.operands 24 8
  if !objOperandsOk k.operands false false false true then s.refuse c 1
  else match m.target k.operands with
  | none => s.refuse c 7
  | some o =>
    if iova % 32 != 0 then s.refuse c 0xD
    else if s.lost c.ring.fn then s.modCmd c fun k => { k with wait := some .write }
    else (s.dataWrite c.ring (BitVec.ofNat 64 iova) (m.objRecord o)).finish c .ok 0

/-- OBJ_QUERY. -/
def execObjQuery (c : CmdRef) (s : State) : Host.Outcome State Fault Refusal :=
  .next (match s.inline_ c 4 0x43, c.ring with
    | some k, .vf p _ => s.objQuery c p k
    | _, _ => s)

/-! ### TILE_CLEAR (R205, R206) -/

/-- Clear one tile, at once or when its move ends. -/
def State.clearTile (s : State) (p : Pid) (t : TileNo) : State :=
  match s.tile? p t with
  | some x => if x.isMoving then s.modTile p t fun x => { x with clearAfter := true } else s.zeroTile p t
  | none => s

/-- The range of a TILE_CLEAR is ZERO. -/
def State.clearDone (s : State) (c : CmdRef) (p : Pid) : State :=
  match s.cmd? c with
  | some k =>
    let b := tileOf (leAt k.operands 8 8)
    let n := leAt k.operands 16 4
    let waits := (s.prt p).mem.tiles.any fun t => b ≤ t.num && t.num < b + n && t.clearAfter
    if k.stage = .running && k.hdr.engine = 4 && k.hdr.opc = 0x44 && !waits then s.finish c .ok 0 else s
  | none => s

/-- TILE_CLEAR. -/
def State.tileClear (s : State) (c : CmdRef) (p : Pid) (k : Cmd) : State :=
  let o := k.operands
  let b := tileOf (leAt o 8 8)
  let n := leAt o 16 4
  if leAt o 4 4 != 0 || leAt o 8 8 / 2 ^ 48 != 0 || !zeroIn o 20 48 then s.refuse c 1
  else if leAt o 8 8 % tileBytes != 0 || n = 0 || 16777216 < n then s.refuse c 3
  else match (s.prt p).mem.target o with
  | none => s.refuse c 7
  | some x =>
    if x.steward then s.refuse c 8
    else if b < x.base || x.base + x.tiles < b + n then s.refuse c 0xC
    else
      let s := (List.range n).foldl (fun s i => s.clearTile p (b + i)) s
      (s.modCmd c fun k => { k with stage := .running }).clearDone c p

/-- TILE_CLEAR. -/
def execTileClear (c : CmdRef) (s : State) : Host.Outcome State Fault Refusal :=
  .next (match s.inline_ c 4 0x44, c.ring with
    | some k, .vf p _ => s.tileClear c p k
    | _, _ => s)

/-! ### Windows (R62 to R67, R70) -/

/-- Change the window registers of a partition. -/
def State.modWin (s : State) (p : Pid) (f : Window → Window) : State := s.modPrt p fun P => { P with win := f P.win }

/-- Change the operator window registers. -/
def State.modOpw (s : State) (f : OpWindow → OpWindow) : State := { s with op := { s.op with win := f s.op.win } }

/-- Window accesses reach the sled: the host link is up and an HDM range is committed (R366). -/
def State.windowsUp (s : State) : Bool := s.linkOpen && s.link.cxl && s.link.hdm.isSome && s.boot.hostReady && s.boot.form = .normal

/-- The merged bytes of a partial write: enabled bytes of `b`, the rest of `old`. -/
def mergeLine (old b : Bytes) (en : W64) : Bytes :=
  (List.range 64).map fun i => if en.getLsbD i then byteAt b i else byteAt old i

/-- R65: a window access meets a poisoned tile. -/
def State.windowPoison (s : State) (p : Pid) (oper : Bool) : State :=
  if oper then s.modOpw fun w => { w with poisonCnt := satAdd w.poisonCnt 1 }
  else s.modWin p fun w => { w with poisonCnt := satAdd w.poisonCnt 1 }

/-- Serve a window access that waits for nothing. -/
def State.serveWindow (s : State) (p : Pid) (w : WinAccess) : State :=
  match s.tile? p (tileOf w.ta) with
  | none => if w.data.isNone then s.emit (.line false (List.replicate 64 0)) else s
  | some x =>
    if x.st = .poisoned then
      let s := s.windowPoison p w.oper
      if w.data.isNone then s.emit (.line true (List.replicate 64 0)) else s
    else match w.data with
      | none => (s.loaded p w.ta 64).emit (.line false (s.load p w.ta 64))
      | some (b, en) => if en = 0 then s else s.store p w.ta (mergeLine (s.load p w.ta 64) b en) none

/-- R64, R67: the TA lies inside a tenant-defined object that is not being released, on a tile without a run-ahead tag (R242). -/
def Memory.windowReach (m : Memory) (ta : Nat) : Bool :=
  match m.objOf (tileOf ta), m.tile? (tileOf ta) with
  | some o, some t => ta < 2 ^ 48 && !o.steward && o.releasing.isNone && t.tag.isNone
  | _, _ => false

/-- The line can be served now (R66, R187). -/
def State.lineUp (s : State) (p : Pid) (ta : Nat) : Bool := s.canAccess p [tileOf ta] && s.sledUp

/-- An access that R63 admits: served, or waiting. -/
def State.windowAccess (s : State) (p : Pid) (w : WinAccess) : State :=
  if s.lineUp p w.ta then s.serveWindow p w
  else (s.countWaits p [tileOf w.ta]).modMem p fun m => { m with waits := m.waits ++ [w] }

/-- Serve the waiting accesses that can be served now, in their order. -/
def State.serveWaits (s : State) (p : Pid) : State :=
  (s.prt p).mem.waits.foldl (fun s w =>
    if s.lineUp p w.ta then s.serveWindow p w else s.modMem p fun m => { m with waits := m.waits ++ [w] })
    (s.modMem p fun m => { m with waits := [] })

/-- R64: a refused partition-window access. -/
def State.windowFault (s : State) (p : Pid) (ta : Nat) : State :=
  let first := (s.prt p).win.faultCnt = 0
  let s := s.modWin p fun w => { w with faultCnt := satAdd w.faultCnt 1 }
  if first then
    (s.modWin p fun w => { w with faultTa := BitVec.ofNat 48 ta, faultValid := true }).postPart p 0x0002 0 (ta % 2 ^ 48)
  else s

/-- The zero line of a refused read. -/
def State.refusedRead (s : State) (data : Option (Bytes × W64)) : State :=
  if data.isNone then s.emit (.line false (List.replicate 64 0)) else s

/-- An access through a partition window (R63, R64, R70). -/
def State.partWindow (s : State) (p : Pid) (off : Nat) (data : Option (Bytes × W64)) : State :=
  if !s.windowsUp || 2 ^ 28 ≤ off then s
  else
    let W := (s.prt p).win
    let ta := W.base.toNat * 2 ^ 28 + off / 64 * 64
    let n := match data with
      | none => 64
      | some (_, en) => ((List.range 64).filter fun i => en.getLsbD i).length
    let s := s.hostBytes (.vf p) n
    let open_ := match (s.life p).st with
      | .ready | .running | .napping | .suspended => true
      | _ => false
    if W.en && open_ && (s.prt p).mem.windowReach ta then s.windowAccess p ⟨false, ta, data⟩
    else (s.windowFault p ta).refusedRead data

/-- PARTITION_WINDOW_READ. -/
def execPartitionWindowRead (p : Pid) (off : Nat) (s : State) : Host.Outcome State Fault Refusal :=
  .next (s.partWindow p off none)

/-- PARTITION_WINDOW_WRITE. -/
def execPartitionWindowWrite (p : Pid) (off : Nat) (data : Bytes) (en : W64) (s : State) : Host.Outcome State Fault Refusal :=
  .next (s.partWindow p off (some (data, en)))

/-- An access through the operator window (R63, R64). -/
def State.operWindow (s : State) (off : Nat) (data : Option (Bytes × W64)) : State :=
  if !s.windowsUp || 2 ^ 30 ≤ off then s
  else
    let s := s.exitRetention
    let W := s.op.win
    let ta := W.base.toNat * 2 ^ 30 + off / 64 * 64
    let fault (s : State) : State := (s.modOpw fun w => { w with faultCnt := satAdd w.faultCnt 1 }).refusedRead data
    if h : W.en ∧ W.pid.toNat < 16 then
      let p : Pid := ⟨W.pid.toNat, h.2⟩
      if !(s.life p).st.committed || !(s.prt p).tok.consent then
        (s.modOpw fun w => { w with denyCnt := satAdd w.denyCnt 1 }).refusedRead data
      else if (s.prt p).mem.windowReach ta then s.windowAccess p ⟨true, ta, data⟩
      else fault s
    else fault s

/-- OPERATOR_WINDOW_READ. -/
def execOperatorWindowRead (off : Nat) (s : State) : Host.Outcome State Fault Refusal := .next (s.operWindow off none)

/-- OPERATOR_WINDOW_WRITE. -/
def execOperatorWindowWrite (off : Nat) (data : Bytes) (en : W64) (s : State) : Host.Outcome State Fault Refusal :=
  .next (s.operWindow off (some (data, en)))

/-- WINDOW_CONTROL_WRITE (R67, Tables 2-10 and 2-11). -/
def execWindowControlWrite (fn : Fn) (off : Nat) (v : W32) (s : State) : Host.Outcome State Fault Refusal :=
  .next (if !s.open_ fn then s else match fn with
    | .vf p =>
      if off = 0x80000 then s.modWin p fun w => { w with en := v.getLsbD 0 }
      else if off = 0x80004 then s.modWin p fun w => { w with base := v.truncate 20 }
      else s
    | .pf =>
      if off = 0x400100 then s.modOpw fun w => { w with en := v.getLsbD 0, pid := (v >>> 16).truncate 5 }
      else if off = 0x400104 then s.modOpw fun w => { w with base := v.truncate 18 }
      else s)

/-! ### BAR width (R61, R579) -/

/-- The function answers accesses at all, whatever its registers serve. -/
def State.present (s : State) : Fn → Bool
  | .pf => s.link.up && s.boot.hostReady
  | .vf p => s.vfPresent p

/-- BAR_WIDTH_ERROR (R61, R579): a narrow or misaligned access of BAR0. -/
def execBarWidthError (fn : Fn) (off : Nat) (read : Bool) (s : State) : Host.Outcome State Fault Refusal :=
  .next (if !s.present fn then s
    else
      let s := if read then s.emit (.regValue fn off 0) else s
      s.modFn fn fun f =>
        if f.barWidth then f else { f with barWidth := true, errValid := true, errAddr := BitVec.ofNat 26 off })

/-- SYS_ERR_CLEAR (R579): a W1C write of SYS_ERR or TNT_ERR. -/
def execSysErrClear (fn : Fn) (v : W32) (s : State) : Host.Outcome State Fault Refusal :=
  .next (let served := match fn with
      | .pf => s.pfServes 0x10
      | .vf p => s.vfFull p
    if served && v.getLsbD 0 then s.modFn fn fun f => { f with barWidth := false, errValid := false, errAddr := 0 } else s)

end Sys2Proof.Machine
end

