-- ==== Sys2Proof/Machine/Streams.lean ====
section
/-! DEFINITION. Machine/Streams.lean: stream units, buffer pairs and frames (chapter 6). -/

namespace Sys2Proof.Machine

/-! ### Images (R153, Tables 6-2 and 6-3) -/

/-- The field bits that each opcode defines (Table 6-3), below bit 26. -/
def suMask : Nat → Option Nat
  | 0x00 => some 0 | 0x01 => some 0x3F0FFFF | 0x02 => some 0x3E00000 | 0x03 => some 0x380FFFF | 0x04 => some 0x3E003FF
  | 0x05 => some 0x300FFFF | 0x06 => some 0x30003FF | 0x07 => some 0x3FC07FF | 0x08 => some 0x3E00000 | 0x09 => some 0x3E00000
  | 0x0A => some 0x3C00000 | 0x0B => some 0x3C00000 | 0x0C => some 0x3C00000 | 0x0D => some 0x3E00000 | 0x0E => some 0x3E00000
  | 0x0F => some 0xFFFF | 0x10 => some 0 | 0x11 => some 0x3F00000 | 0x12 => some 0xFFFF | _ => none

/-- R153: the instruction is well formed. -/
def suInstrOk (w : Nat) : Bool :=
  let op := w / 2 ^ 26
  match suMask op with
  | none => false
  | some k =>
    ((BitVec.ofNat 26 w &&& ~~~(BitVec.ofNat 26 k)) = 0#26) &&
      (if op = 1 then
        let reg := bitsOf w 22 4
        let part := bitsOf w 20 2
        if reg < 8 then true else if reg < 12 then part = 0 else part ≤ 1
      else if op = 6 then bitsOf w 0 10 != 0
      else if op = 7 then 1 ≤ bitsOf w 0 11 && bitsOf w 0 11 ≤ 1024
      else if op = 0x0F then bitsOf w 0 16 != 0
      else true)

/-- The image in `b`, which starts at the image TA; or the fault and the PC that names the offending instruction. -/
def parseImage (b : Bytes) : Except (SuFault × Nat) StreamImage :=
  let n := leAt b 2 2
  if leAt b 0 2 != 1 || n = 0 || 1024 < n || !zeroIn b 4 8 || !zeroIn b 96 128 then .error (.badImage, 0)
  else
    let ws := (List.range n).map fun i => leAt b (128 + 4 * i) 4
    match ws.findIdx? fun w => !suInstrOk w with
    | some i => .error (.badInstr, i)
    | none => .ok
      { a := Vector.ofFn fun (i : Fin 8) => BitVec.ofNat 64 (leAt b (8 + 8 * i.val) 8),
        l := Vector.ofFn fun (i : Fin 4) => BitVec.ofNat 16 (leAt b (72 + 2 * i.val) 2),
        s := Vector.ofFn fun (i : Fin 4) => BitVec.ofNat 32 (leAt b (80 + 4 * i.val) 4),
        instrs := ws.map (BitVec.ofNat 32) }

/-- Table 6-5: the registers take their image values, and PC is 0. -/
def StreamUnit.restart (x : StreamUnit) : StreamUnit :=
  match x.image with
  | some i => { x with a := i.a, l := i.l, s := i.s, pc := 0 }
  | none => { x with pc := 0 }

/-! ### Unit control (R159) -/

/-- The tenant reaches the page of the unit's core. -/
def State.suOpen (s : State) (u : UnitRef) : Bool := s.vfFull u.pid && u.core.val < (s.coresOf u.pid).length

/-- R159: a command that the state does not accept. -/
def State.suReject (s : State) (u : UnitRef) : State := s.modUnit u fun x => { x with cmdRej := true }

/-- SU_LOAD (R153, R158). -/
def execSuLoad (u : UnitRef) (s : State) : Host.Outcome State Fault Refusal :=
  .next (if !s.suOpen u then s
    else match (s.unit u).st with
    | .empty | .loaded | .done | .fault =>
      ((s.modUnit u fun x => { x with st := .loading, cmdRej := false, rt := false }).modCore u.pid u.core fun c =>
        { c with signals := 0 }).busyNow u.pid
    | _ => s.suReject u)

/-- A LOAD ends: the image is in the unit, or the unit is in FAULT. -/
def State.loadEnd (s : State) (u : UnitRef) (r : Except (SuFault × Nat) StreamImage) : State :=
  match r with
  | .ok i => s.modUnit u fun x => { x with st := .loaded, fault := .none, image := some i }.restart
  | .error (f, pc) => (s.modUnit u fun x => { x with pc := pc }).suFault u f

/-- SU_LOAD_DONE (R153): the image lies inside one tenant-defined object, on a 64-byte boundary (log entry 17). -/
def State.suLoadDone (s : State) (u : UnitRef) : State :=
  let x := s.unit u
  let p := u.pid
  let ta := x.progTa.toNat
  let m := (s.prt p).mem
  if x.st != .loading || !s.sledUp then s
  else
    let n := leAt (s.load p ta 128) 2 2
    let len := 128 + 4 * (if 1 ≤ n && n ≤ 1024 then n else 0)
    let ts := tilesOf ta len
    let inside := match m.objOf (tileOf ta) with
      | some o => !o.steward && ts.all fun t => t < o.base + o.tiles
      | none => false
    if ta % 64 != 0 || !inside || (m.deny false ts).isSome then s.loadEnd u (.error (.badImage, 0))
    else if s.blocked p ts (s.unitTag u) then ts.foldl (fun s t => s.demandFetch p t) s
    else (s.loaded p ta len).loadEnd u (parseImage (s.load p ta len))

/-- SU_LOAD_DONE. -/
def execSuLoadDone (u : UnitRef) (s : State) : Host.Outcome State Fault Refusal := .next (s.suLoadDone u)

/-- SU_START (R159): START with RT only in real-time mode. A unit that runs is work, so it wakes a NAPPING partition (log entry 18). -/
def State.suStart (s : State) (u : UnitRef) (rt : Bool) : State :=
  let x := s.unit u
  if !s.suOpen u then s
  else if (x.st != .loaded && x.st != .done) || (rt && !(s.prt u.pid).rt.en) then s.suReject u
  else if rt then s.modUnit u fun x => { x.drop with st := .frameWait, cmdRej := false, rt := true, tag := x.epochReg, missedTo := 0 }
  else
    let s := s.modUnit u fun x =>
      { x.drop.restart with st := .running, cmdRej := false, rt := false, frame := 0, tag := x.epochReg }
    (if (s.life u.pid).st = .napping then s.wakePartition u.pid else s).busyNow u.pid

/-- SU_START. -/
def execSuStart (u : UnitRef) (rt : Bool) (s : State) : Host.Outcome State Fault Refusal := .next (s.suStart u rt)

/-- SU_STOP (R159, R168). -/
def State.suStop (s : State) (u : UnitRef) : State :=
  if !s.suOpen u then s
  else match (s.unit u).st with
  | .running | .frameWait =>
    (s.modUnit u fun x => { x.drop with st := .loaded, cmdRej := false, rt := false }).breakPairsOf u
  | _ => s.suReject u

/-- SU_STOP. -/
def execSuStop (u : UnitRef) (s : State) : Host.Outcome State Fault Refusal := .next (s.suStop u)

/-! ### Instructions (R154) -/

/-- The instruction at PC, where the unit may execute it now and its opcode is `op`. A MOV occupies its unit (R170). -/
def State.suInstr (s : State) (u : UnitRef) (op : Nat) : Option Nat :=
  let x := s.unit u
  let waits : Bool := match x.wait with
    | .barrier _ _ _ | .signal => true
    | _ => false
  if x.st = .running && s.fnWorks (.vf u.pid) && !waits && x.movs.isEmpty then
    match x.image with
    | some i => match i.instrs[x.pc]? with
      | some w => if w.toNat / 2 ^ 26 = op then some w.toNat else none
      | none => none
    | none => none
  else none

/-- The low 48 bits of a register move by `d`, modulo 2^48. -/
def addLow (a : W64) (d : Int) : W64 :=
  BitVec.ofNat 64 (a.toNat / 2 ^ 48 * 2 ^ 48 + ((((a.toNat % 2 ^ 48 : Nat) : Int) + d) % (2 ^ 48 : Nat)).toNat)

/-- Change address register `i`. -/
def State.modA (s : State) (u : UnitRef) (i : Nat) (f : W64 → W64) : State :=
  s.modUnit u fun x => { x with a := vmod x.a ⟨i % 8, Nat.mod_lt _ (by omega)⟩ f }

/-- Change loop register `i`. -/
def State.modL (s : State) (u : UnitRef) (i : Nat) (f : W16 → W16) : State :=
  s.modUnit u fun x => { x with l := vmod x.l ⟨i % 4, Nat.mod_lt _ (by omega)⟩ f }

/-- The value of scalar register `i`, sign-extended. -/
def StreamUnit.sVal (x : StreamUnit) (i : Nat) : Int := signed 32 (x.s[i % 4]'(Nat.mod_lt _ (by omega))).toNat

/-- Loop register `i`. -/
def StreamUnit.lVal (x : StreamUnit) (i : Nat) : W16 := x.l[i % 4]'(Nat.mod_lt _ (by omega))

/-- Address register `i`. -/
def StreamUnit.aVal (x : StreamUnit) (i : Nat) : W64 := x.a[i % 8]'(Nat.mod_lt _ (by omega))

/-- Replace 16 bits of a value. -/
def setPart (n v part imm : Nat) : Nat := (v - bitsOf v (16 * part) 16 * 2 ^ (16 * part) + imm * 2 ^ (16 * part)) % 2 ^ n

/-- An instruction that acts on the unit alone. -/
def State.suDo (s : State) (u : UnitRef) (op : Nat) (f : Nat → State → State) : State :=
  match s.suInstr u op with
  | some w => f w s
  | none => s

/-- NOP (R154). -/
def execStreamNop (u : UnitRef) (s : State) : Host.Outcome State Fault Refusal := .next (s.suDo u 0 fun _ s => s.suNext u)

/-- SETI (R154). -/
def State.seti (s : State) (u : UnitRef) (w : Nat) : State :=
  let reg := bitsOf w 22 4
  let part := bitsOf w 20 2
  let imm := bitsOf w 0 16
  let s :=
    if reg < 8 then s.modA u reg fun a => BitVec.ofNat 64 (setPart 64 a.toNat part imm)
    else if reg < 12 then s.modL u (reg - 8) fun _ => BitVec.ofNat 16 imm
    else
      let f (v : W32) : W32 := BitVec.ofNat 32 (setPart 32 v.toNat part imm)
      s.modUnit u fun x => { x with s := vmod x.s ⟨(reg - 12) % 4, Nat.mod_lt _ (by omega)⟩ f }
  s.suNext u

/-- SETI. -/
def execSeti (u : UnitRef) (s : State) : Host.Outcome State Fault Refusal := .next (s.suDo u 1 fun w s => s.seti u w)

/-- ADDS (R154). -/
def execAdds (u : UnitRef) (s : State) : Host.Outcome State Fault Refusal :=
  .next (s.suDo u 2 fun w s => (s.modA u (bitsOf w 23 3) fun a => addLow a ((s.unit u).sVal (bitsOf w 21 2))).suNext u)

/-- ADDI (R154). -/
def execAddi (u : UnitRef) (s : State) : Host.Outcome State Fault Refusal :=
  .next (s.suDo u 3 fun w s => (s.modA u (bitsOf w 23 3) fun a => addLow a (64 * signed 16 (bitsOf w 0 16))).suNext u)

/-- FADD (R154): F is 0 outside real-time mode. -/
def execFadd (u : UnitRef) (s : State) : Host.Outcome State Fault Refusal :=
  .next (s.suDo u 4 fun w s =>
    let x := s.unit u
    let f := if x.rt then x.frame.toNat else 0
    let k : Nat := f % (bitsOf w 0 10 + 1)
    (s.modA u (bitsOf w 23 3) fun a => addLow a (k * x.sVal (bitsOf w 21 2))).suNext u)

/-- LOOP (R154). -/
def execLoop (u : UnitRef) (s : State) : Host.Outcome State Fault Refusal :=
  .next (s.suDo u 5 fun w s =>
    let i := bitsOf w 24 2
    let c := bitsOf w 0 16
    let v := if c = 0 then (s.unit u).lVal i else BitVec.ofNat 16 c
    let s := s.modL u i fun _ => v
    if v = 0 then s.suFault u .loopZero else s.suNext u)

/-- ENDL (R154): a target below 0 faults with PC_RANGE. -/
def execEndl (u : UnitRef) (s : State) : Host.Outcome State Fault Refusal :=
  .next (s.suDo u 6 fun w s =>
    let i := bitsOf w 24 2
    let back := bitsOf w 0 10
    let v := (s.unit u).lVal i - 1
    let pc := (s.unit u).pc
    if v = 0 then (s.modL u i fun _ => v).suNext u
    else if pc < back then s.suFault u .pcRange
    else (s.modL u i fun _ => v).suGo u (pc - back))

/-! ### MOV (R152, R155, R156, R170 to R172) -/

/-- Where an address register leads: a TA, and the pair it names. -/
structure MovAddr where
  ta   : Nat
  pair : Option PairRef

/-- R152, R155: an address register's meaning for a MOV of `n` bytes; `dst`: as the destination. -/
def State.movAddr (s : State) (u : UnitRef) (a : W64) (dst : Bool) (n : Nat) : Option MovAddr :=
  let v := a.toNat
  let space := bitsOf v 60 4
  let off := bitsOf v 0 48
  if space = 0 then (if bitsOf v 48 12 = 0 && off % 64 = 0 then some ⟨off, none⟩ else none)
  else if (space = 1 || (space = 2 && dst)) && bitsOf v 52 8 = 0 && off % 64 = 0 then
    let b : PairRef := ⟨u.pid, if space = 1 then u.core else s.successor u.pid u.core, ⟨bitsOf v 48 4, by unfold bitsOf; omega⟩⟩
    let x := s.pair b
    if x.bound && off + n ≤ x.half * tileBytes then some ⟨(x.base + (if dst then x.half else 0)) * tileBytes + off, some b⟩ else none
  else none

/-- The fault that an access's failure gives a unit (R155). -/
def statusFault : Status → SuFault
  | .accessFault => .access
  | .poisoned => .poisoned
  | _ => .tierError

/-- A unit waits in an instruction that it executes again later. -/
def State.suWait (s : State) (u : UnitRef) (w : SuWait) : State := s.modUnit u fun x => { x with wait := w }

/-- R168: a unit waits on a pair: it faults where the pair is BROKEN or the wait has lasted too long. -/
def State.suWaitPair (s : State) (u : UnitRef) (b : PairRef) : State :=
  let x := s.unit u
  let since : Option Nat := match x.wait with
    | .pair t => some t
    | _ => none
  if (s.pair b).broken then s.suFault u .pairBroken
  else if s.pairOver b since then s.suFault u .waitTimeout
  else s.suWait u (.pair (since.getD s.pwr.clk))

/-- R187, R234, R242: a unit waits for tiles. -/
def State.suWaitTiles (s : State) (u : UnitRef) (ts : List TileNo) (tag : Option Epoch) : State :=
  let x := s.unit u
  let fresh := x.wait = .none
  let s := if fresh then s.countWaits u.pid ts else s
  let s := ts.foldl (fun s t => s.demandFetch u.pid t) s
  if s.tagBlocks u.pid ts tag then
    match x.wait with
    | .quarantine _ => s
    | _ => s.suWait u (.quarantine s.pwr.clk)
  else s.suWait u .tiles

/-- R171: the units of a core that move data. -/
def CoreStreams.moving (c : CoreStreams) : Nat := (c.units.toList.filter fun x => !x.movs.isEmpty).length

/-- A MOV issues: INC, the copy, and the hold of a consumer half. -/
def State.movIssue (s : State) (u : UnitRef) (w : Nat) (src dst : MovAddr) (n : Nat) : State :=
  let p := u.pid
  let tag := s.unitTag u
  let b := s.load p src.ta n
  let s := (s.loaded p src.ta n).readBy p (.unit u) (tilesOf src.ta n)
  let s := s.put p dst.ta b tag (s.unitDead u)
  let inc (s : State) (on : Bool) (i : Nat) : State := if on then s.modA u i fun a => addLow a (n : Nat) else s
  let s := inc (inc s (bitOf w 19) (bitsOf w 23 3)) (bitOf w 18) (bitsOf w 20 3)
  let s := match src.pair with
    | some x => s.modPair x fun y => { y with holders := y.holders ++ [Holder.mov u.unit] }
    | none => s
  let run : MovRun := ⟨BitVec.ofNat 64 src.ta, BitVec.ofNat 64 dst.ta, n / 64, src.pair.map (·.pair), true⟩
  s.modUnit u fun x => { x with wait := .none, movs := [run] }

/-- MOV (R155, R156). -/
def State.movInstr (s : State) (u : UnitRef) (w : Nat) : State :=
  let n := 64 * bitsOf w 0 11
  let x := s.unit u
  let p := u.pid
  match s.movAddr u (x.aVal (bitsOf w 23 3)) false n, s.movAddr u (x.aVal (bitsOf w 20 3)) true n with
  | some src, some dst =>
    let ts := tilesOf src.ta n ++ tilesOf dst.ta n
    let unready : Option PairRef := match src.pair with
      | some b => if (s.pair b).ready then none else some b
      | none => none
    match (s.prt p).mem.deny false ts, unready with
    | some (.accessFault, _), _ => s.suFault u .access
    | _, some b => s.suWaitPair u b
    | some (st, _), none => s.suFault u (statusFault st)
    | none, none =>
      if s.blocked p ts (s.unitTag u) then s.suWaitTiles u ts (s.unitTag u)
      else if 2 ≤ (s.core p u.core).moving then s
      else s.movIssue u w src dst n
  | _, _ => s.suFault u .badAddress

/-- MOV. -/
def execMov (u : UnitRef) (s : State) : Host.Outcome State Fault Refusal := .next (s.suDo u 7 fun w s => s.movInstr u w)

/-- MOV_END (R156): a MOV has read and written its last byte. -/
def State.movEnd (s : State) (u : UnitRef) (k : Nat) : State :=
  match (s.unit u).movs[k]? with
  | none => s
  | some m =>
    if !s.sledUp then s
    else
      let s := s.modUnit u fun x => { x with movs := x.movs.eraseIdx k }
      let s := match m.holds with
        | some b => s.modPair ⟨u.pid, u.core, b⟩ fun x => { x with holders := x.holders.erase (.mov u.unit) }
        | none => s
      if m.live && (s.unit u).st = .running then s.suNext u else s

/-- MOV_END. -/
def execMovEnd (u : UnitRef) (k : Nat) (s : State) : Host.Outcome State Fault Refusal := .next (s.movEnd u k)

/-! ### Pair instructions (R165 to R168, R172) -/

/-- The pair an instruction names: bits [25:22], on this core or, with bit 21, on the successor. -/
def State.suPair (s : State) (u : UnitRef) (w : Nat) (succ : Bool) : PairRef :=
  ⟨u.pid, if succ && bitOf w 21 then s.successor u.pid u.core else u.core, ⟨bitsOf w 22 4, by unfold bitsOf; omega⟩⟩

/-- SWAP (R166): by the unit named in PAIR_PROD alone. -/
def execSwap (u : UnitRef) (s : State) : Host.Outcome State Fault Refusal :=
  .next (s.suDo u 8 fun w s =>
    let b := s.suPair u w true
    let x := s.pair b
    if !x.bound then s.suFault u .badAddress
    else if !x.madeBy u then s.suFault u .wrongProducer
    else if x.open_ then (s.swapPair b (s.unitTag u) (s.unitDead u)).suNext u
    else s.suWaitPair u b)

/-- WAITF (R154). -/
def execWaitf (u : UnitRef) (s : State) : Host.Outcome State Fault Refusal :=
  .next (s.suDo u 9 fun w s =>
    let b := s.suPair u w true
    let x := s.pair b
    if !x.bound then s.suFault u .badAddress else if x.open_ then s.suNext u else s.suWaitPair u b)

/-- WAITV (R154). -/
def execWaitv (u : UnitRef) (s : State) : Host.Outcome State Fault Refusal :=
  .next (s.suDo u 0x0A fun w s =>
    let b := s.suPair u w false
    let x := s.pair b
    if !x.bound then s.suFault u .badAddress else if x.ready then s.suNext u else s.suWaitPair u b)

/-- REL (R165). -/
def execRel (u : UnitRef) (s : State) : Host.Outcome State Fault Refusal :=
  .next (s.suDo u 0x0B fun w s =>
    let b := s.suPair u w false
    if (s.pair b).bound then (s.modPair b Pair.release).suNext u else s.suFault u .badAddress)

/-! ### Signals, barriers and the end of a program -/

/-- The WSIG a unit of the core waits in: its signal and CLR. -/
def StreamUnit.wsig (x : StreamUnit) : Option (Nat × Bool) :=
  if x.st = .running && x.wait = .signal then
    match x.image with
    | some i => (i.instrs[x.pc]?).map fun w => (bitsOf w.toNat 22 4, bitOf w.toNat 21)
    | none => none
  else none

/-- SIG (R158): every unit that waits on the bit wakes, then the clears take effect. -/
def execSig (u : UnitRef) (s : State) : Host.Outcome State Fault Refusal :=
  .next (s.suDo u 0x0C fun w s =>
    let n := bitsOf w 22 4
    let bit : W16 := BitVec.ofNat 16 (2 ^ n)
    let us := (unitsOf u.pid).filter fun v => v.core = u.core && match (s.unit v).wsig with
      | some (k, _) => k = n
      | none => false
    let clr := us.any fun v => match (s.unit v).wsig with
      | some (_, c) => c
      | none => false
    let s := s.modCore u.pid u.core fun c => { c with signals := if clr then c.signals &&& ~~~bit else c.signals ||| bit }
    (us.foldl (fun s v => s.suNext v) s).suNext u)

/-- WSIG (R158). -/
def execWsig (u : UnitRef) (s : State) : Host.Outcome State Fault Refusal :=
  .next (s.suDo u 0x0D fun w s =>
    let n := bitsOf w 22 4
    if (s.core u.pid u.core).signals.getLsbD n then
      (s.modCore u.pid u.core fun c =>
        { c with signals := if bitOf w 21 then c.signals &&& ~~~(BitVec.ofNat 16 (2 ^ n)) else c.signals }).suNext u
    else s.suWait u .signal)

/-- R174: a unit arrives at a barrier and waits for its release. -/
def State.suArrive (s : State) (u : UnitRef) (w : Nat) (ending : Bool) : State :=
  let b : BarNo := ⟨bitsOf w 21 5, by unfold bitsOf; omega⟩
  match (s.bar u.pid b).meets with
  | .unconfigured => s.suFault u .barUncfg
  | .broken => s.suFault u .barBroken
  | .waits g => ((s.suWait u (.barrier b g ending)).countArrival u.pid b).releaseIfFull u.pid b

/-- STREAM_BAR (R174). -/
def execStreamBar (u : UnitRef) (s : State) : Host.Outcome State Fault Refusal :=
  .next (s.suDo u 0x0E fun w s => s.suArrive u w false)

/-- STREAM_END (R159): with BAR_EN after the barrier's release. -/
def execStreamEnd (u : UnitRef) (s : State) : Host.Outcome State Fault Refusal :=
  .next (s.suDo u 0x11 fun w s =>
    if bitOf w 20 then s.suArrive u w true else s.modUnit u fun x => { x.drop with st := .done, rt := false })

/-- STREAM_EPOCH (R154). -/
def execStreamEpoch (u : UnitRef) (s : State) : Host.Outcome State Fault Refusal :=
  .next (s.suDo u 0x12 fun w s =>
    (s.modUnit u fun x => { x with tag := x.tag + BitVec.ofNat 32 (bitsOf w 0 16) }).suNext u)

/-! ### Frames and deadlines (R175 to R180, R589) -/

/-- The start of frame `k` in device time. -/
def RtState.startOf (t : RtState) (k : Nat) : Nat := t.start.toNat + k * (t.period.toNat * 1000) + t.shift

/-- DLINE (R154, R157). -/
def execDline (u : UnitRef) (s : State) : Host.Outcome State Fault Refusal :=
  .next (s.suDo u 0x0F fun w s =>
    if (s.unit u).rt then (s.modUnit u fun x => { x with deadline := x.frameAt + bitsOf w 0 16 * 1000 }).suNext u
    else s.suFault u .notRt)

/-- A unit begins the current frame. Frames whose miss has been counted stay counted (R589). -/
def State.beginFrame (s : State) (u : UnitRef) : State :=
  let t := (s.prt u.pid).rt
  s.modUnit u fun x =>
    let between := if x.st = .running then (t.frame - x.frame).toNat else x.missedTo
    { x.drop.restart with
      st := .running, frame := t.frame, frameAt := t.curStart, deadline := t.curStart + t.deadline.toNat * 1000,
      missedTo := x.missedTo - between }

/-- The deadline that a unit has next to meet: of its frame, then of each later frame (R589). -/
def State.nextDeadline (s : State) (u : UnitRef) : Nat :=
  let x := s.unit u
  let t := (s.prt u.pid).rt
  if x.missedTo = 0 then x.deadline else x.frameAt + x.missedTo * (t.period.toNat * 1000) + t.deadline.toNat * 1000

/-- R178: a unit's miss is counted. -/
def State.unitMiss (s : State) (u : UnitRef) : State :=
  (s.miss u.pid (2 ^ 63 + u.core.val * 2 ^ 16 + u.unit.val * 2 ^ 22)).modUnit u fun x => { x with missedTo := x.missedTo + 1 }

/-- FEND (R177): the unit waits for the next frame, or begins the most recent one. A deadline that has passed unreported counts. -/
def execFend (u : UnitRef) (s : State) : Host.Outcome State Fault Refusal :=
  .next (s.suDo u 0x10 fun _ s =>
    let x := s.unit u
    if !x.rt then s.suFault u .notRt
    else
      let s := if x.missedTo = 0 && x.deadline < s.pwr.time.toNat then s.unitMiss u else s
      if (s.prt u.pid).rt.curStart != x.frameAt then s.beginFrame u
      else s.modUnit u fun x => { x.drop with st := .frameWait, missedTo := 0 })

/-- R175: the real-time registers allow EN. -/
def RtState.valid (t : RtState) (policy : Nat) : Bool :=
  100 ≤ t.period.toNat && t.period.toNat ≤ 1000000 && 1 ≤ t.deadline.toNat && t.deadline.toNat ≤ t.period.toNat && policy ≤ 2

/-- The first frame whose start is not in the past (R175). -/
def RtState.firstFrame (t : RtState) (now : Nat) : Nat :=
  let n := t.period.toNat * 1000
  (now - t.start.toNat + n - 1) / n

/-- A unit attached to the frame timer, or an RT command outstanding (R175). -/
def State.rtBusy (s : State) (p : Pid) : Bool :=
  (unitsOf p).any (fun u => (s.unit u).rt && ((s.unit u).st = .frameWait || (s.unit u).st = .running))
    || (s.prt p).rings.toList.any fun R => R.cmds.any fun k => k.hdr.rt

/-- Change the real-time registers. -/
def State.modRt (s : State) (p : Pid) (f : RtState → RtState) : State := s.modPrt p fun P => { P with rt := f P.rt }

/-- RT_CTL_WRITE (R175). -/
def State.rtCtl (s : State) (p : Pid) (v : W32) : State :=
  let t := (s.prt p).rt
  let en := v.getLsbD 0
  let pol : BitVec 2 := BitVec.ofNat 2 (v.toNat / 2)
  if !s.vfFull p then s
  else if t.en then
    if !en then (if s.rtBusy p then s else s.modRt p fun t => { t with en := false, policy := pol, nextPolicy := pol })
    else if pol = 3 then s
    else s.modRt p fun t => { t with nextPolicy := pol }
  else if en && t.valid pol.toNat then
    s.modRt p fun t =>
      { t with en := true, policy := pol, nextPolicy := pol, shift := 0, begun := false, next := t.firstFrame s.pwr.time.toNat }
  else s.modRt p fun t => { t with policy := pol, nextPolicy := pol }

/-- RT_CTL_WRITE. -/
def execRtCtlWrite (p : Pid) (v : W32) (s : State) : Host.Outcome State Fault Refusal := .next (s.rtCtl p v)

/-- The units of a partition that wait for a frame. -/
def State.frameWaiters (s : State) (p : Pid) : List UnitRef := (unitsOf p).filter fun u => (s.unit u).st = .frameWait

/-- The frame clock runs: it pauses in SUSPENDED and RETAINED (R161). -/
def State.framesRun (s : State) (p : Pid) : Bool :=
  (s.prt p).rt.en && (s.life p).pausedAt.isNone && (s.life p).st.holds && s.sledUp

/-- FRAME_START (R175, R177): the next frame starts, and the units that wait for it begin it. -/
def State.frameStart (s : State) (p : Pid) : State :=
  let t := (s.prt p).rt
  if !s.framesRun p || s.pwr.time.toNat < t.startOf t.next then s
  else
    let us := s.frameWaiters p
    let s := if us.isEmpty then s else if (s.life p).st = .napping then s.wakePartition p else s
    let s := s.modRt p fun t =>
      { t with policy := t.nextPolicy, frame := BitVec.ofNat 32 t.next, curStart := t.startOf t.next, next := t.next + 1, begun := true }
    if us.isEmpty then s else (us.foldl State.beginFrame s).busyNow p

/-- FRAME_START. -/
def execFrameStart (p : Pid) (s : State) : Host.Outcome State Fault Refusal := .next (s.frameStart p)

/-- Table 18-4: the maximum wake latency of a quad's state, in ns. -/
def QState.wakeMax : QState → Nat
  | .run => 0 | .nap => 1000 | .doze => 22000 | .off => 55000 | .offr => 55000

/-- FRAME_EARLY_WAKE (R177): the quads begin to wake ahead of the frame by the longest wake that any of them needs. -/
def State.earlyWake (s : State) (p : Pid) : State :=
  let t := (s.prt p).rt
  let lead := ((s.quadsOf p).map fun q => s.quads[q].st.wakeMax).foldl max 0
  if s.framesRun p && (s.life p).st = .napping && !(s.frameWaiters p).isEmpty && t.startOf t.next ≤ s.pwr.time.toNat + lead then
    s.wakeQuads p
  else s

/-- FRAME_EARLY_WAKE. -/
def execFrameEarlyWake (p : Pid) (s : State) : Host.Outcome State Fault Refusal := .next (s.earlyWake p)

/-- Table 6-9, STALE: a pair whose consumer half is FREE with no holders becomes VALID again with its previous contents. -/
def Pair.revive (x : Pair) : Pair := if x.open_ then { x with valid := true, stale := true, remain := x.uses } else x

/-- Table 6-9: what the policy does when a unit misses. -/
def State.missPolicy (s : State) (u : UnitRef) : State :=
  let mine := (pairsOf u.pid).filter fun b => (s.pair b).madeBy u
  match (s.prt u.pid).rt.policy.toNat with
  | 1 =>
    let s := s.modUnit u fun x => { x.drop with st := .frameWait }
    s.spoilTiles u.pid (mine.flatMap fun b => let x := s.pair b; (List.range x.half).map (x.base + x.half + ·))
  | 2 => mine.foldl (fun s b => s.modPair b Pair.revive) s
  | _ => s

/-- DEADLINE_PASS of a unit (R178, R179, R589). -/
def State.unitDeadline (s : State) (u : UnitRef) : State :=
  let x := s.unit u
  if x.rt && x.st = .running && s.framesRun u.pid && s.nextDeadline u ≤ s.pwr.time.toNat then (s.unitMiss u).missPolicy u else s

/-- DEADLINE_PASS of a command: under SKIP_FRAME one that has not started ends (Table 6-9, R180). -/
def State.cmdDeadline (s : State) (c : CmdRef) : State :=
  match s.cmd? c with
  | some k =>
    if k.unstarted && !k.cancelled && s.skipsRt c.ring k then
      ((s.cmdMiss c).complete c false .deadlineMiss 0).noteReady c.ring.fn
    else s
  | none => s

/-- DEADLINE_PASS. -/
def execDeadlinePass (w : Issuer) (s : State) : Host.Outcome State Fault Refusal :=
  .next (match w with
    | .unit u => s.unitDeadline u
    | .cmd c => s.cmdDeadline c
    | _ => s)

/-! ### Pair commands (R162 to R164, R166) -/

/-- R162, R164: how a BIND fares: its PAIR_RES code, or the object to bind. -/
def State.bindCheck (s : State) (b : PairRef) : Except Nat Obj :=
  let c := s.core b.pid b.core
  let m := (s.prt b.pid).mem
  let n := (s.coresOf b.pid).length
  if c.pairUses = 0 || (!c.pairCprod && n ≤ c.pairProdCore.toNat) then .error 4
  else match m.obj? c.pairObj with
  | none => .error 1
  | some o =>
    let bad := o.steward || o.tiles % 2 != 0 || o.tiles < 2 || 16 < o.tiles || o.hint = 1 || o.releasing.isSome
      || m.tiles.any fun t => o.base ≤ t.num && t.num < o.base + o.tiles && (t.bound || t.st = .poisoned)
    let x := s.pair b
    if bad then .error 1
    else if x.bound || x.binding then .error 3
    else match s.absCore b.pid b.core.val with
    | none => .error 4
    | some k => if 128 < m.slotsOn k + o.tiles then .error 2 else .ok o

/-- A core's page takes a PAIR_CMD result. -/
def State.pairResult (s : State) (b : PairRef) (r : Nat) : State :=
  s.modCore b.pid b.core fun c => { c with result := BitVec.ofNat 3 r, busy := false }

/-- R164: a PAIR_CMD while BUSY is 1 gives BUSY and has no effect. -/
def State.pairBusy (s : State) (b : PairRef) : State := s.modCore b.pid b.core fun c => { c with result := 5 }

/-- The tenant reaches the page of the pair's core. -/
def State.pairPage (s : State) (b : PairRef) : Bool := s.vfFull b.pid && b.core.val < (s.coresOf b.pid).length

/-- The tiles of a pair's object. -/
def Pair.tiles (x : Pair) : List TileNo := (List.range (2 * x.half)).map (x.base + ·)

/-- Choose the moves of a BIND that have still to be made. -/
def State.bindMoves (s : State) (b : PairRef) : State :=
  match s.absCore b.pid b.core.val with
  | none => s
  | some k => (s.pair b).tiles.foldl (fun s t =>
    match s.tile? b.pid t with
    | some x => if x.home = .tileMem k then s else s.startMove b.pid t (.tileMem k) (.pair b)
    | none => s) s

/-- PAIR_BIND (R162). -/
def State.pairBind (s : State) (b : PairRef) : State :=
  let c := s.core b.pid b.core
  if !s.pairPage b then s
  else if c.busy then s.pairBusy b
  else match s.bindCheck b with
  | .error r => s.pairResult b r
  | .ok o =>
    let s := s.modPair b fun _ =>
      { Pair.reset with binding := true, obj := o.id, half := o.tiles / 2, base := o.base, timeout := c.pairTimeout,
                        uses := c.pairUses.toNat, ccons := c.pairCcons, cprod := c.pairCprod, prodCore := c.pairProdCore,
                        prodUnit := c.pairProdUnit }
    let s := s.modCore b.pid b.core fun c => { c with busy := true, bindOn := some b.pair }
    let s := s.modMem b.pid fun m =>
      { m with tiles := m.tiles.map fun t => if o.base ≤ t.num && t.num < o.base + o.tiles then { t with bound := true } else t }
    (s.bindMoves b).busyNow b.pid

/-- PAIR_BIND. -/
def execPairBind (b : PairRef) (s : State) : Host.Outcome State Fault Refusal := .next (s.pairBind b)

/-- Tiles leave a pair for placement by their hint (R162). -/
def State.unbindTiles (s : State) (b : PairRef) : State :=
  let ts := (s.pair b).tiles
  let s := ts.foldl (fun s t => s.modTile b.pid t fun x => { x with bound := false }) s
  ts.foldl (fun s t => match (s.prt b.pid).mem.objOf t with
    | some o => s.moveTo b.pid t (s.placeByHint b.pid o.hint t true) (.pair b)
    | none => s) s

/-- PAIR_BIND_DONE (R162): every tile has its slot; or slots have gone meanwhile, and the tiles return (log entry 19). -/
def State.bindDone (s : State) (b : PairRef) : State :=
  let x := s.pair b
  if !x.binding then s
  else match s.absCore b.pid b.core.val with
  | none => s
  | some k =>
    let at_ (t : TileNo) : Bool := match s.tile? b.pid t with
      | some y => y.home = .tileMem k && !y.isMoving
      | none => false
    let moving (t : TileNo) : Bool := match s.tile? b.pid t with
      | some y => y.isMoving
      | none => false
    if x.tiles.all at_ then (s.modPair b fun x => { x with bound := true, binding := false }).pairResult b 0
    else if x.tiles.any moving then s
    else if (s.prt b.pid).mem.slotsOn k + (x.tiles.filter (!at_ ·)).length ≤ 128 then s.bindMoves b
    else ((s.unbindTiles b).modPair b fun _ => Pair.reset).pairResult b 2

/-- PAIR_BIND_DONE. -/
def execPairBindDone (b : PairRef) (s : State) : Host.Outcome State Fault Refusal := .next (s.bindDone b)

/-- The unit that produces a pair is RUNNING or in FRAME_WAIT. -/
def State.producerRuns (s : State) (b : PairRef) : Bool :=
  let x := s.pair b
  !x.cprod && let st := (s.unit ⟨b.pid, ⟨x.prodCore.toNat, x.prodCore.isLt⟩, ⟨x.prodUnit.toNat, x.prodUnit.isLt⟩⟩).st
  st = .running || st = .frameWait

/-- PAIR_UNBIND (R162, R164); an unbound pair gives BAD_FIELD (log entry 19). -/
def State.pairUnbind (s : State) (b : PairRef) : State :=
  let x := s.pair b
  if !s.pairPage b then s
  else if (s.core b.pid b.core).busy then s.pairBusy b
  else if !x.bound then s.pairResult b 4
  else if !x.holders.isEmpty || s.producerRuns b then s.pairResult b 3
  else ((s.unbindTiles b).modPair b fun _ => Pair.reset).pairResult b 0

/-- PAIR_UNBIND. -/
def execPairUnbind (b : PairRef) (s : State) : Host.Outcome State Fault Refusal := .next (s.pairUnbind b)

/-- PAIR_RESET (R164); an unbound pair gives BAD_FIELD (log entry 19). -/
def State.pairReset (s : State) (b : PairRef) : State :=
  if !s.pairPage b then s
  else if (s.core b.pid b.core).busy then s.pairBusy b
  else if !(s.pair b).bound then s.pairResult b 4
  else
    (s.modPair b fun x =>
      { x with valid := false, remain := 0, stale := false, quar := none, overrel := false, broken := false }).pairResult b 0

/-- PAIR_RESET. -/
def execPairReset (b : PairRef) (s : State) : Host.Outcome State Fault Refusal := .next (s.pairReset b)

/-- PAIR_AUTO_SWAP (R166): a CPROD pair swaps on its own. -/
def State.pairAutoSwap (s : State) (b : PairRef) : State :=
  let x := s.pair b
  if x.bound && x.cprod && x.uses ≤ x.writes && x.open_ then
    (s.swapPair b none false).modPair b fun x => { x with writes := 0 }
  else s

/-- PAIR_AUTO_SWAP. -/
def execPairAutoSwap (b : PairRef) (s : State) : Host.Outcome State Fault Refusal := .next (s.pairAutoSwap b)

/-- The pair that a waiting unit waits on. -/
def State.suWaitsOn (s : State) (u : UnitRef) : Option PairRef :=
  let x := s.unit u
  match x.wait, x.image with
  | .pair _, some i =>
    match i.instrs[x.pc]? with
    | some w =>
      let n := w.toNat
      if n / 2 ^ 26 = 7 then
        match s.movAddr u (x.aVal (bitsOf n 23 3)) false (64 * bitsOf n 0 11) with
        | some a => a.pair
        | none => none
      else some (s.suPair u n (n / 2 ^ 26 != 0x0A))
    | none => none
  | _, _ => none

/-- PAIR_WAIT_TIMEOUT (R168): a waiter on a pair that is BROKEN, or that has waited longer than TIMEOUT, ends. -/
def execPairWaitTimeout (w : Issuer) (s : State) : Host.Outcome State Fault Refusal :=
  .next (match w with
    | .unit u =>
      match s.suWaitsOn u with
      | some b => if (s.life u.pid).pausedAt.isNone then s.suWaitPair u b else s
      | none => s
    | .op o =>
      match o.cmd.ring, s.cmd? o.cmd with
      | .vf p _, some k =>
        match s.nextOp o k.hdr.engine.toNat (match k.run with
          | some r => ((r.ops[o.idx]?).map (·.lop.toNat)).getD 0
          | none => 0) with
        | some (k, op) =>
          match checkCompute (s.coresOf p).length op with
          | .ok C =>
            match s.pairEnd o (s.pairsRead p C.readTiles) k.pairAt with
            | some d =>
              if k.hdr.engine = 1 && k.pairAt.isSome then (s.letPairsGo p (· = o)).opInstant o .fenceTimeout d else s
            | none => s
          | .error _ => s
        | none => s
      | _, _ => s
    | _ => s)

end Sys2Proof.Machine
end

