-- ==== Sys2Proof/Machine/Moves.lean ====
section
/-! DEFINITION. Machine/Moves.lean: moves of tiles, promotion, failures of the tiers and their settings (chapter 7), and the limit on
quarantine waits (R242). -/

namespace Sys2Proof.Machine

/-! ### Descriptors and moves -/

/-- The transfer in execution of an XFER operation or of a channel. -/
def State.modDesc (s : State) (w : Issuer) (f : DescRun → DescRun) : State :=
  match w with
  | .op o => s.modOp o fun a => { a with desc := a.desc.map f }
  | .chan m => s.modChan m fun c => { c with run := c.run.map f }
  | _ => s

/-- A transfer has ended with an error, unless it had already ended. -/
def DescRun.failed (d : DescRun) (st : Status) (detail : W32) : DescRun :=
  { d with moving := none, quarAt := none, ended := some (d.ended.getD (st, detail)) }

/-- The end of a placement's tile: moved, or the transfer fails with the tile (R337). -/
def DescRun.placed (d : DescRun) (t : TileNo) (ok : Bool) : DescRun :=
  if d.moving != some t then d
  else if ok then { d with moving := none, done := d.done + tileBytes }
  else d.failed .tierError (BitVec.ofNat 32 t)

/-! ### The three steps of a move (R187) -/

/-- Accesses accepted before the move still go on: those of operations that have started and of stream MOVs. Commands that wait for the
move itself do not count. -/
def State.inFlight (s : State) (p : Pid) (t : TileNo) : Bool :=
  let P := s.prt p
  (P.rings.toList.any fun R => R.cmds.any fun k => match k.run with
      | some r => r.active.any fun a => a.desc.isNone && a.spans.any (spanHas t)
      | none => false)
    || P.cores.toList.any fun c => c.units.toList.any fun u => u.movs.any fun m =>
      spanHas t (spanOf m.src.toNat (64 * m.lines)) || spanHas t (spanOf m.dst.toNat (64 * m.lines))

/-- The destination has room for the copy, beside what is stored there (Table 7-1, Table 7-2). -/
def State.copyRoom (s : State) (h : Home) : Bool :=
  match h with
  | .tileMem c => s.filled (Home.onCore c) < 128
  | .staging => s.filled Home.isStaging < 1792
  | .stacked _ _ => s.filled Home.inStacked < s.stackedCap
  | .board => s.boardRoom

/-- MOVE_COPY_BEGIN (R187): the accesses accepted before the move have ended. -/
def State.copyBegin (s : State) (p : Pid) (t : TileNo) : State :=
  match s.tile? p t with
  | some x =>
    match x.st with
    | .moving m =>
      if m.copying || s.inFlight p t || !s.copyRoom m.dst || !s.homeUp x.home || !s.homeUp m.dst || !s.sledUp then s
      else s.modTile p t fun x => { x with st := .moving { m with copying := true } }
    | _ => s
  | none => s

/-- MOVE_COPY_BEGIN. -/
def execMoveCopyBegin (p : Pid) (t : TileNo) (s : State) : Host.Outcome State Fault Refusal := .next (s.copyBegin p t)

/-- The TILE_CLEAR commands of a partition that wait for moves complete when their range is ZERO (R205). -/
def State.clearsDone (s : State) (p : Pid) : State :=
  (ringsOf (.vf p)).foldl (fun s r =>
    ((s.ring r).cmds.filter fun k => k.stage = .running && k.hdr.engine = 4 && k.hdr.opc = 0x44).foldl
      (fun s k => s.clearDone ⟨r, k.seq⟩ p) s) s

/-- The end of an OBJ_HINT's moves (R54). -/
def State.hintDone (s : State) (c : CmdRef) (p : Pid) (t : TileNo) (ok : Bool) : State :=
  match s.cmd? c with
  | some k =>
    if k.stage != .running then s
    else if !ok then s.finish c .tierError (BitVec.ofNat 32 t)
    else if (s.prt p).mem.movingFor (.command c) then s
    else s.finish c .ok 0
  | none => s

/-- What a steward instance does when a move of one of its tiles has ended (R228 to R233). -/
def State.scarabMoved (s : State) (p : Pid) (rec_ mb : Nat) (t : TileNo) (dst : Home) (ok : Bool) : State :=
  let S := (s.prt p).scb
  match S.inst? rec_ mb, S.rec? rec_ with
  | some x, some r =>
    if x.st = .fetching && !S.fetchPending t then (s.expand p t).checkReady p rec_ mb
    else if !ok || x.closing then s
    else if x.disp = .recompute && x.st = .placed then s.dropTile p t
    else if x.disp = .squeeze && r.sqLossy && !x.lossless && dst.isBoard && (x.st = .placed || x.st = .fetching)
      && (s.tile? p t).any (·.st = .resident) then s.squeezeTile p t r.fmt.toNat
    else s
  | _, _ => s

/-- What a move's end means to what started it: `ok` unless it failed. -/
def State.moveOver (s : State) (p : Pid) (t : TileNo) (m : Move) (ok : Bool) : State :=
  let s := match m.cause with
    | .command c => s.hintDone c p t ok
    | .operation o => s.modDesc (.op o) fun d => d.placed t ok
    | .mover ch => s.modDesc (.chan ch) fun d => d.placed t ok
    | .scarab r b => s.scarabMoved p r b t m.dst ok
    | _ => s
  (s.clearsDone p).serveWaits p

/-- The tile is stored uncompressed: its instance spills it (Table 8-8). -/
def State.spills (s : State) (p : Pid) (t : TileNo) (m : Move) : Bool :=
  match m.cause with
  | .scarab r b => match (s.prt p).scb.inst? r b with
    | some x => x.disp = .spill && (x.st != .fetching || (s.prt p).scb.fetchPending t)
    | none => false
  | _ => false

/-- MOVE_COMPLETE (R187): the home switches in one step, and waiting accesses are served. -/
def State.moveComplete (s : State) (p : Pid) (t : TileNo) : State :=
  match s.tile? p t with
  | some x =>
    match x.st with
    | .moving m =>
      if !m.copying || s.failedHome x.home || s.failedHome m.dst || !s.sledUp then s
      else
        let raw := s.spills p t m
        let s := (s.modTile p t fun x => { x with st := .resident }).settle p t m.dst raw
        let s := if x.clearAfter then s.zeroTile p t else s
        s.moveOver p t m true
    | _ => s
  | none => s

/-- MOVE_COMPLETE. -/
def execMoveComplete (p : Pid) (t : TileNo) (s : State) : Host.Outcome State Fault Refusal := .next (s.moveComplete p t)

/-- R193: the second destination of a move whose first has failed. -/
def State.secondPlace (s : State) (p : Pid) (t : TileNo) (dst : Home) : Place :=
  match dst with
  | .stacked k _ => s.placeStacked p t true (some k)
  | h => ⟨some h, none⟩

/-- MOVE_DESTINATION_FAIL (R193): the tile stays at its source; the trigger chooses a destination again, once. -/
def State.destFail (s : State) (p : Pid) (t : TileNo) : State :=
  match s.tile? p t with
  | some x =>
    match x.st with
    | .moving m =>
      if !m.copying then s
      else
        let stays (s : State) : State :=
          let s := s.modTile p t fun x => { x with st := .resident }
          (if x.clearAfter then s.zeroTile p t else s).moveOver p t m false
        if m.retried then stays s
        else
          let s := s.modTile p t fun x => { x with st := .resident }
          let pl := s.secondPlace p t m.dst
          match pl.home with
          | none => stays s
          | some h =>
            let s := match pl.evict with
              | some v => s.evict v
              | none => s
            s.modTile p t fun x => { x with st := .moving { m with dst := h, copying := false, retried := true } }
    | _ => s
  | none => s

/-- MOVE_DESTINATION_FAIL. -/
def execMoveDestinationFail (p : Pid) (t : TileNo) (s : State) : Host.Outcome State Fault Refusal := .next (s.destFail p t)

/-! ### Background promotion (R192) -/

/-- A tile that may be promoted. -/
def Memory.promotable (m : Memory) (t : Tile) : Bool :=
  t.home.isBoard && !t.isMoving && !t.isDropped && match m.objOf t.num with
    | some o => !o.steward && (o.hint = 0 || o.hint = 2)
    | none => false

/-- R192: `a` is promoted before `b`: the younger, then the lower number. -/
def promoteBefore (a b : Tile) : Bool := if a.boardAt != b.boardAt then b.boardAt < a.boardAt else a.num < b.num

/-- R192: there is space for a promotion, and where; a promotion evicts nothing. -/
def State.promotePlace (s : State) (p : Pid) (t : TileNo) : Option Home :=
  let at_ (pool : Bool) : Option Home := (s.pickStack t none).map fun k => .stacked k pool
  if s.countAll Home.inStacked < s.stackedCap then
    if s.floorRoom p then at_ false
    else if !(s.life p).timingAct && 16384 < s.poolFree then at_ true
    else none
  else none

/-- BACKGROUND_PROMOTION. -/
def State.promoteTile (s : State) (p : Pid) (t : TileNo) : State :=
  let m := (s.prt p).mem
  let flying := (m.tiles.filter fun x => match x.st with
    | .moving y => y.cause = .promotion
    | _ => false).length
  if !(s.life p).st.committed || !s.sledUp || 16 ≤ flying then s
  else match firstBy promoteBefore (m.tiles.filter m.promotable), s.promotePlace p t with
    | some x, some h => if x.num = t then s.startMove p t h .promotion else s
    | _, _ => s

/-- BACKGROUND_PROMOTION. -/
def execBackgroundPromotion (p : Pid) (t : TileNo) (s : State) : Host.Outcome State Fault Refusal := .next (s.promoteTile p t)

/-! ### Failures (R201 to R204, R583, R584) -/

/-- The corrected-error counter of a home steps (R201, R583, R584). -/
def State.countCe (s : State) (h : Home) (d : ChanNo) : State :=
  match h with
  | .tileMem c => { s with coreErr := vmod s.coreErr c fun e => { e with ce := satAdd e.ce 1 } }
  | .staging => { s with tier := { s.tier with stgCe := satAdd s.tier.stgCe 1 } }
  | .stacked k _ => { s with tier := { s.tier with stkCe := vmod s.tier.stkCe k (satAdd · 1) } }
  | .board => { s with tier := { s.tier with ddrCe := vmod s.tier.ddrCe d (satAdd · 1) } }

/-- The uncorrectable-error counter of a home steps. -/
def State.countUe (s : State) (h : Home) (d : ChanNo) : State :=
  match h with
  | .tileMem c => { s with coreErr := vmod s.coreErr c fun e => { e with ue := satAdd e.ue 1 } }
  | .staging => { s with tier := { s.tier with stgUe := satAdd s.tier.stgUe 1 } }
  | .stacked k _ => { s with tier := { s.tier with stkUe := vmod s.tier.stkUe k (satAdd · 1) } }
  | .board => { s with tier := { s.tier with ddrUe := vmod s.tier.ddrUe d (satAdd · 1) } }

/-- Table 7-10: CAUSE of a failure at a home; `late` and `check` tell lateness and the decompression check apart. -/
def State.failCause (s : State) (h : Home) (d : ChanNo) (late check : Bool) : Nat :=
  match h with
  | .tileMem _ => 6
  | .staging => 7
  | .stacked k _ => if s.tier.stkFail.getLsbD k.val then 8 else if late then 4 else 1
  | .board => if s.tier.ddrFail.getLsbD d.val then 8 else if late then 5 else if check then 3 else 2

/-- Table 7-10: UNIT of a home. -/
def failUnit (h : Home) (d : ChanNo) : Nat :=
  match h with
  | .tileMem c => c.val
  | .staging => 0xFF
  | .stacked k _ => k.val
  | .board => d.val

/-- A compute operation's outputs hold data without valid content (R139). -/
def State.spoilOp (s : State) (o : OpRef) (p : Pid) (k : Cmd) (op : ListOp) : State :=
  if k.hdr.engine != 1 then s
  else match checkCompute (s.coresOf p).length op with
    | .ok C => s.spoil p (C.mayWrite s p) (s.tagOf o.cmd.ring k.hdr) k.dead
    | .error _ => s

/-- An operation that met a failing tile ends (R202): active, or waiting to start. -/
def State.failOp (s : State) (o : OpRef) (st : Status) (d : W32) : State :=
  match o.cmd.ring, s.activeOp o, s.cmd? o.cmd with
  | .vf p _, some (k, a), _ =>
    if a.desc.isSome then s.modDesc (.op o) fun x => x.failed st d
    else if k.hdr.engine = 2 && st = .tierError then s.modOp o fun a => { a with bad := a.bad ++ [d.toNat] }
    else
      let s := (s.spoilOp o p k a.op).letPairsGo p (· = o)
      (s.dropRun p o).opEnd o st d
  | .vf p _, none, some k =>
    match k.run with
    | some r => match r.ops[o.idx]? with
      | some op => if r.next = o.idx then ((s.spoilOp o p k op).letPairsGo p (· = o)).opInstant o st d else s
      | none => s
    | none => s
  | .pf _, some (_, a), _ => if a.desc.isSome then s.modDesc (.op o) fun x => x.failed st d else s
  | _, _, _ => s

/-- The request has an access to the tile under way or waiting. -/
def State.meets (s : State) (w : Issuer) (p : Pid) (t : TileNo) : Bool :=
  let waits (k : Cmd) : Bool := (k.waited || k.hdr.engine = 3) && k.spans.any (spanHas t)
  match w with
  | .cmd c => c.ring.fn = .vf p && (s.cmd? c).any waits
  | .op o =>
    match s.activeOp o with
    | some (_, a) => a.spans.any (spanHas t) || a.desc.any fun d => (d.touches o.cmd.ring.fn p).any (spanHas t) || d.moving = some t
    | none => match s.cmd? o.cmd with
      | some k => waits k && (k.run.any fun r => r.next = o.idx)
      | none => false
  | .unit u => u.pid = p && (s.unit u).works
  | .chan m => match s.chans[m].run, s.chans[m].ring with
    | some d, some r => (d.touches r.fn p).any (spanHas t) || d.moving = some t
    | _, _ => false
  | .window q => q = p
  | .sled => true

/-- R202, R272: the request that met the failure ends with TIER_ERROR. An update command goes on with its other tiles. -/
def State.failRequest (s : State) (w : Issuer) (p : Pid) (st : Status) (d : W32) : State :=
  match w with
  | .cmd c =>
    match s.cmd? c with
    | some k =>
      if k.hdr.engine = 3 then
        if st = .tierError then s.modUpd p fun u => { u with errs := u.errs ++ [(st, d)] } else s.stopUpdate p st d
      else (s.noteServed c).finish c st d
    | none => s
  | .op o => s.failOp o st d
  | .unit u => s.suFault u (if st = .fenceTimeout then .waitTimeout else .tierError)
  | .chan m => s.modDesc (.chan m) fun x => x.failed st d
  | .window q => ((s.hostBytes (.vf q) 64).windowPoison q false).emit (.line true (List.replicate 64 0))
  | .sled => s

/-- R197, R202: the operations whose access to a board-homed tile waits behind that of `w`: they started no earlier (log entry 43).
A solver operation reads its tiles when it ends. -/
def State.waitsBehind (s : State) (w : Issuer) (p : Pid) (t : TileNo) : List OpRef :=
  let since : Option Nat := match w with
    | .op o => (s.activeOp o).map (·.2.since)
    | _ => none
  match since with
  | none => []
  | some n => (s.activeOps (.vf p)).filter fun x => w != .op x && match s.activeOp x with
    | some (k, b) => k.hdr.engine != 2 && n ≤ b.since && b.spans.any (spanHas t)
    | none => false

/-- R202: every access that waits on the tile ends with POISONED. -/
def State.poisonBehind (s : State) (p : Pid) (t : TileNo) (ws : List OpRef) : State :=
  (ws.foldl (fun s x => s.failOp x .poisoned (BitVec.ofNat 32 t)) s).serveWaits p

/-- R202: an access to a tile fails, or a move's source read does. -/
def State.tileFails (s : State) (p : Pid) (t : TileNo) (w : Issuer) (d : ChanNo) (late check : Bool) : State :=
  match s.tile? p t with
  | none => s
  | some x =>
    let cause := s.failCause x.home d late check
    let counts := cause = 1 || cause = 2 || cause = 6 || cause = 7
    let hit (s : State) (moving : Bool) : State :=
      (if counts then s.countUe x.home d else s).poison p t cause (failUnit x.home d) moving
    match x.st with
    | .resident =>
      if s.meets w p t then
        ((hit s false).failRequest w p .tierError (BitVec.ofNat 32 t)).poisonBehind p t (if x.home.isBoard then s.waitsBehind w p t else [])
      else s
    | .moving m => if m.copying then
        let s := hit s true
        (if x.clearAfter then s.zeroTile p t else s).moveOver p t m false else s
    | _ => s

/-- R584: an entry of a function's hold is lost; its command's completion or writeback says POISONED. -/
def State.heldLost (s : State) (fn : Fn) (i : Nat) : State :=
  match (s.fnSt fn).held[i]? with
  | none => s
  | some h =>
    let h' := match h with
      | .completion n c => HeldEntry.completion n { c with status := .poisoned, started := true, detail := 0 }
      | .moverWb n a b q => .moverWb n a ((b.set 2 Status.poisoned.code).set 3 (byteAt b 3 ||| 0x40)) q
    (s.countUe .staging 0).modFn fn fun f => { f with held := f.held.set i h' }

/-- TIER_ACCESS_FAIL (R201, R202, R204, R584): what an access meets at a tile's home. -/
def State.accessFail (s : State) (p : Pid) (t : TileNo) (w : Issuer) (k : AccessFault) (d : ChanNo) : State :=
  match k with
  | .correctable => match s.tile? p t with
    | some x => if x.isDropped || x.st = .zero then s else s.countCe x.home d
    | none => s
  | .uncorrectable => s.tileFails p t w d false false
  | .decompression => if (s.tile? p t).any (·.home.isBoard) then s.tileFails p t w d false true else s
  | .heldEntry i => s.heldLost (if w = .sled then .pf else .vf p) i

/-- TIER_ACCESS_FAIL. -/
def execTierAccessFail (p : Pid) (t : TileNo) (w : Issuer) (k : AccessFault) (d : ChanNo) (s : State) :
    Host.Outcome State Fault Refusal := .next (s.accessFail p t w k d)

/-- TIER_LATE as it acts, in ns (Table 7-9). -/
def State.tierLate (s : State) : Nat := 1000 * max 20 (min 50000 s.tier.late.toNat)

/-- An access of the request can have been under way longer than TIER_LATE. -/
def State.canBeLate (s : State) (w : Issuer) : Bool :=
  match w with
  | .op o => match s.activeOp o with
    | some (_, a) => s.tierLate ≤ s.since a.since
    | none => true
  | _ => true

/-- TIER_ACCESS_LATE (R202): an access to stacked DRAM or to the board tier exceeds TIER_LATE. -/
def execTierAccessLate (p : Pid) (t : TileNo) (w : Issuer) (d : ChanNo) (s : State) : Host.Outcome State Fault Refusal :=
  .next (if (s.tile? p t).any (fun x => x.home.inStacked || x.home.isBoard) && s.canBeLate w then
    s.tileFails p t w d true false else s)

/-- The smallest installed RDIMM in GiB. -/
def TierRegs.smallest (T : TierRegs) : Nat := T.rdimm.toList.foldl min (T.rdimm[0])

/-- R204: a stack or a channel fails. -/
def State.unitFails (s : State) (m : MemUnit) : State :=
  let known := match m with
    | .stack k => s.tier.stkFail.getLsbD k.val
    | .channel c => s.tier.ddrFail.getLsbD c.val
  if known then s
  else
    let s := match m with
      | .stack k => { s with tier := { s.tier with stkFail := s.tier.stkFail ||| BitVec.ofNat 6 (2 ^ k.val) } }
      | .channel c =>
        { s with tier := { s.tier with ddrFail := s.tier.ddrFail ||| BitVec.ofNat 12 (2 ^ c.val),
                                       boardInst := BitVec.ofNat 7 (s.tier.boardInst.toNat - s.tier.smallest / 16) } }
    let boards := ((List.finRange 16).map fun p => if (s.life p).st.holds then (s.life p).boardAct.toNat else 0).sum
    let arg0 := match m with
      | .stack k => 1 + 256 * k.val
      | .channel c => 2 + 256 * c.val
    s.postDev 0x0102 arg0 (bnat (s.stackedCap < s.floors) + 2 * bnat (s.tier.boardInst.toNat < boards))

/-- MEMORY_UNIT_DOWN. -/
def execMemoryUnitDown (m : MemUnit) (s : State) : Host.Outcome State Fault Refusal :=
  .next (if s.boot.form = .normal && s.boot.hostReady then s.unitFails m else s)

/-! ### Settings (R195, R209) -/

/-- TIER_SETTING_WRITE: TIER_LATE or TIER_POOL_AGE, by its PF offset. -/
def execTierSettingWrite (off : Nat) (v : W32) (s : State) : Host.Outcome State Fault Refusal :=
  .next (if !s.pfOpen then s
    else if off = 0x100000 then { s with tier := { s.tier with late := v.truncate 16 } }
    else if off = 0x100004 then { s with tier := { s.tier with poolAge := v.truncate 16 } }
    else s)

/-- STAGING_QUOTA_WRITE: TIER_STG_QUOTA of a partition that is EMPTY or CONFIGURING. -/
def execStagingQuotaWrite (p : Pid) (v : W32) (s : State) : Host.Outcome State Fault Refusal :=
  .next (if s.pfOpen && ((s.life p).st = .empty || (s.life p).st = .configuring) then
    { s with tier := { s.tier with stgQuota := vmod s.tier.stgQuota p fun _ => BitVec.ofNat 11 (min 1792 (v.toNat % 2048)) } }
    else s)

/-! ### Quarantine waits (R242) -/

/-- A wait on a run-ahead tag since `t` has exceeded TNT_QWAIT_TMO. -/
def State.quarOver (s : State) (p : Pid) (t : Option Nat) : Bool :=
  let ms := (s.prt p).scb.qwaitTmo.toNat
  match t with
  | some t => ms != 0 && ms * 1000000 < s.since t && (s.life p).pausedAt.isNone
  | none => false

/-- QUARANTINE_WAIT_TIMEOUT: the access's command ends with FENCE_TIMEOUT, or its unit faults with WAIT_TIMEOUT. -/
def State.quarTimeout (s : State) (w : Issuer) : State :=
  let past (r : RingId) (t : Option Nat) : Bool := match r with
    | .vf p _ => s.quarOver p t
    | .pf _ => false
  let fail (p : Pid) : State := s.failRequest w p .fenceTimeout 0x60000
  match w with
  | .cmd c => match s.cmd? c, c.ring with
    | some k, .vf p _ => if past c.ring k.quarAt then fail p else s
    | _, _ => s
  | .op o =>
    match o.cmd.ring, s.activeOp o, s.cmd? o.cmd with
    | .vf p _, some (_, a), k =>
      if past o.cmd.ring (a.desc.bind (·.quarAt)) || k.any (fun k => (k.hdr.engine = 2 || k.hdr.engine = 6) && past o.cmd.ring k.quarAt) then fail p else s
    | .vf p _, none, some k => if past o.cmd.ring k.quarAt && k.waited then fail p else s
    | _, _, _ => s
  | .unit u => match (s.unit u).wait with
    | .quarantine t => if s.quarOver u.pid (some t) then fail u.pid else s
    | _ => s
  | .chan m => match s.chans[m].run, s.chans[m].ring with
    | some d, some (.vf p n) => if past (.vf p n) d.quarAt then fail p else s
    | _, _ => s
  | _ => s

/-- QUARANTINE_WAIT_TIMEOUT. -/
def execQuarantineWaitTimeout (w : Issuer) (s : State) : Host.Outcome State Fault Refusal := .next (s.quarTimeout w)

end Sys2Proof.Machine
end

