-- ==== Sys2Proof/Machine/Mover.lean ====
section
/-! DEFINITION. Machine/Mover.lean: descriptors, channels, pacing and the XFER operation (chapter 12), and refused host requests (R60). -/

namespace Sys2Proof.Machine

/-! ### Checksums (R338, R339) -/

/-- A checksum that starts afresh. -/
def Chain.fresh (mode : BitVec 2) : Chain := ⟨mode, 0xFFFFFFFF, 0, false⟩

/-- The checksum after more bytes. -/
def Chain.add (c : Chain) (b : Bytes) : Chain :=
  if c.mode = 1 then { c with crc := crcBytes c.crc b }
  else
    let x := sumBytes (c.sum, c.odd) b
    { c with sum := x.1, odd := x.2 }

/-- CSUM_VAL. -/
def Chain.value (c : Chain) : Nat := if c.mode = 1 then (c.crc ^^^ 0xFFFFFFFF).toNat else c.sum

/-! ### Operands and checks (R331, R350, R352) -/

/-- A TA operand: its partition and TA; on operator rings bits [52:48] name the partition. -/
def taOperand (r : RingId) (v : W64) : Option (Pid × Nat) :=
  match r with
  | .vf p _ => some (p, v.toNat)
  | .pf _ => if h : bitsOf v.toNat 48 5 < 16 then some (⟨bitsOf v.toNat 48 5, h⟩, v.toNat % 2 ^ 48) else none

/-- The bits above a TA operand are as Table 12-1 and R352 have them. -/
def taClean (r : RingId) (v : W64) : Bool :=
  match r with
  | .vf _ _ => v.toNat < 2 ^ 48
  | .pf _ => v.toNat < 2 ^ 53 && bitsOf v.toNat 48 5 < 16

/-- SRC is a TA. -/
def Desc.srcTa (d : Desc) : Bool := d.kind = 1 || d.kind = 2 || d.kind = 3
/-- DST is a TA. -/
def Desc.dstTa (d : Desc) : Bool := d.kind = 0 || d.kind = 2

/-- The TA operands of a descriptor, source first. -/
def Desc.operands (d : Desc) (r : RingId) : List (Pid × Nat) :=
  ((if d.srcTa then [d.src] else []) ++ (if d.dstTa then [d.dst] else [])).filterMap (taOperand r)

/-- R352: the operator reaches the partition's TA. -/
def State.admits (s : State) (r : RingId) (p : Pid) : Bool :=
  match r with
  | .vf _ _ => true
  | .pf _ => (s.life p).st.committed && (s.prt p).tok.consent

/-- A tile of the range lies in a steward-owned object. -/
def State.stewardIn (s : State) (p : Pid) (ts : List TileNo) : Bool := ts.any fun t => ((s.prt p).mem.objOf t).any (·.steward)

/-- R331, R350: the DETAIL of the first check that fails; `op`: the WB_IOVA of an XFER. -/
def State.descBad (s : State) (r : RingId) (op : Option Nat) (d : Desc) : Option W32 :=
  let n := d.len.toNat
  let own := match op with
    | some wb => d.own || d.bad || d.wb || d.irq || wb % 32 != 0
    | none => !d.own || d.bad || d.wb
  if own then some 0x40
  else if d.rsv != 0 || (d.srcTa && !taClean r d.src) || (d.dstTa && !taClean r d.dst) then some 0x41
  else if 3 < d.kind.toNat || d.csum = 3 || (if d.kind = 3 then 2 < d.tier.toNat || d.csum != 0 || d.cont || d.flush else d.tier != 0)
    then some 0x42
  else if n = 0 || 2 ^ 24 < n then some 0x43
  else if d.kind = 3 && (d.src.toNat % tileBytes != 0 || n % tileBytes != 0 || d.dst != 0
      || (d.operands r).any fun x => s.admits r x.1 && s.stewardIn x.1 (tilesOf x.2 n)) then some 0x44
  else if d.kind = 2 && match d.operands r with
      | [a, b] => a.1 = b.1 && a.2 < b.2 + n && b.2 < a.2 + n
      | _ => false
    then some 0x45
  else if d.cont && d.csum = 0 then some 0x46
  else none

/-- R352: an access of the operator is refused: OPW_DENY_CNT. -/
def State.opDenied (s : State) : State := s.modOpw fun w => { w with denyCnt := satAdd w.denyCnt 1 }

/-- R331, R352: how a descriptor ends at its consumption, if it does, and whether the operator was refused. -/
def State.descCheck (s : State) (r : RingId) (op : Option Nat) (d : Desc) : Option (Status × W32) × Bool :=
  match s.descBad r op d with
  | some e => (some (.malformed, e), false)
  | none =>
    let l := d.operands r
    match l.find? fun x => !s.admits r x.1 with
    | some x => (some (.accessFault, BitVec.ofNat 32 (tileOf x.2)), true)
    | none =>
      (l.findSome? fun x => ((tilesOf x.2 d.len.toNat).find? fun t => !(s.prt x.1).mem.reach false t).map fun t =>
        (Status.accessFault, BitVec.ofNat 32 t), false)

/-- R339: a descriptor's checksum continues that of its predecessor. -/
def Desc.continues (d : Desc) (prev : Option Chain) : Bool := d.cont && prev.any fun c => c.mode = d.csum

/-- A consumed descriptor, in execution. -/
def Desc.begin (d : Desc) (prev : Option Chain) (ended : Option (Status × W32)) : DescRun :=
  { desc := d, done := 0, got := 0, buf := [], skipped := 0,
    crc := if d.csum = 0 then none else if d.continues prev then prev else some (Chain.fresh d.csum),
    restart := d.cont && !d.continues prev, late := false, ended := ended, flushAt := none, moving := none, waited := false,
    quarAt := none }

/-- How the descriptor ends, with the DETAIL of Table 12-4. -/
def DescRun.outcome (d : DescRun) (st : Status) (detail : W32) : Status × W32 :=
  if st.isError then (st, detail)
  else
    (if d.late then .fetchLate else .ok,
      if d.desc.kind = 3 then BitVec.ofNat 32 (d.skipped % 2 ^ 24) else if d.restart then 0x80000000 else 0)

/-- CSUM_VAL of a descriptor that ends. -/
def DescRun.csumVal (d : DescRun) (st : Status) : Nat := if st.isError then 0 else (d.crc.map Chain.value).getD 0

/-- What the next descriptor may continue. -/
def DescRun.chainAfter (d : DescRun) (st : Status) : Option Chain := if st.isError then none else d.crc

/-! ### The accesses of a transfer (R334) -/

/-- The ring of a transfer, and the transfer. -/
def State.transfer (s : State) (w : Issuer) : Option (RingId × DescRun) :=
  match w with
  | .op o => match s.activeOp o with
    | some (_, a) => a.desc.map (o.cmd.ring, ·)
    | none => none
  | .chan m => match s.chans[m].ring, s.chans[m].run with
    | some r, some d => some (r, d)
    | _, _ => none
  | _ => none

/-- The run-ahead tag of a transfer, and whether its epoch has been revoked: a command's alone (R351). -/
def State.transferTag (s : State) (w : Issuer) : Option Epoch × Bool :=
  match w with
  | .op o => match s.cmd? o.cmd with
    | some k => (s.tagOf o.cmd.ring k.hdr, k.dead)
    | none => (none, false)
  | _ => (none, false)

/-- R352: operator traffic counts in no partition's meters. -/
def State.metered (s : State) (r : RingId) (p : Pid) (f : State → State) : State :=
  match r with
  | .vf _ _ => f s
  | .pf _ => (f s).modPrt p fun P => { P with mtr := (s.prt p).mtr }

/-- The next access of a transfer waits. -/
def State.transferWaits (s : State) (w : Issuer) (d : DescRun) (p : Pid) (t : TileNo) (tag : Option Epoch) : State :=
  let late := s.stewWaits p t
  let q := s.tagBlocks p [t] tag
  let s := if d.waited then s else s.countWaits p [t]
  (s.demandFetch p t).modDesc w fun d =>
    { d with waited := true, late := d.late || late, quarAt := if q then some (d.quarAt.getD s.pwr.clk) else none }

/-- One access of a transfer to a tile: it fails, waits, or acts. -/
def State.transferAccess (s : State) (w : Issuer) (r : RingId) (d : DescRun) (p : Pid) (t : TileNo) (poisonOk : Bool)
    (act : State → State) : State :=
  let tag := (s.transferTag w).1
  let bad := match (s.prt p).mem.deny true [t] with
    | some (.poisoned, x) => if poisonOk then none else some (Status.poisoned, x)
    | e => e
  if !s.admits r p then s.opDenied.modDesc w fun d => d.failed .accessFault (BitVec.ofNat 32 t)
  else match bad with
    | some (st, x) => s.modDesc w fun d => d.failed st x
    | none =>
      if s.blocked p [t] tag then s.transferWaits w d p t tag
      else act (s.modDesc w fun d => { d with waited := false, quarAt := none })

/-- The bytes from `a` to the end of its tile or of the range. -/
def pieceLen (a last : Nat) : Nat := min last ((a / tileBytes + 1) * tileBytes) - a

/-- R335: the transfer ends once its last byte has moved; with FLUSH, after a flushing read where it concerns host memory. -/
def State.transferDone (s : State) (w : Issuer) : State :=
  s.modDesc w fun d =>
    if d.done < d.desc.len.toNat then d
    else if d.desc.flush && d.desc.kind != 2 then { d with flushAt := some s.pwr.clk }
    else { d with ended := some (d.ended.getD (.ok, 0)) }

/-- The next tile of an H2T takes its bytes. -/
def State.h2tPiece (s : State) (w : Issuer) (r : RingId) (d : DescRun) (data : Bytes) : State :=
  match taOperand r d.desc.dst with
  | none => s
  | some (p, ta) =>
    let a := ta + d.done
    let n := pieceLen a (ta + d.desc.len.toNat)
    if s.lost r.fn || data.length != n then s
    else s.transferAccess w r d p (tileOf a) false fun s =>
      let (tag, dead) := s.transferTag w
      let s := (s.metered r p fun s => s.put p a data tag dead).hostBytes r.fn n
      (s.modDesc w fun d => { d with done := d.done + n, crc := d.crc.map (·.add data) }).transferDone w

/-- A tile's bytes are read for a transfer. -/
def State.transferRead (s : State) (w : Issuer) (r : RingId) (p : Pid) (a n : Nat) : State :=
  let s := s.metered r p fun s => s.loaded p a n
  match w with
  | .chan m => s.readBy p (.channel m) [tileOf a]
  | _ => s

/-- The next tile of a T2H goes to the host. -/
def State.t2hPiece (s : State) (w : Issuer) (r : RingId) (d : DescRun) : State :=
  match taOperand r d.desc.src with
  | none => s
  | some (p, ta) =>
    let a := ta + d.done
    let n := pieceLen a (ta + d.desc.len.toNat)
    if s.lost r.fn then s
    else s.transferAccess w r d p (tileOf a) false fun s =>
      let b := s.load p a n
      let s := s.transferRead w r p a n
      let at_ := d.desc.dst + BitVec.ofNat 64 d.done
      let s := match w with
        | .op _ => s.dataWrite r at_ b
        | _ => s.hostWrite r.fn at_ b
      (s.modDesc w fun d => { d with done := d.done + n, crc := d.crc.map (·.add b) }).transferDone w

/-- The next access of a T2T: a write of a destination tile whose bytes have all been read, or a read of the next source tile. -/
def State.t2tPiece (s : State) (w : Issuer) (r : RingId) (d : DescRun) : State :=
  match d.desc.operands r with
  | [(p, src), (q, dst)] =>
    let len := d.desc.len.toNat
    let a := dst + d.done
    let n := pieceLen a (dst + len)
    if n ≤ d.buf.length then
      s.transferAccess w r d q (tileOf a) false fun s =>
        let (tag, dead) := s.transferTag w
        let s := s.metered r q fun s => s.put q a (d.buf.take n) tag dead
        (s.modDesc w fun d => { d with done := d.done + n, buf := d.buf.drop n }).transferDone w
    else
      let b := src + d.got
      let k := pieceLen b (src + len)
      s.transferAccess w r d p (tileOf b) false fun s =>
        let x := s.load p b k
        (s.transferRead w r p b k).modDesc w fun d =>
          { d with got := d.got + k, buf := d.buf ++ x, crc := d.crc.map (·.add x) }
  | _ => s

/-- R337: where a PLACE moves a tile; none where it skips it. -/
def State.placeTarget (s : State) (p : Pid) (x : Tile) (o : Obj) (tier : Nat) : Option Place :=
  let pl := if tier = 1 then s.placeStacked p x.num true none
    else if tier = 2 then s.toBoard else s.placeByHint p o.hint x.num true
  let stacked := pl.home.any Home.inStacked
  if o.hint = 1 || x.bound then none
  else if (tier = 1 || stacked) && o.hint = 5 then none
  else if tier = 1 && x.home.inStacked then none
  else if tier = 1 && !stacked then none
  else match pl.home with
    | none => none
    | some h => if (h.inStacked && x.home.inStacked) || (h.isBoard && x.home.isBoard) then none else some pl

/-- What starts the moves of a transfer. -/
def transferCause : Issuer → MoveCause
  | .op o => .operation o
  | .chan m => .mover m
  | _ => .resize

/-- R337: the next tile of a PLACE is skipped, moves at once, or enters MOVING. -/
def State.placeTile (s : State) (w : Issuer) (r : RingId) (d : DescRun) : State :=
  match taOperand r d.desc.src with
  | none => s
  | some (p, ta) =>
    let t := tileOf ta + d.done / tileBytes + d.skipped
    if d.moving.isSome || !s.sledUp then s
    else s.transferAccess w r d p t true fun s =>
      let past (s : State) : State := s.modDesc w fun d =>
        if d.done + d.skipped * tileBytes < d.desc.len.toNat then d else { d with ended := some (d.ended.getD (.ok, 0)) }
      match s.tile? p t, (s.prt p).mem.objOf t with
      | some x, some o =>
        match s.placeTarget p x o d.desc.tier.toNat with
        | none => past (s.modDesc w fun d => { d with skipped := d.skipped + 1 })
        | some pl =>
          let s := s.moveTo p t pl (transferCause w)
          if x.st = .resident then s.modDesc w fun d => { d with moving := some t }
          else past (s.modDesc w fun d => { d with done := d.done + tileBytes })
      | _, _ => s

/-- The next access of a transfer of this kind; `data`: the host bytes of an H2T's next tile. -/
def State.transferStep (s : State) (w : Issuer) (kind : Nat) (data : Bytes) : State :=
  match s.transfer w with
  | none => s
  | some (r, d) =>
    if d.ended.isSome || d.flushAt.isSome || d.desc.kind.toNat != kind || !s.fnRuns r.fn then s
    else match kind with
      | 0 => s.h2tPiece w r d data
      | 1 => s.t2hPiece w r d
      | 2 => s.t2tPiece w r d
      | _ =>
        if d.moving.isNone && d.desc.len.toNat ≤ d.done + d.skipped * tileBytes then
          s.modDesc w fun d => { d with ended := some (.ok, 0) }
        else s.placeTile w r d

/-- H2T (R334): the next tile of the channel's descriptor takes its bytes from host memory. -/
def execH2t (m : MovNo) (data : Bytes) (s : State) : Host.Outcome State Fault Refusal := .next (s.transferStep (.chan m) 0 data)

/-- T2H (R334): the bytes of the next tile go to host memory. -/
def execT2h (m : MovNo) (s : State) : Host.Outcome State Fault Refusal := .next (s.transferStep (.chan m) 1 [])

/-- T2T (R334): the next tile is read or written. -/
def execT2t (m : MovNo) (s : State) : Host.Outcome State Fault Refusal := .next (s.transferStep (.chan m) 2 [])

/-- PLACE (R337): the next tile is placed. -/
def execPlace (m : MovNo) (s : State) : Host.Outcome State Fault Refusal := .next (s.transferStep (.chan m) 3 [])

/-! ### Pacing (R340, R341) -/

/-- The occupancy of a ring in entries; a DISABLED ring has none. -/
def Ring.occupied (R : Ring) : Nat :=
  if R.state = .disabled then 0
  else if R.isKind 0 || R.isKind 2 then (occupancy R.sw R.dev R.size).getD 0
  else (occupancy R.dev R.sw R.size).getD 0

/-- What a read of the level brings. -/
inductive Level where
  | waits
  | failed (st : Status)
  | is (n : Nat)
  deriving DecidableEq, Repr

/-- The pacing source is a level word. -/
def MoverRing.byWord (M : MoverRing) : Bool := M.paceSrc = 2

/-- R340, R341: the level that paces a ring's channel, and the state after its read. Operator rings name no partition for a level word, so
bits [52:48] of its TA are 0; a reserved source states no level: a free value (log entry 28). -/
def State.level (s : State) (m : MovNo) (r : RingId) : Level × State :=
  let M := (s.ring r).mv
  if M.paceSrc = 1 then
    match r.sibling M.paceRing.toNat with
    | some q => (.is (s.ring q).occupied, s)
    | none => (.is 0, s)
  else if !M.byWord then (.is (s.free 32).toNat, s.took)
  else match taOperand r (M.lvl.zeroExtend 64) with
    | none => (.failed .accessFault, s)
    | some (p, ta) =>
      let t := tileOf ta
      let s := s.modChan m fun c => { c with polledAt := s.pwr.clk }
      if !s.admits r p then (.failed .accessFault, s.opDenied)
      else match (s.prt p).mem.deny false [t] with
        | some (st, _) => (.failed st, s)
        | none =>
          if s.blocked p [t] none then (.waits, s.demandFetch p t)
          else (.is (leAt (s.load p ta 4) 0 4), s.transferRead (.chan m) r p ta 4)

/-- The level holds the channel. -/
def MoverRing.holds (M : MoverRing) (l : Nat) : Bool := if M.paceInvert then l ≤ M.low.toNat else M.high.toNat ≤ l

/-- The level releases the channel. -/
def MoverRing.frees (M : MoverRing) (l : Nat) : Bool := if M.paceInvert then M.high.toNat ≤ l else l ≤ M.low.toNat

/-- R341: a failed read of a level: PACE_FAULT once since binding. -/
def State.paceFault (s : State) (m : MovNo) (r : RingId) (st : Status) : State :=
  if s.chans[m].faulted then s
  else
    (s.modChan m fun c => { c with faulted := true }).post r.fn
      ⟨0x0502, r.fn.source, BitVec.ofNat 32 (r.num + 65536 * st.code.toNat), (s.ring r).mv.lvl.zeroExtend 64⟩

/-- The channel is paced. -/
def State.pace (s : State) (m : MovNo) : State := s.modChan m fun c => { c with st := .paced }

/-- PACE_LEVEL_POLL (R341): the level word of a PACED channel is read again. -/
def State.pacePoll (s : State) (m : MovNo) : State :=
  match s.chans[m].ring with
  | none => s
  | some r =>
    let M := (s.ring r).mv
    if s.chans[m].st != .paced || !M.paceEn || !M.byWord || !s.fnWorks r.fn || s.since s.chans[m].polledAt < 2000 then s
    else match s.level m r with
      | (.is l, s) => if M.frees l then s.modChan m fun c => { c with st := .running } else s
      | (.failed st, s) => s.paceFault m r st
      | (.waits, s) => s

/-- PACE_LEVEL_POLL. -/
def execPaceLevelPoll (m : MovNo) (s : State) : Host.Outcome State Fault Refusal := .next (s.pacePoll m)

/-- PACE_RELEASE (R340): the level of a ring source, or the end of pacing, releases the channel. A level word releases it at a poll. -/
def State.paceRelease (s : State) (m : MovNo) : State :=
  match s.chans[m].ring with
  | none => s
  | some r =>
    let M := (s.ring r).mv
    if s.chans[m].st != .paced then s
    else if !M.paceEn then s.modChan m fun c => { c with st := .running }
    else if M.byWord then s
    else match s.level m r with
      | (.is l, s) => if M.frees l then s.modChan m fun c => { c with st := .running } else s
      | (_, s) => s

/-- PACE_RELEASE. -/
def execPaceRelease (m : MovNo) (s : State) : Host.Outcome State Fault Refusal := .next (s.paceRelease m)

/-- MV_PACE_WRITE (R341). -/
def State.paceWrite (s : State) (r : RingId) (v : W32) : State :=
  let R := s.ring r
  let n := v.toNat
  let src := BitVec.ofNat 2 (bitsOf n 28 2)
  if !s.open_ r.fn || !R.isKind 2 then s
  else if bitOf n 31 && (R.mv.high.toNat ≤ R.mv.low.toNat || (src = 2 && R.mv.lvl.toNat % 4 != 0)) then s
  else s.modRing r fun R =>
    { R with mv := { R.mv with paceEn := bitOf n 31, paceInvert := bitOf n 30, paceSrc := src, paceRing := BitVec.ofNat 6 n } }

/-- MV_PACE_WRITE. -/
def execMvPaceWrite (r : RingId) (v : W32) (s : State) : Host.Outcome State Fault Refusal := .next (s.paceWrite r v)

/-! ### Channels (R332, R333, R343 to R349) -/

/-- A descriptor read: its line is held, and 32 bytes are metered (R354, R363). -/
def State.descRead (s : State) (r : RingId) (at_ : W64) : State :=
  if s.lost r.fn then s else (s.hostBytes r.fn 32).cacheIn r.fn (s.newLines r.fn at_ 32)

/-- A descriptor is consumed and begins. -/
def State.descTake (s : State) (m : MovNo) (r : RingId) (at_ : W64) (b : Bytes) : State :=
  let d := descOf b
  let (e, refused) := s.descCheck r none d
  let s := ((s.descRead r at_).bellDone r).busyFn r.fn
  let s := if refused then s.opDenied else s
  s.modChan m fun c => { c with st := .running, run := some (d.begin c.chain e) }

/-- MOVER_DESCRIPTOR_START (R332, R333, R340, R348, R349): the channel takes the next descriptor handed over, unless pacing holds it. -/
def State.descStart (s : State) (r : RingId) (b : Bytes) : State :=
  match s.chanOf r with
  | none => s
  | some m =>
    let R := s.ring r
    let c := s.chans[m]
    let at_ := R.base + BitVec.ofNat 64 (32 * R.dev.idx)
    if R.state != .active || !R.queued || c.run.isSome || c.st = .halted || b.length != 32 || !s.canRead r.fn at_ 32 then s
    else if s.drains r.fn then (s.descRead r at_).writeback m r (descOf b) .cancelled 0 0 0
    else if !s.fnWorks r.fn || !s.holdRoom r.fn || c.st = .paced || s.lowerBell r then s
    else if !R.mv.paceEn then s.descTake m r at_ b
    else match s.level m r with
      | (.is l, s) => if R.mv.holds l then (s.pace m).bellDone r else s.descTake m r at_ b
      | (.failed st, s) => ((s.pace m).bellDone r).paceFault m r st
      | (.waits, s) => s

/-- MOVER_DESCRIPTOR_START. -/
def execMoverDescriptorStart (r : RingId) (desc : Bytes) (s : State) : Host.Outcome State Fault Refusal := .next (s.descStart r desc)

/-- The descriptor in execution of a channel is written back as it ended. -/
def State.descWriteback (s : State) (m : MovNo) (r : RingId) (d : DescRun) (st : Status) (detail : W32) : State :=
  let (st, detail) := d.outcome st detail
  (s.modChan m fun c => { c with chain := d.chainAfter st }).writeback m r d.desc st d.done (d.csumVal st) detail

/-- MOVER_DESCRIPTOR_END (R333, R335): the descriptor has ended, and its writeback is issued. -/
def State.descEnd (s : State) (m : MovNo) : State :=
  match s.transfer (.chan m) with
  | some (r, d) =>
    match d.ended with
    | some (st, x) => if d.moving.isNone && s.fnRuns r.fn then s.descWriteback m r d st x else s
    | none => s
  | none => s

/-- MOVER_DESCRIPTOR_END. -/
def execMoverDescriptorEnd (m : MovNo) (s : State) : Host.Outcome State Fault Refusal := .next (s.descEnd m)

/-- R348, R349: a descriptor stopped at a drain timeout is written back at once. -/
def State.descStop (s : State) (m : MovNo) (st : Status) : State :=
  match s.transfer (.chan m) with
  | some (r, d) => s.descWriteback m r d st 0
  | none => s

/-- MOVER_FLUSH_TIMEOUT (R335): the flushing read has not been answered within TNT_FENCE_TMO. -/
def State.flushTimeout (s : State) (w : Issuer) : State :=
  match s.transfer w with
  | some (r, d) =>
    match d.flushAt with
    | some t =>
      if !s.lost r.fn && s.fenceTmo r.fn * 1000000 ≤ s.since t then
        s.modDesc w fun d => { d.failed .fenceTimeout 0xF0 with flushAt := none }
      else s
    | none => s
  | none => s

/-- MOVER_FLUSH_TIMEOUT. -/
def execMoverFlushTimeout (w : Issuer) (s : State) : Host.Outcome State Fault Refusal := .next (s.flushTimeout w)

/-- MV_CTL_RESET (R346): a HALTED channel returns to FREE. -/
def execMvCtlReset (r : RingId) (s : State) : Host.Outcome State Fault Refusal :=
  .next (if !s.open_ r.fn || !(s.ring r).isKind 2 then s
    else match s.chanOf r with
      | some m => if s.chans[m].st = .halted then s.freeChan m else s
      | none => s)

/-- MOV_CH_KILL (R347): the operator halts a bound channel. -/
def execMovChKill (m : MovNo) (s : State) : Host.Outcome State Fault Refusal :=
  .next (if s.pfOpen && s.chans[m].bound && s.chans[m].st != .halted then s.haltChan m 1 else s)

/-- The quotas of the partitions that hold resources. -/
def State.quotasHeld (s : State) : Nat :=
  ((List.finRange 16).map fun p => if (s.life p).st.holds then s.quotaOf (.vf p) else 0).sum

/-- MOV_QUOTA_WRITE (R328); a value above 32 acts as 32 (log entry 28). -/
def State.quotaWrite (s : State) (k : Fin 17) (v : W32) : State :=
  let n := min 32 (v.toNat % 64)
  let put : State := { s with movQuota := s.movQuota.set k.val (BitVec.ofNat 6 n) k.isLt }
  if !s.pfOpen then s
  else if h : k.val < 16 then
    if (s.life ⟨k.val, h⟩).st = .empty || (s.life ⟨k.val, h⟩).st = .configuring then put else s
  else if 32 < s.quotasHeld + n || n < s.chansHeld .pf then s
  else put

/-- MOV_QUOTA_WRITE. -/
def execMovQuotaWrite (k : Fin 17) (v : W32) (s : State) : Host.Outcome State Fault Refusal := .next (s.quotaWrite k v)

/-! ### XFER (R350, R351) -/

/-- An XFER starts: its descriptor image is checked. -/
def State.xferStart (s : State) (o : OpRef) (k : Cmd) (op : ListOp) : State :=
  let d := descOf (op.body.take 32)
  let (e, refused) := s.descCheck o.cmd.ring (some (op.field 40 8)) d
  let prev := k.run.bind (·.chain)
  let s := if refused then s.opDenied else s
  s.opBegin o { s.newOp o op [] with desc := some (d.begin prev e) }

/-- An XFER ends: its writeback form is written where WB_IOVA says, and the operation ends. -/
def State.xferEnd (s : State) (o : OpRef) (a : ActiveOp) (d : DescRun) (st : Status) (detail : W32) : State :=
  let fn := o.cmd.ring.fn
  let wb := a.op.field 40 8
  let (st, detail) := d.outcome st detail
  if wb != 0 && wb % 32 = 0 && s.lost fn then s.modOp o fun a => { a with wait := some .write }
  else
    let s := if wb = 0 || wb % 32 != 0 then s
      else (s.dataWrite o.cmd.ring (BitVec.ofNat 64 wb) (d.desc.writeback st d.done (d.csumVal st) detail)).countBad fn st
    (s.modRun o.cmd fun r => { r with chain := d.chainAfter st }).opEnd o st detail

/-- XFER (R351): it starts, makes its next access, or ends. -/
def State.xfer (s : State) (o : OpRef) (data : Bytes) : State :=
  match s.nextOp o 5 1, s.activeOp o with
  | some (k, op), _ => s.xferStart o k op
  | none, some (_, a) =>
    match a.desc with
    | none => s
    | some d =>
      match d.ended with
      | some (st, x) => if d.moving.isNone && s.fnRuns o.cmd.ring.fn then s.xferEnd o a d st x else s
      | none => s.transferStep (.op o) d.desc.kind.toNat data
  | none, none => s

/-- XFER. -/
def execXfer (o : OpRef) (data : Bytes) (s : State) : Host.Outcome State Fault Refusal := .next (s.xfer o data)

/-! ### Refused host requests (R60, R106, R114, R342) -/

/-- R342: a host request of a transfer fails at byte `off` of its range; or its flushing read does, for which no rule states a DETAIL: a free
value (log entry 28). -/
def State.transferError (s : State) (w : Issuer) (off : Nat) : State :=
  match s.transfer w with
  | none => s
  | some (r, d) =>
    if s.lost r.fn || d.ended.isSome then s
    else if d.flushAt.isSome then
      let x := s.free 32
      s.took.modDesc w fun d => { d.failed .busError x with flushAt := none }
    else if (d.desc.kind = 0 || d.desc.kind = 1) && d.done ≤ off && off < d.desc.len.toNat then
      s.modDesc w fun d => d.failed .busError (BitVec.ofNat 32 (off / 4096 * 4096))
    else s

/-- A command's host request fails: a list read, a flushing read, or the write of a record. -/
def State.cmdRequestError (s : State) (c : CmdRef) : State :=
  match s.cmd? c with
  | none => s
  | some k =>
    if s.lost c.ring.fn then s
    else match k.stage with
      | .preFlush _ => if k.cancelled then s else (s.complete c false .busError 0).noteReady c.ring.fn
      | .postFlush _ _ _ => s.conclude c .busError 0
      | .started =>
        if (k.hdr.engine != 0 && k.hdr.opc = 0x80) || (k.hdr.engine = 4 && k.hdr.opc = 0x43) then s.finish c .busError 0 else s
      | .running => match c.ring with
        | .vf p _ => s.modUpd p fun u => if u.cmd = c then { u with recBad := true } else u
        | .pf _ => s
      | _ => s

/-- An operation's host request fails. -/
def State.opRequestError (s : State) (o : OpRef) (off : Nat) : State :=
  match s.nextOp o 0 0x84, s.nextOp o 0 0x85, s.activeOp o with
  | some _, _, _ => if s.lost o.cmd.ring.fn then s else s.opInstant o .busError 0
  | _, some _, _ => if s.lost o.cmd.ring.fn then s else s.opInstant o .busError 0
  | _, _, some _ => s.transferError (.op o) off
  | _, _, _ => s

/-- HOST_REQUEST_ERROR (R60): the host completes a request of the issuer with UR or CA, or lets it time out; `off`: where in the range of a
transfer the request lies. -/
def execHostRequestError (w : Issuer) (off : Nat) (s : State) : Host.Outcome State Fault Refusal :=
  .next (match w with
    | .cmd c => s.cmdRequestError c
    | .op o => s.opRequestError o off
    | .chan m => s.transferError (.chan m) off
    | _ => s)

end Sys2Proof.Machine
end

