-- ==== Sys2Proof/Machine/Dense.lean ====
section
/-! DEFINITION. Machine/Dense.lean: the arithmetic of batched dense solves: LU, Cholesky, Householder QR and triangular solves, with the
pivot rule (R309 to R313). -/

namespace Sys2Proof.Machine

/-- A matrix of values, row by row. -/
abbrev Mtx := List (List Val)

/-- Element (r, c). -/
def Mtx.at_ (a : Mtx) (r c : Nat) : Val := (a.getD r []).getD c Val.zero

/-- The matrix with element (r, c) replaced. -/
def Mtx.put (a : Mtx) (r c : Nat) (v : Val) : Mtx := a.set r ((a.getD r []).set c v)

/-- A matrix of `m` rows and `n` columns. -/
def Mtx.make (m n : Nat) (f : Nat → Nat → Val) : Mtx := (List.range m).map fun r => (List.range n).map fun c => f r c

/-- R309: the exact sum of exact products, rounded once. -/
def sumProd (l : List (Val × Val)) : Val := rn32 (Val.sum (l.map fun x => x.1.mul x.2))

/-- R309: the sum over `j` in [lo, hi), in the order written. -/
def sumOver (lo hi : Nat) (f : Nat → Val × Val) : Val := sumProd ((List.range (hi - lo)).map fun j => f (lo + j))

/-- RN(a / b). -/
def rdiv (a b : Val) : Val := fp32.div a b

/-- R309: sign(x) times v. -/
def withSign (x v : Val) : Val := if x.isNeg then v.neg else v

/-! ### Pivots (R310) -/

/-- What the pivot rule has met in one problem. -/
structure Pivots where
  ntiny : Nat
  first : Option Nat
  pmin  : Option Val
  bad   : Bool

/-- No pivot tested yet. -/
def Pivots.init : Pivots := ⟨0, none, none, false⟩

/-- A tested magnitude counts for PMIN. -/
def Pivots.test (x : Pivots) (q : Val) : Pivots :=
  { x with pmin := some (match x.pmin with | some m => if q.abs.lt m then q.abs else m | none => q.abs) }

/-- A replacement at step `k`. -/
def Pivots.tiny (x : Pivots) (k : Nat) : Pivots := { x with ntiny := x.ntiny + 1, first := some (x.first.getD k) }

/-- R310: q is tiny: zero, or below the threshold. -/
def isTiny (q thr : Val) : Bool := q.isZero || q.abs.lt thr

/-- R310: pivot(q, k) for LU, TRSM and QR: the state of the rule, and whether q was replaced. -/
def Pivots.pivot (x : Pivots) (q thr : Val) (k : Nat) : Pivots × Bool :=
  if !q.isFin then ({ x with bad := true }, false)
  else if isTiny q thr then ((x.test q).tiny k, true)
  else (x.test q, false)

/-- The fields of a DENSE operation that its arithmetic uses (Table 11-2). -/
structure DenseK where
  n     : Nat
  m     : Nat
  nrhs  : Nat
  tauRel : Val
  tauAbs : Val
  delta : Val
  upper : Bool
  trans : Bool
  unit_ : Bool

/-- thr_k from the elements of its column. -/
def DenseK.thr (K : DenseK) (col : List Val) : Val :=
  let c := (col.filter (·.isFin)).foldl (fun (a v : Val) => if a.lt v.abs then v.abs else a) Val.zero
  (rmul K.tauRel c).max K.tauAbs

/-! ### LU (R309) -/

/-- A factorisation under way: the matrix, the pivot rows or the τ values, and the pivots. -/
structure Factor where
  a   : Mtx
  piv : List Nat
  tau : List Val
  pv  : Pivots

/-- Exchange two rows. -/
def Mtx.swap (a : Mtx) (r k : Nat) : Mtx := (a.set k (a.getD r [])).set r (a.getD k [])

/-- R309: the pivot row of step `k`: the largest magnitude, a NaN highest, the lowest row on ties. -/
def luRow (a : Mtx) (n k : Nat) : Nat :=
  (List.range (n - k)).foldl (fun r i =>
    if topKey (a.at_ r k) < topKey (a.at_ (k + i) k) then k + i else r) k

/-- One elimination step of LU with pivot value already in place. -/
def luEliminate (a : Mtx) (n k : Nat) : Mtx :=
  (List.range (n - k - 1)).foldl (fun a di =>
    let i := k + 1 + di
    let l := rdiv (a.at_ i k) (a.at_ k k)
    let row := (a.getD i []).mapIdx fun j v => if j = k then l else if k < j then rsub v (rmul l (a.at_ k j)) else v
    a.set i row) a

/-- Step `k` of LU; `thr` gives thr_k. -/
def luStep (K : DenseK) (thr : Nat → Val) (F : Factor) (k : Nat) : Factor :=
  if F.pv.bad then F
  else
    let r := luRow F.a K.n k
    let a := F.a.swap r k
    let q := a.at_ k k
    let (pv, rep) := F.pv.pivot q (thr k) k
    if pv.bad then { F with a := a, pv := pv }
    else
      let a := if rep then a.put k k (withSign q K.delta) else a
      { F with a := luEliminate a K.n k, piv := F.piv ++ [r], pv := pv }

/-- LU of a matrix. -/
def luFactor (K : DenseK) (a : Mtx) : Factor :=
  (List.range K.n).foldl (luStep K fun k => K.thr ((List.range K.n).map fun i => a.at_ i k)) ⟨a, [], [], Pivots.init⟩

/-! ### Cholesky (R309) -/

/-- Step `k` of Cholesky: `a` is the input, `F.a` holds L. -/
def cholStep (K : DenseK) (a : Mtx) (F : Factor) (k : Nat) : Factor :=
  if F.pv.bad then F
  else
    let l := F.a
    let d := rsub (a.at_ k k) (sumOver 0 k fun j => (l.at_ k j, l.at_ k j))
    let col := (List.range K.n).map fun i => if i < k then a.at_ k i else a.at_ i k
    let above := d.isFin && !d.isNeg && !d.isZero || d = .inf false
    let q := fp32.sqrt d
    if d = .nan || (above && !q.isFin) then { F with pv := { F.pv with bad := true } }
    else
      let q := if above then q else Val.zero
      let rep := !above || isTiny q (K.thr col)
      let pv := if rep then (F.pv.test q).tiny k else F.pv.test q
      let v := if rep then K.delta else q
      let l := l.put k k v
      let l := (List.range (K.n - k - 1)).foldl (fun l di =>
        let i := k + 1 + di
        l.put i k (rdiv (rsub (a.at_ i k) (sumOver 0 k fun j => (l.at_ i j, l.at_ k j))) v)) l
      { F with a := l, pv := pv }

/-- Cholesky of the lower triangle of a matrix: +0 above the diagonal (R308). -/
def cholFactor (K : DenseK) (a : Mtx) : Factor :=
  (List.range K.n).foldl (cholStep K a) ⟨Mtx.make K.n K.n fun _ _ => Val.zero, [], [], Pivots.init⟩

/-! ### Householder QR (R309) -/

/-- Apply the reflection of step `k` to a column of M elements. -/
def reflect (K : DenseK) (a : Mtx) (tau : Val) (k : Nat) (col : List Val) : List Val :=
  let at_ (i : Nat) : Val := col.getD i Val.zero
  let w := radd (at_ k) (sumOver (k + 1) K.m fun i => (a.at_ i k, at_ i))
  let t := rmul tau w
  col.mapIdx fun i v => if i = k then rsub v t else if k < i then rsub v (rmul t (a.at_ i k)) else v

/-- Step `k` of QR. -/
def qrStep (K : DenseK) (thr : Nat → Val) (F : Factor) (k : Nat) : Factor :=
  if F.pv.bad then F
  else
    let a := F.a
    let x0 := a.at_ k k
    let nrm := fp32.sqrt (sumOver k K.m fun i => (a.at_ i k, a.at_ i k))
    let alpha := (withSign x0 nrm).neg
    let (pv, rep) := F.pv.pivot nrm (thr k) k
    let setCol (v : Nat → Val) : Mtx := a.mapIdx fun i row => if k ≤ i then row.set k (v i) else row
    if pv.bad then { F with pv := pv }
    else if rep then
      { F with a := setCol fun i => if i = k then (withSign x0 K.delta).neg else Val.zero, tau := F.tau ++ [Val.zero], pv := pv }
    else
      let tau := rdiv (rsub alpha x0) alpha
      let c := rsub x0 alpha
      let a := setCol fun i => if i = k then alpha else rdiv (a.at_ i k) c
      let cols := (List.range K.n).map fun j =>
        let col := (List.range K.m).map fun i => a.at_ i j
        if k < j then reflect K a tau k col else col
      { F with a := Mtx.make K.m K.n fun i j => (cols.getD j []).getD i Val.zero, tau := F.tau ++ [tau], pv := pv }

/-- QR of a matrix. -/
def qrFactor (K : DenseK) (a : Mtx) : Factor :=
  (List.range K.n).foldl (qrStep K fun k => K.thr ((List.range K.m).map fun i => a.at_ i k)) ⟨a, [], [], Pivots.init⟩

/-! ### Substitution (R309) -/

/-- One row of a substitution: `done` holds the solved x. -/
def substRow (t : Nat → Nat → Val) (unit_ : Bool) (y : List Val) (js : List Nat) (x : List Val) (i : Nat) : List Val :=
  let v := rsub (y.getD i Val.zero) (sumProd (js.map fun j => (t i j, x.getD j Val.zero)))
  x.set i (if unit_ then v else rdiv v (t i i))

/-- Forward substitution with a lower triangle. -/
def forwardSub (n : Nat) (t : Nat → Nat → Val) (unit_ : Bool) (y : List Val) : List Val :=
  (List.range n).foldl (fun x i => substRow t unit_ y (List.range i) x i) y

/-- Back substitution with an upper triangle. -/
def backSub (n : Nat) (t : Nat → Nat → Val) (unit_ : Bool) (y : List Val) : List Val :=
  (List.range n).foldl (fun x di =>
    let i := n - 1 - di
    substRow t unit_ y ((List.range (n - 1 - i)).map (i + 1 + ·)) x i) y

/-- Solve one column with LU factors. -/
def luSolve (n : Nat) (F : Factor) (b : List Val) : List Val :=
  let y := (List.range n).foldl (fun (y : List Val) k =>
    let r := F.piv.getD k k
    (y.set k (y.getD r Val.zero)).set r (y.getD k Val.zero)) b
  backSub n F.a.at_ false (forwardSub n F.a.at_ true y)

/-- Solve one column with a Cholesky factor. -/
def cholSolve (n : Nat) (F : Factor) (b : List Val) : List Val :=
  backSub n (fun i j => F.a.at_ j i) false (forwardSub n F.a.at_ false b)

/-- Solve one column in the least-squares sense with QR factors. -/
def qrSolve (K : DenseK) (F : Factor) (b : List Val) : List Val :=
  let y := (List.range K.n).foldl (fun y k => reflect K F.a (F.tau.getD k Val.zero) k y) b
  (backSub K.n F.a.at_ false (y.take K.n)).take K.n

/-- TRSM: the diagonal after the pivot rule, and the pivots. -/
def trsmDiag (K : DenseK) (t : Mtx) : List Val × Pivots :=
  let col (k : Nat) : List Val :=
    ((List.range K.n).filter fun i => if K.upper then i ≤ k else k ≤ i).map fun i => t.at_ i k
  (List.range K.n).foldl (fun (x : List Val × Pivots) k =>
    let q := t.at_ k k
    if K.unit_ then (x.1 ++ [q], x.2)
    else if x.2.bad then (x.1 ++ [q], x.2)
    else
      let (pv, rep) := x.2.pivot q (K.thr (col k)) k
      (x.1 ++ [if rep then withSign q K.delta else q], pv)) ([], Pivots.init)

/-- TRSM: one column. -/
def trsmSolve (K : DenseK) (t : Mtx) (diag : List Val) (b : List Val) : List Val :=
  let e (i j : Nat) : Val := if i = j then diag.getD i Val.zero else if K.trans then t.at_ j i else t.at_ i j
  if K.upper != K.trans then backSub K.n e K.unit_ b else forwardSub K.n e K.unit_ b

/-! ### A problem -/

/-- What a problem yields: its factor, its auxiliary record, its solution's columns, and its pivots. -/
structure DenseOut where
  f   : Option Mtx
  aux : Option Bytes
  x   : List (List Val)
  pv  : Pivots

/-- R309: one problem; `cols`: its right-hand sides, none where it does not solve. -/
def denseProblem (alg : Nat) (K : DenseK) (a : Mtx) (cols : List (List Val)) : DenseOut :=
  match alg with
  | 0 =>
    let F := luFactor K a
    ⟨some F.a, some ((F.piv.map fun r => BitVec.ofNat 8 r) ++ List.replicate (512 - K.n) 0), cols.map (luSolve K.n F), F.pv⟩
  | 1 => let F := cholFactor K a; ⟨some F.a, none, cols.map (cholSolve K.n F), F.pv⟩
  | 2 =>
    let F := qrFactor K a
    ⟨some F.a, some ((F.tau.flatMap fun v => leVec 4 v.bits32) ++ List.replicate (512 - 4 * K.n) 0), cols.map (qrSolve K F), F.pv⟩
  | _ =>
    let (d, pv) := trsmDiag K a
    ⟨none, none, cols.map (trsmSolve K a d), pv⟩

end Sys2Proof.Machine
end

