-- ==== Sys2Proof/Machine/Sparse.lean ====
section
/-! DEFINITION. Machine/Sparse.lean: solver schedules and the arithmetic of sparse solves: CG, BiCGStab and GMRES (R314 to R323). -/

namespace Sys2Proof.Machine

/-! ### Schedules (R314, R315) -/

/-- A schedule's header fields (Table 11-4). -/
structure SchedHdr where
  pb    : Nat
  n     : Nat
  nnz   : Nat
  nval  : Nat
  nslab : Nat
  slab  : Nat
  col   : Nat
  diag  : Nat
  blk   : Nat
  len   : Nat

/-- Table 11-4. -/
def schedHdr (b : Bytes) : SchedHdr :=
  { pb := leAt b 6 1, n := leAt b 8 4, nnz := leAt b 12 4, nval := leAt b 16 4, nslab := leAt b 20 4, slab := leAt b 24 4,
    col := leAt b 28 4, diag := leAt b 32 4, blk := leAt b 36 4, len := leAt b 40 4 }

/-- The number of blocks of PB rows. -/
def SchedHdr.blocks (h : SchedHdr) : Nat := (h.n + h.pb - 1) / h.pb

/-- The header fields are in their ranges. -/
def SchedHdr.ok (h : SchedHdr) (b : Bytes) : Bool :=
  leAt b 0 4 = 0x54434853 && leAt b 4 2 = 1 && 1 ≤ h.pb && h.pb ≤ 32 && leAt b 7 1 = 0 && 1 ≤ h.n && h.n ≤ 16777216
    && 1 ≤ h.nnz && h.nnz ≤ h.nval && h.nval ≤ 2 ^ 28 && h.nslab = (h.n + 63) / 64 && h.slab % 16 = 0 && h.col % 4 = 0
    && h.diag % 4 = 0 && h.blk % 4 = 0 && (h.pb ≠ 1 || h.blk = 0) && zeroIn b 48 64

/-- The regions of a schedule: offset and length. -/
def SchedHdr.regions (h : SchedHdr) : List (Nat × Nat) :=
  [(0, 64), (h.slab, 16 * h.nslab), (h.col, 4 * h.nval), (h.diag, 4 * h.n)]
    ++ if 2 ≤ h.pb then [(h.blk, 4 * h.blocks * h.pb * h.pb)] else []

/-- The slab entry of slab `i`: NROWS, WIDTH, SLOT_BASE. -/
def slabAt (b : Bytes) (h : SchedHdr) (i : Nat) : Nat × Nat × Nat :=
  let o := h.slab + 16 * i
  (leAt b (o + 4) 1, leAt b (o + 6) 2, leAt b (o + 8) 4)

/-- The slots of row `r`, by ascending width position. -/
def rowSlots (b : Bytes) (h : SchedHdr) (r : Nat) : List Nat :=
  let (nrows, width, base) := slabAt b h (r / 64)
  (List.range width).map fun w => base + w * nrows + r % 64

/-- The column of a slot; none for padding. -/
def slotCol (b : Bytes) (h : SchedHdr) (t : Nat) : Option Nat :=
  let c := leAt b (h.col + 4 * t) 4
  if c = 0xFFFFFFFF then none else some c

/-- The slot and column of every element of a row. -/
def rowElems (b : Bytes) (h : SchedHdr) (r : Nat) : List (Nat × Nat) :=
  (rowSlots b h r).filterMap fun t => (slotCol b h t).map (t, ·)

/-- R315: the slab chain. -/
def slabsOk (b : Bytes) (h : SchedHdr) : Bool :=
  let ends := (List.range h.nslab).foldl (fun (x : Bool × Nat) i =>
    let o := h.slab + 16 * i
    let (nrows, width, base) := slabAt b h i
    (x.1 && leAt b o 4 = 64 * i && nrows = min 64 (h.n - 64 * i) && leAt b (o + 5) 1 = 0 && base = x.2 && zeroIn b (o + 12) (o + 16),
     base + nrows * width)) (true, 0)
  ends.1 && ends.2 = h.nval

/-- R315: columns. -/
def colsOk (b : Bytes) (h : SchedHdr) : Bool :=
  let rows := (List.range h.n).map (rowElems b h)
  rows.all (fun es => es.all (fun e => e.2 < h.n) && (es.map (·.2)).eraseDups.length = es.length)
    && (rows.map (·.length)).sum = h.nnz

/-- R315: an entry is absent, or names a slot of row `r` and column `c`. -/
def entryOk (b : Bytes) (h : SchedHdr) (e r c : Nat) : Bool := e = 0xFFFFFFFF || (rowElems b h r).contains (e, c)

/-- The entry (i, j) of block `k`. -/
def blkEntry (b : Bytes) (h : SchedHdr) (k i j : Nat) : Nat := leAt b (h.blk + 4 * (k * h.pb * h.pb + i * h.pb + j)) 4

/-- R315: the diagonal and the block tables. -/
def tablesOk (b : Bytes) (h : SchedHdr) : Bool :=
  (List.range h.n).all (fun i => entryOk b h (leAt b (h.diag + 4 * i) 4) i i)
    && (h.pb = 1 || (List.range h.blocks).all fun k => (List.range h.pb).all fun i => (List.range h.pb).all fun j =>
      let r := k * h.pb + i
      let c := k * h.pb + j
      let e := blkEntry b h k i j
      if h.n ≤ r || h.n ≤ c then e = 0xFFFFFFFF
      else entryOk b h e r c && (e != 0xFFFFFFFF || !(rowElems b h r).any (·.2 = c)))

/-- Two regions of bytes meet. -/
def bytesMeet (a b : Nat × Nat) : Bool := a.1 < b.1 + b.2 && b.1 < a.1 + a.2

/-- Some two regions of a list meet. -/
def anyBytesMeet : List (Nat × Nat) → Bool
  | [] => false
  | x :: r => r.any (bytesMeet x) || anyBytesMeet r

/-- R315: the checks of SCHED_REG on the bytes of a schedule. -/
def schedOk (b : Bytes) : Bool :=
  let h := schedHdr b
  h.ok b && h.len = b.length && h.regions.all (fun x => x.1 + x.2 ≤ h.len) && !anyBytesMeet h.regions
    && leAt b 44 4 = (crc32c (b.take 44 ++ [0, 0, 0, 0] ++ b.drop 48)).toNat && slabsOk b h && colsOk b h && tablesOk b h

/-! ### Vectors (R319) -/

/-- An exact dot product, rounded once. -/
def vdot (a b : List Val) : Val := sumProd (a.zip b)
/-- R319: a norm. -/
def vnorm (a : List Val) : Val := fp32.sqrt (vdot a a)
/-- a + k × b, each operation rounded. -/
def vaxpy (k : Val) (b a : List Val) : List Val := (a.zip b).map fun x => radd x.1 (rmul k x.2)
/-- a − k × b, each operation rounded. -/
def vaxmy (k : Val) (b a : List Val) : List Val := (a.zip b).map fun x => rsub x.1 (rmul k x.2)
/-- a − b. -/
def vsub (a b : List Val) : List Val := (a.zip b).map fun x => rsub x.1 x.2

/-- A system: its matrix by rows of (value, column), and its preconditioner's application. -/
structure Sys where
  n    : Nat
  rows : List (List (Val × Nat))
  minv : List Val → List Val

/-- R319: a matrix-vector product. -/
def Sys.mul (S : Sys) (x : List Val) : List Val :=
  S.rows.map fun es => es.foldl (fun acc e => radd acc (rmul e.1 (x.getD e.2 Val.zero))) Val.zero

/-- The matrix of a system. -/
def sysRows (b : Bytes) (h : SchedHdr) (val : Nat → Val) : List (List (Val × Nat)) :=
  (List.range h.n).map fun r => (rowElems b h r).map fun e => (val e.1, e.2)

/-- R320: the preconditioner's application; none where it is singular. -/
def precond (prec : Nat) (b : Bytes) (h : SchedHdr) (val : Nat → Val) : Option (List Val → List Val) :=
  let elem (e : Nat) : Val := if e = 0xFFFFFFFF then Val.zero else val e
  match prec with
  | 0 => some id
  | 1 =>
    let ds := (List.range h.n).map fun i => elem (leAt b (h.diag + 4 * i) 4)
    let inv := ds.map fun d => rdiv Val.one d
    if ds.any (·.isZero) || inv.any (fun v => !v.isFin) then none
    else some fun r => (inv.zip r).map fun x => rmul x.1 x.2
  | _ =>
    let facs := (List.range h.blocks).map fun k =>
      let m := min h.pb (h.n - k * h.pb)
      let K : DenseK := ⟨m, m, 0, Val.zero, Val.zero, Val.zero, false, false, false⟩
      let a := Mtx.make m m fun i j => if h.pb = 1 then elem (leAt b (h.diag + 4 * k) 4) else elem (blkEntry b h k i j)
      (m, luFactor K a)
    if facs.any fun f => f.2.pv.bad || f.2.pv.ntiny != 0 then none
    else some fun r => (facs.foldl (fun (x : List Val × List Val) f =>
      (x.1 ++ luSolve f.1 f.2 (x.2.take f.1), x.2.drop f.1)) ([], r)).1

/-! ### Iterations (R321, R322) -/

/-- How a system ended. -/
inductive SolveEnd where
  | converged | notConverged
  | breakdown (cause : Nat)
  deriving DecidableEq, Repr

/-- The result of a solve: how it ended, the iterate of the last completed iteration, ITERS and the residual norm last tested. -/
structure SolveRes where
  how   : SolveEnd
  x     : List Val
  iters : Nat
  est   : Option Val

/-- The first scalar that is not finite ends the system. -/
def anyBad (l : List Val) : Bool := l.any fun v => !v.isFin

/-- The values CG carries from iteration to iteration. -/
structure CgSt where
  x   : List Val
  r   : List Val
  p   : List Val
  rho : Val
  est : Option Val

/-- v ≤ target. -/
def atMost (v target : Val) : Bool := !target.lt v

/-- CG from iteration `k`. -/
def cgLoop (S : Sys) (target : Val) (maxit : Nat) : Nat → Nat → CgSt → SolveRes
  | 0, k, c => ⟨.notConverged, c.x, k, c.est⟩
  | fuel + 1, k, c =>
    let nr := vnorm c.r
    if !nr.isFin then ⟨.breakdown 1, c.x, k, c.est⟩
    else if atMost nr target then ⟨.converged, c.x, k, some nr⟩
    else if k = maxit then ⟨.notConverged, c.x, k, some nr⟩
    else if atMost c.rho Val.zero then ⟨.breakdown 2, c.x, k, some nr⟩
    else
      let q := S.mul c.p
      let sigma := vdot c.p q
      if !sigma.isFin then ⟨.breakdown 1, c.x, k, some nr⟩
      else if atMost sigma Val.zero then ⟨.breakdown 2, c.x, k, some nr⟩
      else
        let alpha := rdiv c.rho sigma
        let x := vaxpy alpha c.p c.x
        let r := vaxmy alpha q c.r
        let z := S.minv r
        let rho2 := vdot r z
        let beta := rdiv rho2 c.rho
        if anyBad [alpha, rho2, beta] then ⟨.breakdown 1, c.x, k, some nr⟩
        else cgLoop S target maxit fuel (k + 1) ⟨x, r, vaxpy beta c.p z, rho2, some nr⟩

/-- CG. -/
def cgSolve (S : Sys) (b x0 : List Val) (target : Val) (maxit : Nat) : SolveRes :=
  let r := vsub b (S.mul x0)
  let z := S.minv r
  let rho := vdot r z
  if !rho.isFin then ⟨.breakdown 1, x0, 0, none⟩ else cgLoop S target maxit (maxit + 1) 0 ⟨x0, r, z, rho, none⟩

/-- The values BiCGStab carries from iteration to iteration. -/
structure BiSt where
  x     : List Val
  r     : List Val
  p     : List Val
  v     : List Val
  rho0  : Val
  alpha : Val
  omega : Val
  est   : Option Val

/-- BiCGStab from iteration `k`; `rh`: the first residual. -/
def biLoop (S : Sys) (rh : List Val) (target : Val) (maxit : Nat) : Nat → Nat → BiSt → SolveRes
  | 0, k, c => ⟨.notConverged, c.x, k, c.est⟩
  | fuel + 1, k, c =>
    let nr := vnorm c.r
    let stop (e : SolveEnd) (t : Val) : SolveRes := ⟨e, c.x, k, some t⟩
    if !nr.isFin then ⟨.breakdown 1, c.x, k, c.est⟩
    else if atMost nr target then stop .converged nr
    else if k = maxit then stop .notConverged nr
    else
      let rho := vdot rh c.r
      if !rho.isFin then stop (.breakdown 1) nr
      else if rho.isZero then stop (.breakdown 3) nr
      else
        let beta := rmul (rdiv rho c.rho0) (rdiv c.alpha c.omega)
        let p := vaxpy beta (vaxmy c.omega c.v c.p) c.r
        let y := S.minv p
        let v := S.mul y
        let sigma := vdot rh v
        if anyBad [beta, sigma] then stop (.breakdown 1) nr
        else if sigma.isZero then stop (.breakdown 4) nr
        else
          let alpha := rdiv rho sigma
          let s := vaxmy alpha v c.r
          let ns := vnorm s
          if anyBad [alpha, ns] then stop (.breakdown 1) nr
          else if atMost ns target then ⟨.converged, vaxpy alpha y c.x, k + 1, some ns⟩
          else
            let z := S.minv s
            let t := S.mul z
            let tt := vdot t t
            if !tt.isFin then stop (.breakdown 1) ns
            else if tt.isZero then stop (.breakdown 5) ns
            else
              let omega := rdiv (vdot t s) tt
              if anyBad [vdot t s, omega] then stop (.breakdown 1) ns
              else if omega.isZero then stop (.breakdown 5) ns
              else biLoop S rh target maxit fuel (k + 1)
                ⟨vaxpy omega z (vaxpy alpha y c.x), vaxmy omega t s, p, v, rho, alpha, omega, some ns⟩

/-- BiCGStab. -/
def biSolve (S : Sys) (b x0 : List Val) (target : Val) (maxit : Nat) : SolveRes :=
  let r := vsub b (S.mul x0)
  let zero := List.replicate S.n Val.zero
  biLoop S r target maxit (maxit + 1) 0 ⟨x0, r, zero, zero, Val.one, Val.one, Val.one, none⟩

/-- The state of a GMRES cycle: the basis, the rotations, the rotated columns and g; how it must stop. -/
structure GmSt where
  vs   : List (List Val)
  rots : List (Val × Val)
  cols : List (List Val)
  g    : List Val
  k    : Nat
  est  : Val
  past : Bool
  bad  : Bool

/-- Modified Gram–Schmidt of `w` against the basis, in ascending order: the coefficients and what is left. -/
def gramSchmidt (vs : List (List Val)) (w : List Val) : List Val × List Val :=
  vs.foldl (fun (x : List Val × List Val) v =>
    let h := vdot x.2 v
    (x.1 ++ [h], vaxmy h v x.2)) ([], w)

/-- A rotation (c, s) applied to two values. -/
def rotate (r : Val × Val) (a b : Val) : Val × Val :=
  (radd (rmul r.1 a) (rmul r.2 b), rsub (rmul r.1 b) (rmul r.2 a))

/-- R321: the rotation for two values. Its cosine and sine are free functions of them (log entry 27). -/
def givens (a b : Val) : Val × Val := let r := Config.givens a.bits32 b.bits32; (val32 r.1, val32 r.2)

/-- The earlier rotations applied to a column. -/
def rotateAll (rots : List (Val × Val)) (h : List Val) : List Val :=
  (rots.zip (List.range rots.length)).foldl (fun (h : List Val) x =>
    let (a, b) := rotate x.1 (h.getD x.2 Val.zero) (h.getD (x.2 + 1) Val.zero)
    (h.set x.2 a).set (x.2 + 1) b) h

/-- One Arnoldi step of GMRES. -/
def gmStep (S : Sys) (target : Val) (maxit : Nat) (c : GmSt) : GmSt :=
  if c.past || c.bad then c
  else
    let v := c.vs.getLastD []
    let (hs, w) := gramSchmidt c.vs (S.mul (S.minv v))
    let hn := vnorm w
    let j := c.cols.length
    if anyBad (hs ++ [hn]) then { c with bad := true }
    else
      let h := rotateAll c.rots (hs ++ [hn])
      let rot := givens (h.getD j Val.zero) (h.getD (j + 1) Val.zero)
      let (top, _) := rotate rot (h.getD j Val.zero) (h.getD (j + 1) Val.zero)
      let (g0, g1) := rotate rot (c.g.getD j Val.zero) Val.zero
      let est := g1.abs
      if anyBad [rot.1, rot.2, top, g0, g1] || anyBad h then { c with bad := true }
      else
        let past := atMost est target || hn.isZero || c.k + 1 = maxit
        { c with vs := if past then c.vs else c.vs ++ [w.map fun x => rdiv x hn], rots := c.rots ++ [rot],
                 cols := c.cols ++ [(h.take j) ++ [top]], g := (c.g.take j) ++ [g0, g1], k := c.k + 1, est := est, past := past }

/-- GMRES(m) from the head of a cycle. -/
def gmLoop (S : Sys) (b : List Val) (m : Nat) (target : Val) (maxit : Nat) :
    Nat → Nat → List Val → Option Val → SolveRes
  | 0, k, x, est => ⟨.notConverged, x, k, est⟩
  | fuel + 1, k, x, est =>
    let r := vsub b (S.mul x)
    let beta := vnorm r
    if !beta.isFin then ⟨.breakdown 1, x, k, est⟩
    else if atMost beta target then ⟨.converged, x, k, some beta⟩
    else if k = maxit then ⟨.notConverged, x, k, some beta⟩
    else
      let c := (List.range m).foldl (fun c _ => gmStep S target maxit c)
        ⟨[r.map fun v => rdiv v beta], [], [], [beta], k, beta, false, false⟩
      if c.bad then ⟨.breakdown 1, x, c.k, some c.est⟩
      else
        let j := c.cols.length
        let R (i l : Nat) : Val := (c.cols.getD l []).getD i Val.zero
        if (List.range j).any fun i => (R i i).isZero then ⟨.breakdown 7, x, c.k, some c.est⟩
        else
          let y := backSub j R false (c.g.take j)
          if anyBad (y.take j) then ⟨.breakdown 1, x, c.k, some c.est⟩
          else
            let u := (List.range S.n).map fun i =>
              (List.range j).foldl (fun acc l => radd acc (rmul ((c.vs.getD l []).getD i Val.zero) (y.getD l Val.zero))) Val.zero
            gmLoop S b m target maxit fuel c.k ((x.zip (S.minv u)).map fun z => radd z.1 z.2) (some c.est)

/-- GMRES(m). -/
def gmSolve (S : Sys) (b x0 : List Val) (m : Nat) (target : Val) (maxit : Nat) : SolveRes :=
  gmLoop S b m target maxit (maxit + 1) 0 x0 none

/-- The fields of a SPARSE operation (Table 11-6). -/
structure SparseK where
  solver  : Nat
  restart : Nat
  prec    : Nat
  bf      : Bool
  x0      : Bool
  handle  : Nat
  maxit   : Nat
  nsys    : Nat
  rtol    : W32
  atol    : W32
  v       : TileNo
  vstr    : Nat
  b       : TileNo
  x       : TileNo
  xstr    : Nat
  w       : TileNo
  wstr    : Nat
  st      : Nat

/-- The result of one system, with its BNORM and the residual norm of the x it writes. -/
structure SysOut where
  res   : SolveRes
  bnorm : Val
  true_ : Val

/-- R320 to R322: one system. -/
def sparseSystem (K : SparseK) (sched : Bytes) (h : SchedHdr) (val : Nat → Val) (b x0 : List Val) : SysOut :=
  let rows := sysRows sched h val
  let bn := vnorm b
  let S : Sys := ⟨h.n, rows, id⟩
  let out (r : SolveRes) : SysOut := ⟨r, bn, vnorm (vsub b (S.mul r.x))⟩
  if !bn.isFin then out ⟨.breakdown 1, x0, 0, none⟩
  else if bn.isZero then out ⟨.converged, List.replicate h.n Val.zero, 0, none⟩
  else
    let target := (rmul (val32 K.rtol) bn).max (val32 K.atol)
    match precond K.prec sched h val with
    | none => out ⟨.breakdown 6, x0, 0, none⟩
    | some minv =>
      let S : Sys := ⟨h.n, rows, minv⟩
      match K.solver with
      | 0 => out (cgSolve S b x0 target K.maxit)
      | 1 => out (biSolve S b x0 target K.maxit)
      | _ => out (gmSolve S b x0 K.restart target K.maxit)

end Sys2Proof.Machine
end

