-- ==== Sys2Proof/Machine/Tiger.lean ====
section
/-! DEFINITION. Machine/Tiger.lean: the list operations of the solver class (R303 to R326). -/

namespace Sys2Proof.Machine

/-! ### What solver operations share -/

/-- The active operation of a solver command, on a partition whose engines run: its partition, its command and itself. -/
def State.solverOp (s : State) (o : OpRef) (lop : Nat) : Option (Pid × Cmd × ActiveOp) :=
  match o.cmd.ring, s.activeOp o with
  | .vf p _, some (k, a) => if k.hdr.engine = 2 && a.op.lop.toNat = lop && s.fnRuns (.vf p) then some (p, k, a) else none
  | _, _ => none

/-- R305: an operation ends MALFORMED with a DETAIL that no rule gives: a free value (log entry 27). -/
def State.badFields (s : State) (o : OpRef) : State := s.took.opInstant o .malformed (s.free 32)

/-- R305: the first tile of the operands that lies outside every object ends the operation; otherwise it starts. -/
def State.solverStart (s : State) (o : OpRef) (op : ListOp) (p : Pid) (spans : List (TileNo × Nat)) : State :=
  match (spans.flatMap spanTiles).find? fun t => !(s.prt p).mem.reach (s.accepted o.cmd [t]) t with
  | some t => s.opInstant o .accessFault (BitVec.ofNat 32 t)
  | none => s.opBegin o (s.newOp o op spans)

/-- R202, R203: how a tile fails for an operation, if it does. -/
def State.opDeny (s : State) (p : Pid) (a : ActiveOp) (t : TileNo) : Option (Status × TileNo) :=
  if a.bad.contains t then some (.tierError, t)
  else match (s.prt p).mem.deny true [t] with
    | some (.poisoned, _) => some (.poisoned, t)
    | some _ => some (.poisoned, t)
    | none => none

/-- R305, R187: the operation's accesses must wait: the state that waits. -/
def State.solverWaits (s : State) (o : OpRef) (p : Pid) (k : Cmd) (a : ActiveOp) : Option State :=
  let ts := (a.spans.flatMap spanTiles).filter fun t => (s.opDeny p a t).isNone
  let tag := s.tagOf o.cmd.ring k.hdr
  if s.blocked p ts tag then some (s.noteBlocked o.cmd p ts tag) else none

/-- Write pieces of a solver operation, each cut at tile bounds. -/
def cutPieces (w : Nat × Bytes) : Writes :=
  (tilesOf w.1 w.2.length).map fun t =>
    let lo := max w.1 (t * tileBytes)
    let hi := min (w.1 + w.2.length) ((t + 1) * tileBytes)
    (lo, (w.2.drop (lo - w.1)).take (hi - lo))

/-- R252-like energy of a Tiger (Table 17-2), for the time an operation has run. -/
def State.tigerEnergy (s : State) (p : Pid) (a : ActiveOp) : State := s.energy p (1500 * s.since a.since)

/-! ### DENSE (R307 to R313) -/

/-- The fields of a DENSE operation (Table 11-2). -/
structure DenseF where
  alg   : Nat
  solve : Bool
  fa    : Nat
  K     : DenseK
  nprob : Nat
  a     : TileNo
  f     : TileNo
  b     : TileNo
  x     : TileNo
  aux   : Nat
  st    : Nat

/-- Table 11-2. -/
def denseOf (o : ListOp) : DenseF :=
  let fl := o.field 9 1
  { alg := o.field 8 1, solve := bitOf fl 0, fa := bitsOf (o.field 10 2) 0 4,
    K := { n := o.field 12 2, m := o.field 14 2, nrhs := o.field 16 2, tauRel := fp32.decode (o.field 40 4),
           tauAbs := fp32.decode (o.field 44 4), delta := fp32.decode (o.field 48 4), upper := bitOf fl 1, trans := bitOf fl 2,
           unit_ := bitOf fl 3 },
    nprob := o.field 20 4, a := o.field 24 4, f := o.field 28 4, b := o.field 32 4, x := o.field 36 4, aux := o.field 52 6,
    st := o.field 58 6 }

/-- The operation has right-hand sides. -/
def DenseF.rhs (D : DenseF) : Bool := D.solve || D.alg = 3
/-- The operation has auxiliary records. -/
def DenseF.hasAux (D : DenseF) : Bool := D.alg = 0 || D.alg = 2

/-- R305, R308: the field checks of a DENSE operation. -/
def DenseF.fieldsOk (D : DenseF) (o : ListOp) : Bool :=
  let fl := o.field 9 1
  let K := D.K
  D.alg ≤ 3 && fl < 16 && (D.alg ≠ 3 || !D.solve) && (D.alg = 3 || fl / 2 = 0) && o.field 10 2 ≤ 1 && 1 ≤ K.n && K.n ≤ 128
    && (if D.alg = 2 then K.n ≤ K.m && K.m ≤ 128 else K.m = K.n) && (if D.rhs then 1 ≤ K.nrhs && K.nrhs ≤ 128 else K.nrhs = 0)
    && o.zero 18 20 && 1 ≤ D.nprob && D.nprob ≤ 65536 && (D.alg ≠ 3 || D.f = 0) && (D.rhs || (D.b = 0 && D.x = 0))
    && finNonNeg (BitVec.ofNat 32 (o.field 40 4)) && atMost K.tauRel Val.one && finNonNeg (BitVec.ofNat 32 (o.field 44 4))
    && finNonNeg (BitVec.ofNat 32 (o.field 48 4)) && !K.delta.isZero && D.aux % 64 = 0 && (D.hasAux || D.aux = 0) && D.st % 16 = 0

/-- The operands of a DENSE operation as byte ranges: A, F, B, X, auxiliary and status records. -/
def DenseF.ranges (D : DenseF) : List (Nat × Nat) :=
  let tiles (t : TileNo) : Nat × Nat := (t * tileBytes, D.nprob * tileBytes)
  [tiles D.a] ++ (if D.alg = 3 then [] else [tiles D.f]) ++ (if D.rhs then [tiles D.b, tiles D.x] else [])
    ++ (if D.hasAux then [(D.aux, 512 * D.nprob)] else []) ++ [(D.st, 16 * D.nprob)]

/-- R308: an overlap that no exact alias allows. -/
def DenseF.overlaps (D : DenseF) : Bool :=
  let keep := D.ranges
  let drop (l : List (Nat × Nat)) (r : Nat × Nat) : List (Nat × Nat) := l.erase r
  let tiles (t : TileNo) : Nat × Nat := (t * tileBytes, D.nprob * tileBytes)
  let l := if D.alg ≠ 3 && D.f = D.a && D.fa = 0 then drop keep (tiles D.f) else keep
  let l := if D.rhs && D.x = D.b then drop l (tiles D.x) else l
  anyBytesMeet l

/-- DENSE starts (R305). -/
def State.dense (s : State) (o : OpRef) : State :=
  match s.nextOp o 2 1, o.cmd.ring with
  | some (_, op), .vf p _ =>
    let D := denseOf op
    if !D.fieldsOk op then s.badFields o
    else if D.overlaps then s.opInstant o .malformed 0x73
    else s.solverStart o op p (D.ranges.map fun r => spanOf r.1 r.2)
  | _, _ => s

/-- DENSE. -/
def execDense (o : OpRef) (s : State) : Host.Outcome State Fault Refusal := .next (s.dense o)

/-- The tiles of problem `j`, in the order A, F, B, X, auxiliary, status. -/
def DenseF.tiles (D : DenseF) (j : Nat) : List TileNo :=
  [D.a + j] ++ (if D.alg = 3 then [] else [D.f + j]) ++ (if D.rhs then [D.b + j, D.x + j] else [])
    ++ (if D.hasAux then tilesOf (D.aux + 512 * j) 512 else []) ++ tilesOf (D.st + 16 * j) 16

/-- Element (r, c) of an FP32 or BF16 matrix in a tile (R132). -/
def tileElem (m : List Host.Cell) (t : TileNo) (bf : Bool) (r c : Nat) : Val :=
  if bf then bf16.decode (leAt (readBytes m (t * tileBytes + r * 512 + 2 * c) 2) 0 2)
  else fp32.decode (leAt (readBytes m (t * tileBytes + r * 512 + 4 * c) 4) 0 4)

/-- A matrix of FP32 values written in a tile, row by row. -/
def tileRows (t : TileNo) (rows cols : Nat) (f : Nat → Nat → Val) : Writes :=
  (List.range rows).map fun r => (t * tileBytes + r * 512, (List.range cols).flatMap fun c => leVec 4 (f r c).bits32)

/-- R309: problem `j`. -/
def DenseF.solveProblem (D : DenseF) (m : List Host.Cell) (j : Nat) : DenseOut :=
  let K := D.K
  let a := Mtx.make K.m K.n fun r c => tileElem m (D.a + j) (D.fa = 1) r c
  let rows := if D.alg = 2 then K.m else K.n
  let cols := if D.rhs then (List.range K.nrhs).map fun c => (List.range rows).map fun r => tileElem m (D.b + j) false r c else []
  denseProblem D.alg K a cols

/-- What problem `j` writes beyond its status record. -/
def DenseF.outputs (D : DenseF) (j : Nat) (R : DenseOut) : Writes :=
  let K := D.K
  (match R.f with
    | some a => tileRows (D.f + j) K.m K.n a.at_
    | none => [])
    ++ (match R.aux with
      | some b => cutPieces (D.aux + 512 * j, b)
      | none => [])
    ++ if D.rhs then tileRows (D.x + j) K.n K.nrhs fun r c => (R.x.getD c []).getD r Val.zero else []

/-- Table 11-3. -/
def denseRecord (st : Status) (pv : Pivots) (pmin : W32) (tile : TileNo) : Bytes :=
  leVec 1 st.code ++ leBytes 1 (bnat (pv.bad && st = .solverBreakdown)) ++ leBytes 2 pv.ntiny ++ leBytes 2 (pv.first.getD 0xFFFF)
    ++ leBytes 2 0 ++ leVec 4 pmin ++ leBytes 4 tile

/-- R312: problem `j` ends: its status, and the state with its outputs and its record written. -/
def State.denseEnd1 (s : State) (p : Pid) (D : DenseF) (a : ActiveOp) (tag : Option Epoch) (dead : Bool) (j : Nat) : Status × State :=
  let record (s : State) (st : Status) (pv : Pivots) (tile : TileNo) : State :=
    let (pm, s) := match pv.pmin with
      | some v => (v.bits32, s)
      | none => (s.free 32, s.took)
    if (tilesOf (D.st + 16 * j) 16).any fun t => (s.opDeny p a t).isSome then s
    else s.storeAll p [(D.st + 16 * j, denseRecord st pv pm tile)] tag dead
  match (D.tiles j).findSome? (s.opDeny p a) with
  | some (st, t) => (st, record s st Pivots.init t)
  | none =>
    let R := D.solveProblem (s.prt p).mem.bytes j
    let w := D.outputs j R
    if R.pv.bad then (.solverBreakdown, record (s.spoil p w tag dead) .solverBreakdown R.pv 0)
    else
      let st := if R.pv.ntiny = 0 then Status.ok else .pivotTiny
      (st, record (s.storeAll p w tag dead) st R.pv 0)

/-- The counters of Table 11-10 after one problem or system. -/
def State.countSolve (s : State) (p : Pid) (st : Status) : State :=
  let was := (s.prt p).sol.tinyCnt
  let s := s.modPrt p fun P => { P with sol := match st with
    | .pivotTiny => { P.sol with tinyCnt := P.sol.tinyCnt + 1 }
    | .solverBreakdown => { P.sol with brkCnt := satAdd P.sol.brkCnt 1 }
    | .notConverged => { P.sol with nconvCnt := satAdd P.sol.nconvCnt 1 }
    | _ => P.sol }
  if st = .pivotTiny && was = onesOf 32 then s.perfWrap (.vf p) 7 else s

/-- Run a batch in order, with the status of each member. -/
def State.runBatch (s : State) (p : Pid) (n : Nat) (one : State → Nat → Status × State) : List Status × State :=
  (List.range n).foldl (fun (x : List Status × State) j =>
    let (st, s) := one x.2 j
    (x.1 ++ [st], s.countSolve p st)) ([], s)

/-- R313: the status of a batch: the first member that ended with an error, else the first with a warning. -/
def batchStatus (l : List Status) : Status × W32 :=
  let i := l.findIdx (·.isError)
  if i < l.length then (l.getD i .ok, BitVec.ofNat 32 i)
  else
    let j := l.findIdx (·.isWarning)
    if j < l.length then (l.getD j .ok, BitVec.ofNat 32 j) else (.ok, 0)

/-- A DENSE operation ends. -/
def State.denseEnd (s : State) (o : OpRef) (p : Pid) (k : Cmd) (a : ActiveOp) : State :=
  match s.solverWaits o p k a with
  | some s' => s'
  | none =>
    let D := denseOf a.op
    let tag := s.tagOf o.cmd.ring k.hdr
    let s := (a.spans.flatMap spanTiles).foldl (fun s t => s.touch p t tileBytes false) (s.noteServed o.cmd)
    let (l, s) := (s.tigerEnergy p a).runBatch p D.nprob fun s j => s.denseEnd1 p D a tag k.dead j
    let (st, d) := batchStatus l
    s.opEnd o st d

/-! ### Schedules (R315, R316) -/

/-- SCHED_REG starts. -/
def State.schedReg (s : State) (o : OpRef) : State :=
  match s.nextOp o 2 2, o.cmd.ring with
  | some (_, op), .vf p _ =>
    let ta := op.field 16 6
    if 64 ≤ op.field 8 2 || !op.zero 10 16 || !op.zero 22 24 || ta % 64 ≠ 0 then s.badFields o
    else s.solverStart o op p [spanOf ta 64]
  | _, _ => s

/-- SCHED_REG. -/
def execSchedReg (o : OpRef) (s : State) : Host.Outcome State Fault Refusal := .next (s.schedReg o)

/-- The bytes lie in one tenant-defined object. -/
def Memory.inTenantObj (m : Memory) (ta n : Nat) : Bool :=
  match m.objOf (tileOf ta) with
  | some x => !x.steward && tileOf (ta + n - 1) < x.base + x.tiles
  | none => false

/-- A SCHED_REG operation ends: the schedule is read whole, checked, and registered. -/
def State.schedRegEnd (s : State) (o : OpRef) (p : Pid) (k : Cmd) (a : ActiveOp) : State :=
  let ta := a.op.field 16 6
  let h0 := schedHdr (s.load p ta 64)
  let len := max 64 h0.len
  let ts := tilesOf ta len
  let tag := s.tagOf o.cmd.ring k.hdr
  let bad (s : State) : State := s.took.opEnd o .malformed (s.free 32)
  if !(s.prt p).mem.inTenantObj ta len then
    match ts.find? fun t => !(s.prt p).mem.reach true t with
    | some t => s.opEnd o .accessFault (BitVec.ofNat 32 t)
    | none => bad s
  else match ts.findSome? (s.opDeny p a) with
    | some (st, t) => s.opEnd o st (BitVec.ofNat 32 t)
    | none =>
      if s.blocked p ts tag then s.noteBlocked o.cmd p ts tag
      else
        let s := ((s.noteServed o.cmd).loaded p ta len).tigerEnergy p a
        let b := s.load p ta len
        if !schedOk b then bad s
        else
          let h := schedHdr b
          (s.modPrt p fun P => { P with sol := { P.sol with
            handles := P.sol.handles.setIfInBounds (a.op.field 8 2) (some ⟨ta, len, h.n, h.nval, h.pb⟩) } }).opEnd o .ok 0

/-- The SPARSE operations under way on a handle. -/
def State.sparseOn (s : State) (p : Pid) (h : Nat) : List OpRef :=
  (ringsOf (.vf p)).flatMap fun r => (s.ring r).cmds.flatMap fun k =>
    if k.hdr.engine != 2 then []
    else match k.run with
      | some x => (x.active.filter fun a => a.op.lop = 4 && a.op.field 12 2 = h).map fun a => ⟨⟨r, k.seq⟩, a.idx⟩
      | none => []

/-- A registration ends. -/
def State.dropSched (s : State) (p : Pid) (h : Nat) : State :=
  s.modPrt p fun P => { P with sol := { P.sol with handles := P.sol.handles.setIfInBounds h none } }

/-- SCHED_DROP (R316): it waits for the SPARSE operations that started on the handle before it. -/
def State.schedDrop (s : State) (o : OpRef) : State :=
  match s.nextOp o 2 3, o.cmd.ring with
  | some (_, op), .vf p _ =>
    let h := op.field 8 2
    if 64 ≤ h || !op.zero 10 16 then s.badFields o
    else
      let users := s.sparseOn p h
      if users.isEmpty then (s.dropSched p h).opInstant o .ok 0
      else (s.opBegin o (s.newOp o op [])).modPrt p fun P => { P with sol := { P.sol with
        drops := P.sol.drops ++ [⟨o, ⟨h % 64, Nat.mod_lt _ (by omega)⟩, users⟩] } }
  | _, _ => s

/-- SCHED_DROP. -/
def execSchedDrop (o : OpRef) (s : State) : Host.Outcome State Fault Refusal := .next (s.schedDrop o)

/-- SCHED_DROP_RELEASE (R316): the SPARSE operations that a drop waited for have ended. -/
def State.dropRelease (s : State) (o : OpRef) : State :=
  match o.cmd.ring with
  | .vf p _ =>
    match (s.prt p).sol.drops.find? (·.op = o) with
    | some d =>
      if d.users.any fun u => (s.activeOp u).isSome then s
      else ((s.dropSched p d.handle.val).modPrt p fun P =>
        { P with sol := { P.sol with drops := P.sol.drops.filter (·.op != o) } }).opEnd o .ok 0
    | none => s
  | .pf _ => s

/-- SCHED_DROP_RELEASE. -/
def execSchedDropRelease (o : OpRef) (s : State) : Host.Outcome State Fault Refusal := .next (s.dropRelease o)

/-! ### SPARSE (R318 to R323) -/

/-- Table 11-6. -/
def sparseOf (o : ListOp) : SparseK :=
  let f := o.field 11 1
  { solver := bitsOf (o.field 8 1) 0 2, restart := o.field 9 1, prec := o.field 10 1, bf := bitsOf f 0 4 = 1, x0 := bitOf f 4,
    handle := o.field 12 2, maxit := o.field 14 2, nsys := o.field 16 4, rtol := BitVec.ofNat 32 (o.field 20 4),
    atol := BitVec.ofNat 32 (o.field 24 4), v := o.field 28 4, vstr := o.field 32 4, b := o.field 36 4, x := o.field 40 4,
    xstr := o.field 44 4, w := o.field 48 4, wstr := o.field 52 4, st := o.field 56 6 }

/-- R305: the field checks of a SPARSE operation. -/
def SparseK.fieldsOk (K : SparseK) (o : ListOp) : Bool :=
  let f := o.field 11 1
  o.field 8 1 ≤ 2 && (if K.solver = 2 then 1 ≤ K.restart && K.restart ≤ 32 else K.restart = 0) && K.prec ≤ 2 && bitsOf f 0 4 ≤ 1
    && f < 32 && 1 ≤ K.maxit && 1 ≤ K.nsys && K.nsys ≤ 4096 && unitRange K.rtol && finNonNeg K.atol
    && !((val32 K.rtol).isZero && (val32 K.atol).isZero) && K.st % 32 = 0 && o.zero 62 96

/-- The tiles of one system's vector, of its values, and of its workspace (R318). -/
def SparseK.vt (h : Sched) : Nat := (h.n + 16383) / 16384
/-- The tiles of the values. -/
def SparseK.valTiles (K : SparseK) (h : Sched) : Nat := (h.nval * (if K.bf then 2 else 4) + 65535) / 65536
/-- The tiles of the workspace. -/
def SparseK.workTiles (K : SparseK) (h : Sched) : Nat :=
  let k := match K.solver with
    | 0 => 4 | 1 => 8 | _ => K.restart + 3
  let pt := match K.prec with
    | 0 => 0 | 1 => SparseK.vt h | _ => ((h.n + h.pb - 1) / h.pb * h.pb * h.pb + 16383) / 16384
  k * SparseK.vt h + pt

/-- R318: the strides cover what they must. -/
def SparseK.stridesOk (K : SparseK) (h : Sched) : Bool :=
  (K.vstr = 0 || K.valTiles h ≤ K.vstr) && SparseK.vt h ≤ K.xstr && K.workTiles h ≤ K.wstr

/-- The span of values of system `j`. -/
def SparseK.vSpan (K : SparseK) (h : Sched) (j : Nat) : TileNo × Nat := (K.v + j * K.vstr, K.valTiles h)
/-- The spans of b, x and workspace of system `j`. -/
def SparseK.bSpan (K : SparseK) (h : Sched) (j : Nat) : TileNo × Nat := (K.b + j * K.xstr, SparseK.vt h)
/-- The span of x. -/
def SparseK.xSpan (K : SparseK) (h : Sched) (j : Nat) : TileNo × Nat := (K.x + j * K.xstr, SparseK.vt h)
/-- The span of the workspace. -/
def SparseK.wSpan (K : SparseK) (h : Sched) (j : Nat) : TileNo × Nat := (K.w + j * K.wstr, K.workTiles h)

/-- The bytes of a span of tiles. -/
def spanRange (x : TileNo × Nat) : Nat × Nat := (x.1 * tileBytes, x.2 * tileBytes)

/-- R318: no span of x or of the workspace overlaps another span, and no b overlaps an x. -/
def SparseK.overlaps (K : SparseK) (h : Sched) : Bool :=
  let js := List.range K.nsys
  let xs := js.map fun j => spanRange (K.xSpan h j)
  let ws := js.map fun j => spanRange (K.wSpan h j)
  let rest := ((if K.vstr = 0 then [0] else js).map fun j => spanRange (K.vSpan h j)) ++ (js.map fun j => spanRange (K.bSpan h j))
    ++ [(K.st, 32 * K.nsys), (h.ta, h.len)]
  anyBytesMeet (xs ++ ws) || (xs ++ ws).any fun a => rest.any (bytesMeet a)

/-- The registered schedule of a handle. -/
def State.schedOf (s : State) (p : Pid) (h : Nat) : Option Sched := ((s.prt p).sol.handles[h]?).bind id

/-- SPARSE starts (R305, R316, R318). -/
def State.sparse (s : State) (o : OpRef) : State :=
  match s.nextOp o 2 4, o.cmd.ring with
  | some (_, op), .vf p _ =>
    let K := sparseOf op
    if !K.fieldsOk op then s.badFields o
    else match s.schedOf p K.handle with
      | none => s.opInstant o .malformed 0x75
      | some h =>
        if !K.stridesOk h then s.opInstant o .malformed 0x75
        else if K.overlaps h then s.opInstant o .malformed 0x73
        else s.solverStart o op p ((List.range K.nsys).flatMap (fun j => [K.vSpan h j, K.bSpan h j, K.xSpan h j, K.wSpan h j])
          ++ [spanOf K.st (32 * K.nsys), spanOf h.ta h.len])
  | _, _ => s

/-- SPARSE. -/
def execSparse (o : OpRef) (s : State) : Host.Outcome State Fault Refusal := .next (s.sparse o)

/-- Table 11-8. -/
def sparseRecord (st : Status) (cause iters : Nat) (est true_ bnorm : W32) (tile : TileNo) : Bytes :=
  leVec 1 st.code ++ leBytes 1 cause ++ leBytes 2 0 ++ leBytes 4 iters ++ leVec 4 est ++ leVec 4 true_ ++ leVec 4 bnorm
    ++ leBytes 4 tile ++ leBytes 8 0

/-- An FP32 vector from a tile on. -/
def readVec (m : List Host.Cell) (t : TileNo) (n : Nat) : List Val := (List.range n).map fun i => fp32.decode (flatBits m t i 4)

/-- The status and cause of a solve. -/
def SolveEnd.status : SolveEnd → Status × Nat
  | .converged => (.ok, 0)
  | .notConverged => (.notConverged, 0)
  | .breakdown c => (.solverBreakdown, c)

/-- R322, R323: system `j` ends: its status, and the state with its x and its record written. Its workspace holds undefined data. -/
def State.sparseEnd1 (s : State) (p : Pid) (K : SparseK) (h : Sched) (a : ActiveOp) (tag : Option Epoch) (dead : Bool) (j : Nat) :
    Status × State :=
  let sched := s.load p h.ta h.len
  let hdr := schedHdr sched
  let record (s : State) (b : Bytes) : State :=
    if (tilesOf (K.st + 32 * j) 32).any fun t => (s.opDeny p a t).isSome then s else s.storeAll p [(K.st + 32 * j, b)] tag dead
  let spans := [spanOf h.ta h.len, K.vSpan h j, K.bSpan h j, K.xSpan h j, K.wSpan h j, spanOf (K.st + 32 * j) 32]
  let spoils (s : State) (xs : List (TileNo × Nat)) : State :=
    s.spoil p (((xs.flatMap spanTiles).filter fun t => (s.opDeny p a t).isNone).map wholeTile) tag dead
  let fails (st : Status) (t : TileNo) : Status × State :=
    let s := spoils s [K.xSpan h j, K.wSpan h j]
    let est := s.free 32
    let bn := s.took.free 32
    let it := (s.took.took.free 32).toNat
    (st, record s.took.took.took (sparseRecord st 0 it est 0x7FC00000 bn t))
  match (spans.flatMap spanTiles).findSome? (s.opDeny p a) with
  | some (st, t) => fails st t
  | none =>
    if !schedOk sched || hdr.n ≠ h.n || hdr.nval ≠ h.nval || hdr.pb ≠ h.pb then fails .malformed 0
    else
      let m := (s.prt p).mem.bytes
      let val (i : Nat) : Val := if K.bf then bf16.decode (flatBits m (K.vSpan h j).1 i 2) else fp32.decode (flatBits m (K.vSpan h j).1 i 4)
      let b := readVec m (K.bSpan h j).1 h.n
      let x0 := if K.x0 then readVec m (K.xSpan h j).1 h.n else List.replicate h.n Val.zero
      let R := sparseSystem K sched hdr val b x0
      let (st, cause) := R.res.how.status
      let (est, s) := match R.res.est with
        | some v => (v.bits32, s)
        | none => (s.free 32, s.took)
      let s := s.storeAll p (cutPieces ((K.xSpan h j).1 * tileBytes, R.res.x.flatMap fun v => leVec 4 v.bits32)) tag dead
      let s := spoils s [K.wSpan h j]
      (st, record s (sparseRecord st cause R.res.iters est R.true_.bits32 R.bnorm.bits32 0))

/-- A SPARSE operation ends. -/
def State.sparseEnd (s : State) (o : OpRef) (p : Pid) (k : Cmd) (a : ActiveOp) : State :=
  match s.solverWaits o p k a with
  | some s' => s'
  | none =>
    let K := sparseOf a.op
    match s.schedOf p K.handle with
    | none => s.opEnd o .malformed 0x75
    | some h =>
      let tag := s.tagOf o.cmd.ring k.hdr
      let s := (a.spans.flatMap spanTiles).foldl (fun s t => s.touch p t tileBytes false) (s.noteServed o.cmd)
      let (l, s) := (s.tigerEnergy p a).runBatch p K.nsys fun s j => s.sparseEnd1 p K h a tag k.dead j
      let i := l.findIdx (· != .ok)
      if i < l.length then s.opEnd o (l.getD i .ok) (BitVec.ofNat 32 i) else s.opEnd o .ok 0

/-- SOLVER_OP_END (R306, R313, R315, R323): a DENSE, SCHED_REG or SPARSE operation ends. -/
def execSolverOpEnd (o : OpRef) (s : State) : Host.Outcome State Fault Refusal :=
  .next (match s.solverOp o 1, s.solverOp o 2, s.solverOp o 4 with
    | some (p, k, a), _, _ => s.denseEnd o p k a
    | _, some (p, k, a), _ => s.schedRegEnd o p k a
    | _, _, some (p, k, a) => s.sparseEnd o p k a
    | _, _, _ => s)

end Sys2Proof.Machine
end

