-- ==== Sys2Proof/Machine/Stops.lean ====
section
/-! DEFINITION. Machine/Stops.lean: how a partition's work halts, is stopped at once, and is cleared away (R24 to R26, R513), as shared
operations of drains, resets and host losses. -/

namespace Sys2Proof.Machine

/-! ### What still executes (R24) -/

/-- Rings of a function with a command that has started. -/
def State.runningCmds (s : State) (fn : Fn) : List CmdRef :=
  (ringsOf fn).flatMap fun r => ((s.ring r).cmds.filter fun k => !k.unstarted).map fun k => ⟨r, k.seq⟩

/-- Channels of a function with a descriptor in execution. -/
def State.runningChans (s : State) (fn : Fn) : List MovNo :=
  (List.finRange 32).filter fun m => s.chans[m].run.isSome && s.chans[m].ring.map (·.fn) = some fn

/-- R161: some unit of a partition has a MOV that has issued and not ended. -/
def State.unitsMoving (s : State) (p : Pid) : Bool := (s.prt p).cores.toList.any fun c => c.units.toList.any fun u => u.movs.any (·.live)

/-- R24: some engine of a partition is inside a command. -/
def State.engineBusy (s : State) (p : Pid) : Bool :=
  !(s.runningCmds (.vf p)).isEmpty || !(s.runningChans (.vf p)).isEmpty || s.unitsMoving p || !(s.prt p).scb.injected.isEmpty

/-! ### Work stopped at once (R25, R513) -/

/-- What a solver operation writes: its factors, solutions and records, or its solutions, workspaces and records. -/
def State.solverWrites (s : State) (p : Pid) (op : ListOp) : Writes :=
  let cut (l : List (Nat × Nat)) : Writes := l.flatMap fun x => cutPieces (x.1, List.replicate x.2 0)
  if op.lop = 1 then
    let D := denseOf op
    let tiles (t : TileNo) : Nat × Nat := (t * tileBytes, D.nprob * tileBytes)
    cut ((if D.alg = 3 then [] else [tiles D.f]) ++ (if D.rhs then [tiles D.x] else [])
      ++ (if D.hasAux then [(D.aux, 512 * D.nprob)] else []) ++ [(D.st, 16 * D.nprob)])
  else if op.lop = 4 then
    let K := sparseOf op
    match s.schedOf p K.handle with
    | some h => cut ((List.range K.nsys).flatMap fun j => [spanRange (K.xSpan h j), spanRange (K.wSpan h j), (K.st + 32 * j, 32)])
    | none => []
  else []

/-- What a fabric operation still has to write here. -/
def FabRun.writes (r : FabRun) (g : Group) : List (Nat × Nat) :=
  match r.kind with
  | .gx f bs => (bs.mapIdx fun b (x : Bucket) => if x.landed || !f.writes g b then [] else [(f.oTa b, f.bytes b)]).flatten
  | .gather root _ dst n landed _ =>
    match root with
    | none => ((List.range g.nmemb).filter fun j => !landed.contains j).map fun j => ((dst + j * n) * tileBytes, n * tileBytes)
    | some _ => [(dst * tileBytes, n * tileBytes)]
  | .send _ _ _ _ _ _ _ => []
  | .recv _ _ _ n _ tile pair => if pair.isSome then [] else [(tile * tileBytes, n * tileBytes)]

/-- What an operation in execution was writing. -/
def State.opWrites (s : State) (o : OpRef) (p : Pid) (k : Cmd) (a : ActiveOp) : Writes :=
  match k.hdr.engine.toNat with
  | 1 => match checkCompute (s.coresOf p).length a.op with
    | .ok C => C.mayWrite s p
    | .error _ => []
  | 2 => s.solverWrites p a.op
  | 6 => match s.fabRun o with
    | some (_, r, g) => (r.writes g).flatMap fun x => cutPieces (x.1, List.replicate x.2 0)
    | none => []
  | _ => []

/-- The piece lies in a tile that can hold data. -/
def State.canSpoil (s : State) (p : Pid) (w : Nat × Bytes) : Bool :=
  match s.tile? p (tileOf w.1) with
  | some x => x.st != .poisoned && !x.isDropped
  | none => false

/-- R25: one operation ends with its command; what it was writing holds undefined data of the partition (R6). -/
def State.stopOp (s : State) (p : Pid) (k : Cmd) (o : OpRef) (a : ActiveOp) : State :=
  let ws := (s.opWrites o p k a).filter (s.canSpoil p)
  (s.spoil p ws (s.tagOf o.cmd.ring k.hdr) k.dead).dropRun p o

/-- What else waits for a command that is gone: an object's release and the dropping of a schedule. -/
def State.forget (s : State) (p : Pid) (c : CmdRef) : State :=
  let s := s.modMem p fun m => { m with objs := m.objs.map fun o => if o.releasing = some c then { o with releasing := none } else o }
  s.modPrt p fun P => { P with sol := { P.sol with drops := P.sol.drops.filter fun (x : DropWait) => decide (x.op.cmd ≠ c) } }

/-- R25, R271, R513: a command that has started is stopped at once and completes with `st`, STARTED set. -/
def State.stopCmd (s : State) (st : Status) (c : CmdRef) : State :=
  match s.cmd? c with
  | none => s
  | some k =>
    match c.ring with
    | .pf _ => s.complete c true st 0
    | .vf p _ =>
      let s := match k.run with
        | some r => r.active.foldl (fun (s : State) (a : ActiveOp) => s.stopOp p k ⟨c, a.idx⟩ a) s
        | none => s
      let s := (s.letPairsGo p fun o => o.cmd = c).forget p c
      let s := if k.hdr.engine = 3 then
          (s.stopUpdate p st 0).modWvl p fun W => if W.upd.any (·.cmd = c) then { W with upd := none, pass := .idle } else W
        else s
      s.complete c true st 0

/-- R238: an injected segment that is stopped ends with an error. -/
def State.stopSegment (p : Pid) (st : Status) (s : State) (j : Injected) : State :=
  let S := (s.prt p).scb
  let s := s.modScb p fun S => { S with injected := S.injected.filter (· != j) }
  match S.inst? j.rec_ j.mb with
  | some x =>
    if x.closing || x.st != .fetching then s
    else
      let s := (s.restDropped p j.rec_ j.mb true).postPart p 0x0202 (x.arg0 + 2 ^ 24 * st.code.toNat) (2 ^ 32 * S.runEpoch.toNat)
      s.checkReady p j.rec_ j.mb
  | none => s

/-- Every injected segment of a partition is stopped. -/
def State.stopInjected (s : State) (p : Pid) (st : Status) : State := (s.prt p).scb.injected.foldl (State.stopSegment p st) s

/-- R24, R25, R348, R349: at the drain timeout whatever of a function is still inside a command stops at once. -/
def State.stopWork (s : State) (fn : Fn) (st : Status) : State :=
  let s := (s.runningCmds fn).foldl (fun s c => s.stopCmd st c) s
  let s := (s.runningChans fn).foldl (fun s m => s.descStop m st) s
  match fn with
  | .vf p => s.stopInjected p st
  | .pf => s

/-- R26: commands of a partition that have not started complete CANCELLED with STARTED clear. -/
def State.cancelUnstarted (s : State) (p : Pid) : State :=
  (ringsOf (.vf p)).foldl (fun s r => s.cancelAll r (s.ring r).unstarted) s

/-- The drain timeout of a partition starts (R17, R24); a PRT_DRAIN of 0 acts as 100. -/
def State.startDrain (s : State) (p : Pid) : State :=
  s.modLife p fun L => { L with drainFrom := some s.pwr.clk, drainMs := if L.drain = 0 then 100 else L.drain.toNat }

/-- R24: a running drain timeout has passed. -/
def State.drainOver (s : State) (p : Pid) : Bool :=
  match (s.life p).drainFrom with
  | some t => (s.life p).drainMs * 1000000 ≤ s.since t
  | none => false

/-! ### Timers that pause (R120, R161) -/

/-- A point in time moves on by what was paused. -/
def later (by_ : Nat) (t : Option Nat) : Option Nat := t.map (· + by_)

/-- R161: a unit's wait timer. -/
def SuWait.later (by_ : Nat) : SuWait → SuWait
  | .pair t => .pair (t + by_)
  | .quarantine t => .quarantine (t + by_)
  | w => w

/-- R120, R161: on RESUME or attach the barrier, wait and frame timers of a partition go on from where they paused. -/
def State.unpause (s : State) (p : Pid) : State :=
  match (s.life p).pausedAt with
  | none => s
  | some (t, dt) =>
    let d := s.since t
    let v := s.pwr.time.toNat - dt
    s.modPrt p fun P =>
      let rt := { P.rt with shift := P.rt.shift + v, curStart := P.rt.curStart + v }
      let rings := P.rings.map fun R => { R with cmds := R.cmds.map fun k =>
        { k with pairAt := later d k.pairAt, quarAt := later d k.quarAt, deadline := later v k.deadline } }
      let cores := P.cores.map fun c => { c with units := c.units.map fun u =>
        { u with wait := u.wait.later d, frameAt := u.frameAt + v, deadline := u.deadline + v } }
      { P with life := { P.life with pausedAt := none }, bars := P.bars.map fun b => { b with firstAt := later d b.firstAt },
               rt := rt, rings := rings, cores := cores }

/-- R120, R161: the timers pause. -/
def State.pause (s : State) (p : Pid) : State :=
  s.modLife p fun L => { L with pausedAt := some (s.pwr.clk, s.pwr.time.toNat) }

/-! ### Clearing a partition's engines (R513) -/

/-- R513 step 2: every run-ahead tag is dropped as a revoke (R244), and the epochs start again (R125). -/
def State.dropTags (s : State) (p : Pid) : State :=
  let halves := (s.prt p).cores.toList.flatMap fun c => c.pairs.toList.flatMap fun (x : Pair) =>
    if x.quar.isSome then (List.range x.half).map (x.base + ·) else []
  let s := s.spoilTiles p halves
  let s := ((s.prt p).mem.tiles.filter fun t => t.tag.isSome).foldl (fun s t => s.revokeTile p t) s
  s.modPrt p fun P => { P with ep := { P.ep with c := 0, revoked := [], byCommit := false } }

/-- R513 step 3: the plan is unloaded and its objects freed. -/
def State.clearPlan (s : State) (p : Pid) : State :=
  let s := ((s.prt p).mem.objs.filter (·.steward)).foldl (fun s o => s.freeRange p o.base o.tiles) s
  (s.dropPlan p).modScb p fun S => { S with injected := [], pos := 0, marked := false, interval := 0, tLast := 0, pLast := 0 }

/-- R513 step 3: every pair is unbound, its tiles placed by their hints (R162). -/
def State.unbindAll (s : State) (p : Pid) : State :=
  (pairsOf p).foldl (fun s b => if (s.pair b).bound || (s.pair b).binding then s.unbindTiles b else s) s

/-- R513 step 3: units, pairs and signals of one core; the pair configuration registers stay (R588). -/
def CoreStreams.cleared (c : CoreStreams) : CoreStreams :=
  { c with signals := 0, units := Vector.replicate 4 StreamUnit.reset, pairs := Vector.replicate 16 Pair.reset, busy := false,
           bindOn := none }

/-- R513 step 4: a watchdog becomes DISABLED; its settings stay. -/
def Watchdog.disabled (w : Watchdog) : Watchdog := { w with st := .disabled, armedAt := none, held := 0, first := false }

/-- R513 step 4: slots in both directions are emptied. -/
def Mailbox.emptied (m : Mailbox) : Mailbox :=
  { m with inSlots := Vector.replicate 16 emptySlot, outSlots := Vector.replicate 16 emptySlot, inOwn := 0, outValid := 0, posted := [],
           waiting := [] }

/-- Every fabric operation of a partition goes, and the group operations that waited for them take place. -/
def State.dropRuns (s : State) (p : Pid) : State := ((s.prt p).gx.runs.map (·.op)).foldl (fun s o => s.dropRun p o) s

/-- R513 steps 2 to 4. -/
def State.clearEngines (s : State) (p : Pid) : State :=
  let s := ((((s.dropTags p).clearPlan p).unbindAll p).dropRuns p)
  s.modPrt p fun P =>
    { P with
      mem := { P.mem with staged := [], last := [], objs := P.mem.objs.map fun o => { o with releasing := none } },
      cores := P.cores.map CoreStreams.cleared,
      rt := { P.rt with en := false, begun := false },
      bars := Vector.replicate 32 Barrier.reset,
      gx := { P.gx with groups := Vector.replicate 16 none, slots := [], runs := [], firstEpoch := [] },
      sol := { P.sol with handles := Vector.replicate 64 none, drops := [] },
      wvl := { P.wvl with t := 0, pass := .idle, upd := none },
      win := { P.win with en := false },
      pwd := P.pwd.disabled,
      bells := 0,
      fn := { P.fn with mail := P.fn.mail.emptied, wrr := [] } }

/-- R513 step 1: every command of a partition ends PARTITION_RESET at once, and its channels go to FREE without writebacks (R344). -/
def State.endAll (s : State) (p : Pid) : State :=
  let s := (s.runningCmds (.vf p)).foldl (fun s c => s.stopCmd .partitionReset c) s
  let s := s.modScb p fun S => { S with injected := [] }
  let s := (ringsOf (.vf p)).foldl (fun s r =>
    (s.ring r).unstarted.foldl (fun s k => s.complete ⟨r, k.seq⟩ false .partitionReset 0) s) s
  s.dropChans p

/-- R513 step 1: what could not be written is discarded. -/
def State.dropHeld (s : State) (fn : Fn) : State := s.modFn fn fun f => { f with held := [] }

/-- R513 step 6. -/
def State.resetRings (s : State) (p : Pid) : State :=
  s.modPrt p fun P => { P with rings := Vector.replicate 64 Ring.reset }

end Sys2Proof.Machine
end

