-- ==== Sys2Proof/Machine/Loss.lean ====
section
/-! DEFINITION. Machine/Loss.lean: host loss as a shared operation (R369 to R377, R385) and the pausing of watchdogs (Table 19-7). -/

namespace Sys2Proof.Machine

/-! ### Watchdogs (R520, R375) -/

/-- E, in ns. -/
def Watchdog.elapsed (w : Watchdog) (now : Nat) : Nat :=
  match w.st with
  | .disabled => 0
  | .paused => w.held
  | _ => now - w.since

/-- The owner is lost: E is held. -/
def Watchdog.pause (w : Watchdog) (now : Nat) : Watchdog :=
  match w.st with
  | .running | .warning => { w with st := .paused, held := w.elapsed now }
  | _ => w

/-- The attach: a full period starts. -/
def Watchdog.resume (w : Watchdog) (now : Nat) : Watchdog :=
  if w.st = .paused then { w with st := .running, since := now, held := 0 } else w

/-- E := 0 where the watchdog runs: a partition that leaves READY starts to count (R520). -/
def Watchdog.restart (w : Watchdog) (now : Nat) : Watchdog := { w with since := now }

/-- Change the watchdog of a partition. -/
def State.modPwd (s : State) (p : Pid) (f : Watchdog → Watchdog) : State := s.modPrt p fun P => { P with pwd := f P.pwd }

/-! ### Drain and halt (R24, R376) -/

/-- No drain timeout runs. -/
def State.endDrain (s : State) (p : Pid) : State := s.modLife p fun L => { L with drainFrom := none }

/-- R24, R161, R376: the partition enters RETAINED once every engine has halted. -/
def State.retainDone (s : State) (p : Pid) : State :=
  if (s.life p).halting && !s.engineBusy p then
    let s := (s.endDrain p).modLife p fun L => { L with halting := false, wasSuspended := false }
    ((s.modPwd p fun w => w.pause s.pwr.time.toNat).setPState p .retained 4).pause p
  else s

/-- Table 13-2: the cause permits KEEP. -/
def permitsKeep (cause : Nat) : Bool := cause = 2 || cause = 3

/-- R369, R371, Table 13-7: a loss is recorded; a further one leaves the first cause and may end KEEP_OK. -/
def LossState.begin_ (l : LossState) (cause clk : Nat) (time : W64) : LossState :=
  if l.lost then { l with keepOk := l.keepOk && permitsKeep cause }
  else
    { l with
      lost := true, keepOk := permitsKeep cause, cause := BitVec.ofNat 4 cause, time := time, since := clk, rebased := false,
      mvDropped := 0, cmdDropped := 0 }

/-- Change a function's loss registers. -/
def State.modLoss (s : State) (fn : Fn) (f : LossState → LossState) : State := s.modFn fn fun x => { x with loss := f x.loss }

/-- R371: in READY every ring is disabled, what its doorbells recorded is discarded, and the window closes. -/
def State.shutRings (s : State) (p : Pid) : State :=
  let s := (ringsOf (.vf p)).foldl (fun s r => match s.chanOf r with
    | some m => s.haltChan m 0
    | none => s.modRing r fun R => { R with state := .disabled, sw := R.dev, rebased := false }) s
  s.modPrt p fun P => { P with win := { P.win with en := false }, bells := 0 }

/-- Table 1-5, R371: what a loss does to a partition, by its state. -/
def State.applyLoss (s : State) (p : Pid) : State :=
  let L := s.life p
  match L.st with
  | .configuring => s.setPState p .empty 4
  | .ready => s.shutRings p
  | .running | .napping =>
    if L.hostloss then
      let s := s.modLife p fun L => { L with wasSuspended := false }
      (s.modPwd p fun w => w.pause s.pwr.time.toNat).setPState p .detached 4
    else ((s.modLife p fun L => { L with halting := true }).startDrain p).retainDone p
  | .suspended =>
    let s := s.modLife p fun L => { L with wasSuspended := true }
    (s.modPwd p fun w => w.pause s.pwr.time.toNat).setPState p (if L.hostloss then .detached else .retained) 4
  | _ => s

/-- The loss marks the function of a partition as lost. -/
def PState.losable : PState → Bool
  | .empty | .configuring | .ready => false
  | _ => true

/-- R371, R385: a loss of one partition; `whole`: of the whole host, which posts no HOST_LOSS (R388). A PRT command that still executes
completes first. -/
def State.losePart (s : State) (p : Pid) (cause : Nat) (whole : Bool) : State :=
  let L := s.life p
  if L.st = .empty then s
  else
    let was := s.lost (.vf p)
    let s := if L.st.losable then
        (s.modLoss (.vf p) fun l => l.begin_ cause s.pwr.clk s.pwr.time).modPrt p fun P => { P with bells := 0 }
      else s
    let s := if L.st = .draining || L.st = .scrubbing then s.dropHeld (.vf p) else s
    let s := match L.exec with
      | some .suspend | some (.resize _ _ _ _ _) => s.modLife p fun L => { L with lossAfter := true }
      | _ => if L.halting then s else s.applyLoss p
    if whole || was then s else s.postOper p 0x0601 (cause + 16 * bnat L.hostloss) 0

/-- R377: the operator context is lost; its work has 100 ms to reach its boundary. -/
def State.loseOper (s : State) (cause : Nat) : State :=
  let was := s.lost .pf
  let s := s.modLoss .pf fun l => { l.begin_ cause s.pwr.clk s.pwr.time with time := s.pwr.time }
  let s := { s with op := { s.op with win := { s.op.win with en := false } }, wdg := s.wdg.pause s.pwr.time.toNat }
  let wraps := s.link.lossCnt = onesOf 32
  let s := { s with link := { s.link with
    lossCnt := s.link.lossCnt + 1, opStopAt := if was then s.link.opStopAt else some s.pwr.clk } }
  if wraps then s.perfWrap .pf 17 else s

/-- A whole-host loss covers the operator context and every partition. -/
def State.loseHost (s : State) (cause : Nat) : State :=
  (List.finRange 16).foldl (fun s p => s.losePart p cause true) (s.loseOper cause)

/-- R20, R385: a PRT command ends; a loss that waited for it applies to the state it leaves. -/
def State.endPrt (s : State) (p : Pid) (cmd : BitVec 4) (sts : BitVec 3) : State :=
  let late := (s.life p).lossAfter
  let s := (s.prtResult p cmd sts).modLife p fun L => { L with exec := none, lossAfter := false }
  if late then s.applyLoss p else s

/-! ### What waits for the host (R374, R382, R386) -/

/-- What a command waits for at the host: 1 a read, 2 a write, 3 a flushing read. -/
def Cmd.hostWait (k : Cmd) : Option Nat :=
  match k.stage with
  | .preFlush _ | .postFlush _ _ _ => some 3
  | _ => match k.wait with
    | some w => some w.code
    | none => k.run.bind fun r => r.active.findSome? ActiveOp.hostWait

/-- The commands of a function that wait for the host, with what each waits for. -/
def State.hostWaiters (s : State) (fn : Fn) : List (CmdRef × Nat) :=
  (ringsOf fn).flatMap fun r => (s.ring r).cmds.filterMap fun k =>
    if k.cancelled then none else k.hostWait.map fun d => ((⟨r, k.seq⟩ : CmdRef), d)

/-- The channels of a function that wait for the host. -/
def State.chanWaiters (s : State) (fn : Fn) : List (MovNo × Nat) :=
  (s.runningChans fn).filterMap fun m => match s.chans[m].run with
    | some d => d.hostWait.map fun x => (m, x)
    | none => none

/-- R386: DESTROY of a lost partition discards its held entries and its waiting host accesses; the commands write no completion. -/
def State.dropLost (s : State) (p : Pid) : State :=
  if !s.lost (.vf p) then s
  else
    let s := (s.hostWaiters (.vf p)).foldl (fun s x =>
      (s.modCmd x.1 fun k => { k with mute := true }).stopCmd .hostLost x.1) s
    let s := (s.chanWaiters (.vf p)).foldl (fun s x => s.descStop x.1 .hostLost) s
    s.dropHeld (.vf p)

/-- R365: a context's lines leave the host-line cache. -/
def State.cacheDrop (s : State) (fn : Fn) : State := { s with link := { s.link with cache := s.link.cache.filter (·.1 != fn) } }

end Sys2Proof.Machine
end

