-- ==== Sys2Proof/Machine/Partition.lean ====
section
/-! DEFINITION. Machine/Partition.lean: the PRT commands and the lifecycle of a partition (R13 to R36), but for RESIZE and the attach. -/

namespace Sys2Proof.Machine

/-! ### PRT commands (R18, Table 1-4) -/

/-- R18, R20, R498: a write of PRT_CMD, judged and carried out: refused with BUSY or BAD_STATE, or `f` of the accepted command. -/
def State.prtCmd (s : State) (p : Pid) (code : BitVec 4) (accepts : PState → Bool) (f : State → State) : State :=
  if !s.pfOpen then s
  else
    let s := s.exitRetention
    let L := s.life p
    let cuts := code = 7 && match L.exec with
      | some (.resize _ _ _ _ _) => true
      | _ => false
    if L.exec.isSome && !cuts then s.prtResult p code 1
    else if !accepts L.st then s.prtResult p code 2
    else f (s.modLife p fun L => { L with lastCmd := code })

/-- PRT_CMD_RESERVED: codes 0x9 to 0xF are refused with BAD_FIELD; code 0x0 is not a command. -/
def execPrtCmdReserved (p : Pid) (code : BitVec 4) (s : State) : Host.Outcome State Fault Refusal :=
  .next (if s.pfOpen && 9 ≤ code.toNat then s.exitRetention.prtResult p code 6 else s)

/-- CREATE: the page registers return to their reset values; consent := 0. -/
def execCreate (p : Pid) (s : State) : Host.Outcome State Fault Refusal :=
  .next (s.prtCmd p 1 (· = .empty) fun s =>
    let s := s.modPrt p fun P => { P with life := { Life.reset with lastCmd := 1 }, tok := Tokens.reset }
    (s.setPState p .configuring 0).endPrt p 1 0)

/-- ABANDON: nothing was claimed. -/
def execAbandon (p : Pid) (s : State) : Host.Outcome State Fault Refusal :=
  .next (s.prtCmd p 3 (· = .configuring) fun s => (s.setPState p .empty 0).endPrt p 3 0)

/-! ### COMMIT (R14, R15) -/

/-- The partitions other than `p` that hold resources. -/
def State.others (s : State) (p : Pid) : List Pid := (List.finRange 16).filter fun q => q != p && (s.life q).st.holds

/-- The floor a partition holds or has claimed by an executing RESIZE (R19). -/
def Life.floorClaim (L : Life) : Nat :=
  match L.exec with
  | some (.resize _ f _ _ _) => max L.floorAct.toNat f.toNat
  | _ => L.floorAct.toNat

/-- The board capacity a partition holds or has claimed. -/
def Life.boardClaim (L : Life) : Nat :=
  match L.exec with
  | some (.resize _ _ b _ _) => max L.boardAct.toNat b.toNat
  | _ => L.boardAct.toNat

/-- The slot positions that FENCED partitions other than `p` own or have claimed. -/
def State.slotClaims (s : State) (p : Pid) : Nat :=
  ((s.others p).map fun q => match (s.life q).exec with
    | some (.resize _ _ _ t n) => if t && !(s.life q).timingAct then n else s.sec.owned q
    | _ => s.sec.owned q).sum

/-- Some quad of the mask is held by, or claimed for, another partition. -/
def State.quadTaken (s : State) (p : Pid) (mask : BitVec 16) : Bool :=
  (List.finRange 16).any fun q => mask.getLsbD q.val && match s.quads[q].owner with
    | some o => o != p
    | none => false

/-- Floors of the others with `f` exceed 95 GiB. -/
def State.floorOver (s : State) (p : Pid) (f : Nat) : Bool := 95 < ((s.others p).map fun q => (s.life q).floorClaim).sum + f

/-- Board capacities of the others with `b` exceed the installed capacity. -/
def State.boardOver (s : State) (p : Pid) (b : Nat) : Bool :=
  s.tier.boardInst.toNat < ((s.others p).map fun q => (s.life q).boardClaim).sum + b

/-- R15: the code of the first check of a COMMIT that fails. -/
def State.commitCheck (s : State) (p : Pid) : Option (BitVec 3) :=
  let L := s.life p
  let o := s.others p
  let staging := (o.map fun q => (s.tier.stgQuota[q]).toNat).sum + (s.tier.stgQuota[p]).toNat
  let quota (k : Fin 17) : Nat := (s.movQuota[k]).toNat
  let quotas := (o.map fun q => quota ⟨q.val, by omega⟩).sum + quota ⟨p.val, by omega⟩ + quota 16
  let slots := (s.sec.fslots[p]).toNat
  if s.quadTaken p L.quads then some 3
  else if s.floorOver p L.floor.toNat || (L.timing && L.floor = 0) || 1792 < staging then some 4
  else if s.boardOver p L.board.toNat then some 5
  else if L.quads = 0 || L.slice = 0 || L.slice = 0xFFF || o.any (fun q => (s.life q).slice = L.slice)
      || 95 < L.floor.toNat || 96 < L.board.toNat || L.deepest = 3 || 32 < quotas
      || (L.timing && (slots = 0 || 48 < s.slotClaims p + slots)) || s.sec.rngFail || s.boot.form != .normal then some 6
  else none

/-- Quads claimed and left Off (Table 1-5, Table 18-3). -/
def State.claimQuads (s : State) (p : Pid) (mask : BitVec 16) : State :=
  { s with quads := Vector.ofFn fun q : Fin 16 =>
      if mask.getLsbD q.val then { QuadState.reset with owner := some p } else s.quads[q] }

/-- R588: the partition with every VF register at its reset value; what the operator set stays. -/
def Prt.committed (P : Prt) (now : W64) (token : BitVec 128) : Prt :=
  let L := { P.life with
    quadsAct := P.life.quads, floorAct := P.life.floor, boardAct := P.life.board, timingAct := P.life.timing, drainFrom := none,
    wasSuspended := false, halting := false, idleSince := none, pausedAt := none, keyRetired := false }
  { Prt.reset with
    life := L,
    tok := { Tokens.reset with token := token, valid := true, prtUnread := 0xF },
    fn := { FnState.reset with loss := { LossState.reset with hbTmo := P.fn.loss.hbTmo } },
    meas := { Measure.reset with committedAt := now },
    mtr := P.mtr.commit now }

/-- Decisions and reductions of a slice belong to an earlier job once its partition here begins anew (log entry 30). -/
def State.clearSlice (s : State) (slice : BitVec 12) : State :=
  { s with jobs := s.jobs.filter (·.slice != slice), reds := s.reds.filter (·.slice != slice) }

/-- Table 1-5: a COMMIT that passes its checks. -/
def State.commitDone (s : State) (p : Pid) : State :=
  let L := s.life p
  let slots := (s.sec.fslots[p]).toNat
  let s := ((s.dropChans p).clearSlice L.slice).newKey (keyId p)
  let token := Config.drbg 128 s.nfree
  let s := (s.took.modPrt p fun P => P.committed s.pwr.time token).claimQuads p L.quads
  let s := if L.timing then s.modSec fun S => S.claim p slots else s
  let s := (s.cacheDrop (.vf p)).modPwr fun P =>
    { P with ceil := vmod P.ceil p fun _ => 2000 }
  s.setPState p .ready 0

/-- COMMIT. -/
def execCommit (p : Pid) (s : State) : Host.Outcome State Fault Refusal :=
  .next (s.prtCmd p 2 (· = .configuring) fun s =>
    match s.commitCheck p with
    | some e => s.endPrt p 2 e
    | none => (s.commitDone p).endPrt p 2 0)

/-! ### START, SUSPEND, RESUME -/

/-- A partition's engines take work from now on: its rings' heads are judged and its idle time starts again. -/
def State.goes (s : State) (p : Pid) : State := (s.busyNow p).noteReady (.vf p)

/-- START: quads powered; doorbells recorded in READY are acted on; the watchdog counts and the heartbeat timer restarts (R520, R370). -/
def execStart (p : Pid) (s : State) : Host.Outcome State Fault Refusal :=
  .next (s.prtCmd p 4 (· = .ready) fun s =>
    let s := (s.modPwd p fun w => w.restart s.pwr.time.toNat).modLoss (.vf p) fun l => { l with hbFrom := s.pwr.clk }
    ((((s.setPState p .running 0).wakeQuads p).unpause p).goes p).endPrt p 4 0)

/-- SUSPEND: every engine stops at its next command boundary; a RETAIN halt under way becomes a loss that follows (R385). -/
def execSuspend (p : Pid) (s : State) : Host.Outcome State Fault Refusal :=
  .next (s.prtCmd p 5 (fun x => x = .running || x = .napping) fun s =>
    (s.modLife p fun L => { L with exec := some .suspend, lossAfter := L.halting, halting := false }).startDrain p)

/-- SUSPEND_HALT_COMPLETE: every engine has halted; the timers pause (R120, R161) and the quads sleep. -/
def State.suspended (s : State) (p : Pid) : State :=
  if (s.life p).exec = some .suspend && !s.engineBusy p then
    let s := ((s.endDrain p).setPState p .suspended 0).pause p
    (s.sleepQuads p).endPrt p 5 0
  else s

/-- SUSPEND_HALT_COMPLETE. -/
def execSuspendHaltComplete (p : Pid) (s : State) : Host.Outcome State Fault Refusal := .next (s.suspended p)

/-- RESUME: engines take the next command from each queue. -/
def execResume (p : Pid) (s : State) : Host.Outcome State Fault Refusal :=
  .next (s.prtCmd p 6 (· = .suspended) fun s =>
    ((((s.setPState p .running 0).wakeQuads p).unpause p).goes p).endPrt p 6 0)

/-! ### DESTROY, draining and scrubbing (R23 to R28) -/

/-- R30, R445: consent is forced to 0. -/
def State.forceConsent (s : State) (p : Pid) : State :=
  if (s.prt p).tok.consent then (s.modPrt p fun P => { P with tok := { P.tok with consent := false } }).postOper p 0x0803 2 0 else s

/-- R42: quads that a RESIZE cut short had claimed are free again. -/
def State.freeClaims (s : State) (p : Pid) : State :=
  { s with quads := Vector.ofFn fun q : Fin 16 =>
      if s.quads[q].owner = some p && !(s.life p).quadsAct.getLsbD q.val then { QuadState.reset with mhz := s.quads[q].mhz }
      else s.quads[q] }

/-- DESTROY: new doorbells are ignored, what has not started is cancelled, consent goes, and the engines halt. -/
def execDestroy (p : Pid) (s : State) : Host.Outcome State Fault Refusal :=
  .next (s.prtCmd p 7 PState.committed fun s =>
    let s := s.freeClaims p
    let s := (((s.unpause p).setPState p .draining 0).forceConsent p).modLife p fun L =>
      { L with exec := some .destroy, halting := false, lossAfter := false }
    let s := (s.modPwd p Watchdog.disabled).dropLost p
    (s.cancelUnstarted p).startDrain p)

/-- R27 step 1: DRAINING ends; the final meter record is formed, channels still bound are freed (R344), and DESTROY ends. -/
def State.enterScrub (s : State) (p : Pid) : State :=
  let s := ((s.endDrain p).setPState p .scrubbing 7).formRecord p s.pwr.time.toNat true
  let s := (s.dropChans p).cacheDrop (.vf p)
  let s := if s.lost (.vf p) then s.dropHeld (.vf p) else s
  (s.modMtr p fun m => { m with due := Vector.replicate 8 0 }).endPrt p 7 0

/-- R24, R25: the drain timeout: what is still inside a command stops at once, and the halt that waited for it ends. -/
def execDrainTimeout (p : Pid) (s : State) : Host.Outcome State Fault Refusal :=
  .next (if !s.drainOver p then s
    else
      let L := s.life p
      if L.st = .draining then ((s.stopWork (.vf p) .partitionReset).cancelUnstarted p).enterScrub p
      else
        let s := s.endDrain p
        let s := if L.exec = some .suspend || L.halting then s.stopWork (.vf p) .cancelled else s
        (s.suspended p).retainDone p)

/-- Entries of a partition that the device could still read in DRAINING. -/
def State.queuedLeft (s : State) (p : Pid) : Bool :=
  !s.lost (.vf p) && (ringsOf (.vf p)).any fun r => (s.ring r).queued && (s.ring r).state != .disabled

/-- DRAIN_COMPLETE: every engine of a DRAINING partition is idle and nothing queued is left. -/
def execDrainComplete (p : Pid) (s : State) : Host.Outcome State Fault Refusal :=
  .next (if (s.life p).st = .draining && !s.engineBusy p && !s.queuedLeft p
      && (ringsOf (.vf p)).all fun r => (s.ring r).cmds.isEmpty then s.enterScrub p else s)

/-- R442: no memory access under the key of the partition is left. -/
def State.keyIdle (s : State) (p : Pid) : Bool :=
  let m := (s.prt p).mem
  m.waits.isEmpty && !m.tiles.any (·.isMoving)

/-- KEY_RETIRE (R27 step 2, R442). -/
def execKeyRetire (p : Pid) (s : State) : Host.Outcome State Fault Refusal :=
  .next (if (s.life p).st = .scrubbing && !(s.life p).keyRetired && s.keyIdle p then
    (s.retireKey p).modLife p fun L => { L with keyRetired := true }
  else s)

/-- R27 steps 3 to 7: what a scrubbed partition keeps: its page, its meters, and the counters that COMMIT resets. -/
def Prt.scrubbed (P : Prt) : Prt :=
  { P with
    life := { P.life with quadsAct := 0, floorAct := 0, boardAct := 0, timingAct := false, keyRetired := false, exec := none,
                          drainFrom := none, pausedAt := none, idleSince := none, wasSuspended := false },
    tok := Tokens.reset,
    mem := { Memory.reset with cnt := P.mem.cnt },
    rings := Vector.replicate 64 Ring.reset,
    fn := { P.fn with mail := Mailbox.reset, held := [], evtOwed := 0, wrr := [],
                      loss := { P.fn.loss with lost := false, keepOk := false } },
    bells := 0,
    bars := Vector.replicate 32 Barrier.reset,
    ep := { P.ep with c := 0, revoked := [], byCommit := false },
    cores := P.cores.map CoreStreams.cleared,
    rt := { P.rt with en := false, begun := false },
    scb := { P.scb with plan := none, runOpen := false, insts := [], tasks := [], lossy := [], injected := [] },
    wvl := { P.wvl with pass := .idle, upd := none },
    gx := { P.gx with groups := Vector.replicate 16 none, slots := [], runs := [] },
    sol := { P.sol with handles := Vector.replicate 64 none, drops := [] },
    pwd := Watchdog.reset }

/-- Quads released are OFF, their tile memory zeroed (R28, Table 18-3). -/
def State.releaseQuads (s : State) (p : Pid) : State :=
  { s with quads := s.quads.map fun q => if q.owner = some p then { QuadState.reset with mhz := q.mhz } else q }

/-- SCRUB_COMPLETE: every step of R27 has ended. -/
def execScrubComplete (p : Pid) (s : State) : Host.Outcome State Fault Refusal :=
  .next (if (s.life p).st = .scrubbing && (s.life p).keyRetired then
    let s := ((s.dropRuns p).modPrt p Prt.scrubbed).releaseQuads p
    (s.modSec fun S => S.unclaim p).setPState p .empty 8
  else s)

/-! ### Idle and nap (Table 1-5, R493) -/

/-- IDLE_TIMEOUT: nothing queued or in flight for IDLE_US. In DETACHED and RETAINED the quads sleep and the state stays. -/
def execIdleTimeout (p : Pid) (s : State) : Host.Outcome State Fault Refusal :=
  .next (let L := s.life p
    if L.idleUs = 0 || !s.idleFor p L.idleUs.toNat then s
    else match L.st with
      | .running => if L.exec = some .suspend || L.halting then s else (s.setPState p .napping 1).sleepQuads p
      | .detached | .retained => s.sleepQuads p
      | _ => s)

/-- TNT_NAP: as the idle timeout, without waiting. -/
def execTntNap (p : Pid) (s : State) : Host.Outcome State Fault Refusal :=
  .next (let L := s.life p
    if s.vfFull p && L.st = .running && L.exec != some .suspend && !L.halting && !s.hasWork p then
      (s.setPState p .napping 2).sleepQuads p
    else s)

/-! ### The PRT page (R16, R17) -/

/-- States in which the settings of R17 may be written: from CONFIGURING to RETAINED. -/
def PState.settable (x : PState) : Bool := x = .configuring || x.committed

/-- PRT_STAGED_WRITE (R16). -/
def execPrtStagedWrite (p : Pid) (reg : StagedReg) (v : W32) (s : State) : Host.Outcome State Fault Refusal :=
  .next (if s.pfOpen && (s.life p).st.settable then
    s.modLife p fun L => match reg with
      | .quads => { L with quads := v.truncate 16 }
      | .floor => { L with floor := v.truncate 7 }
      | .board => { L with board := v.truncate 7 }
  else s)

/-- R17: a write of PRT_MODE, each field judged on its own. -/
def Life.writeMode (L : Life) (v : W32) : Life :=
  let n := v.toNat
  let deep := BitVec.ofNat 2 (bitsOf n 4 2)
  { L with
    idleUs := BitVec.ofNat 16 (n / 65536),
    deepest := if deep = 3 && L.st != .configuring then L.deepest else deep,
    retainSram := bitOf n 2, hostloss := bitOf n 1,
    timing := if L.st = .configuring || L.st = .ready then bitOf n 0 else L.timing }

/-- PRT_MODE_WRITE: PRT_MODE, PRT_SLICE or PRT_DRAIN (R17). -/
def execPrtModeWrite (p : Pid) (reg : ModeReg) (v : W32) (s : State) : Host.Outcome State Fault Refusal :=
  .next (let st := (s.life p).st
    if !s.pfOpen || !st.settable then s
    else match reg with
      | .mode => s.modLife p (·.writeMode v)
      | .slice => if st = .configuring then s.modLife p fun L => { L with slice := v.truncate 12 } else s
      | .drain => s.modLife p fun L => { L with drain := v.truncate 16 })

/-! ### Consent and tokens (R30 to R33, R445) -/

/-- Word `k` of a token. -/
def tokenWord (t : BitVec 128) (k : Fin 4) : W32 := BitVec.ofNat 32 (t.toNat / 2 ^ (32 * k.val))

/-- The mask of word `k`. -/
def wordBit (k : Fin 4) : BitVec 4 := BitVec.ofNat 4 (2 ^ k.val)

/-- PRT_TOKEN_READ (R32): each word is revealed once. -/
def execPrtTokenRead (p : Pid) (k : Fin 4) (s : State) : Host.Outcome State Fault Refusal :=
  .next (if !s.pfOpen then s
    else
      let T := (s.prt p).tok
      let v := if T.prtUnread.getLsbD k.val then tokenWord T.token k else 0
      (s.modPrt p fun P => { P with tok := { P.tok with prtUnread := P.tok.prtUnread &&& ~~~(wordBit k) } }).emit
        (.regValue .pf (0x10000 + 0x1000 * p.val + 0x30 + 4 * k.val) v))

/-- TNT_TOKEN_READ (R33). -/
def execTntTokenRead (p : Pid) (k : Fin 4) (s : State) : Host.Outcome State Fault Refusal :=
  .next (if !s.vfFull p then s
    else
      let T := (s.prt p).tok
      let v := if T.tntUnread.getLsbD k.val then tokenWord T.token k else 0
      (s.modPrt p fun P => { P with tok := { P.tok with tntUnread := P.tok.tntUnread &&& ~~~(wordBit k) } }).emit
        (.regValue (.vf p) (0x50030 + 4 * k.val) v))

/-- TNT_TOKEN_ROTATE (R33): a new token, readable once by the tenant alone. -/
def execTntTokenRotate (p : Pid) (s : State) : Host.Outcome State Fault Refusal :=
  .next (if s.vfFull p then
    let t := Config.drbg 128 s.nfree
    s.took.modPrt p fun P => { P with tok := { P.tok with token := t, valid := true, prtUnread := 0, tntUnread := 0xF } }
  else s)

/-- TNT_CONSENT_WRITE (R30, R445). -/
def execTntConsentWrite (p : Pid) (v : W32) (s : State) : Host.Outcome State Fault Refusal :=
  .next (let b := v.getLsbD 0
    if s.vfFull p && (s.prt p).tok.consent != b then
      (s.modPrt p fun P => { P with tok := { P.tok with consent := b } }).postOper p 0x0803 (bnat b) 0
    else s)

/-! ### The attach check (R34, R35) -/

/-- R34, R35: the result of presenting the token in TNT_ATTACH0–3: 1 OK, 2 MISMATCH, 3 LOCKED, 4 NOT_DETACHED. -/
def State.attachResult (s : State) (p : Pid) : Nat :=
  let T := (s.prt p).tok
  if (s.life p).st != .detached && (s.life p).st != .retained then 4
  else if T.lockedAt.isSome then 3
  else if T.valid && T.attach = T.token then 1
  else 2

/-- R35: the counts that follow a result. -/
def Tokens.counted (T : Tokens) (r now : Nat) : Tokens :=
  let fails := if r = 2 || r = 3 then satAdd T.failCnt 1 else T.failCnt
  let T := { T with attachSts := BitVec.ofNat 3 r, failCnt := fails }
  if r = 1 then { T with misses := 0 }
  else if r = 2 then { T with misses := T.misses + 1, lockedAt := if T.misses + 1 = 8 then some now else none }
  else T

/-- ATTACH_LOCKOUT_END (R35): 1 s after the eighth consecutive MISMATCH. -/
def execAttachLockoutEnd (p : Pid) (s : State) : Host.Outcome State Fault Refusal :=
  .next (match (s.prt p).tok.lockedAt with
    | some t => if 1000000000 ≤ s.since t then s.modPrt p fun P => { P with tok := { P.tok with lockedAt := none, misses := 0 } } else s
    | none => s)

end Sys2Proof.Machine
end

