-- ==== Sys2Proof/Machine/Resize.lean ====
section
/-! DEFINITION. Machine/Resize.lean: RESIZE: its checks, the moves it brings about, and what is in force when they have ended (R37 to R42,
R51, R168, R228, R452, R586). -/

namespace Sys2Proof.Machine

/-! ### What a RESIZE changes and its checks (R37, R40, R41, R452) -/

/-- The values a RESIZE puts in force. -/
structure Sizes where
  quads  : BitVec 16
  floor  : BitVec 7
  board  : BitVec 7
  timing : Bool
  deriving DecidableEq, Repr

/-- R17, R37: the staged values; a staged TIMING counts in READY alone. -/
def Life.staged (L : Life) : Sizes := ⟨L.quads, L.floor, L.board, if L.st = .ready then L.timing else L.timingAct⟩

/-- The values in force. -/
def Life.inForce (L : Life) : Sizes := ⟨L.quadsAct, L.floorAct, L.boardAct, L.timingAct⟩

/-- R38, R40, R41: a change that the state does not allow. -/
def Life.badResize (L : Life) (n : Sizes) : Bool :=
  !(L.st = .ready || L.st = .suspended)
    && (n.quads != L.quadsAct || n.floor.toNat < L.floorAct.toNat || n.board.toNat < L.boardAct.toNat)

/-- The floor tiles of a partition beyond a floor. -/
def Memory.surplus (m : Memory) (floor : Nat) : Nat := m.count Home.inFloor - floor * tilesPerGib

/-- Tiles that leave stacked DRAM for the board tier: floor surplus in FENCED mode, pool tiles when it becomes FENCED. -/
def State.demoted (s : State) (p : Pid) (n : Sizes) : Nat :=
  let m := (s.prt p).mem
  if n.timing then m.surplus n.floor.toNat + m.count Home.inPool else 0

/-- R40, R452: the tiles to be demoted, with those in the board tier, exceed the board capacity, judged at 64 sectors a tile. -/
def State.demoteOver (s : State) (p : Pid) (n : Sizes) : Bool :=
  tilesPerBoard * n.board.toNat < s.demoted p n + (s.prt p).mem.count Home.isBoard

/-- R41: the occupied board sectors exceed a capacity. -/
def State.sectorsOver (s : State) (p : Pid) (board : Nat) : Bool :=
  board * 2 ^ 24 < ((s.prt p).mem.tiles.map (·.sectors)).sum

/-- R37, R15, R452: the code of the first check of a RESIZE that fails. -/
def State.resizeCheck (s : State) (p : Pid) (n : Sizes) : Option (BitVec 3) :=
  let L := s.life p
  let slots := (s.sec.fslots[p]).toNat
  let floors := n.floor != L.floorAct
  let mode := n.timing != L.timingAct
  if L.badResize n then some 2
  else if n.quads != L.quadsAct && s.quadTaken p n.quads then some 3
  else if (floors && s.floorOver p n.floor.toNat) || ((floors || mode) && n.timing && n.floor = 0) then some 4
  else if n.board != L.boardAct && s.boardOver p n.board.toNat then some 5
  else if !mode && n.timing && n.floor.toNat < L.floorAct.toNat && s.demoteOver p n then some 5
  else if n.board.toNat < L.boardAct.toNat && s.sectorsOver p n.board.toNat then some 5
  else if (n.quads != L.quadsAct && n.quads = 0) || (floors && 95 < n.floor.toNat) || (n.board != L.boardAct && 96 < n.board.toNat)
      || (mode && n.timing && (slots = 0 || 48 < s.slotClaims p + slots)) then some 6
  else if mode && n.timing && s.demoteOver p n then some 5
  else none

/-! ### The moves (R38 to R40, R452, Table 7-4) -/

/-- A home on a quad that the RESIZE removes. -/
def Home.leaving (was now : BitVec 16) : Home → Bool
  | .tileMem c => was.getLsbD (c.val / 4) && !now.getLsbD (c.val / 4)
  | _ => false

/-- A tile with its hint rank, as R190 orders victims. -/
def Memory.ranked (m : Memory) (p : Pid) (t : Tile) : Pid × Tile × Nat :=
  (p, t, match m.objOf t.num with
    | some o => if o.hint = 2 then 1 else 0
    | none => 0)

/-- The oldest `n` tiles of a partition whose home `h` selects and that do not move, oldest first. -/
def State.oldest (s : State) (p : Pid) (h : Home → Bool) (n : Nat) : List TileNo :=
  let m := (s.prt p).mem
  let l := (m.tiles.filter fun t => h t.home && !t.isMoving && !t.isDropped).map (m.ranked p)
  ((l.foldr (insertBy victimBefore) []).take n).map fun x => x.2.1.num

/-- A tile takes a new home for a RESIZE; a reserved home of a DROPPED tile changes at once. -/
def State.rehome (s : State) (p : Pid) (t : TileNo) (h : Home) : State :=
  if (s.tile? p t).any (·.isDropped) then s.modTile p t fun x => { x with home := h } else s.startMove p t h .resize

/-- R228: a KEEP instance whose tile leaves tile memory becomes STACK. -/
def State.stackedInst (s : State) (p : Pid) (t : TileNo) : State :=
  match (s.prt p).scb.instOf t with
  | some (x, _, _) =>
    if x.disp = .keep then (s.modInst p x.rec_ x.mb fun y => { y with disp := .stack }).countDemotion p else s
  | none => s

/-- Table 7-4: a tile of a removed quad goes to stacked DRAM; where there is no room, the oldest pool tile is evicted whatever its age,
or in FENCED mode the oldest floor tile of the partition is demoted. -/
def State.leaveQuad (s : State) (p : Pid) (floor : Nat) (t : TileNo) : State :=
  let at_ (pool : Bool) : Home := .stacked ((s.pickStack t none).getD ⟨t % 6, Nat.mod_lt _ (by omega)⟩) pool
  let s := s.stackedInst p t
  let evicted : State := match s.victim 0 with
    | some v => s.evict v
    | none => s
  if (s.prt p).mem.count Home.inFloor < min (s.life p).floorAct.toNat floor * tilesPerGib then
    (if s.countAll Home.inStacked < s.stackedCap then s else evicted).rehome p t (at_ false)
  else if (s.life p).timingAct then
    match s.oldest p Home.inFloor 1 with
    | v :: _ => (s.rehome p v .board).rehome p t (at_ false)
    | [] => s.rehome p t .board
  else if s.countAll Home.inPool < s.poolSize then s.rehome p t (at_ true)
  else if (s.victim 0).isSome then evicted.rehome p t (at_ true)
  else s.rehome p t .board

/-- The pool tiles that the floors, the claimed growth counted, leave no room for. -/
def State.poolOver (s : State) (used : Nat) : Nat :=
  used - (s.stackedCap - ((List.finRange 16).map fun q =>
    if (s.life q).st.holds then (s.life q).floorClaim * tilesPerGib else 0).sum)

/-- R39: the first victim of R190 among the tiles of other partitions, whatever its age. -/
def State.otherVictim (s : State) (p : Pid) : Option (Pid × TileNo) :=
  (firstBy victimBefore (s.poolTiles.filter (·.1 != p))).map fun x => (x.1, x.2.1.num)

/-- R39: evictions that cover a floor's growth. -/
def State.growthEvicts (s : State) (p : Pid) : Nat → State
  | 0 => s
  | n + 1 => match s.otherVictim p with
    | some v => (s.evict v).growthEvicts p n
    | none => s

/-- The moves that a RESIZE still needs are chosen; a tile that moves already, or failed to move, is chosen again later (R188). -/
def State.resizeMoves (s : State) (p : Pid) (n : Sizes) : State :=
  let was := (s.life p).quadsAct
  let ts := ((s.prt p).mem.tiles.filter fun t => t.home.leaving was n.quads && !t.isMoving).map (·.num)
  let s := ts.foldl (fun s t => s.leaveQuad p n.floor.toNat t) s
  let s := if n.timing && (s.life p).timingAct then
      (s.oldest p Home.inFloor ((s.prt p).mem.surplus n.floor.toNat)).foldl (fun s t => s.rehome p t .board) s else s
  let s := if n.timing then
      (s.oldest p Home.inPool (s.prt p).mem.tiles.length).foldl (fun s t => s.rehome p t .board) s else s
  if (s.life p).floorAct.toNat < n.floor.toNat then s.growthEvicts p (s.poolOver (s.countAll Home.inPool)) else s

/-- Some tile still leaves a home that `h` selects. -/
def State.leavingAny (s : State) (h : Home → Bool) : Bool :=
  (List.finRange 16).any fun q => (s.prt q).mem.tiles.any fun t => t.isMoving && h t.home

/-- R37 to R41, R452: every move and eviction of a RESIZE has ended. -/
def State.resizeOver (s : State) (p : Pid) (n : Sizes) : Bool :=
  let L := s.life p
  let m := (s.prt p).mem
  let quads := n.quads != L.quadsAct
  !m.tiles.any (fun t => !t.isDropped && t.home.leaving L.quadsAct n.quads)
    && !(quads && m.tiles.any fun t => match t.st with
        | .moving x => match x.cause with
          | .pair _ => true
          | _ => false
        | _ => false)
    && !(n.timing && m.tiles.any fun t => t.isMoving && t.home.inPool)
    && !(n.timing && n.floor.toNat * tilesPerGib < (m.tiles.map (·.fills Home.inFloor)).sum && m.tiles.any fun t => t.isMoving && t.home.inFloor)
    && !(L.floorAct.toNat < n.floor.toNat && s.poolOver (s.filled Home.inPool) != 0 && s.leavingAny Home.inPool)

/-! ### In force (R38, R40, R51, R168, R452, R586) -/

/-- R51: objects with a tile pinned on a removed quad lose their pin. -/
def unpin (cs : List Core) (was now : BitVec 16) (o : Obj) : Obj :=
  if o.hint = 1 && (List.range o.tiles).any (fun i => match pinCore cs o.core i with
      | some c => (Home.tileMem c).leaving was now
      | none => false)
  then { o with hint := 2, core := 0 } else o

/-- Where a relative core number goes when the mask changes; none where its quad is removed. -/
def renumber (was now : List Core) (r : Nat) : Option Nat :=
  match was[r]? with
  | some c => if now.contains c then some (now.findIdx (· = c)) else none
  | none => none

/-- R586: a pair follows the number of its producing unit. -/
def Pair.renumbered (was now : List Core) (x : Pair) : Pair :=
  if x.bound && !x.cprod then
    match renumber was now x.prodCore.toNat with
    | some r => { x with prodCore := BitVec.ofNat 6 r }
    | none => x
  else x

/-- R586: core pages follow their cores; those of removed quads go, and added cores start at their reset values. -/
def renumberCores (was now : List Core) (v : Vector CoreStreams 64) : Vector CoreStreams 64 :=
  Vector.ofFn fun r : Fin 64 =>
    match now[r.val]? with
    | some c => if h : was.contains c && was.findIdx (· = c) < 64 then
        let x := v[was.findIdx (· = c)]'(by simp at h; exact h.2)
        { x with pairs := x.pairs.map (Pair.renumbered was now) } else CoreStreams.reset
    | none => CoreStreams.reset

/-- R168: pairs whose producing unit lies on a removed quad become BROKEN; pairs on removed cores leave their tiles unbound. -/
def State.leavePairs (s : State) (p : Pid) (was now : List Core) : State :=
  let gone (r : Nat) : Bool := (was[r]?).isSome && (renumber was now r).isNone
  let s := (pairsOf p).foldl (fun s b =>
    let x := s.pair b
    if x.bound && !x.cprod && gone x.prodCore.toNat && !gone b.core.val then s.breakPair b else s) s
  (pairsOf p).foldl (fun s b =>
    if gone b.core.val && ((s.pair b).bound || (s.pair b).binding) then
      (s.pair b).tiles.foldl (fun s t => s.modTile p t fun x => { x with bound := false }) s else s) s

/-- The cores of a mask, in relative order. -/
def coresIn (mask : BitVec 16) : List Core := (List.finRange 64).filter fun c => mask.getLsbD (c.val / 4)

/-- R38, R51, R586: a new quad mask is in force; removed quads are zeroed and OFF. -/
def State.newQuads (s : State) (p : Pid) (now : BitVec 16) : State :=
  let was := (s.life p).quadsAct
  if was = now then s
  else
    let a := coresIn was
    let b := coresIn now
    let s := s.leavePairs p a b
    let s := s.modPrt p fun P => { P with
      mem := { P.mem with objs := P.mem.objs.map (unpin a was now) }, cores := renumberCores a b P.cores,
      life := { P.life with quadsAct := now } }
    s.freeClaims p

/-- R40: floor tiles above a SHARED partition's new floor go to the shared pool, oldest first. -/
def State.releaseFloor (s : State) (p : Pid) (floor : Nat) : State :=
  let ts := s.oldest p Home.inFloor ((s.prt p).mem.surplus floor)
  ts.foldl (fun s t => s.modTile p t fun x =>
    { x with home := match x.home with
      | .stacked k _ => .stacked k true
      | h => h }) s

/-- R37, R452: every change of the RESIZE is in force, in one step. -/
def State.resizeDone (s : State) (p : Pid) (n : Sizes) (slots : Nat) : State :=
  let L := s.life p
  let s := s.newQuads p n.quads
  let s := if !n.timing then s.releaseFloor p n.floor.toNat else s
  let s := s.modLife p fun L => { L with floorAct := n.floor, boardAct := n.board, timingAct := n.timing }
  let s := if n.timing && !L.timingAct then s.modSec fun S => S.claim p slots
    else if !n.timing && L.timingAct then s.modSec fun S => S.unclaim p
    else s
  s.endPrt p 8 0

/-- RESIZE_COMPLETE: the moves and evictions have ended; those that did not come about are chosen again. -/
def execResizeComplete (p : Pid) (s : State) : Host.Outcome State Fault Refusal :=
  .next (match (s.life p).exec with
    | some (.resize q f b t k) =>
      let n : Sizes := ⟨q, f, b, t⟩
      let s := s.resizeMoves p n
      if s.resizeOver p n then s.resizeDone p n k else s
    | _ => s)

/-- R19, R38: the quads that a RESIZE adds are the partition's from its acceptance; they stay Off. -/
def State.addQuads (s : State) (p : Pid) (mask : BitVec 16) : State :=
  { s with quads := Vector.ofFn fun q : Fin 16 =>
      if mask.getLsbD q.val && s.quads[q].owner.isNone then { QuadState.reset with owner := some p, mhz := s.quads[q].mhz }
      else s.quads[q] }

/-- RESIZE (R37): its checks, and the start of its moves; one that changes nothing ends at once with OK (R42). -/
def execResize (p : Pid) (s : State) : Host.Outcome State Fault Refusal :=
  .next (s.prtCmd p 8 (fun x => x = .ready || x = .running || x = .napping || x = .suspended) fun s =>
    let L := s.life p
    let n := L.staged
    if n = L.inForce then s.endPrt p 8 0
    else match s.resizeCheck p n with
      | some e => s.endPrt p 8 e
      | none =>
        let k := (s.sec.fslots[p]).toNat
        ((s.addQuads p n.quads).modLife p fun L =>
          { L with exec := some (.resize n.quads n.floor n.board n.timing k) }).resizeMoves p n)

end Sys2Proof.Machine
end

