-- ==== Sys2Proof/Machine/HostLink.lean ====
section
/-! DEFINITION. Machine/HostLink.lean: the host link, its resets and losses, and the attach (chapter 13). -/

namespace Sys2Proof.Machine

/-! ### Attach under KEEP (R381) -/

/-- Write one held entry to its ring, where that can take it now; otherwise it stays held. -/
def State.deliver (fn : Fn) (s : State) (e : HeldEntry) : State :=
  match e with
  | .completion n _ => match (ringsOf fn)[n]? with
    | some q => releaseHeld q s e
    | none => s.hold fn e
  | .moverWb n iova b irq => match (ringsOf fn)[n]? with
    | some r => if (s.ring r).state = .active then (s.hostWrite fn iova b).noteEntry r irq else s
    | none => s

/-- Held entries are written in production order, before any newer entry. -/
def State.deliverHeld (s : State) (fn : Fn) : State :=
  (s.fnSt fn).held.foldl (State.deliver fn) (s.modFn fn fun f => { f with held := [] })

/-- Each ring with IWB_EN set receives one index writeback. -/
def State.writeIndices (s : State) (fn : Fn) : State :=
  (ringsOf fn).foldl (fun s r =>
    let R := s.ring r
    if R.iwbEn && R.state != .disabled then
      (s.hostWrite fn R.iwbAddr (leVec 4 R.dev.word)).modRing r fun R => { R with iwbDue := false, iwbLast := some s.pwr.clk }
    else s) s

/-- R374: the timers of flushing reads go on from where the loss suspended them. -/
def CmdStage.later (d : Nat) : CmdStage → CmdStage
  | .preFlush t => .preFlush (t + d)
  | .postFlush t st x => .postFlush (t + d) st x
  | g => g

/-- A descriptor's flushing read goes on. -/
def DescRun.later (d : Nat) (x : DescRun) : DescRun := { x with flushAt := x.flushAt.map (· + d) }

/-- A command whose host accesses proceed. -/
def Cmd.proceeds (k : Cmd) (d : Nat) : Cmd :=
  { k with
    wait := none, stage := k.stage.later d,
    run := k.run.map fun r => { r with active := r.active.map fun a => { a with desc := a.desc.map (DescRun.later d) } } }

/-- A waiting TIMESTAMP or WRITE_VALUE writes and ends; any other waiting operation acts again by its row. -/
def State.opProceeds (s : State) (o : OpRef) : State :=
  match s.activeOp o with
  | some (_, a) =>
    if a.wait.isNone then s
    else
      let s := s.modOp o fun a => { a with wait := none }
      if a.desc.isNone then (s.hostOpWrite o a.op).opEnd o .ok 0 else s
  | none => s

/-- Waiting host accesses proceed. -/
def State.waitsProceed (s : State) (fn : Fn) (d : Nat) : State :=
  let s := (ringsOf fn).foldl (fun s r => s.modRing r fun R => { R with cmds := R.cmds.map (·.proceeds d) }) s
  let s := (s.runningChans fn).foldl (fun s m => s.modChan m fun c => { c with run := c.run.map (DescRun.later d) }) s
  let s := (s.activeOps fn).foldl State.opProceeds s
  match fn with
  | .vf p => s.endUpdate p
  | .pf => s

/-! ### Attach under REBASE (R382, R383, Table 13-4) -/

/-- What a submission ring becomes: STOPPING; unstarted commands and unconsumed entries are gone. -/
def Ring.rebase (R : Ring) : Ring :=
  { R with state := .stopping, rebased := true, cancels := [], cmds := R.cmds.filter fun k => !k.unstarted }

/-- Table 13-4. The count of commands discarded, and of Mover writebacks. -/
def State.rebaseRings (s : State) (fn : Fn) : State × Nat × Nat :=
  let enabled := (ringsOf fn).filter fun r => (s.ring r).state != .disabled
  let gone := (enabled.map fun r => if (s.ring r).isKind 0 then ((s.ring r).cmds.filter (·.unstarted)).length else 0).sum
  let isWb : HeldEntry → Bool
    | .moverWb _ _ _ _ => true
    | _ => false
  let wbs := ((s.fnSt fn).held.filter isWb).length
  let s := s.modFn fn fun f => { f with held := f.held.filter fun e => !isWb e }
  let s := enabled.foldl (fun s r =>
    if (s.ring r).isKind 0 then s.modRing r Ring.rebase
    else if (s.ring r).isKind 2 then s
    else s.modRing r fun R => { R with state := .disabled }) s
  let s := (ringsOf fn).foldl (fun s r => match s.chanOf r with
    | some m => if s.chans[m].st = .halted then s else s.haltChan m 0
    | none => if (s.ring r).isKind 2 then s.modRing r fun R => { R with state := .disabled } else s) s
  (s, gone, wbs)

/-- R382: an operation whose host access waits ends HOST_LOST. -/
def State.opLost (s : State) (o : OpRef) : State :=
  match s.activeOp o with
  | some (_, a) => match a.hostWait with
    | some d => s.opEnd o .hostLost (BitVec.ofNat 32 d)
    | none => s
  | none => s

/-- R382: a command whose own host access waits ends HOST_LOST. -/
def State.cmdLost (s : State) (c : CmdRef) : State :=
  match s.cmd? c with
  | none => s
  | some k =>
    match k.stage with
    | .postFlush _ _ _ => s.conclude c .hostLost 3
    | _ => match k.wait with
      | none => s
      | some w =>
        let s := s.modCmd c fun k => { k with wait := none }
        let s := match c.ring with
          | .vf p _ => s.modWvl p fun W => if W.upd.any (fun (u : Update) => u.cmd = c) then { W with upd := none, pass := .idle } else W
          | .pf _ => s
        s.finish c .hostLost (BitVec.ofNat 32 w.code)

/-- A REBASE attach of a function. -/
def State.rebaseFn (s : State) (fn : Fn) : State × Nat × Nat :=
  let (s, gone, wbs) := s.rebaseRings fn
  let s := s.cacheDrop fn
  let s := match fn with
    | .vf p => s.modPrt p fun P => { P with win := { P.win with en := false } }
    | .pf => s
  let s := (s.activeOps fn).foldl State.opLost s
  let s := ((ringsOf fn).flatMap fun r => (s.ring r).cmds.map fun k => (⟨r, k.seq⟩ : CmdRef)).foldl State.cmdLost s
  let s := (ringsOf fn).foldl State.stopIfDone s
  (s, gone, wbs)

/-! ### Attach (R380, R384) -/

/-- TNT_HL_RESULT. -/
def LossState.result (l : LossState) : Nat := bnat l.rebased * 2 ^ 31 + l.mvDropped.toNat * 2 ^ 16 + l.cmdDropped.toNat

/-- What a function's attach does to its rings, its held entries and its waiting host accesses. -/
def State.attachFn (s : State) (fn : Fn) (rebase : Bool) : State :=
  let d := s.since (s.fnSt fn).loss.since
  let s := s.modLoss fn fun l => { l with lost := false, rebased := rebase, hbFrom := s.pwr.clk }
  if rebase then
    let (s, gone, wbs) := s.rebaseFn fn
    s.modLoss fn fun l => { l with mvDropped := satAdd 0 wbs, cmdDropped := satAdd 0 gone }
  else s.waitsProceed fn d

/-- R381: under KEEP, EVENTS_LOST comes first; held entries and indices follow the events of the attach. -/
def State.keepWrites (s : State) (fn : Fn) : State := ((s.deliverHeld fn).writeIndices fn).flushRecords

/-- R380: an attach reported OK. -/
def State.attachPart (s : State) (p : Pid) : State :=
  let fn : Fn := .vf p
  let L := s.life p
  let rebase := (s.fnSt fn).loss.mode || !(s.fnSt fn).loss.keepOk
  let s := s.modLoss fn fun l => { l with lost := false }
  let s := (s.endDrain p).modPwd p fun w => w.resume s.pwr.time.toNat
  let s := if rebase then s.attachFn fn true else s
  let s := if L.wasSuspended then s.setPState p .suspended 5 else ((s.setPState p .running 5).wakeQuads p).unpause p
  let s := s.modLife p fun L => { L with wasSuspended := false, halting := false }
  let r := (s.fnSt fn).loss.result
  if rebase then (s.postOper p 0x0602 1 r).goes p
  else
    let s := s.modLoss fn fun l => { l with rebased := false, mvDropped := 0, cmdDropped := 0 }
    let s := (s.postOper p 0x0602 0 0).postPart p 0x0602 0 0
    ((s.keepWrites fn).attachFn fn false).goes p

/-- TNT_ATTACH_GO (R34, R380). -/
def execTntAttachGo (p : Pid) (s : State) : Host.Outcome State Fault Refusal :=
  .next (if !s.vfAttach p then s
    else
      let s := s.exitRetention
      let r := s.attachResult p
      let s := s.modPrt p fun P => { P with tok := P.tok.counted r s.pwr.clk }
      if r = 1 then s.attachPart p else s)

/-- LNK_OP_ATTACH (R384): the operator attaches; no token is needed. -/
def execLnkOpAttach (v : W32) (s : State) : Host.Outcome State Fault Refusal :=
  .next (if !s.pfOpen || !v.getLsbD 0 then s
    else if !s.lost .pf then { s with link := { s.link with attachSts := 2 } }
    else
      let s := s.exitRetention
      let rebase := v.getLsbD 1 || !s.op.fn.loss.keepOk
      let s := { s with
        link := { s.link with attachSts := if rebase then 5 else 1, opStopAt := none },
        wdg := s.wdg.resume s.pwr.time.toNat }
      if rebase then
        let s := s.attachFn .pf true
        ((s.post .pf ⟨0x0602, 16, 1, BitVec.ofNat 64 s.op.fn.loss.result⟩).flushRecords).noteReady .pf
      else
        let s := s.modLoss .pf fun l => { l with lost := false, rebased := false, mvDropped := 0, cmdDropped := 0 }
        let s := s.post .pf ⟨0x0602, 16, 0, 0⟩
        ((s.keepWrites .pf).attachFn .pf false).noteReady .pf)

/-! ### Link resets (R368) -/

/-- Standard PCIe: a function's MSI-X capability and table take their reset values. -/
def FnState.msixReset (f : FnState) : FnState :=
  { f with msixEn := false, msixMask := false, msix := Vector.replicate 64 ⟨0, 0, true, false⟩ }

/-- R368: the link scope is reset, which is also a loss with cause LINK. -/
def State.resetLink (s : State) : State :=
  let s := s.endSession 2
  let s := (List.finRange 16).foldl (fun s p => s.modFn (.vf p) FnState.msixReset) (s.modFn .pf FnState.msixReset)
  let s := (s.modSec fun S => { S with ide := false }).loseHost 1
  { s with link := { s.link with
      up := false, cxl := false, width := 0, rate := 0, training := false, ideShut := false, hdm := none, cache := [], numVfs := 0,
      vfEnable := false } }

/-- R518: link training starts once PERST_N is deasserted and CLOCKS has been reached; the recovery image and the ROM limited form bring up
the clocks that the link needs without it (R535). -/
def State.train (s : State) : State :=
  let clocks := 5 ≤ s.boot.milestone.toNat || (s.boot.hostReady && (s.boot.form = .recovery || s.boot.form = .rom))
  if !s.link.perst && clocks && s.pwr.pkgUp && !s.link.up then { s with link := { s.link with training := true } } else s

/-- PERST_N_ASSERT. -/
def execPerstNAssert (s : State) : Host.Outcome State Fault Refusal :=
  .next (let s := s.resetLink
    { s with link := { s.link with perst := true }, sled := { s.sled with perstA := true } })

/-- PERST_N_DEASSERT (R518, R557): training starts, and the clocking mode is fixed by the reference clock found. -/
def execPerstNDeassert (refclk : Bool) (s : State) : Host.Outcome State Fault Refusal :=
  .next (if !s.link.perst then s
    else
      let s := { s with link := { s.link with perst := false }, sled := { s.sled with perstA := false, refclkA := refclk, sris := !refclk } }
      s.train)

/-- HOT_RESET: the link trains again. -/
def execHotReset (s : State) : Host.Outcome State Fault Refusal := .next (if s.link.up then s.resetLink.train else s)

/-- LINK_DISABLE. -/
def execLinkDisable (s : State) : Host.Outcome State Fault Refusal := .next (if s.link.up then s.resetLink else s)

/-- SURPRISE_LINK_DOWN: the link trains again. -/
def execSurpriseLinkDown (s : State) : Host.Outcome State Fault Refusal := .next (if s.link.up then s.resetLink.train else s)

/-- LNK_STS. -/
def State.lnkSts (s : State) : Nat :=
  let l := s.link
  if !l.up then 0
  else 2 ^ 31 + bnat l.cxl * 2 ^ 30 + bnat s.sec.ide * 2 ^ 29 + bnat l.hdm.isSome * 2 ^ 28 + l.width * 2 ^ 16 + l.rate * 256
    + 2 * bnat (8 < l.width) + 1

/-- Widths and rates of Table 13-1. -/
def linkForm (width rate : Nat) : Bool :=
  (width = 1 || width = 2 || width = 4 || width = 8 || width = 16) && 1 ≤ rate && rate ≤ 6

/-- R360: CXL.cache and CXL.mem run at x8 or wider and 32 GT/s or faster. -/
def cxlForm (width rate : Nat) : Bool := 8 ≤ width && 5 ≤ rate

/-- LINK_UP (R359, R360, R518): `cxl`: the host negotiated CXL.cache and CXL.mem. -/
def execLinkUp (width rate : Nat) (cxl : Bool) (s : State) : Host.Outcome State Fault Refusal :=
  .next (if s.link.training && linkForm width rate then
    { s with link := { s.link with up := true, training := false, width := width, rate := rate, cxl := cxl && cxlForm width rate } }
  else s)

/-- LINK_CHANGED (R359). -/
def execLinkChanged (width rate : Nat) (s : State) : Host.Outcome State Fault Refusal :=
  .next (if s.link.up && linkForm width rate && (width != s.link.width || rate != s.link.rate) then
    let s := { s with link := { s.link with width := width, rate := rate, cxl := s.link.cxl && cxlForm width rate } }
    s.postDev 0x0603 s.lnkSts 0
  else s)

/-! ### Heartbeats (R370) -/

/-- A timeout in ms as it acts: 0 is off, 1 to 9 act as 10, above 60,000 acts as 60,000. -/
def hbMs (v : W16) : Nat := if v = 0 then 0 else max 10 (min 60000 v.toNat)

/-- A function's heartbeat timer has passed its TMO. -/
def State.hbOver (s : State) (fn : Fn) : Bool :=
  let l := (s.fnSt fn).loss
  l.hbTmo != 0 && !l.lost && hbMs l.hbTmo * 1000000 ≤ s.since l.hbFrom

/-- PF_HEARTBEAT_TIMEOUT. -/
def execPfHeartbeatTimeout (s : State) : Host.Outcome State Fault Refusal := .next (if s.hbOver .pf then s.loseHost 2 else s)

/-- VF_HEARTBEAT_TIMEOUT: the timer runs in RUNNING, NAPPING and SUSPENDED. -/
def execVfHeartbeatTimeout (p : Pid) (s : State) : Host.Outcome State Fault Refusal :=
  .next (let st := (s.life p).st
    if s.hbOver (.vf p) && (st = .running || st = .napping || st = .suspended) then s.losePart p 3 false else s)

/-- HEARTBEAT_TMO_WRITE: LNK_HB_TMO, or LNK_VHB_TMO of a partition; the timer restarts. -/
def execHeartbeatTmoWrite (fn : Fn) (v : W32) (s : State) : Host.Outcome State Fault Refusal :=
  .next (if s.pfOpen then s.modLoss fn fun l => { l with hbTmo := v.truncate 16, hbFrom := s.pwr.clk } else s)

/-! ### Functions (R361, R362, R593) -/

/-- VF_FLR: standard PCIe resets the function's MSI-X; its cache lines are emptied (R365). -/
def execVfFlr (p : Pid) (s : State) : Host.Outcome State Fault Refusal :=
  .next (if s.vfPresent p then ((s.modFn (.vf p) FnState.msixReset).cacheDrop (.vf p)).losePart p 4 false else s)

/-- VF_BUS_MASTER_DISABLE. -/
def execVfBusMasterDisable (p : Pid) (s : State) : Host.Outcome State Fault Refusal :=
  .next (if s.vfPresent p then s.losePart p 4 false else s)

/-- VF_D3HOT. -/
def execVfD3hot (p : Pid) (s : State) : Host.Outcome State Fault Refusal := .next (if s.vfPresent p then s.losePart p 4 false else s)

/-- The VFs from partition `p` on cease to be present. -/
def State.removeVfs (s : State) (n : Nat) : State :=
  let gone := (List.finRange 16).filter fun q => n ≤ q.val && s.vfPresent q
  let s := { s with link := { s.link with numVfs := min n s.link.numVfs, vfEnable := s.link.vfEnable && n != 0 } }
  gone.foldl (fun s q => (s.modFn (.vf q) FnState.msixReset).losePart q 4 false) s

/-- VF_REMOVED: the VF of a partition ceases to be present, and with it every later one (R362). -/
def execVfRemoved (p : Pid) (s : State) : Host.Outcome State Fault Refusal := .next (if s.vfPresent p then s.removeVfs p.val else s)

/-- VF_ENABLE (R362): VF Enable with NumVFs. -/
def execVfEnable (n : Nat) (s : State) : Host.Outcome State Fault Refusal :=
  .next (if s.pfOpen && n ≤ 16 && !s.link.vfEnable then { s with link := { s.link with vfEnable := true, numVfs := n } } else s)

/-- PF_FLR: the session ends (R458); standard PCIe resets the PF's MSI-X and its VF Enable. -/
def execPfFlr (s : State) : Host.Outcome State Fault Refusal :=
  .next (if !s.pfOpen then s
    else
      let s := ((s.endSession 3).modFn .pf FnState.msixReset).cacheDrop .pf
      let s := (List.finRange 16).foldl (fun s p => s.modFn (.vf p) FnState.msixReset) s
      let s := s.loseHost 5
      { s with link := { s.link with vfEnable := false, numVfs := 0 } })

/-- PF_BUS_MASTER_DISABLE. -/
def execPfBusMasterDisable (s : State) : Host.Outcome State Fault Refusal := .next (if s.pfOpen then s.loseHost 5 else s)

/-- PF_D3HOT. -/
def execPfD3hot (s : State) : Host.Outcome State Fault Refusal := .next (if s.pfOpen then s.loseHost 5 else s)

/-! ### IDE, the host-line cache and the HDM decoder (R364, R366, R367) -/

/-- IDE_INSECURE: `io`, `mem`: the CXL.io and the CXL.cachemem stream. -/
def execIdeInsecure (io mem : Bool) (s : State) : Host.Outcome State Fault Refusal :=
  .next (if !s.sec.ide || !(io || mem) then s
    else
      let t := (s.modSec fun S => { S with ide := false }).postDev 0x0604 (bnat io + 2 * bnat mem) 0
      if s.link.ideReq then { t.loseHost 6 with link := { (t.loseHost 6).link with ideShut := true } }
      else t)

/-- HOST_LINE_INVALIDATE (R364). -/
def execHostLineInvalidate (fn : Fn) (iova : W64) (s : State) : Host.Outcome State Fault Refusal :=
  .next { s with link := { s.link with cache := s.link.cache.filter fun x => x != (fn, BitVec.ofNat 64 (iova.toNat / 64 * 64)) } }

/-- HDM_DECODER_COMMIT (R366): 5 GiB on a 256 MiB boundary. -/
def execHdmDecoderCommit (base : W64) (size : Nat) (s : State) : Host.Outcome State Fault Refusal :=
  .next (if s.pfOpen && s.link.cxl && base.toNat % 2 ^ 28 = 0 && size = 5 * 2 ^ 30 then
    { s with link := { s.link with hdm := some (base, size) } } else s)

/-- OPERATOR_STOP_TIMEOUT (R377, R25): what the operator context still runs after 100 ms stops at once. -/
def execOperatorStopTimeout (s : State) : Host.Outcome State Fault Refusal :=
  .next (match s.link.opStopAt with
    | some t =>
      if s.lost .pf && 100000000 ≤ s.since t then
        let s := s.stopWork .pf .cancelled
        { s with link := { s.link with opStopAt := none } }
      else s
    | none => s)

end Sys2Proof.Machine
end

