-- ==== Sys2Proof/Machine/Clocks.lean ====
section
/-! DEFINITION. Machine/Clocks.lean: the Cicada's tick, device time, the millisecond boundary with the power cap and the thermal
limits, quad transitions and sled retention (chapter 18). -/

namespace Sys2Proof.Machine

/-! ### Core clocks (R488, R501) -/

/-- The core clock a quad is given, in MHz: the lowest of the sled's, the partition's and the die's ceiling. -/
def State.coreTarget (s : State) (q : Quad) : Nat :=
  let die : Fin 2 := if q.val < 8 then 0 else 1
  let f := min s.pwr.ceilSled s.pwr.ftherm[die]
  match s.quads[q].owner with
  | some p => min f s.pwr.ceil[p]
  | none => f

/-- R488: a clock glides towards its target by at most `n` MHz. -/
def glide (from_ goal n : Nat) : Nat := if from_ ≤ goal then min goal (from_ + n) else max goal (from_ - n)

/-- R488: 25 MHz for each microsecond that has begun. -/
def State.glideQuads (s : State) (us : Nat) : State :=
  { s with quads := Vector.ofFn fun q : Fin 16 =>
      let x := s.quads[q]
      if x.st = .run then { x with mhz := glide x.mhz (s.coreTarget q) (25 * us) } else x }

/-! ### Sled retention (R497, R498) -/

/-- The conditions of R497. -/
def State.mayRetain (s : State) : Bool :=
  let part (p : Pid) : Bool := match (s.life p).st with
    | .empty | .retained => true
    | _ => false
  s.pwr.retEn && !s.pwr.retained && (List.finRange 16).all part && s.op.rings.toList.all (fun R => R.cmds.isEmpty)
    && (s.runningChans .pf).isEmpty && (List.finRange 16).all fun p => (s.prt p).mem.waits.all fun w => !w.oper

/-- How long they have held. -/
def State.noteRetain (s : State) : State :=
  let w := s.mayRetain
  s.modPwr fun P => { P with retSince := if w then some (P.retSince.getD P.clk) else none }

/-- RETENTION_ENTRY: they have held for 10 ms; every held quad becomes OFFR or OFF. -/
def execRetentionEntry (s : State) : Host.Outcome State Fault Refusal :=
  .next (match s.pwr.retSince with
    | some t =>
      if s.mayRetain && 10000000 ≤ s.since t then
        let quads := Vector.ofFn fun q : Fin 16 => match s.quads[q].owner with
          | some p => { s.quads[q] with
              st := if s.quadHomes p q then QState.offr else QState.off, toward := none, access := none, mhz := 0 }
          | none => s.quads[q]
        ({ s with quads := quads }.modPwr fun P => { P with retained := true, retSince := none }).postDev 0x0A07 1 0
      else s
    | none => s)

/-- RETENTION_EXIT. -/
def execRetentionExit (s : State) : Host.Outcome State Fault Refusal := .next s.exitRetention

/-- RETENTION_EXIT_COMPLETE: what waited is served. -/
def execRetentionExitComplete (s : State) : Host.Outcome State Fault Refusal :=
  .next (if s.pwr.retExit.isSome then
    let s := (s.modPwr fun P => { P with retained := false, retExit := none }).postDev 0x0A07 0 0
    (List.finRange 16).foldl (fun (s : State) (p : Pid) => (s.serveWaits p).noteReady (.vf p)) (s.noteReady .pf)
  else s)

/-- CLK_RET_CTL_WRITE. -/
def execClkRetCtlWrite (v : W32) (s : State) : Host.Outcome State Fault Refusal :=
  .next (if !s.pfOpen then s
    else
      let s := s.modPwr fun P => { P with retEn := v.getLsbD 0 }
      if v.getLsbD 0 then s else s.exitRetention)

/-! ### The tick (R484) -/

/-- CLK_TIME_SLEW within its limits (R485). -/
def Power.slewOf (P : Power) : Int := max (-20000) (min 20000 P.slew.toInt)

/-- R484: one Cicada cycle of device time; `frac` is in 10^-8 ns. -/
def Power.advance (P : Power) : Power :=
  let n := P.frac + (640 * (100000000 + P.slewOf)).toNat
  { P with clk := P.clk + 640, time := P.time + BitVec.ofNat 64 (n / 100000000), frac := n % 100000000 }

/-- What one Cicada cycle does to a partition. -/
def State.tickPart (s : State) (p : Pid) : State := ((s.coreTime 640 p).noteIdle p).retainDone p

/-! ### Device time (R485) -/

/-- CLK_TIME_SLEW_WRITE. -/
def execClkTimeSlewWrite (v : W32) (s : State) : Host.Outcome State Fault Refusal :=
  .next (if s.pfOpen then s.modPwr fun P => { P with slew := v.truncate 16 } else s)

/-- CLK_TIME_SET_GO: refused while a partition is committed. A step backwards gives no boundary before the next multiple of 1 ms
(R486). -/
def execClkTimeSetGo (v : W32) (s : State) : Host.Outcome State Fault Refusal :=
  .next (if !s.pfOpen || !v.getLsbD 0 then s
    else if s.sec.tenantKeys then s.modPwr fun P => { P with setRefused := true }
    else s.modPwr fun P =>
      { P with
        time := P.timeSet, frac := 0, lastStamp := P.timeSet.toNat,
        lastMs := if P.timeSet < P.time then P.timeSet.toNat / 1000000 else P.lastMs })

/-- CLK_SSC_WRITE (R490). -/
def execClkSscWrite (v : W32) (s : State) : Host.Outcome State Fault Refusal :=
  .next (if s.pfOpen then s.modPwr fun P => { P with ssc := v.truncate 4 } else s)

/-! ### The power cap (R499 to R501) -/

/-- PWR_CAP within its limits, in mW. -/
def Power.capMw (P : Power) : Nat := 1000 * max 120 (min 380 P.cap.toNat)

/-- PWR_HYST within its limits, in mW. -/
def Power.hystMw (P : Power) : Nat := 1000 * max 1 (min 20 P.hyst.toNat)

/-- R500: 16 times SHARE_p, in mW. -/
def State.share16 (s : State) (p : Pid) : Nat :=
  let v := s.pwr.share[p].toNat
  if v = 0 then s.pwr.capMw * (s.quadsOf p).length else 16000 * min 380 v

/-- P_p of the samples, in mW. -/
def State.partMw (s : State) (x : Samples) (p : Pid) : Nat := ((s.quadsOf p).map fun q => x.quads[q]).sum

/-- A time of a last lowering lies at least 1 s back. -/
def State.lowAgo (s : State) : Option Nat → Bool
  | none => true
  | some t => 1000000000 ≤ s.since t

/-- POWER_CAP_LOOP (R501): every ceiling holds, falls by 100 MHz or rises by 25 MHz. -/
def State.capLoop (s : State) (x : Samples) : State :=
  let P := s.pwr
  let live := (List.finRange 16).filter fun p => (s.life p).st.holds
  let past (p : Pid) : Bool := s.share16 p < 16 * s.partMw x p
  if P.capMw < x.pkg.toNat then
    let S := live.filter past
    if S.isEmpty then
      let first := 400 < P.ceilSled && s.lowAgo P.lowered
      let s := s.modPwr fun P => { P with
        ceilSled := max 400 (P.ceilSled - 100), lowered := if 400 < P.ceilSled then some P.clk else P.lowered }
      if first then s.postDev 0x0A03 2 x.pkg.toNat else s
    else
      let low := S.filter fun p => 400 < P.ceil[p]
      let ceil := Vector.ofFn fun p : Fin 16 => if S.contains p then max 400 (P.ceil[p] - 100) else P.ceil[p]
      let s' := s.modPwr fun P => { P with ceil := ceil, loweredP := if low.isEmpty then P.loweredP else some P.clk }
      match low with
      | p :: _ => if s.lowAgo P.loweredP then s'.postDev 0x0A03 (1 + 256 * p.val) x.pkg.toNat else s'
      | [] => s'
  else if x.pkg.toNat + P.hystMw ≤ P.capMw then
    if P.ceilSled < 2000 then s.modPwr fun P => { P with ceilSled := P.ceilSled + 25 }
    else
      let ceil := Vector.ofFn fun p : Fin 16 =>
        if live.contains p && P.ceil[p] < 2000 && !past p then min 2000 (P.ceil[p] + 25) else P.ceil[p]
      s.modPwr fun P => { P with ceil := ceil }
  else s

/-! ### Thermal limits (R503, R504) -/

/-- Tj of a die in °C. -/
def tjOf (x : Samples) (d : Fin 3) : Int := (x.tj[d]).toInt

/-- T_d of a compute die. -/
def dieTemp (x : Samples) (d : Fin 2) : Int := max (tjOf x ⟨d.val, by omega⟩) (tjOf x 2)

/-- THERMAL_STEP: F_THERM of one die under R503. -/
def thermStep (f : Nat) (t : Int) : Nat := if 95 ≤ t then max 400 (f - 100) else if t ≤ 92 then min 2000 (f + 25) else f

/-- THERMAL_THROTTLE where F_THERM of a die leaves 2,000 MHz or returns to it. -/
def State.throttleEvent (s : State) (x : Samples) (was : Vector Nat 2) (d : Fin 2) : State :=
  let t := (BitVec.ofInt 8 (dieTemp x d)).toNat
  if was[d] = 2000 && s.pwr.ftherm[d] < 2000 then s.postDev 0x0A01 (1 + 2 * d.val + 256 * t) 0
  else if was[d] < 2000 && s.pwr.ftherm[d] = 2000 then s.postDev 0x0A01 (2 * d.val + 256 * t) 0
  else s

/-- R503, R504: the thermal step of a millisecond. A die at 105 °C forces 400 MHz until every die reads 100 °C or less. -/
def State.thermals (s : State) (x : Samples) : State :=
  let hot := (List.finRange 3).filter fun d => 105 ≤ tjOf x d
  let was := s.pwr.ftherm
  let crit := !hot.isEmpty || (s.pwr.crit && (List.finRange 3).any fun d => 100 < tjOf x d)
  let enters := crit && !s.pwr.crit
  let next := if !hot.isEmpty then Vector.replicate 2 400 else if crit then was
    else Vector.ofFn fun d : Fin 2 => thermStep was[d] (dieTemp x d)
  let s := s.modPwr fun P => { P with ftherm := next, crit := crit, tj := x.tj }
  let s := if enters then hot.foldl (fun (s : State) (d : Fin 3) => s.postDev 0x0A02 (d.val + 256 * (x.tj[d]).toNat) 0) s else s
  (s.throttleEvent x was 0).throttleEvent x was 1

/-! ### The millisecond boundary (R486) -/

/-- R191: a tile's age stamp after one more millisecond in stacked DRAM. -/
def Tile.aged (t : Tile) : Tile := if t.home.inStacked && t.age != 0xFFFF then { t with age := t.age + 1 } else t

/-- MILLISECOND_BOUNDARY, where device time has passed a multiple of 1 ms: meters, age stamps, samples, cap loop and thermal step. -/
def State.msBoundary (s : State) (x : Samples) : State :=
  let k := s.pwr.time.toNat / 1000000
  if !s.sled.stby || k ≤ s.pwr.lastMs then s
  else
    let s := (s.modPwr fun P => { P with lastMs := k }).metersMs x
    let s := (List.finRange 16).foldl (fun (s : State) (p : Pid) => s.modMem p fun m => { m with tiles := m.tiles.map Tile.aged }) s
    let part := Vector.ofFn fun p : Fin 16 => BitVec.ofNat 20 (min (s.partMw x p) (2 ^ 20 - 1))
    let s := s.modPwr fun P => { P with pkg := x.pkg, part := part, volts := x.volts }
    let s := { s with sled := { s.sled with inletT := x.inlet } }
    (s.capLoop x).thermals x

/-- MILLISECOND_BOUNDARY. -/
def execMillisecondBoundary (x : Samples) (s : State) : Host.Outcome State Fault Refusal := .next (s.msBoundary x)

/-! ### Quads (R493 to R496) -/

/-- ACCESS_WAKE (R495): the quad is told to run for an access. -/
def execAccessWake (q : Quad) (s : State) : Host.Outcome State Fault Refusal :=
  .next (let x := s.quads[q]
    if x.owner.isSome && x.st.asleep && x.toward != some .run && s.sledUp then
      s.modQuad q fun x => { x with toward := some .run, access := some s.pwr.clk }
    else s)

/-- The partition is in a sleeping condition (R493). -/
def State.sleeping (s : State) (p : Pid) : Bool :=
  let L := s.life p
  match L.st with
  | .ready | .napping | .suspended => true
  | .detached | .retained => L.idleUs != 0 && s.idleFor p L.idleUs.toNat
  | _ => false

/-- ACCESS_WAKE_IDLE: 10 µs without an access; outside a sleeping condition the quad stays in RUN (R496). -/
def execAccessWakeIdle (q : Quad) (s : State) : Host.Outcome State Fault Refusal :=
  .next (match s.quads[q].owner, s.quads[q].access with
    | some p, some t =>
      if s.quads[q].st = .run && s.quads[q].toward.isNone && 10000 ≤ s.since t then
        if s.sleeping p then s.sleepQuad p q else s.modQuad q fun x => { x with access := none }
      else s
    | _, _ => s)

/-- CLK_PLL_LOCK_LO, and from 32 on CLK_PLL_LOCK_HI: a quad's PLL is locked in RUN and NAP (Table 18-2), the LINKPLL while the link
trains or is up, a port's while it is not DISABLED; `pllLo` keeps the others. -/
def State.pllLock (s : State) (i : Nat) : Bool :=
  if h : 4 ≤ i ∧ i < 20 then
    let st := s.quads[i - 4].st
    st = .run || st = .nap
  else if i = 28 then s.link.up || s.link.training
  else if h : 32 ≤ i ∧ i < 48 then s.pwr.pkgUp && s.ports[(i - 32) / 2].st != .disabled
  else s.pwr.pllLo.getLsbD i

/-- QUAD_TRANSITION_COMPLETE: the entry or the wake under way has ended. A quad that is to be OFF and has come to home a tile stops
short of it (R194). -/
def State.quadArrives (s : State) (q : Quad) : State :=
  match s.quads[q].owner, s.quads[q].toward with
  | some p, some t =>
    let t := if t = .off then s.sleepTarget p q else t
    let f := s.coreTarget q
    let s := s.modQuad q fun x => { x with st := t, toward := none, mhz := if t = .run then f else 0 }
    (s.serveWaits p).noteReady (.vf p)
  | _, _ => s

/-- QUAD_TRANSITION_COMPLETE. -/
def execQuadTransitionComplete (q : Quad) (s : State) : Host.Outcome State Fault Refusal := .next (s.quadArrives q)

end Sys2Proof.Machine
end

