-- ==== Sys2Proof/Machine/Ports.lean ====
section
/-! DEFINITION. Machine/Ports.lean: fabric ports and lanes: training, back-off, restriping, replay and port down (chapter 14). -/

namespace Sys2Proof.Machine

/-! ### Lanes (R400) -/

/-- Change every lane of a port. -/
def Port.mapLanes (P : Port) (f : LaneNo → Lane → Lane) : Port := { P with lanes := Vector.ofFn fun l : LaneNo => f l P.lanes[l] }

/-- Change one lane of a port. -/
def Port.modLane (P : Port) (l : LaneNo) (f : Lane → Lane) : Port := { P with lanes := vmod P.lanes l f }

/-- A trainable lane. -/
def Lane.trainable (x : Lane) : Bool := x.st != .masked && x.st != .lockedOut

/-- How many lanes of a port `f` selects. -/
def Port.count (P : Port) (f : Lane → Bool) : Nat := (P.lanes.toList.filter f).length

/-- WIDTH. -/
def Port.active (P : Port) : Nat := P.count (·.st = .active)

/-- Trainable lanes that hold lock. -/
def Port.held (P : Port) : Nat := P.count fun x => x.trainable && x.locked

/-- The rejoins of a lane in the preceding 3,600 s. -/
def Lane.recent (x : Lane) (now : Nat) : List Nat := x.rejoins.filter fun t => now < t + 3600000000000

/-- Table 14-4: the port is disabled or ABSENT. -/
def Lane.idled (x : Lane) : Lane := if x.trainable then { x with st := .idle, locked := false } else { x with locked := false }

/-- R396: on port down ACTIVE lanes become IDLE; OUT and PROBATION lanes keep their state. -/
def Lane.downed (x : Lane) : Lane := if x.st = .active then { x with st := .idle, locked := false } else { x with locked := false }

/-! ### Counters -/

/-- 64-bit performance counters of a port step (R481). -/
def State.portPerf (s : State) (pt : PortNo) (get : Port → W64) (put : Port → W64 → Port) (n : Nat) : State :=
  let was := get s.ports[pt]
  let s := s.modPort pt fun P => put P (was + BitVec.ofNat 64 n)
  if 2 ^ 64 ≤ was.toNat + n then s.perfWrap .pf (8 + pt.val) else s

/-! ### Neighbours (R411) -/

/-- NBR_CHANGED, and PORT_MISWIRED. -/
def State.setNbr (s : State) (pt : PortNo) (n : Nbr) : State :=
  let was := s.ports[pt].nbr.st
  let s := s.modPort pt fun P => { P with nbr := n }
  if n.st = was then s
  else
    let s := s.postDev 0x0711 (pt.val + 16 * n.st.code) n.node.toNat
    if n.st = .miswired then s.postDev 0x0712 pt.val n.serial.toNat else s

/-- The neighbour of a port that is not up: none. The candidate it advertised is forgotten only after 300 ms (R412). -/
def State.clearNbr (s : State) (pt : PortNo) (refuse : BitVec 4) : State :=
  let n := s.ports[pt].nbr
  s.setNbr pt { Nbr.reset with refuse := refuse, cand := n.cand, candAt := n.candAt }

/-! ### Entering states (Table 14-2) -/

/-- The port enters a state now. -/
def Port.enter (P : Port) (st : PortState) (now : Nat) : Port := { P with st := st, since := now }

/-- The attempt counters start again. -/
def Port.fresh (P : Port) : Port := { P with silentN := 0, failN := 0 }

/-- The port enters DETECT. -/
def Port.detect (P : Port) (now : Nat) (seen : Bool) : Port :=
  { (P.enter .detect now).mapLanes (fun _ x => { x with locked := false }) with seen := seen, width := 0 }

/-- R397, R418: what the retry buffer of a port holds goes back to the router, in sending order. -/
def State.handBack (s : State) (pt : PortNo) : State :=
  let l := s.ports[pt].retry
  l.foldl State.forward (s.modPort pt fun P => { P with retry := [], replays := 0 })

/-- DISABLED, or ABSENT: transmitters idle, lanes IDLE, the retry buffer handed over. -/
def State.portOff (s : State) (pt : PortNo) (st : PortState) : State :=
  let s := s.modPort pt fun P =>
    { (P.enter st s.pwr.clk).mapLanes (fun _ x => x.idled) with silent := false, unstable := false, width := 0 }
  (s.clearNbr pt 0).handBack pt

/-- PORT_DOWN (R396): `cause`: 0 lanes below 6, 1 replay limit, 2 restripe timeout, 3 RETRAIN. -/
def State.portDown (s : State) (pt : PortNo) (cause : Nat) : State :=
  let P := s.ports[pt]
  if P.st != .active && P.st != .restripe then s
  else
    let n := (P.retry.map (·.count)).sum
    let s := s.modPort pt fun P => { ((P.mapLanes fun _ x => x.downed).fresh.detect s.pwr.clk false) with down := satAdd P.down 1 }
    ((s.postDev 0x0702 (pt.val + 2 ^ 24 * cause) (min n 0xFFFFFFFF)).clearNbr pt 0).handBack pt

/-- PORT_SILENT and PORT_UNSTABLE (R395), after an attempt that failed in `st`. -/
def State.portFlags (s : State) (pt : PortNo) (silent : Bool) (st : PortState) : State :=
  let P := s.ports[pt]
  if silent && 8 ≤ P.silentN.toNat && !P.silent then
    (s.modPort pt fun P => { P with silent := true }).postDev 0x0703 pt.val 0
  else if !silent && 8 ≤ P.failN.toNat && !P.unstable then
    (s.modPort pt fun P => { P with unstable := true }).postDev 0x0704 (pt.val + 2 ^ 20 * st.code) 0
  else s

/-- R393: an attempt fails; the port goes to BACKOFF. -/
def State.attemptFails (s : State) (pt : PortNo) (refuse : BitVec 4) : State :=
  let P := s.ports[pt]
  let silent := P.st = .detect && !P.seen
  let s := s.modPort pt fun P =>
    { (P.enter .backoff s.pwr.clk).mapLanes (fun _ x => { x with locked := false }) with
      failN := satAdd P.failN 1, silentN := if silent then satAdd P.silentN 1 else 0, fail := satAdd P.fail 1 }
  (s.clearNbr pt refuse).portFlags pt silent P.st

/-- The back-off after `n` failed attempts, in ns (R393). -/
def backoffNs (n : Nat) : Nat := min (100000000 * 2 ^ (min n 8 - 1)) 2000000000

/-! ### Enabling, modules -/

/-- PORT_ENABLE. -/
def State.portEnable (s : State) (pt : PortNo) : State :=
  let P := s.ports[pt]
  if P.en then s
  else s.modPort pt fun P =>
    let P := { P.fresh with en := true }
    if P.modReady then P.detect s.pwr.clk false else P.enter .absent s.pwr.clk

/-- PORT_ENABLE. -/
def execPortEnable (pt : PortNo) (s : State) : Host.Outcome State Fault Refusal := .next (if s.pfOpen then s.portEnable pt else s)

/-- EN := 0. -/
def State.portDisable (s : State) (pt : PortNo) : State :=
  if s.ports[pt].en then (s.modPort pt fun P => { P with en := false }).portOff pt .disabled else s

/-- PORT_DISABLE. -/
def execPortDisable (pt : PortNo) (s : State) : Host.Outcome State Fault Refusal := .next (if s.pfOpen then s.portDisable pt else s)

/-- MODULE_CHANGED. -/
def State.moduleEvent (s : State) (pt : PortNo) : State :=
  let P := s.ports[pt]
  s.postDev 0x0708 (pt.val + 16 * bnat P.modPres + 32 * bnat P.modReady) 0

/-- A module is ready: an ABSENT port starts to train. -/
def State.moduleReady (s : State) (pt : PortNo) : State :=
  let was := s.ports[pt]
  let s := s.modPort pt fun P =>
    let P := { P with modPres := true, modReady := true }
    if P.st = .absent then P.fresh.detect s.pwr.clk false else P
  if was.st = .absent then s.moduleEvent pt else s

/-- A module is removed (`present` false) or no longer ready: every state but DISABLED becomes ABSENT. -/
def State.moduleGone (s : State) (pt : PortNo) (present : Bool) : State :=
  let was := s.ports[pt]
  let s := s.modPort pt fun P => { P with modPres := present, modReady := false }
  if was.st = .disabled || (was.st = .absent && !was.modReady) then s else (s.portOff pt .absent).moduleEvent pt

/-- PORT_MODULE_READY: a module that the cage powers reaches its CMIS ModuleReady state (R570). -/
def execPortModuleReady (pt : PortNo) (s : State) : Host.Outcome State Fault Refusal :=
  .next (let c := s.sled.cages[pt]
    if c.present && !c.denied && !c.off && !s.ports[pt].modReady then
      let s := { s with sled := { s.sled with cages := vmod s.sled.cages pt fun c => { c with ready := true } } }
      s.moduleReady pt
    else s)

/-! ### Training (R391 to R394) -/

/-- The least time after which a state timer may expire, in ns (Table 14-3). -/
def trainNs : PortState → Option Nat
  | .detect => some 19800000
  | .tune => some 495000000
  | .align => some 9900000
  | .exchange => some 49500000
  | _ => none

/-- Fewer than 6 lanes have held lock for 1 ms, once training has passed DETECT. -/
def Port.lockLost (P : Port) (now : Nat) : Bool :=
  (P.st = .tune || P.st = .align || P.st = .exchange)
    && P.count (fun x => x.trainable && (x.locked || now < x.since + 1000000)) < 6

/-- TRAINING_TIMER_EXPIRE: a state timer expires, or lock has been missing for 1 ms. -/
def execTrainingTimerExpire (pt : PortNo) (s : State) : Host.Outcome State Fault Refusal :=
  .next (let P := s.ports[pt]
    match trainNs P.st with
    | some n => if n ≤ s.since P.since || P.lockLost s.pwr.clk then s.attemptFails pt 0 else s
    | none => s)

/-- BACKOFF_END (R393). -/
def execBackoffEnd (pt : PortNo) (s : State) : Host.Outcome State Fault Refusal :=
  .next (let P := s.ports[pt]
    if P.st = .backoff && backoffNs P.failN.toNat ≤ s.since P.since then s.modPort pt fun P => P.detect s.pwr.clk false else s)

/-- PARTNER_SIGNAL_SEEN (R394). -/
def execPartnerSignalSeen (pt : PortNo) (s : State) : Host.Outcome State Fault Refusal :=
  .next (if s.ports[pt].st = .backoff && 6 ≤ s.ports[pt].count Lane.trainable then
    s.modPort pt fun P => P.detect s.pwr.clk true else s)

/-- The lanes of a mask hold lock in training from now on; the others do not. -/
def Port.lock (P : Port) (lanes : BitVec 8) (now : Nat) : Port :=
  P.mapLanes fun l x =>
    let on := lanes.getLsbD l.val && x.trainable
    if on = x.locked then x else { x with locked := on, since := now }

/-- Lanes of a mask that are trainable. -/
def Port.among (P : Port) (lanes : BitVec 8) : Nat :=
  ((List.finRange 8).filter fun l => lanes.getLsbD l.val && (P.lanes[l]).trainable).length

/-- DETECT_LOCK: signal with lock on the lanes of a mask; 6 of them move the port to TUNE. -/
def execDetectLock (pt : PortNo) (lanes : BitVec 8) (s : State) : Host.Outcome State Fault Refusal :=
  .next (if s.ports[pt].st != .detect then s
    else s.modPort pt fun P =>
      let Q := { P.lock lanes s.pwr.clk with seen := P.seen || lanes != 0 }
      if 6 ≤ P.among lanes then Q.enter .tune s.pwr.clk else Q)

/-- TUNE_COMPLETE: lanes that failed to tune go OUT. -/
def execTuneComplete (pt : PortNo) (lanes : BitVec 8) (s : State) : Host.Outcome State Fault Refusal :=
  .next (if s.ports[pt].st = .tune && 6 ≤ s.ports[pt].among lanes then
    s.modPort pt fun P =>
      let P := P.lock lanes s.pwr.clk
      (P.mapLanes fun l x => if x.trainable && !lanes.getLsbD l.val then { x with st := .out } else x).enter .align s.pwr.clk
  else s)

/-- ALIGN_COMPLETE. -/
def execAlignComplete (pt : PortNo) (lanes : BitVec 8) (s : State) : Host.Outcome State Fault Refusal :=
  .next (if s.ports[pt].st = .align && 6 ≤ s.ports[pt].among lanes then
    s.modPort pt fun P => (P.lock lanes s.pwr.clk).enter .exchange s.pwr.clk
  else s)

/-- Table 14-4: a lane when its port enters ACTIVE from EXCHANGE. -/
def Lane.stripe (x : Lane) (now : Nat) : Lane :=
  if !x.trainable then x
  else if x.locked then { x with st := .active }
  else if x.st = .probation then { x with since := now }
  else { x with st := .out }

/-- EXCHANGE ends: the port enters ACTIVE, and PORT_UP is posted. -/
def State.portUp (s : State) (pt : PortNo) (node : W16) : State :=
  let s := s.modPort pt fun P =>
    let P := (P.mapLanes fun _ x => x.stripe s.pwr.clk).fresh.enter .active s.pwr.clk
    { P with silent := false, unstable := false, width := P.active, replays := 0, rxNext := 0 }
  s.postDev 0x0701 (pt.val + 65536 * s.ports[pt].width) node.toNat

/-! ### Replay (R397) -/

/-- Every packet in the retry buffer is sent again; after 4 replays without progress the port is at its limit. -/
def State.replay (s : State) (pt : PortNo) : State :=
  let P := s.ports[pt]
  if P.retry.isEmpty then s
  else if 4 ≤ P.replays then s.portDown pt 1
  else
    let s := s.modPort pt fun P => { P with replays := P.replays + 1, replayCnt := satAdd P.replayCnt 1, ackAt := s.pwr.clk }
    s.portPerf pt (·.retryBytes) (fun P v => { P with retryBytes := v }) ((P.retry.map (·.bytes)).sum)

/-- The partner acknowledges the `n` oldest transactions. -/
def State.acked (s : State) (pt : PortNo) (n : Nat) : State :=
  if n = 0 || s.ports[pt].retry.isEmpty then s
  else s.modPort pt fun P => { P with retry := P.retry.drop n, replays := 0, ackAt := s.pwr.clk }

/-- REPLAY_REQUEST: what precedes the first missing packet has been received. -/
def execReplayRequest (pt : PortNo) (acked : Nat) (s : State) : Host.Outcome State Fault Refusal :=
  .next (if s.ports[pt].st = .active then (s.acked pt acked).replay pt else s)

/-- ACK_TIMEOUT. -/
def execAckTimeout (pt : PortNo) (s : State) : Host.Outcome State Fault Refusal :=
  .next (let P := s.ports[pt]
    if P.st = .active && !P.retry.isEmpty && 10000 ≤ s.since P.ackAt then s.replay pt else s)

/-! ### Marks and restripes (R398, R399, R402) -/

/-- A restripe under way, or restarted; below 6 lanes the port goes down. -/
def State.restripe (s : State) (pt : PortNo) : State :=
  let s := s.modPort pt fun P => { P with width := P.active }
  if s.ports[pt].width < 6 then s.portDown pt 0 else s.modPort pt fun P => P.enter .restripe s.pwr.clk

/-- The port carries a stripe. -/
def Port.striped (P : Port) : Bool := P.st = .active || P.st = .restripe

/-- A marked lane leaves the stripe and counts. -/
def Port.mark (P : Port) (l : LaneNo) : Port :=
  { P.modLane l (fun x => { x with st := .out, lol := satAdd x.lol 1 }) with drop := satAdd P.drop 1 }

/-- Lanes are marked together: one restripe with all of them. -/
def State.markLanes (s : State) (pt : PortNo) (ls : List LaneNo) (cause : Nat) : State :=
  let hit := ls.filter fun l => (s.ports[pt].lanes[l]).st = .active && s.ports[pt].striped
  if hit.isEmpty then s
  else
    let s := s.modPort pt fun P => hit.foldl Port.mark P
    let w := s.ports[pt].active
    let s := hit.foldl (fun (s : State) (l : LaneNo) =>
      s.postDev 0x0705 (pt.val + 256 * l.val + 65536 * w + 2 ^ 24 * cause) 0) s
    s.restripe pt

/-- A lane outside the stripe loses lock. -/
def Lane.unlock (x : Lane) (now : Nat) : Lane :=
  if x.st = .probation then { x with st := .out, locked := false, lol := satAdd x.lol 1 }
  else if x.locked then { x with locked := false, since := now, lol := satAdd x.lol 1 }
  else x

/-- LANE_LOCK_LOSS. -/
def State.lockLoss (s : State) (pt : PortNo) (ls : List LaneNo) : State :=
  let off := ls.filter fun l => !((s.ports[pt].lanes[l]).st = .active && s.ports[pt].striped)
  let on := ls.filter fun l => (s.ports[pt].lanes[l]).st = .active && s.ports[pt].striped
  let s := s.modPort pt fun P => off.foldl (fun (P : Port) (l : LaneNo) => P.modLane l fun x => x.unlock s.pwr.clk) P
  let s := s.modPort pt fun P => on.foldl (fun (P : Port) (l : LaneNo) => P.modLane l fun x => { x with locked := false }) P
  s.markLanes pt on 0

/-- LANE_LOCK_LOSS. -/
def execLaneLockLoss (pt : PortNo) (l : LaneNo) (s : State) : Host.Outcome State Fault Refusal := .next (s.lockLoss pt [l])

/-- PARTNER_LANE_NOTICE. -/
def execPartnerLaneNotice (pt : PortNo) (l : LaneNo) (s : State) : Host.Outcome State Fault Refusal := .next (s.markLanes pt [l] 1)

/-- FEC_WINDOW_END: the counts of one 1 ms window, and its threshold; the value written since governs the next window (R405). -/
def State.fecWindow (s : State) (pt : PortNo) (ue : Vector Nat 8) (ce : Nat) : State :=
  let top := s.ports[pt].ueMax.toNat
  let past := (List.finRange 8).filter fun l => top != 0 && top < ue[l]
  let s := s.modPort pt fun P =>
    { P.mapLanes (fun l x => { x with
        ue := satAdd x.ue ue[l], st := if past.contains l && x.st = .probation then .out else x.st }) with ueMax := P.ueMaxNext }
  let s := s.portPerf pt (·.ce) (fun P v => { P with ce := v }) ce
  s.markLanes pt past 2

/-- FEC_WINDOW_END. -/
def execFecWindowEnd (pt : PortNo) (ue : Vector Nat 8) (ce : Nat) (s : State) : Host.Outcome State Fault Refusal :=
  .next (s.fecWindow pt ue ce)

/-- RESTRIPE_AGREED: the port replays and resumes at the new width. -/
def execRestripeAgreed (pt : PortNo) (s : State) : Host.Outcome State Fault Refusal :=
  .next (if s.ports[pt].st = .restripe then
    (s.modPort pt fun P => { P.enter .active s.pwr.clk with width := P.active }).replay pt
  else s)

/-- RESTRIPE_TIMEOUT: 1.5 µs from the last mark or rejoin (Table 14-3). -/
def execRestripeTimeout (pt : PortNo) (s : State) : Host.Outcome State Fault Refusal :=
  .next (if s.ports[pt].st = .restripe && 1500 ≤ s.since s.ports[pt].since then s.portDown pt 2 else s)

/-- RETRAIN: discarded in every state but ACTIVE. -/
def execRetrain (pt : PortNo) (s : State) : Host.Outcome State Fault Refusal :=
  .next (if s.pfOpen && s.ports[pt].st = .active then s.portDown pt 3 else s)

/-! ### Probation and masks (R400, R401, R405) -/

/-- LANE_LOCK_REGAINED. -/
def execLaneLockRegained (pt : PortNo) (l : LaneNo) (s : State) : Host.Outcome State Fault Refusal :=
  .next (s.modPort pt fun P => P.modLane l fun x =>
    if x.st = .out then { x with st := .probation, locked := true, since := s.pwr.clk } else { x with locked := true })

/-- LANE_PROBATION_END: after 10 s of lock on an ACTIVE port the lane rejoins, or becomes LOCKED_OUT. -/
def State.probationEnd (s : State) (pt : PortNo) (l : LaneNo) : State :=
  let P := s.ports[pt]
  let x := P.lanes[l]
  if x.st != .probation || P.st != .active || s.since x.since < 10000000000 then s
  else
    let now := s.pwr.time.toNat
    let past := x.recent now
    if past.length < 3 then
      let s := s.modPort pt fun P =>
        { P.modLane l (fun x => { x with st := .active, rejoins := now :: past }) with rejoin := satAdd P.rejoin 1 }
      let s := s.postDev 0x0706 (pt.val + 256 * l.val + 65536 * s.ports[pt].active) (past.length + 1)
      s.restripe pt
    else
      (s.modPort pt fun P => P.modLane l fun x => { x with st := .lockedOut }).postDev 0x0707 (pt.val + 256 * l.val) 0

/-- LANE_PROBATION_END. -/
def execLaneProbationEnd (pt : PortNo) (l : LaneNo) (s : State) : Host.Outcome State Fault Refusal := .next (s.probationEnd pt l)

/-- FAB_LCLR. -/
def execFabLclr (pt : PortNo) (v : BitVec 8) (s : State) : Host.Outcome State Fault Refusal :=
  .next (if !s.pfOpen then s
    else s.modPort pt fun P => P.mapLanes fun l x =>
      if v.getLsbD l.val && x.st = .lockedOut then
        { x with st := if x.locked then .probation else .out, since := s.pwr.clk, rejoins := [] }
      else x)

/-- LANE_MASK_WRITE: lanes masked leave the stripe; lanes unmasked go OUT. -/
def State.laneMask (s : State) (pt : PortNo) (v : BitVec 8) : State :=
  let was := s.ports[pt].active
  let s := s.modPort pt fun P =>
    { P.mapLanes (fun l x =>
        if v.getLsbD l.val then { x with st := .masked } else if x.st = .masked then { x with st := .out } else x) with mask := v }
  if s.ports[pt].striped && s.ports[pt].active < was then s.restripe pt else s

/-- LANE_MASK_WRITE. -/
def execLaneMaskWrite (pt : PortNo) (v : BitVec 8) (s : State) : Host.Outcome State Fault Refusal :=
  .next (if s.pfOpen then s.laneMask pt v else s)

/-- FAB_LANE_UE_MAX_WRITE. -/
def execFabLaneUeMaxWrite (pt : PortNo) (v : W32) (s : State) : Host.Outcome State Fault Refusal :=
  .next (if s.pfOpen then s.modPort pt fun P => { P with ueMaxNext := v.truncate 16 } else s)

end Sys2Proof.Machine
end

