-- ==== Sys2Proof/Machine/Network.lean ====
section
/-! DEFINITION. Machine/Network.lean: neighbours, the fabric manager, configuration generations, packets, path loss and groups
(chapter 15). -/

namespace Sys2Proof.Machine

/-! ### Path loss (R427, R428) -/

/-- The operation of a run needs the member on node `n`: it waits for it, or has not been acknowledged by it. -/
def State.runNeeds (s : State) (r : FabRun) (g : Group) (n : W16) : Bool :=
  (List.range g.nmemb).any (fun j => g.nodes[j]? = some n && r.needs g j)
    || s.net.e2e.any fun e => e.dest = n && e.op = some r.op

/-- The fabric operations of every partition for which `f` holds. -/
def State.runsWith (s : State) (f : FabRun → Group → Bool) : List (Pid × OpRef) :=
  (List.finRange 16).flatMap fun p => (s.prt p).gx.runs.filterMap fun r =>
    match s.groupOf p r.group with
    | some g => if f r g then some (p, r.op) else none
    | none => none

/-- The commands of JOB scope of a partition that wait for a decision. -/
def State.jobsWaiting (s : State) (p : Pid) : List CmdRef :=
  (ringsOf (.vf p)).flatMap fun r => (s.ring r).cmds.filterMap fun k =>
    if k.stage = .running && k.hdr.engine = 0 && (k.hdr.opc = 4 || k.hdr.opc = 5) then some ⟨r, k.seq⟩ else none

/-- The partition's update has contributed and waits for a verdict from its decision point. -/
def State.awaitsVerdict (s : State) (p : Pid) : Bool :=
  (s.prt p).wvl.pass = .verdict && (s.prt p).wvl.upd.any fun u => u.group != 0 && u.fin.isNone

/-- What waits for the decision point of a partition on node `n` ends. -/
def State.decisionLost (s : State) (p : Pid) (n : W16) (d : W32) : State :=
  if s.decisionPoint p != some n then s
  else
    let s := (s.jobsWaiting p).foldl (fun s c => s.finish c .fabricPathLost d) s
    match (s.prt p).wvl.upd with
    | some u => if s.awaitsVerdict p && s.fnRuns (.vf p) then s.orphan p u d else s
    | none => s

/-- A transaction to node `n` that has ended, or will never end, takes its operation with it (R414, R428). -/
def State.endRuns (s : State) (l : List (Pid × OpRef)) (d : W32) : State :=
  l.foldl (fun (s : State) (x : Pid × OpRef) => s.fabEnd x.1 x.2 .fabricPathLost d) s

/-- R120: FABRIC barriers with a member on node `n` become BROKEN. -/
def State.barriersLose (s : State) (n : W16) (d : W32) : State :=
  (List.finRange 16).foldl (fun (s : State) (p : Pid) => (List.finRange 32).foldl (fun (s : State) (b : BarNo) =>
    let x := s.bar p b
    match s.groupOf p x.group with
    | some g => if x.cfg && x.fabric && !x.broken && g.nodes.contains n then s.breakBarrier p b .fabricPathLost d else s
    | none => s) s) s

/-- NODE_UNREACHABLE (R427): the node is posted once, and everything that needs it ends FABRIC_PATH_LOST. -/
def State.loseNode (s : State) (n : W16) (reason : Nat) : State :=
  let d := pathLost n.toNat reason
  let s := s.markUnreach n reason
  let s := s.endRuns (s.runsWith fun r g => s.runNeeds r g n) d
  let s := (List.finRange 16).foldl (fun (s : State) (p : Pid) => s.decisionLost p n d) s
  ((s.barriersLose n d).redsLose n reason).modNet fun N => { N with e2e := N.e2e.filter (·.dest != n) }

/-- The nodes that work in progress needs. -/
def State.neededNodes (s : State) : List W16 :=
  let members (g : Group) : List W16 := g.nodes.filter (· != s.net.active.node)
  let runs := (List.finRange 16).flatMap fun p => (s.prt p).gx.runs.flatMap fun r =>
    match s.groupOf p r.group with
    | some g => (members g).filter fun n => s.runNeeds r g n
    | none => []
  let bars := (List.finRange 16).flatMap fun p => (s.prt p).bars.toList.flatMap fun (x : Barrier) =>
    match s.groupOf p x.group with
    | some g => if x.cfg && x.fabric && !x.broken && x.arrived != 0 then members g else []
    | none => []
  let points := (List.finRange 16).filterMap fun p =>
    if s.awaitsVerdict p || !(s.jobsWaiting p).isEmpty then s.decisionPoint p else none
  let reds := s.reds.flatMap fun r => if r.decided.isSome then [] else
    (List.finRange 16).flatMap fun p => if (s.life p).slice = r.slice then
      (s.prt p).gx.groups.toList.flatMap fun x => match x with
        | some g => if g.nmemb = r.members then
            (List.range g.nmemb).filterMap fun j => if r.parts.any (·.rank = j) then none else g.nodes[j]?
          else []
        | none => []
    else []
  (runs ++ bars ++ points ++ reds ++ s.net.e2e.map (·.dest)).eraseDups

/-- R427: needed nodes that no route reaches are unreachable. -/
def State.sweepNodes (s : State) : State :=
  s.neededNodes.foldl (fun (s : State) (n : W16) => match s.unreachable n with
    | some r => s.loseNode n r
    | none => s) s

/-- R427: nodes that a route reaches again, and that the lost table does not list, are reachable again. -/
def State.renewRoutes (s : State) : State :=
  let gone := s.net.unreach.filter fun x => s.listedLost x.1 || (s.route x.1 0).isNone
  s.modNet fun N => { N with unreach := gone }

/-! ### The fabric manager (R412) -/

/-- Candidates: priority, serial and hops. -/
def State.candidates (s : State) : List (Nat × W64 × Nat) :=
  let own := if s.net.eligible then [(if s.net.hostFm then 0 else s.net.priority.toNat, Config.serial, 0)] else []
  own ++ s.ports.toList.filterMap fun (P : Port) => P.nbr.cand.map fun c => (c.1.toNat, c.2.1, c.2.2)

/-- The better of two candidates: the lower priority, then the lower serial (R432). -/
def candBefore (a b : Nat × W64 × Nat) : Bool :=
  a.1 < b.1 || (a.1 = b.1 && (a.2.1 < b.2.1 || (a.2.1 = b.2.1 && a.2.2 < b.2.2)))

/-- The best candidate known. -/
def State.bestCand (s : State) : Option (Nat × W64 × Nat) := firstBy candBefore s.candidates

/-- The node of the sled with a serial: this sled's, a neighbour's, or unknown here: a free value (log entry 31). -/
def State.nodeOf (s : State) (serial : W64) : W16 × State :=
  if serial = Config.serial then (s.net.active.node, s)
  else match s.ports.toList.find? fun (P : Port) => P.nbr.st != .none && P.nbr.serial = serial with
    | some P => (P.nbr.node, s)
    | none => (s.free 16, s.took)

/-- R412: the best candidate is judged again; each change of manager posts FM_CHANGED. -/
def State.elect (s : State) : State :=
  let b := s.bestCand.map fun c => (c.1, c.2.1)
  if b = s.net.best then s
  else
    let s := s.modNet fun N => { N with best := b, bestAt := s.pwr.clk, stable := false }
    match b with
    | none => if s.net.fmSerial = 0 && s.net.fmNode = 0xFFFF then s
        else (s.modNet fun N => { N with isFm := false, fmNode := 0xFFFF, fmSerial := 0 }).postDev 0x0714 0xFFFF 0
    | some (_, serial) =>
      if serial = s.net.fmSerial then s
      else
        let (n, s) := s.nodeOf serial
        (s.modNet fun N => { N with isFm := serial = Config.serial, fmNode := n, fmSerial := serial }).postDev 0x0714 n.toNat
          serial.toNat

/-- CANDIDATE_FORGET: the candidate of a port has not been advertised for 300 ms. -/
def execCandidateForget (pt : PortNo) (s : State) : Host.Outcome State Fault Refusal :=
  .next (let n := s.ports[pt].nbr
    if n.cand.isSome && 300000000 ≤ s.since n.candAt then
      (s.modPort pt fun P => { P with nbr := { P.nbr with cand := none } }).elect
    else s)

/-- FM_STABLE. -/
def execFmStable (s : State) : Host.Outcome State Fault Refusal :=
  .next (if s.net.best.isSome && !s.net.stable && 200000000 ≤ s.since s.net.bestAt then
    s.modNet fun N => { N with stable := true } else s)

/-- FAB_FM_CTL; remote access does not reach REMOTE_EN (Table 15-7). -/
def State.fmCtl (s : State) (v : W32) (remote : Bool) : State :=
  (s.modNet fun N => { N with
    eligible := v.getLsbD 31, hostFm := v.getLsbD 30, remoteEn := if remote then N.remoteEn else v.getLsbD 29,
    priority := v.truncate 8 }).elect

/-- FAB_FM_CTL_WRITE. -/
def execFabFmCtlWrite (v : W32) (s : State) : Host.Outcome State Fault Refusal := .next (if s.pfOpen then s.fmCtl v false else s)

/-! ### Node descriptors (R409 to R411) -/

/-- Table 15-1: the descriptor that a port sends. -/
def State.descriptor (s : State) (pt : PortNo) : Bytes :=
  let N := s.net
  let C := N.active
  let best := s.bestCand.getD (0, 0, 0)
  let b := leBytes 4 0x444E4346 ++ leBytes 2 1 ++ leBytes 1 (pt.val + 8 * C.use pt)
    ++ leBytes 1 (bnat (C.node != 0xFFFF) + 2 * bnat N.isFm + 4 * bnat N.eligible) ++ leVec 2 C.node ++ leBytes 2 C.dims.toNat
    ++ leVec 4 N.gen ++ leVec 8 Config.serial ++ leVec 8 C.fid ++ leVec 8 best.2.1 ++ leBytes 1 best.1 ++ leBytes 1 best.2.2
    ++ leBytes 2 0 ++ leVec 4 s.fwVer ++ leBytes 12 0
  b ++ leVec 4 (crc32c b)

/-- A descriptor goes out. -/
def State.sendDescriptor (s : State) (pt : PortNo) : State :=
  s.emit (.fabric (some pt) 4 ((s.descriptor pt).map BitVec.toNat))

/-- DESCRIPTOR_SEND: in EXCHANGE, and on an ACTIVE port. -/
def execDescriptorSend (pt : PortNo) (s : State) : Host.Outcome State Fault Refusal :=
  .next (let st := s.ports[pt].st
    if st = .exchange || st = .active then s.sendDescriptor pt else s)

/-- R410: why a descriptor is refused. -/
def State.refusal (s : State) (d : Bytes) : Option (BitVec 4) :=
  let fid := leAt d 24 8
  let own := s.net.active.fid.toNat
  if d.length != 64 || leAt d 0 4 != 0x444E4346 || leAt d 4 2 != 1 || leAt d 60 4 != (crc32c (d.take 60)).toNat
      || 32 ≤ leAt d 6 1 || 8 ≤ leAt d 7 1 || 2 ^ 15 ≤ leAt d 10 2 || !zeroIn d 42 44 || !zeroIn d 48 60 then some 1
  else if fid != 0 && own != 0 && fid != own then some 2
  else if leAt d 16 8 = Config.serial.toNat then some 3
  else none

/-- Table 15-2: the expected neighbour of a torus port. -/
def FabConfig.expected (C : FabConfig) (pt : PortNo) : W16 :=
  let k := pt.val / 2
  let D := dimSize C.dims k
  let a := coordOf C.node k
  let b := (if pt.val % 2 = 0 then a + 1 else a + D - 1) % D
  BitVec.ofNat 16 (C.node.toNat + b * 2 ^ (5 * k) - a * 2 ^ (5 * k))

/-- R431: the pair of node and serial is retired. -/
def FabConfig.retired (C : FabConfig) (n : W16) (serial : W64) : Bool :=
  C.retire.toList.any fun r => r.valid && r.node = n && r.serial = serial

/-- R411: the state of a neighbour; `use`: the partner's USE of its port. -/
def FabConfig.judge (C : FabConfig) (pt : PortNo) (n : Nbr) : NbrState :=
  let use := bitsOf n.flags.toNat 3 2
  let torusBad := C.use pt = 1 && (isSpare C.node || n.node != C.expected pt || use != 1 || n.port.toNat / 2 != pt.val / 2
    || n.port.toNat % 2 = pt.val % 2)
  if C.node = 0xFFFF || n.node = 0xFFFF || torusBad || C.retired n.node n.serial then .miswired else .ok

/-- The neighbour registers that a descriptor sets; byte 7 holds its flags, and USE is kept beside them. -/
def State.nbrOf (s : State) (pt : PortNo) (d : Bytes) : Nbr :=
  let hops := leAt d 41 1
  let serial := BitVec.ofNat 64 (leAt d 32 8)
  let has := serial != 0 && hops < 64
  let was := s.ports[pt].nbr
  let cand := if has then some (BitVec.ofNat 8 (leAt d 40 1), serial, hops + 1) else was.cand
  let candAt := if has then s.pwr.clk else was.candAt
  let flags := BitVec.ofNat 8 (leAt d 7 1 + 8 * bitsOf (leAt d 6 1) 3 2)
  let node := if (BitVec.ofNat 8 (leAt d 7 1)).getLsbD 0 then BitVec.ofNat 16 (leAt d 8 2) else 0xFFFF
  let n : Nbr := Nbr.mk .none 0 flags (BitVec.ofNat 3 (leAt d 6 1)) node (BitVec.ofNat 32 (leAt d 12 4))
    (BitVec.ofNat 64 (leAt d 16 8)) cand candAt
  { n with st := s.net.active.judge pt n }

/-- DESCRIPTOR_RECEIVED. -/
def State.descriptorIn (s : State) (pt : PortNo) (d : Bytes) : State :=
  let P := s.ports[pt]
  if P.st != .exchange && !P.striped then s
  else match s.refusal d with
    | some cause =>
      if P.st = .exchange then s.attemptFails pt cause else s.modPort pt fun P => { P with nbr := { P.nbr with refuse := cause } }
    | none =>
      if P.st = .exchange && P.held < 6 then s
      else
        let n := s.nbrOf pt d
        let s := if P.st = .exchange then s.portUp pt n.node else s
        ((s.setNbr pt n).elect.renewRoutes).sweepNodes

/-- DESCRIPTOR_RECEIVED. -/
def execDescriptorReceived (pt : PortNo) (d : Bytes) (s : State) : Host.Outcome State Fault Refusal := .next (s.descriptorIn pt d)

/-! ### Configuration generations (R414, R415, R430) -/

/-- R407, R408: a node ID fits its dimensions. -/
def nodeFits (n : W16) (dims : BitVec 15) : Bool :=
  n = 0xFFFF || isSpare n || (List.range 3).all fun k => coordOf n k < dimSize dims k

/-- R414: the staged configuration may be applied. -/
def FabConfig.valid (C : FabConfig) : Bool :=
  let use (pt : PortNo) : Nat := bitsOf C.puse.toNat (2 * pt.val) 2
  let unused (pt : PortNo) : Bool := use pt = 0 || use pt = 3
  nodeFits C.node C.dims
    && (List.finRange 8).all (fun pt => !(pt.val < 6 && use pt = 1 && dimSize C.dims (pt.val / 2) = 1))
    && C.ovr.toList.all fun o => !o.valid || (!unused o.primary.toFin && !(o.altValid && unused o.alt.toFin))

/-- The nodes that a configuration lists as lost. -/
def FabConfig.lostList (C : FabConfig) : List W16 :=
  (List.finRange 64).filterMap fun i => if C.lostValid.getLsbD i.val then some C.lost[i] else none

/-- SPARE_ADOPTION: the nodes whose holder changes: a pair of theirs is newly retired, and they are not lost. -/
def FabConfig.adopted (new old : FabConfig) : List W16 :=
  (new.retire.toList.filterMap fun r =>
    if r.valid && !old.retired r.node r.serial && !new.lostList.contains r.node then some r.node else none).eraseDups

/-- R414: the end-to-end state for a node goes, and what is not yet acknowledged ends with reason 4. -/
def State.dropNode (s : State) (n : W16) : State :=
  let d := pathLost n.toNat 4
  let s := s.endRuns (s.runsWith fun r _ => s.net.e2e.any fun e => e.dest = n && e.op = some r.op) d
  let s := if s.net.e2e.any fun e => e.dest = n && e.op.isNone then
      (List.finRange 16).foldl (fun (s : State) (p : Pid) => s.decisionLost p n d) s else s
  s.modNet fun N => { N with e2e := N.e2e.filter (·.dest != n) }

/-- NODE_ADOPTED: the holder's serial is this sled's, a neighbour's, or not known here: a free value (log entry 31). -/
def State.adopt (s : State) (n : W16) : State :=
  let s := s.dropNode n
  if n = s.net.active.node then s.postDev 0x0716 n.toNat Config.serial.toNat
  else match s.ports.toList.find? fun (P : Port) => P.nbr.st != .none && P.nbr.node = n && !s.net.active.retired n P.nbr.serial with
    | some P => s.postDev 0x0716 n.toNat P.nbr.serial.toNat
    | none => s.took.postDev 0x0716 n.toNat (s.free 64).toNat

/-- Every port's neighbour is judged against the configuration in force. -/
def State.rejudge (s : State) : State :=
  (List.finRange 8).foldl (fun (s : State) (pt : PortNo) =>
    let n := s.ports[pt].nbr
    if n.st = .none then s else s.setNbr pt { n with st := s.net.active.judge pt n }) s

/-- Slices that this sled starts to serve as decision point hold no earlier decisions (R426). -/
def State.newPoints (s : State) (was : List Pid) : State :=
  (List.finRange 16).foldl (fun (s : State) (p : Pid) =>
    if s.decidesHere p && !was.contains p then s.clearSlice (s.life p).slice else s) s

/-- FAB_APPLY: the staged configuration becomes active as the next generation. -/
def State.applyNow (s : State) : State :=
  let old := s.net.active
  let points := (List.finRange 16).filter s.decidesHere
  let s := s.modNet fun N => { N with
    active := N.staged, gen := N.gen + 1, fmNode := if N.isFm then N.staged.node else N.fmNode }
  let new := s.net.active
  let s := (s.newPoints points).postDev 0x0715 s.net.gen.toNat 0
  let s := (new.adopted old).foldl State.adopt s
  let s := (new.lostList.filter fun n => !old.lostList.contains n).foldl (fun (s : State) (n : W16) => s.loseNode n 4) s
  let s := s.rejudge.renewRoutes.sweepNodes
  let up := (List.finRange 8).filter fun pt => (s.ports[pt]).st = .active
  (up.foldl State.sendDescriptor s).elect

/-- A write of FAB_APPLY. -/
def State.fabApply (s : State) (v : W32) : State :=
  if v = s.net.gen + 1 && s.net.staged.valid then s.applyNow else s.modNet fun N => { N with cfgErr := true }

/-- FAB_APPLY. -/
def execFabApply (v : W32) (s : State) : Host.Outcome State Fault Refusal := .next (if s.pfOpen then s.fabApply v else s)

/-- NODE_LOST_DECLARE (R429): the elected manager lists a node that has been unreachable for FAB_LOST_HOLD, here and on every reachable
sled, and applies the next generation. -/
def execNodeLostDeclare (n : W16) (s : State) : Host.Outcome State Fault Refusal :=
  .next (let N := s.net
    let hold := if N.lostHold = 0 then 100 else N.lostHold.toNat
    match N.unreach.find? (·.1 = n), (List.finRange 64).find? fun i => !N.staged.lostValid.getLsbD i.val with
    | some x, some i =>
      if N.isFm && !N.hostFm && hold * 1000000 ≤ s.since x.2.2 && !N.staged.lostList.contains n then
        let s := s.modNet fun N => { N with staged := { N.staged with
          lostValid := N.staged.lostValid ||| BitVec.ofNat 64 (2 ^ i.val), lost := vmod N.staged.lost i fun _ => n } }
        (s.fabApply (s.net.gen + 1)).emit (.fabric none 5 [n.toNat])
      else s
    | _, _ => s)

/-! ### Packets (R397, R418, R424, R431) -/

/-- PACKET_ACCEPT: the committed partition that holds a slice. -/
def State.sliceHolder (s : State) (slice : BitVec 12) : Option Pid :=
  (List.finRange 16).find? fun p => (s.life p).st.holds && (s.life p).slice = slice

/-- A refusal returns to the source. -/
def State.refusePacket (s : State) (h : PacketHdr) (reason : Nat) : State :=
  s.emit (.fabric none 3 [h.src.toNat, h.slice.toNat, reason])

/-- R424: a packet for this sled. -/
def State.acceptPacket (s : State) (h : PacketHdr) : State :=
  if h.slice = 0 || h.slice = 0xFFF then s
  else match s.sliceHolder h.slice with
    | none =>
      let armed := s.net.sliceArmed
      let s := s.modNet fun N => { N with sliceDrop := satAdd N.sliceDrop 1, sliceArmed := false }
      let s := if armed then s.postDev 0x0717 h.slice.toNat h.src.toNat else s
      s.refusePacket h 5
    | some p =>
      match (s.life p).st with
      | .retained | .draining | .scrubbing => s.refusePacket h 6
      | _ => s.fabBytes p h.bytes

/-- R420: the oldest transactions to the packet's source in its slice end with it; their operations may end. -/
def State.endsWith (s : State) (h : PacketHdr) : State :=
  let mine := s.net.e2e.filter fun e => e.dest = h.src && e.slice = h.slice
  let gone := mine.take h.ends
  if h.tc != 0 then s
  else
    let s := s.modNet fun N => { N with e2e := N.e2e.filter fun e => !gone.any (·.seq = e.seq) }
    ((gone.filterMap (·.op)).eraseDups).foldl (fun (s : State) (o : OpRef) => s.fabDone o) s

/-- PACKET_ROUTE: a packet for another sled goes on; what no rule routes is refused to its source. -/
def State.passPacket (s : State) (h : PacketHdr) : State :=
  let s := match s.sliceHolder h.slice with
    | some p => if (s.route h.dest h.steps).isSome then s.fabBytes p h.bytes else s
    | none => s
  let out := (s.route h.dest h.steps).isNone
  let s := s.forward (Packet.mk h.dest h.slice h.tc 1 h.bytes h.steps none)
  if out then s.refusePacket h 2 else s

/-- A packet delivered by a port. -/
def State.deliverPacket (s : State) (pt : PortNo) (h : PacketHdr) : State :=
  if !s.usable pt || s.net.active.retired h.src h.serial then s
  else if h.dest = s.net.active.node then (s.acceptPacket h).endsWith h
  else s.passPacket h

/-- FABRIC_PACKET_RECEIVE (R397). -/
def State.packetIn (s : State) (pt : PortNo) (crcOk : Bool) (seq : Nat) (h : PacketHdr) : State :=
  let P := s.ports[pt]
  if P.st != .active then s
  else
    let again (s : State) : State := s.emit (.fabric (some pt) 1 [P.rxNext])
    if !crcOk then again (s.modPort pt fun P => { P with crc := satAdd P.crc 1 })
    else
      let s := s.acked pt h.acks
      if P.rxNext < seq then again s
      else if seq < P.rxNext then s.emit (.fabric (some pt) 2 [P.rxNext])
      else
        let s := s.modPort pt fun P => { P with rxNext := seq + 1 }
        let s := s.portPerf pt (·.rxBytes) (fun P v => { P with rxBytes := v }) h.bytes
        let s := s.portPerf pt (·.rxPkt) (fun P v => { P with rxPkt := v }) 1
        (s.deliverPacket pt h).emit (.fabric (some pt) 2 [seq + 1])

/-- FABRIC_PACKET_RECEIVE. -/
def execFabricPacketReceive (pt : PortNo) (crcOk : Bool) (seq : Nat) (pkt : PacketHdr) (s : State) : Host.Outcome State Fault Refusal :=
  .next (s.packetIn pt crcOk seq pkt)

/-! ### End to end (R420) -/

/-- E2E_RESEND: 1 ms without an acknowledgement. -/
def execE2eResend (k : Nat) (s : State) : Host.Outcome State Fault Refusal :=
  .next (match s.net.e2e[k]? with
    | some e =>
      if 1000000 ≤ s.since e.sentAt then
        let was := s.net.resend
        let s := s.modNet fun N => { N with
          resend := N.resend + 1, e2e := N.e2e.map fun x => if x.seq = e.seq then { x with sentAt := s.pwr.clk } else x }
        let s := if was = onesOf 32 then s.perfWrap .pf 16 else s
        (s.forward (Packet.mk e.dest e.slice e.tc e.count e.bytes 0 e.op)).sweepNodes
      else s
    | none => s)

/-- FAB_E2E_TMO in ms: 0 acts as 10, above 1,000 as 1,000. -/
def Network.tmoMs (N : Network) : Nat := if N.e2eTmo = 0 then 10 else min 1000 N.e2eTmo.toNat

/-- E2E_TIMEOUT. -/
def execE2eTimeout (k : Nat) (s : State) : Host.Outcome State Fault Refusal :=
  .next (match s.net.e2e[k]? with
    | some e => if s.net.tmoMs * 1000000 ≤ s.since e.firstAt then s.loseNode e.dest 3 else s
    | none => s)

/-! ### Groups (R425) -/

/-- RES of FAB_GRP_CMD. -/
def State.grpResult (s : State) (r : BitVec 4) : State := s.modNet fun N => { N with grpRes := r }

/-- The members of a group record. -/
def recNodes (b : Bytes) : List W16 := (List.range (leAt b 10 2)).map fun r => BitVec.ofNat 16 (leAt b (32 + 2 * r) 2)

/-- Table 15-4: the record is well formed, and its rank is this sled's. -/
def State.recordOk (s : State) (b : Bytes) : Bool :=
  let n := leAt b 10 2
  let l := recNodes b
  32 + 2 * n ≤ b.length && leAt b 0 4 = 0x50524746 && leAt b 4 2 = 1 && leAt b 6 2 != 0 && leAt b 8 1 < 16 && leAt b 9 1 = 0
    && 2 ≤ n && n ≤ 4096 && leAt b 12 2 < n && leAt b 14 2 < 4096 && zeroIn b 20 32
    && leAt b 16 4 = (crc32c (b.take 16 ++ [0, 0, 0, 0] ++ (b.take (32 + 2 * n)).drop 20)).toNat
    && l.all (fun m => !m.getLsbD 15) && decide l.Nodup
    && match l[leAt b 12 2]? with
      | some m => m = s.net.active.node || m = s.net.staged.node
      | none => false

/-- LOAD of a record: the first check that fails, or the group installed. -/
def State.grpLoad (s : State) (b : Bytes) : State :=
  if b.length < 32 then s.grpResult 7
  else if !s.recordOk b then s.grpResult 2
  else
    let p : Pid := ⟨leAt b 8 1 % 16, Nat.mod_lt _ (by omega)⟩
    let g := BitVec.ofNat 16 (leAt b 6 2)
    if !(s.life p).st.holds || leAt b 14 2 != (s.life p).slice.toNat then s.grpResult 3
    else if (s.prt p).gx.groups.toList.all Option.isSome then s.grpResult 4
    else if (s.groupOf p g).isSome then s.grpResult 5
    else (s.addGroup p (Group.mk g (leAt b 10 2) (leAt b 12 2) (recNodes b) 0)).grpResult 0

/-- REMOVE: once every operation started on the group has ended. -/
def State.grpRemove (s : State) (p : Pid) (g : W16) : State :=
  if (s.groupOf p g).isNone then s.grpResult 6
  else
    let users := ((s.prt p).gx.runs.filter (·.group = g)).map (·.op)
    (s.modNet fun N => { N with grpBusy := true, grpWait := N.grpWait ++ [GrpWait.mk p g users] }).grpSettle

/-- A write of FAB_GRP_CMD; `rec_`: what a read of the record at FAB_GRP_IOVA returns, empty where it fails. -/
def State.grpCmd (s : State) (v : W32) (rec_ : Bytes) : State :=
  let c := bitsOf v.toNat 30 2
  if c = 0 || c = 3 then s
  else if s.net.grpBusy then s.grpResult 1
  else if c = 2 then s.grpRemove ⟨bitsOf v.toNat 16 4, by unfold bitsOf; omega⟩ (v.truncate 16)
  else if v.getLsbD 24 then s.grpLoad s.net.grpBuf
  else s.grpLoad (if s.lost .pf then [] else rec_)

/-- FAB_GRP_LOAD. -/
def execFabGrpLoad (v : W32) (rec_ : Bytes) (s : State) : Host.Outcome State Fault Refusal :=
  .next (if s.pfOpen && bitsOf v.toNat 30 2 = 1 then s.grpCmd v rec_ else s)

/-- FAB_GRP_REMOVE. -/
def execFabGrpRemove (v : W32) (s : State) : Host.Outcome State Fault Refusal :=
  .next (if s.pfOpen && bitsOf v.toNat 30 2 = 2 then s.grpCmd v [] else s)

/-! ### Registers of the block (Tables 15-7 and 15-8) -/

/-- Replace a half of a 64-bit register. -/
def setHalf (x : W64) (hi : Bool) (v : W32) : W64 :=
  if hi then (x &&& 0xFFFFFFFF#64) ||| (v.zeroExtend 64 <<< 32) else (x &&& ~~~0xFFFFFFFF#64) ||| v.zeroExtend 64

/-- A half of a 64-bit register. -/
def halfOf (x : W64) (hi : Bool) : W32 := if hi then (x >>> 32).truncate 32 else x.truncate 32

/-- Table 15-8: a write at `o` from the start of the table, plus 0x100. -/
def FabConfig.write (C : FabConfig) (o : Nat) (v : W32) : FabConfig :=
  let i := v.truncate 16
  if o = 0x100 then { C with node := i }
  else if o = 0x104 then { C with dims := v.truncate 15 }
  else if o = 0x108 || o = 0x10C then { C with fid := setHalf C.fid (o = 0x10C) v }
  else if o = 0x110 then { C with puse := i }
  else if o = 0x114 then { C with dfltValid := v.getLsbD 7, dflt := v.truncate 3 }
  else if h : 0x140 ≤ o ∧ o < 0x180 then
    let p : Fin 16 := ⟨(o - 0x140) / 4, by omega⟩
    { C with pdp := vmod C.pdp p fun _ => i, pdpValid := setBit C.pdpValid p (v.getLsbD 31) }
  else if h : 0x200 ≤ o ∧ o < 0xA00 then
    let k : Fin 256 := ⟨(o - 0x200) / 8, by omega⟩
    { C with ovr := vmod C.ovr k fun x =>
        if o % 8 = 0 then { x with valid := v.getLsbD 31, dest := i }
        else { x with altValid := v.getLsbD 8, alt := BitVec.ofNat 3 (bitsOf v.toNat 4 3), primary := v.truncate 3 } }
  else if h : 0xA00 ≤ o ∧ o < 0xB00 then
    let k : Fin 64 := ⟨(o - 0xA00) / 4, by omega⟩
    let b := BitVec.ofNat 64 (2 ^ k.val)
    { C with lost := vmod C.lost k fun _ => i, lostValid := if v.getLsbD 31 then C.lostValid ||| b else C.lostValid &&& ~~~b }
  else if h : 0xB00 ≤ o ∧ o < 0xC00 then
    let k : Fin 16 := ⟨(o - 0xB00) / 16, by omega⟩
    { C with retire := vmod C.retire k fun x =>
        if o % 16 = 0 then { x with valid := v.getLsbD 31, node := i }
        else if o % 16 = 12 then x else { x with serial := setHalf x.serial (o % 16 = 8) v } }
  else C

/-- A 32-bit register of the table. -/
def FabConfig.read (C : FabConfig) (o : Nat) : W32 :=
  if o = 0x100 then C.node.zeroExtend 32
  else if o = 0x104 then C.dims.zeroExtend 32
  else if o = 0x110 then C.puse.zeroExtend 32
  else if o = 0x114 then BitVec.ofNat 32 (128 * bnat C.dfltValid + C.dflt.toNat)
  else if h : 0x140 ≤ o ∧ o < 0x180 then
    let p : Fin 16 := ⟨(o - 0x140) / 4, by omega⟩
    BitVec.ofNat 32 (2 ^ 31 * bnat (C.pdpValid.getLsbD p.val) + (C.pdp[p]).toNat)
  else if h : 0x200 ≤ o ∧ o < 0xA00 then
    let x := C.ovr[(⟨(o - 0x200) / 8, by omega⟩ : Fin 256)]
    if o % 8 = 0 then BitVec.ofNat 32 (2 ^ 31 * bnat x.valid + x.dest.toNat)
    else BitVec.ofNat 32 (256 * bnat x.altValid + 16 * x.alt.toNat + x.primary.toNat)
  else if h : 0xA00 ≤ o ∧ o < 0xB00 then
    let k : Fin 64 := ⟨(o - 0xA00) / 4, by omega⟩
    BitVec.ofNat 32 (2 ^ 31 * bnat (C.lostValid.getLsbD k.val) + (C.lost[k]).toNat)
  else if h : 0xB00 ≤ o ∧ o < 0xC00 then
    let x := C.retire[(⟨(o - 0xB00) / 16, by omega⟩ : Fin 16)]
    if o % 16 = 0 then BitVec.ofNat 32 (2 ^ 31 * bnat x.valid + x.node.toNat) else 0
  else 0

/-- The 64-bit values of the table, by the offset of their low word. -/
def FabConfig.pair (C : FabConfig) (o : Nat) : Option W64 :=
  if o = 0x108 then some C.fid
  else if h : 0xB00 ≤ o ∧ o < 0xC00 then
    if o % 16 = 4 then some (C.retire[(⟨(o - 0xB00) / 16, by omega⟩ : Fin 16)]).serial else none
  else none

/-- Replace 4 bytes of a buffer. -/
def putWord (b : Bytes) (o : Nat) (v : W32) : Bytes := b.take o ++ leVec 4 v ++ b.drop (o + 4)

/-- A write of a register of the network block; `rec_` as for FAB_GRP_CMD. -/
def State.netWrite (s : State) (off : Nat) (v : W32) (remote : Bool) (rec_ : Bytes) : State :=
  if off = 0x30800C then s.fmCtl v remote
  else if off = 0x308014 then s.fabApply v
  else if off = 0x308018 then s.modNet fun N => { N with cfgErr := N.cfgErr && !v.getLsbD 0 }
  else if off = 0x30801C then s.modNet fun N => { N with e2eTmo := v.truncate 10 }
  else if off = 0x308020 then s.modNet fun N => { N with lostHold := v.truncate 16 }
  else if off = 0x308024 then s.modNet fun N => { N with
    rtCap := BitVec.ofNat 7 (bitsOf v.toNat 16 7), w1 := BitVec.ofNat 4 (bitsOf v.toNat 4 4), w2 := v.truncate 4 }
  else if 0x308100 ≤ off && off < 0x308C00 then s.modNet fun N => { N with staged := N.staged.write (off - 0x308000) v }
  else if off = 0x309100 then s.grpCmd v rec_
  else if off = 0x309104 || off = 0x309108 then s.modNet fun N => { N with grpIova := setHalf N.grpIova (off = 0x309108) v }
  else if 0x310000 ≤ off && off < 0x312020 then s.modNet fun N => { N with grpBuf := putWord N.grpBuf (off - 0x310000) v }
  else s

/-- RC counters of the block: the value read, and the state after it (R479). -/
def State.netCounter (s : State) (off : Nat) : Option (W32 × State) :=
  if off = 0x308028 then some (s.net.sliceDrop, s.modNet fun N => { N with sliceDrop := 0, sliceArmed := true })
  else if off = 0x30802C then some (s.net.noRoute, s.modNet fun N => { N with noRoute := 0 })
  else none

/-- The 64-bit values of the block, by the offset of their low word (R480). -/
def State.netPair (s : State) (off : Nat) : Option W64 :=
  if off = 0x308004 then some Config.serial
  else if off = 0x309104 then some s.net.grpIova
  else if h : 0x309000 ≤ off ∧ off < 0x309100 then
    if off % 0x20 = 0xC then some (s.ports[(⟨(off - 0x309000) / 0x20, by omega⟩ : Fin 8)]).nbr.serial else none
  else if 0x308100 ≤ off && off < 0x308C00 then s.net.staged.pair (off - 0x308000)
  else if 0x30C100 ≤ off && off < 0x30CC00 then s.net.active.pair (off - 0x30C000)
  else none

/-- The other registers of the block. -/
def State.netWord (s : State) (off : Nat) : W32 :=
  let N := s.net
  if off = 0x308000 then N.gen
  else if off = 0x30800C then BitVec.ofNat 32
    (2 ^ 31 * bnat N.eligible + 2 ^ 30 * bnat N.hostFm + 2 ^ 29 * bnat N.remoteEn + N.priority.toNat)
  else if off = 0x308010 then BitVec.ofNat 32 (2 ^ 31 * bnat N.isFm + 2 ^ 30 * bnat N.stable + N.fmNode.toNat)
  else if off = 0x308018 then BitVec.ofNat 32 (bnat N.cfgErr)
  else if off = 0x30801C then N.e2eTmo.zeroExtend 32
  else if off = 0x308020 then N.lostHold.zeroExtend 32
  else if off = 0x308024 then BitVec.ofNat 32 (2 ^ 16 * N.rtCap.toNat + 16 * N.w1.toNat + N.w2.toNat)
  else if off = 0x308030 then N.resend
  else if 0x308100 ≤ off && off < 0x308C00 then N.staged.read (off - 0x308000)
  else if 0x30C100 ≤ off && off < 0x30CC00 then N.active.read (off - 0x30C000)
  else if h : 0x309000 ≤ off ∧ off < 0x309100 then
    let n := (s.ports[(⟨(off - 0x309000) / 0x20, by omega⟩ : Fin 8)]).nbr
    match off % 0x20 with
    | 0 => BitVec.ofNat 32 (256 * n.refuse.toNat + n.st.code)
    | 4 => BitVec.ofNat 32 (2 ^ 24 * (n.flags.toNat % 8) + 65536 * n.port.toNat + n.node.toNat)
    | 8 => n.gen
    | _ => 0
  else if off = 0x30910C then BitVec.ofNat 32 (16 * bnat N.grpBusy + N.grpRes.toNat)
  else if 0x310000 ≤ off && off < 0x312020 then BitVec.ofNat 32 (leAt N.grpBuf (off - 0x310000) 4)
  else 0

/-- A word latched by an earlier read of a low word (R480). -/
def latched (l : List (Nat × W32)) (off : Nat) : W32 :=
  match l.find? (·.1 = off) with
  | some x => x.2
  | none => 0

/-- Latch a high word. -/
def latch (l : List (Nat × W32)) (off : Nat) (v : W32) : List (Nat × W32) := (off, v) :: l.filter (·.1 != off)

/-- A remote read: as a PF read would be, with latches of its own. -/
def State.remoteRead (s : State) (off : Nat) : State :=
  let out (s : State) (v : W32) : State := s.emit (.fabric none 6 [off, v.toNat])
  match s.netCounter off, s.netPair off with
  | some (v, s), _ => out s v
  | none, some x => out (s.modNet fun N => { N with remoteLatches := latch N.remoteLatches (off + 4) (halfOf x true) }) (halfOf x false)
  | none, none =>
    if 4 ≤ off && (s.netPair (off - 4)).isSome then out s (latched s.net.remoteLatches off) else out s (s.netWord off)

/-- REMOTE_ACCESS (R413). -/
def execRemoteAccess (serial : W64) (write : Bool) (off : Nat) (v : W32) (rec_ : Bytes) (s : State) : Host.Outcome State Fault Refusal :=
  .next (if s.boot.hostReady && s.boot.form = .normal && s.net.remoteEn && serial != 0 && serial = s.net.fmSerial
      && 0x308000 ≤ off && off < 0x320000 && off % 4 = 0 then
    if write then s.netWrite off v true rec_ else s.remoteRead off
  else s)

end Sys2Proof.Machine
end

