-- ==== Sys2Proof/Machine/Cicada.lean ====
section
/-! DEFINITION. Machine/Cicada.lean: what happens in each Cicada cycle while no command comes (R483, R484; log entry 8). -/

namespace Sys2Proof.Machine

/-- One Cicada cycle of 640 ns, while standby is present (R483). -/
def State.tick (s : State) : State :=
  if !s.sled.stby then s
  else
    let us := (s.pwr.clk + 640) / 1000 - s.pwr.clk / 1000
    let s := ((s.modPwr Power.advance).glideQuads us).noteRetain
    ((List.finRange 16).foldl (fun (s : State) (p : Pid) => (s.tickPart p).noteReady (.vf p)) (s.noteReady .pf)).sweepNodes

end Sys2Proof.Machine
end

