-- ==== Sys2Proof/Machine/Resets.lean ====
section
/-! DEFINITION. Machine/Resets.lean: supplies and power failure, the five reset scopes and the watchdogs (R489, R505 to R507, chapter 19;
log entry 32). -/

namespace Sys2Proof.Machine

/-- Post an event of the device once the operator event ring is reachable (R506, R547). -/
def State.postLater (s : State) (code : BitVec 16) (arg0 arg1 : Nat) : State :=
  let e : Event := ⟨code, 0xFF, BitVec.ofNat 32 arg0, BitVec.ofNat 64 arg1⟩
  let here : Bool := match s.enabledOf .pf 5 with
    | some r => !s.lost .pf && (s.ring r).state = .active
    | none => false
  if here then s.post .pf e else { s with flash := { s.flash with owed := s.flash.owed ++ [e] } }

/-! ### Core reset (R512) -/

/-- A unit of the core that executes is stopped as by STOP. -/
def State.unitReset (s : State) (u : UnitRef) : State :=
  match (s.unit u).st with
  | .running | .frameWait => (s.modUnit u fun x => { x.drop with st := .loaded, rt := false }).breakPairsOf u
  | _ => s

/-- An operation loses its unfinished share on relative core `r`; until COMPUTE_OP_END no share has ended. -/
def State.loseShare (s : State) (p : Pid) (r : Nat) (c : CmdRef) (k : Cmd) (a : ActiveOp) : State :=
  match checkCompute (s.coresOf p).length a.op with
  | .error _ => s
  | .ok C =>
    let l := shareCores C a.op
    if !l.contains r || a.lostCores.contains r then s
    else
      let o : OpRef := ⟨c, a.idx⟩
      let ws := (C.mayWrite s p).filter (s.canSpoil p)
      let gone := a.lostCores ++ [r]
      let s := (s.spoil p ws (s.tagOf c.ring k.hdr) k.dead).modOp o fun a => { a with lostCores := gone }
      if l.all gone.contains then s.endLost o p (gone.headD r) else s

/-- Every compute operation of a partition loses its share on a core. -/
def State.loseShares (s : State) (p : Pid) (r : Nat) : State :=
  (s.runningCmds (.vf p)).foldl (fun (s : State) (c : CmdRef) => match s.cmd? c with
    | some k =>
      let l := match k.run with
        | some x => if k.hdr.engine = 1 then x.active else []
        | none => []
      l.foldl (fun (s : State) (a : ActiveOp) => s.loseShare p r c k a) s
    | none => s) s

/-- An injected segment has a share on the core. -/
def State.segmentOn (s : State) (p : Pid) (r : Nat) (j : Injected) : Bool :=
  match (s.prt p).scb.segOps j.rec_ j.mb with
  | some ops => ops.any fun op => match checkCompute (s.coresOf p).length op with
    | .ok C => (shareCores C op).contains r
    | .error _ => false
  | none => false

/-- R512: a core reset of relative core `r`. -/
def State.coreReset (s : State) (p : Pid) (r : RelCore) (oper : Bool) : State :=
  match s.absCore p r.val with
  | none => s
  | some k =>
    let s := (List.finRange 4).foldl (fun (s : State) (u : UnitNo) => s.unitReset ⟨p, r, u⟩) s
    let s := s.loseShares p r.val
    let s := ((s.prt p).scb.injected.filter (s.segmentOn p r.val)).foldl (State.stopSegment p .cancelled) s
    let s := { s with coreErr := vmod s.coreErr k fun x => { x with rst := satAdd x.rst 1 } }
    s.postPart p 0x0B03 (r.val + 256 * bnat oper) 0

/-- TNT_CORE_RST: [31:24] 0xC3; [5:0] relative core. Any other value is discarded. -/
def execTntCoreRst (p : Pid) (v : W32) (s : State) : Host.Outcome State Fault Refusal :=
  .next (if s.vfFull p && v.toNat / 64 = 0xC3 * 2 ^ 18 then s.coreReset p ⟨v.toNat % 64, Nat.mod_lt _ (by omega)⟩ false else s)

/-- SYS_RST_CORE: of the partition that holds absolute core `k`. -/
def execSysRstCore (k : Core) (s : State) : Host.Outcome State Fault Refusal :=
  .next (match s.quads[quadOf k].owner with
    | some p => match (List.finRange 64).find? fun r => s.absCore p r.val = some k with
      | some r => if s.pfServes 0x100 then s.coreReset p r true else s
      | none => s
    | none => s)

/-! ### Partition reset (R513, R523) -/

/-- R513 step 7: each quad takes its READY sleep target. -/
def State.readyQuads (s : State) (p : Pid) : State :=
  (s.quadsOf p).foldl (fun (s : State) (q : Quad) =>
    let t := s.sleepTarget p q
    s.modQuad q fun x => { x with toward := if x.st = t then none else some t, access := none }) s

/-- R523: an executing SUSPEND ends BAD_STATE; a RESIZE goes on, and a loss that waits for it waits on. -/
def Life.afterReset (L : Life) : Life :=
  let keep := match L.exec with
    | some (.resize _ _ _ _ _) => true
    | _ => false
  { L with
    exec := if keep then L.exec else none, cmdSts := if L.exec = some .suspend then 2 else L.cmdSts,
    lossAfter := keep && L.lossAfter, halting := false, drainFrom := none, pausedAt := none, wasSuspended := false, idleSince := none }

/-- R513: a partition reset, in RUNNING, NAPPING and SUSPENDED; a loss that waited for a halt applies from READY. -/
def State.partReset (s : State) (p : Pid) (byWdg : Bool) : State :=
  let L := s.life p
  match L.st with
  | .running | .napping | .suspended =>
    let loss := L.halting || (L.lossAfter && L.exec = some .suspend)
    let s := (((s.endAll p).dropHeld (.vf p)).clearEngines p).clearSlice L.slice
    let s := (s.modLife p Life.afterReset).modLoss (.vf p) fun l => { l with lost := false }
    let s := s.setPState p .ready 6
    let s := if byWdg then s.postOper p 0x0B02 0 ((s.prt p).pwd.seqErr).toNat else s
    let s := (s.resetRings p).readyQuads p
    if loss then s.applyLoss p else s
  | _ => s

/-- SYS_RST_PARTITION. -/
def execSysRstPartition (p : Pid) (s : State) : Host.Outcome State Fault Refusal :=
  .next (if s.pfServes 0x100 then s.partReset p false else s)

/-- PWD_RESET: 0xD1E5; other values are discarded. -/
def execPwdReset (p : Pid) (v : W32) (s : State) : Host.Outcome State Fault Refusal :=
  .next (if s.vfFull p && v.toNat % 65536 = 0xD1E5 then s.partReset p false else s)

/-! ### Device warm reset (R514, R515) -/

/-- Phases one and two for a partition: every engine stops, and what had to complete first completes (R385). -/
def State.warmPart (s : State) (p : Pid) : State :=
  match (s.life p).st with
  | .empty | .configuring | .scrubbing => s
  | .draining => (s.endAll p).dropHeld (.vf p)
  | _ =>
    let s := ((s.endAll p).clearEngines p).clearSlice (s.life p).slice
    (s.suspended p).retainDone p

/-- Every fabric port goes to DISABLED, and what its retry buffer holds ends with the engines. -/
def State.portsOff (s : State) : State :=
  (List.finRange 8).foldl (fun (s : State) (pt : PortNo) => (s.modPort pt fun P => { P with retry := [], replays := 0 }).portDisable pt) s

/-- R415: generation 0, nothing assigned, and no transaction. -/
def Network.warm (N : Network) : Network :=
  { N with
    gen := 0, staged := FabConfig.reset, active := FabConfig.reset, e2e := [], unreach := [], grpBusy := false, grpWait := [],
    fmNode := if N.isFm then 0xFFFF else N.fmNode }

/-- A warm reset ends a trial's timer and a verification; a download is lost with the power, and with a PLDM update. -/
def Flash.warm (F : Flash) (memLost : Bool) : Flash :=
  { F with
    trialAt := none, sealAt := none, pldm := .idle,
    dl := F.dl.bind fun d => if memLost || d.pldm then none else some { d with verified := false } }

/-- R515: what a partition loses with the memory; its settings, key, token and meters stay. -/
def Prt.memLost (P : Prt) : Prt := { P with mem := { Memory.reset with cnt := P.mem.cnt }, fn := { P.fn with held := [] } }

/-- R515: a held meter record is lost. -/
def State.loseRecord (s : State) (r : HeldRec) : State :=
  let armed := s.link.mtrLostArmed
  let s := { s with link := { s.link with mtrLost := satAdd s.link.mtrLost 1, mtrLostArmed := false } }
  if armed then s.postLater 0x0903 r.pid.val r.seq.toNat else s

/-- R515: device memory, the holds and the held meter records are lost. -/
def State.loseMemory (s : State) : State :=
  let held := s.mtr.hold
  let s := (s.modMtrHold []).dropHeld .pf
  held.foldl State.loseRecord { s with prts := s.prts.map Prt.memLost }

/-- R511, R514, R515, R585: a device warm reset with its cause. The boot goes on from ROM; where the rails went down, from RAILS. -/
def State.warmReset (s : State) (cause : BitVec 8) (memLost : Bool) : State :=
  let s := s.resetLink
  let s := s.stopWork .pf .cancelled
  let s := ((List.finRange 16).foldl State.warmPart s).portsOff
  let s := { s with
    net := s.net.warm, reds := [], jobs := [], flash := s.flash.warm memLost,
    link := { s.link with opStopAt := none }, wdg := s.wdg.disabled,
    boot := { s.boot with
      cause := cause, memLost := memLost, hostReady := false, fault := 0, milestone := if memLost then 1 else 2, form := .normal,
      afterCold := false } }
  let s := s.modSec fun S => { S with conns := Vector.replicate 19 .start }
  let s := s.modPwr fun P => { P with
    ceilSled := 2000, retained := false, retSince := none, retExit := none, pllLo := 0 }
  if memLost then s.loseMemory else s

/-- SYS_RST_WARM. -/
def execSysRstWarm (s : State) : Host.Outcome State Fault Refusal := .next (if s.pfServes 0x100 then s.warmReset 0x07 false else s)

/-! ### Sled cold reset (R516) -/

/-- What the flash holds stays; its registers take their reset values. -/
def Flash.cold (F : Flash) : Flash :=
  { Flash.reset with
    hdrBad := F.hdrBad, hdrBuild := F.hdrBuild, sfdp := F.sfdp, images := F.images, j0 := F.j0, j1 := F.j1, js := F.js, seq := F.seq,
    fuses := F.fuses, cfg := F.cfg, cfgSel := F.cfgSel }

/-- What is plugged in and driven from outside stays; with the input good the rails come up again. -/
def Sled.cold (x : Sled) : Sled :=
  { Sled.reset with
    cages := x.cages, straps := x.straps, refclkA := x.refclkA, sris := x.sris, perstA := x.perstA, perstB := x.perstB,
    prsnt := x.prsnt, inputGood := x.inputGood, railsUp := if x.inputGood then 14 else 3, inletT := x.inletT }

/-- R516: every register at its reset value; the boot starts again. -/
def State.coldReset (s : State) (cause : BitVec 8) : State :=
  { State.reset with
    boot := { Boot.reset with cause := cause, thermSeen := s.sled.therm },
    flash := s.flash.cold, sled := s.sled.cold,
    tier := { TierRegs.reset with rdimm := s.tier.rdimm },
    link := { Link.reset with perst := s.link.perst },
    ports := s.ports.map fun P => { Port.reset with modPres := P.modPres, modReady := P.modReady },
    pwr := { Power.reset with volts := s.pwr.volts, pkgUp := s.sled.inputGood },
    nfree := s.nfree, out := s.out, pending := s.pending }

/-- SYS_RST_COLD. -/
def execSysRstCold (s : State) : Host.Outcome State Fault Refusal := .next (if s.pfServes 0x100 then s.coldReset 0x04 else s)

/-- STANDBY_APPLY. -/
def execStandbyApply (s : State) : Host.Outcome State Fault Refusal :=
  .next (if s.sled.stby then s else ({ s with sled := { s.sled with inputGood := false } }).coldReset 0x01)

/-! ### Supplies (R489, R505 to R507, R550, R553) -/

/-- R553: rails 3 to 13 go down: the package stops where it is, and the link with it. -/
def State.powerDown (s : State) : State :=
  let s := s.modPwr fun P => { P with pkgUp := false, pllLo := 0 }
  { s with
    quads := s.quads.map fun q => if q.owner.isSome then { QuadState.reset with owner := q.owner } else q,
    boot := { s.boot with hostReady := false },
    link := { s.link with up := false, training := false, width := 0, rate := 0, cxl := false },
    sled := { s.sled with railsUp := min 3 s.sled.railsUp } }

/-- The rails come up (R552). -/
def State.powerUp (s : State) : State :=
  s.modPwr fun P => { P with pkgUp := true, pfail := false, pfailAt := 0 }

/-- R506, Table 19-4: a supply fault: after HOST_READY a warm reset with memory lost, the rails going down and up again; during the
boot, fault 0x05. -/
def State.supplyFault (s : State) : State :=
  let s := { s with sled := { s.sled with faultN := true } }
  if s.boot.hostReady then
    let s := s.powerDown.warmReset 0x09 true
    if s.sled.inputGood then { s.powerUp with sled := { s.sled with railsUp := 14 } } else s
  else { s with boot := { s.boot with fault := 5, form := .limited, hostReady := true }, sled := { s.sled with faultBoot := true } }

/-- SUPPLY_FAULT: rail `rail` has been out of its window for 100 µs. -/
def execSupplyFault (rail : Fin 14) (s : State) : Host.Outcome State Fault Refusal :=
  .next (if s.sled.stby && rail.val < s.sled.railsUp && !s.sled.faultBoot then (s.postLater 0x0A05 rail.val 0).supplyFault else s)

/-- PLL_UNLOCK (R489). -/
def execPllUnlock (pll : Fin 48) (s : State) : Host.Outcome State Fault Refusal :=
  .next (if !s.pllLock pll.val then s
    else
      let s := s.postLater 0x0A06 pll.val 0
      if pll.val < 28 then s.supplyFault
      else if pll.val = 28 then s.resetLink.train
      else
        let h := (pll.val - 32) % 2
        s.lockLoss ⟨(pll.val - 32) / 2, by omega⟩ ((List.finRange 8).filter fun l => l.val / 4 = h))

/-- THERMTRIP (R505, R553, R558). -/
def execThermtrip (s : State) : Host.Outcome State Fault Refusal :=
  .next (if s.pwr.pkgUp then { s.powerDown with sled := { s.powerDown.sled with therm := true, faultN := true } } else s)

/-- POWER_FAIL_WARN (R507): `volts`: the input voltage in 10 mV. -/
def execPowerFailWarn (volts : W16) (s : State) : Host.Outcome State Fault Refusal :=
  .next (if s.pwr.pkgUp && !s.pwr.pfail then
    (s.modPwr fun P => { P with pfail := true, pfailAt := P.clk, volts := volts }).postDev 0x0A04 1 volts.toNat
  else s)

/-- POWER_FAIL_RECOVER: within 4 ms; the voltage is not given with the command: a free value. -/
def execPowerFailRecover (s : State) : Host.Outcome State Fault Refusal :=
  .next (if s.pwr.pkgUp && s.pwr.pfail && s.since s.pwr.pfailAt < 4000000 then
    let v : W16 := s.free 16
    (s.took.modPwr fun P => { P with pfail := false, volts := v }).postDev 0x0A04 0 v.toNat
  else s)

/-- POWER_FAIL_SHUTDOWN: after 4 ms. -/
def execPowerFailShutdown (s : State) : Host.Outcome State Fault Refusal :=
  .next (if s.pwr.pkgUp && s.pwr.pfail && 4000000 ≤ s.since s.pwr.pfailAt then
    { s.powerDown with sled := { s.powerDown.sled with inputGood := false } }
  else s)

/-- PB_PRSNT_DEASSERT (R550): package power is removed without a warning. -/
def execPbPrsntDeassert (s : State) : Host.Outcome State Fault Refusal :=
  .next (let s := s.powerDown
    { s with sled := { s.sled with prsnt := false, inputGood := false } })

/-- INPUT_GOOD (R550, R552): rails 3 to 13 come up, unless a trip is latched; after a shutdown the recovery is a warm reset with memory
lost. -/
def execInputGood (s : State) : Host.Outcome State Fault Refusal :=
  .next (if !s.sled.stby || s.sled.inputGood then s
    else
      let s := { s with sled := { s.sled with inputGood := true, prsnt := true } }
      if s.sled.therm then s
      else
        let back := 2 ≤ s.boot.milestone.toNat
        let s := { s.powerUp with sled := { s.sled with railsUp := 14 } }
        if back then s.warmReset 0x0A true else s)

/-- STANDBY_LOSS: the Cicada stops, and the key slots are lost (R443). -/
def execStandbyLoss (s : State) : Host.Outcome State Fault Refusal :=
  .next (if !s.sled.stby then s
    else
      let s := (s.powerDown.modSec fun S => { S with keyValid := 0, keys := Vector.replicate 17 0 }).modPwr fun P => { P with stbyOk := false }
      { s with sled := { s.sled with stby := false, inputGood := false, railsUp := 0, faultN := false, therm := false } })

/-! ### Watchdogs (R520 to R522) -/

/-- The watchdog of a function. -/
def State.dog (s : State) : Fn → Watchdog
  | .pf => s.wdg
  | .vf p => (s.prt p).pwd

/-- Change the watchdog of a function. -/
def State.modDog (s : State) (fn : Fn) (f : Watchdog → Watchdog) : State :=
  match fn with
  | .pf => { s with wdg := f s.wdg }
  | .vf p => s.modPwd p f

/-- PERIOD as it acts, in ms. -/
def Watchdog.periodMs (w : Watchdog) : Nat := max 10 (min 600000 w.period.toNat)

/-- WARN as it acts, in ms. -/
def Watchdog.warnMs (w : Watchdog) : Nat := if w.periodMs ≤ w.warn.toNat then 0 else w.warn.toNat

/-- GRACE as it acts, in ms. -/
def Watchdog.graceMs (w : Watchdog) : Nat := max 1000 (min 600000 w.grace.toNat)

/-- E at which the watchdog expires, in ms (R520, R522). -/
def Watchdog.limitMs (w : Watchdog) : Nat := if w.first then max w.periodMs w.graceMs else w.periodMs

/-- The watchdog counts: a partition's only once the partition is RUNNING (R520). -/
def State.dogCounts (s : State) : Fn → Bool
  | .pf => s.pwr.pkgUp && s.boot.hostReady
  | .vf p => s.pwr.pkgUp && match (s.life p).st with
    | .running | .napping | .suspended => true
    | _ => false

/-- E, in ms. -/
def State.dogMs (s : State) (fn : Fn) : Nat :=
  if s.dogCounts fn || (s.dog fn).st = .paused then (s.dog fn).elapsed s.pwr.time.toNat / 1000000 else 0

/-- A check may act on the watchdog. -/
def State.dogAwake (s : State) (fn : Fn) : Bool := s.dogCounts fn && ((s.dog fn).st = .running || (s.dog fn).st = .warning)

/-- WATCHDOG_WARNING. -/
def execWatchdogWarning (fn : Fn) (s : State) : Host.Outcome State Fault Refusal :=
  .next (let w := s.dog fn
    let e := s.dogMs fn
    if s.dogAwake fn && w.st = .running && w.warnMs != 0 && w.periodMs - w.warnMs ≤ e then
      let s := s.modDog fn fun w => { w with st := .warning }
      let left := w.limitMs - e
      match fn with
      | .pf => s.postDev 0x0B01 left 0
      | .vf p => (s.postPart p 0x0B01 left 0).postOper p 0x0B01 left 0
    else s)

/-- The watchdog of a function expires at this check. -/
def State.dogExpires (s : State) (fn : Fn) : Bool := s.dogAwake fn && (s.dog fn).limitMs ≤ s.dogMs fn

/-- DEVICE_WATCHDOG_EXPIRE. -/
def execDeviceWatchdogExpire (s : State) : Host.Outcome State Fault Refusal :=
  .next (if s.dogExpires .pf then s.warmReset 0x05 false else s)

/-- PARTITION_WATCHDOG_EXPIRE. -/
def execPartitionWatchdogExpire (p : Pid) (s : State) : Host.Outcome State Fault Refusal :=
  .next (if s.dogExpires (.vf p) then s.partReset p true else s)

/-- MC_WATCHDOG_EXPIRE: the management controller runs from ROM on. -/
def execMcWatchdogExpire (s : State) : Host.Outcome State Fault Refusal :=
  .next (if s.pwr.pkgUp && 3 ≤ s.boot.milestone.toNat then s.warmReset 0x06 false else s)

/-- The registers of a watchdog are served: the device's at PF 0x3_0000, a partition's while its VF is. -/
def State.dogOpen (s : State) : Fn → Bool
  | .pf => s.pfServes 0x30000
  | .vf p => s.vfFull p

/-- The sequence ends with an error. -/
def Watchdog.misserved (w : Watchdog) : Watchdog := { w with armedAt := none, seqErr := satAdd w.seqErr 1 }

/-- The arm limit has passed. -/
def State.armLapsed (s : State) (fn : Fn) : Bool :=
  match (s.dog fn).armedAt with
  | some t => 10000000 ≤ s.since t
  | none => false

/-- WATCHDOG_SERVE (R521). -/
def execWatchdogServe (fn : Fn) (v : W32) (s : State) : Host.Outcome State Fault Refusal :=
  .next (let st := (s.dog fn).st
    if !s.dogOpen fn || st = .disabled || st = .paused then s
    else
      let s := if s.armLapsed fn then s.modDog fn Watchdog.misserved else s
      let k := v.toNat % 65536
      s.modDog fn fun w =>
        if k = 0xA5E1 then { w with armedAt := some s.pwr.clk }
        else if k = 0x1E5A && w.armedAt.isSome then { w with st := .running, armedAt := none, since := s.pwr.time.toNat, first := false }
        else w.misserved)

/-- SERVE_ARM_TIMEOUT. -/
def execServeArmTimeout (fn : Fn) (s : State) : Host.Outcome State Fault Refusal :=
  .next (if s.armLapsed fn then s.modDog fn Watchdog.misserved else s)

/-- WATCHDOG_ENABLE_WRITE (Table 19-7). -/
def execWatchdogEnableWrite (fn : Fn) (v : W32) (s : State) : Host.Outcome State Fault Refusal :=
  .next (let w := s.dog fn
    if !s.dogOpen fn || w.lock then s
    else if !v.getLsbD 31 then s.modDog fn Watchdog.disabled
    else if w.st != .disabled then s
    else s.modDog fn fun w =>
      { w with st := if s.lost fn then .paused else .running, since := s.pwr.time.toNat, held := 0, first := false })

/-- WDG_LOCK. -/
def execWdgLock (s : State) : Host.Outcome State Fault Refusal :=
  .next (if s.pfServes 0x30000 then { s with wdg := { s.wdg with lock := true } } else s)

end Sys2Proof.Machine
end

