-- ==== Sys2Proof/Machine/Journal.lean ====
section
/-! DEFINITION. Machine/Journal.lean: the flash: the update journal, image verification, the fuses and the configuration store (R526 to
R534, R541, R542; log entry 34). -/

namespace Sys2Proof.Machine

/-- Change the flash. -/
def State.modFls (s : State) (f : Flash → Flash) : State := { s with flash := f s.flash }

/-- R547: an event of Table 20-15; one that arises before HOST_READY waits. -/
def State.flashEvent (s : State) (code : BitVec 16) (arg0 arg1 : Nat) : State :=
  if s.boot.hostReady then s.postDev code arg0 arg1
  else s.modFls fun F => { F with owed := F.owed ++ [Event.mk code 0xFF (BitVec.ofNat 32 arg0) (BitVec.ofNat 64 arg1)] }

/-- UPDATE_STAGE of a region: its FW_VERSION and EPOCH as the journal has them. -/
def State.stageEvent (s : State) (stage : Nat) (t : Fin 3) (cause : Nat) : State :=
  let x := s.flash.js.slots[t]
  s.flashEvent 0x0C01 (stage + 16 * t.val + 256 * cause) (x.ver.toNat + 2 ^ 32 * x.epoch.toNat)

/-- FLASH_ERROR: 0 read, 1 program, 2 erase; counted in FLS_ERR_CNT. -/
def State.flashError (s : State) (what addr : Nat) : State :=
  (s.modFls fun F => { F with errCnt := satAdd F.errCnt 1 }).flashEvent 0x0C06 what addr

/-! ### The journal (R531 to R533) -/

/-- A slot as a region number. -/
def slotRegion (x : Fin 2) : Fin 3 := ⟨x.val, by omega⟩

/-- A region as a slot: A or B. -/
def regionSlot (t : Fin 3) : Option (Fin 2) := if h : t.val < 2 then some ⟨t.val, h⟩ else none

/-- Change a slot of the journal state. -/
def JState.modSlot (j : JState) (t : Fin 3) (f : Slot → Slot) : JState := { j with slots := vmod j.slots t f }

/-- Table 20-6: the effect of a record. -/
def JState.play (j : JState) : JKind → JState
  | .slotEmpty t => j.modSlot t fun _ => ⟨.empty, 0, 0⟩
  | .activate t epoch ver trial fuse _ =>
    let j := j.modSlot t fun _ => ⟨.valid, epoch, ver⟩
    match regionSlot t with
    | some x => { j with pending := some x, attempts := 0, trial := trial }
    | none => { j with t := fuse }
  | .bootAttempt _ n => { j with attempts := n }
  | .confirm x fuse => { j with active := x, pending := none, attempts := 0, t := fuse }
  | .rollback x _ => { j.modSlot (slotRegion x) (fun k => { k with st := .failed }) with pending := none, attempts := 0 }
  | .checkpoint k => k

/-- The record is a CHECKPOINT. -/
def JKind.isCheckpoint : JKind → Bool
  | .checkpoint _ => true
  | _ => false

/-- Replay on from a record: each record whose SEQ follows. -/
def replayFrom (l : List JRec) : Nat → List JRec → List JRec
  | 0, acc => acc
  | n + 1, acc =>
    match acc with
    | [] => []
    | r :: _ => match l.find? fun x => x.seq = r.seq + 1 with
      | some x => replayFrom l n (x :: acc)
      | none => acc

/-- R532: the records that replay applies, in order. -/
def Flash.replay (F : Flash) : List JRec :=
  let all := F.j0.recs ++ F.j1.recs
  match firstBy (fun (a b : JRec) => b.seq < a.seq) (all.filter (·.kind.isCheckpoint)) with
  | some c => (replayFrom all all.length [c]).reverse
  | none => []

/-- The journal state after records. -/
def playAll (l : List JRec) : JState := l.foldl (fun (j : JState) (r : JRec) => j.play r.kind) JState.factory

/-- A record lands in the next free slot of a copy. -/
def JCopy.add (c : JCopy) (r : JRec) : JCopy := ⟨c.recs ++ [r], c.used + 1⟩

/-- R533: compact the journal where a copy has fewer than 16 free slots. -/
def Flash.compact (F : Flash) : Flash :=
  if F.j0.used + 16 ≤ 16384 && F.j1.used + 16 ≤ 16384 then F
  else
    let c : JCopy := ⟨[JRec.mk (F.seq + 1) (.checkpoint F.js)], 1⟩
    { F with j0 := c, j1 := c, seq := F.seq + 1 }

/-- The flash address of the next free slot of a copy. -/
def JCopy.next (c : JCopy) (copy : Nat) : Nat := 0x7900000 + 0x100000 * copy + 64 * c.used

/-- Two programs of a copy fail, one in each of two slots. -/
def State.copyFails (s : State) (copy : Nat) : State :=
  let c := if copy = 0 then s.flash.j0 else s.flash.j1
  let s := (s.flashError 1 (c.next copy)).flashError 1 (c.next copy + 64)
  s.modFls fun F => if copy = 0 then { F with j0 := { F.j0 with used := F.j0.used + 2 } } else { F with j1 := { F.j1 with used := F.j1.used + 2 } }

/-- JOURNAL_APPEND (R531); whether the record has committed. -/
def State.append (s : State) (k : JKind) (io : FlashIo) : State × Bool :=
  let r : JRec := ⟨s.flash.seq + 1, k⟩
  let commit (s : State) : State := s.modFls fun F => { F with j0 := F.j0.add r, seq := r.seq, js := F.js.play k }
  match io with
  | .fails => ((s.copyFails 0).modFls Flash.compact, false)
  | .copy1Fails => (((commit s).copyFails 1).modFls Flash.compact, true)
  | .ok => ((commit s).modFls fun F => { F with j1 := F.j1.add r }.compact, true)

/-! ### Images (R527, R528) -/

/-- The size of a region (Table 20-1). -/
def regionSize (t : Fin 3) : Nat := if t.val = 2 then 0x1000000 else 0x3000000

/-- The flash address of a region. -/
def regionBase (t : Fin 3) : Nat := 0x100000 + 0x3000000 * t.val

/-- BODY_LEN. -/
def bodyLen (b : Bytes) : Nat := leAt b 16 4

/-- EPOCH of an image. -/
def imageEpoch (b : Bytes) : BitVec 6 := BitVec.ofNat 6 (leAt b 7 1)

/-- FW_VERSION of an image. -/
def imageVer (b : Bytes) : W32 := BitVec.ofNat 32 (leAt b 8 4)

/-- Table 20-4: the first check of an image in region `t` that fails, or 0; `readOk`: the flash can be read. -/
def verifyImage (b : Bytes) (t : Fin 3) (fuses : Nat) (readOk : Bool) : Nat :=
  let n := bodyLen b
  let key := leAt b 13 1
  let body := (b.drop 512).take n
  if !readOk then 9
  else if b.length < 512 || leAt b 0 4 != 0x4D495750 || leAt b 4 2 != 1 || 64 ≤ leAt b 7 1 || 4 ≤ leAt b 12 1 || !zeroIn b 14 16
      || !zeroIn b 20 24 || !zeroIn b 168 256 || !zeroIn b 352 512 then 1
  else if leAt b 6 1 != bnat (t.val = 2) then 2
  else if !bitOf (leAt b 12 1) (bnat (!Config.isA0)) then 3
  else if n = 0 || regionSize t < 512 + n then 4
  else if 4 ≤ key || leAt (sha384 ((b.drop 72).take 96)) 0 48 != (Config.fwKeyDigest key).toNat then 5
  else if !Config.ecdsaVerify (leAt b 72 48) (leAt b 120 48) (b.take 256) (leAt b 256 48) (leAt b 304 48) then 6
  else if body.length < n || sha384 body != (b.drop 24).take 48 then 7
  else if (imageEpoch b).toNat < fuses then 8
  else 0

/-- Verify the image of a region; a read that fails is counted and posted. -/
def State.verify (s : State) (t : Fin 3) (readOk : Bool) : State × Nat :=
  let d := verifyImage s.flash.images[t] t s.flash.fuses readOk
  let s := if readOk then s else s.flashError 0 (regionBase t)
  (s.modFls fun F => { F with detail := BitVec.ofNat 8 d }, d)

/-- The first 32 bytes of the digest of an image's header (Table 20-5). -/
def imageDigest (b : Bytes) : Bytes := (sha384 (b.take 256)).take 32

/-! ### Fuses (R529) -/

/-- The fuse target when slot `x` is active: its epoch, or the recovery image's if that is lower. -/
def JState.target (j : JState) (x : Fin 2) : Nat :=
  let a := (j.slots[slotRegion x]).epoch.toNat
  let r := j.slots[(2 : Fin 3)]
  if r.st = .empty then a else min a r.epoch.toNat

/-- FUSE_BLOW: blow fuses up to `n`, unless PFAIL is set. -/
def State.blowTo (s : State) (n : Nat) : State :=
  if s.flash.fuses < n && !s.pwr.pfail then (s.modFls fun F => { F with fuses := min n 64 }).flashEvent 0x0C03 (min n 64) 0 else s

/-- R529: blow fuses up to T. -/
def State.blow (s : State) : State := s.blowTo s.flash.js.t

/-! ### Configuration store (R541, R542) -/

/-- The key of a record of a keyed type. -/
def CfgRec.key (r : CfgRec) : Option Nat :=
  match r.typ.toNat with
  | 0x0001 => some (leAt r.val 0 1 % 16)
  | 0x0010 | 0x0011 => some (leAt r.val 0 1)
  | _ => none

/-- LEN of a record type (Table 20-12). -/
def cfgLenOf (typ : Nat) : Option Nat :=
  match typ with
  | 1 => some 32 | 2 => some 24 | 3 => some 4 | 4 => some 4 | 5 => some 4 | 6 => some 16 | _ => none

/-- The record has a wrong LEN for its type. -/
def CfgRec.wrongLen (r : CfgRec) : Bool := (cfgLenOf r.typ.toNat).any (· != r.val.length)

/-- The bytes of a store's records. -/
def storeLen (l : List CfgRec) : Nat := (l.map fun r => 4 + (r.val.length + 3) / 4 * 4).sum

/-- The records of the selected copy. -/
def Flash.store (F : Flash) : List CfgRec := if (F.cfg[F.cfgSel]).valid then (F.cfg[F.cfgSel]).recs else []

/-- The records that are read. -/
def Flash.settings (F : Flash) : List CfgRec := if F.cfgDefault then [] else F.store.filter fun r => !r.wrongLen

/-- The value of the last record of a type, and key where the type has one. -/
def Flash.setting (F : Flash) (typ : Nat) (key : Option Nat) : Option Bytes :=
  ((F.settings.filter fun r => r.typ.toNat = typ && r.key = key).getLast?).map (·.val)

/-- GEN of the selected copy. -/
def Flash.cfgGen (F : Flash) : W32 := if (F.cfg[F.cfgSel]).valid then (F.cfg[F.cfgSel]).gen else 0

/-- R541: the copy that a boot selects, none where neither is valid. -/
def Flash.selected (F : Flash) : Option (Fin 2) :=
  let a := F.cfg[(0 : Fin 2)]
  let b := F.cfg[(1 : Fin 2)]
  if a.valid && b.valid then some (if Epoch.ahead b.gen a.gen then 1 else 0)
  else if a.valid then some 0
  else if b.valid then some 1
  else none

/-- STORE_REWRITE (R541): the whole store goes into the copy that is not selected, which then is; whether it succeeds. -/
def State.rewrite (s : State) (l : List CfgRec) (io : FlashIo) : State × Bool :=
  let F := s.flash
  let x : Fin 2 := if F.cfgSel = 0 then 1 else 0
  if io = .fails then
    ((s.flashError 1 (0x7100000 + 0x400000 * x.val)).modFls fun F => { F with cfg := vmod F.cfg x fun c => { c with valid := false } }, false)
  else (s.modFls fun F => { F with cfg := vmod F.cfg x fun _ => ⟨true, F.cfgGen + 1, l⟩, cfgSel := x }, true)

end Sys2Proof.Machine
end

