-- ==== Sys2Proof/Machine/Boot.lean ====
section
/-! DEFINITION. Machine/Boot.lean: the boot milestones, image selection and the persistent settings (R517, R518, R534, R535, R542, R543;
log entry 33). -/

namespace Sys2Proof.Machine

/-- Change the boot registers. -/
def State.modBoot (s : State) (f : Boot → Boot) : State := { s with boot := f s.boot }

/-- The next milestone is reached. -/
def State.reach (s : State) (m : Nat) : State := s.modBoot fun B => { B with milestone := BitVec.ofNat 8 m }

/-- HOST_READY in a form that is not the full one, with its fault. -/
def State.readyAs (s : State) (form : Form) (fault : BitVec 8) : State :=
  s.modBoot fun B => { B with form := form, fault := fault, hostReady := true, bootT := s.pwr.time }

/-- The limited form of R517. -/
def State.limit (s : State) (fault : BitVec 8) : State := s.readyAs .limited fault

/-! ### Image selection (R532, R534, R535) -/

/-- R532: replay; records missing from copy 1 are written there. -/
def State.replayJournal (s : State) : State :=
  s.modFls fun F =>
    let l := F.replay
    let missing := l.filter fun r => !F.j1.recs.any (·.seq = r.seq)
    { F with
      js := playAll l, seq := (l.getLast?.map (·.seq)).getD F.seq,
      j1 := ⟨F.j1.recs ++ missing, F.j1.used + missing.length⟩ }

/-- The image of region `t` runs. BOOTED_FROM: 0 active, 1 other slot, 2 recovery, 3 trial. -/
def State.runs (s : State) (t : Fin 3) (from_ : Nat) : State :=
  let b := s.flash.images[t]
  { s.modFls fun F => { F with booted := from_, runSlot := some t, runEpoch := imageEpoch b } with fwVer := imageVer b }

/-- BOOT_SOURCE, with the DETAIL of the image that failed. -/
def State.bootSource (s : State) (d : Nat) : State := s.flashEvent 0x0C02 (s.flash.booted + 256 * d) 0

/-- Neither slot verifies: the recovery image, or the ROM limited form. -/
def State.selectRecovery (s : State) (io : Bool) (d : Nat) : State :=
  let (s', e) := if (s.flash.js.slots[(2 : Fin 3)]).st = .valid then s.verify 2 io else (s, 1)
  let s := if e = 0 then (s'.runs 2 2).readyAs .recovery 1
    else (s'.modFls fun F => { F with booted := 4, runSlot := none, runEpoch := 0 }).readyAs .rom 1
  (s.modFls fun F => { F with owed := F.owed ++ [Event.mk 0x0C02 0xFF (BitVec.ofNat 32 (F.booted + 256 * d)) 0] }).train

/-- The active slot, or the other slot where it is VALID. -/
def State.selectActive (s : State) (io : Bool) : State :=
  let a := slotRegion s.flash.js.active
  let o : Fin 3 := if s.flash.js.active = 0 then 1 else 0
  let (s, d) := s.verify a io
  if d = 0 then (s.runs a 0).reach 4
  else
    let (s', e) := if (s.flash.js.slots[o]).st = .valid then s.verify o io else (s, 1)
    if e = 0 then ((s'.runs o 1).bootSource d).reach 4 else s'.selectRecovery io d

/-- ROLLBACK at boot. -/
def State.bootRollback (s : State) (x : Fin 2) (cause : Nat) (io : Bool) : State :=
  match s.append (.rollback x cause) (if io then .ok else .fails) with
  | (s, true) => s.stageEvent 6 (slotRegion x) cause
  | (s, false) => s

/-- R534: BOOT_IMAGE_SELECT. -/
def State.selectImage (s : State) (io : Bool) : State :=
  let s := s.replayJournal.blow
  match s.flash.js.pending with
  | none => s.selectActive io
  | some x =>
    if s.flash.js.attempts = 3 then (s.bootRollback x 1 io).selectActive io
    else
      let (s, d) := s.verify (slotRegion x) io
      if d != 0 then (s.bootRollback x 2 io).selectActive io
      else match s.append (.bootAttempt x (s.flash.js.attempts + 1)) (if io then .ok else .fails) with
        | (s, true) => ((s.runs (slotRegion x) 3).stageEvent 4 (slotRegion x) 0).reach 4
        | (s, false) => s.selectActive io

/-- R541: the store copy in force, and what is wrong with its records (R542). -/
def State.selectStore (s : State) : State :=
  let F := s.flash
  match F.selected with
  | none => (s.modFls fun F => { F with cfgDefault := true }).flashEvent 0x0C05 2 0
  | some x =>
    let y : Fin 2 := if x = 0 then 1 else 0
    let s := (s.modFls fun F => { F with cfgSel := x, cfgDefault := false }).flashEvent 0x0C05
      (x.val + 256 * bnat (!(F.cfg[y]).valid)) (F.cfg[x]).gen.toNat
    (s.flash.store.filter CfgRec.wrongLen).foldl (fun (s : State) (r : CfgRec) =>
      s.flashEvent 0x0C04 (r.typ.toNat + 65536 * r.key.getD 0) 0) s

/-! ### Settings (Table 20-12) -/

/-- The CLOCK record (R490). -/
def State.applyClock (s : State) : State :=
  match s.flash.setting 4 none with
  | some b => s.modPwr fun P => { P with ssc := BitVec.ofNat 4 (leAt b 0 1) }
  | none => s

/-- The FABRIC record: generation 1, then the ports and the manager (R415). -/
def State.applyFabric (s : State) : State :=
  match s.flash.setting 2 none with
  | none => s
  | some b =>
    let w (o n : Nat) : W32 := BitVec.ofNat 32 (leAt b o n)
    let C := ((((((FabConfig.reset.write 0x100 (w 0 2)).write 0x104 (w 2 2)).write 0x108 (w 4 4)).write 0x10C (w 8 4)).write 0x110
      (w 12 2)).write 0x114 (w 14 1))
    let s := s.modNet fun N => { N with staged := C }
    let s := s.fabApply (s.net.gen + 1)
    let s := (List.finRange 8).foldl (fun (s : State) (pt : PortNo) => if (w 15 1).getLsbD pt.val then s.portEnable pt else s) s
    s.fmCtl (w 16 4) false

/-- The POWER and HOST records. -/
def State.applyPowerHost (s : State) : State :=
  let s := match s.flash.setting 3 none with
    | some b => s.modPwr fun P => { P with
        cap := BitVec.ofNat 9 (leAt b 0 2), hyst := BitVec.ofNat 5 (leAt b 2 1), retEn := bitOf (leAt b 3 1) 0 }
    | none => s
  match s.flash.setting 5 none with
  | some b => { s.modLoss .pf fun l => { l with hbTmo := BitVec.ofNat 16 (leAt b 0 2), hbFrom := s.pwr.clk } with
      link := { s.link with ideReq := bitOf (leAt b 2 1) 0 } }
  | none => s

/-- The WATCHDOG record after a sled cold reset; after a warm reset a locked watchdog restarts (R522). -/
def State.applyWatchdog (s : State) : State :=
  let now := s.pwr.time.toNat
  if !s.boot.afterCold then
    if s.wdg.lock then { s with wdg := { s.wdg with st := .running, since := now, held := 0, armedAt := none, first := true } } else s
  else match s.flash.setting 6 none with
    | none => s
    | some b =>
      let f := leAt b 12 1
      { s with wdg := { s.wdg with
          period := BitVec.ofNat 20 (leAt b 0 4), warn := BitVec.ofNat 20 (leAt b 4 4), grace := BitVec.ofNat 20 (leAt b 8 4),
          st := if bitOf f 0 then .running else .disabled, since := now, held := 0, lock := bitOf f 1 } }

/-- The registers of a PART_DEFAULT record that are not on the PRT page. -/
def State.defaultRegs (s : State) (p : Pid) (b : Bytes) : State :=
  let s := s.modSec fun S => { S with fslots := vmod S.fslots p fun _ => BitVec.ofNat 6 (min 48 (leAt b 14 1 % 64)) }
  let s := { s with
    movQuota := s.movQuota.set p.val (BitVec.ofNat 6 (min 32 (leAt b 15 1 % 64))) (by omega),
    tier := { s.tier with stgQuota := vmod s.tier.stgQuota p fun _ => BitVec.ofNat 11 (min 1792 (leAt b 16 2 % 2048)) } }
  let s := s.modMtr p fun m => { m with ivl := BitVec.ofNat 6 (leAt b 18 1) }
  let s := s.modPwr fun P => { P with share := vmod P.share p fun _ => BitVec.ofNat 9 (leAt b 20 2) }
  s.modLoss (.vf p) fun l => { l with hbTmo := BitVec.ofNat 16 (leAt b 22 2), hbFrom := s.pwr.clk }

/-- R543: CREATE, the PRT fields, and COMMIT, which a refusal turns into ABANDON and SETTING_REFUSED. -/
def State.defaultCommit (s : State) (p : Pid) (b : Bytes) : State :=
  let s := s.modPrt p fun P => { P with life := { Life.reset with lastCmd := 1 }, tok := Tokens.reset }
  let s := (s.setPState p .configuring 0).modLife p fun L =>
    { L.writeMode (BitVec.ofNat 32 (leAt b 8 4)) with
      quads := BitVec.ofNat 16 (leAt b 2 2), floor := BitVec.ofNat 7 (leAt b 4 1), board := BitVec.ofNat 7 (leAt b 5 1),
      slice := BitVec.ofNat 12 (leAt b 6 2), drain := BitVec.ofNat 16 (leAt b 12 2), lastCmd := 2 }
  match s.commitCheck p with
  | none => (s.commitDone p).endPrt p 2 0
  | some _ => ((s.setPState p .empty 0).endPrt p 3 0).flashEvent 0x0C04 (1 + 65536 * p.val) 0

/-- R543: the partition defaults, in ascending PID. -/
def State.applyDefaults (s : State) : State :=
  (List.finRange 16).foldl (fun (s : State) (p : Pid) => match s.flash.setting 1 (some p.val) with
    | none => s
    | some b =>
      let s := s.defaultRegs p b
      if bitOf (leAt b 0 1) 7 then s.defaultCommit p b else s) s

/-! ### Milestones (Table 19-3) -/

/-- STACK: the stacks that fail training; every one of them: fault 0x03. -/
def State.trainStacks (s : State) (bad : BitVec 6) : State :=
  let s := { s with tier := { s.tier with stkFail := 0 } }
  let s := (List.finRange 6).foldl (fun (s : State) (k : StackNo) => if bad.getLsbD k.val then s.unitFails (.stack k) else s) s
  if bad = onesOf 6 then s.limit 3 else s.reach 6

/-- Table 21-11: the population keeps the rules for capacity. -/
def TierRegs.populated (T : TierRegs) : Bool := T.rdimm.toList.all fun n => [16, 32, 48, 64, 96, 128].contains n

/-- BOARD: the capacity installed (R196) and the channels that fail; a population outside the rules: fault 0x04. -/
def State.trainBoard (s : State) (bad : BitVec 12) : State :=
  if !s.tier.populated then
    ({ s with tier := { s.tier with ddrFail := 0, boardInst := 0 } }.modBoot fun B => { B with fault := 4 }).reach 7
  else
    let s := { s with tier := { s.tier with ddrFail := 0, boardInst := BitVec.ofNat 7 (12 * s.tier.smallest / 16) } }
    let s := (List.finRange 12).foldl (fun (s : State) (c : ChanNo) => if bad.getLsbD c.val then s.unitFails (.channel c) else s) s
    s.reach 7

/-- KEYS: the entropy source (R441), key 0 (R440) and, after a sled cold reset, INSTANCE (R474). -/
def State.makeKeys (s : State) (entropyOk : Bool) : State :=
  let s := if !entropyOk && !s.sec.rngFail then
      (s.modSec fun S => { S with rngFail := true }).postDev 0x0801 (if s.boot.afterCold then 1 else 2) 0
    else s
  let has := s.sec.keyValid.getLsbD 0
  if s.sec.rngFail && !has then s.limit 2
  else
    let s := if has then s else s.newKey 0
    let s := if s.boot.afterCold then { s.took with mtr := { s.mtr with instance_ := Config.drbg 64 s.nfree } } else s
    s.reach 8

/-- HOST_READY, with the settings that apply there and the trial timer (R538). -/
def State.hostUp (s : State) : State :=
  let s := s.applyPowerHost.applyWatchdog
  let s := s.modFls fun F => { F with trialAt := if F.booted = 3 then some s.pwr.clk else none }
  let s := if s.boot.afterCold then s.applyDefaults else s
  s.modBoot fun B => { B with hostReady := true, bootT := s.pwr.time, milestone := 10 }

/-- The lock bits of CLOCKS. -/
def bootLocks : BitVec 29 := 0x0FF0000F

/-- BOOT_MILESTONE (R517): the next milestone is reached, or the boot halts. -/
def State.bootStep (s : State) (b : BootInput) : State :=
  if !s.sled.stby || s.boot.hostReady then s
  else if !b.supplyOk then (s.took.postLater 0x0A05 (s.free 8).toNat 0).supplyFault
  else match s.boot.milestone.toNat with
  | 0 => { s with sled := { s.sled with smbAddr := 0x60 + s.sled.straps.zeroExtend 7 } }.reach 1
  | 1 =>
    if s.pwr.pkgUp && s.sled.inputGood && s.sled.railsUp = 14 && !s.sled.therm then
      { s with sled := { s.sled with faultN := s.sled.faultBoot } }.reach 2
    else s
  | 2 => s.reach 3
  | 3 => s.selectStore.selectImage b.flashOk
  | 4 => ((s.modPwr fun P => { P with pllLo := bootLocks }).applyClock.reach 5).train
  | 5 => s.trainStacks b.stkFail
  | 6 => s.trainBoard b.ddrFail
  | 7 => s.makeKeys b.entropyOk
  | 8 => s.applyFabric.reach 9
  | 9 => s.hostUp
  | _ => s

/-- BOOT_MILESTONE. -/
def execBootMilestone (b : BootInput) (s : State) : Host.Outcome State Fault Refusal := .next (s.bootStep b)

end Sys2Proof.Machine
end

