-- ==== Sys2Proof/Machine/Update.lean ====
section
/-! DEFINITION. Machine/Update.lean: update commands, the trial timer, FLS_SEAL, the configuration store commands and PLDM (R529, R530, R535
to R540, R545; log entry 34). -/

namespace Sys2Proof.Machine

/-! ### Stages (R536 to R538) -/

/-- Codes of Table 20-8. -/
abbrev FlsRes := Nat

/-- The region that a TARGET names. -/
def targetOf (t : BitVec 2) : Option (Fin 3) := if h : t.toNat < 3 then some ⟨t.toNat, h⟩ else none

/-- The download of a region. -/
def Flash.loading (F : Flash) (t : Fin 3) : Option Download := F.dl.filter fun d => d.target = t

/-- DL_BEGIN of a region. -/
def State.dlBegin (s : State) (t : Fin 3) (pldm : Bool) (io : FlashIo) : State × FlsRes :=
  let F := s.flash
  if t = slotRegion F.js.active || F.runSlot = some t then (s, 3)
  else if F.js.pending.isSome then (s, 2)
  else match s.append (.slotEmpty t) io with
    | (s, false) => (s, 8)
    | (s, true) =>
      let s := s.modFls fun F => { F with images := vmod F.images t fun _ => [], dl := some ⟨t, 0, false, pldm⟩, fillReg := 0 }
      (s.stageEvent 1 t 0, 0)

/-- R537: the length of a chunk is not one that DL_WRITE takes; `last`: the chunk ends the image. -/
def badChunk (len : Nat) (last : Bool) : Bool := len = 0 || 2 ^ 20 < len || !(last || (256 ≤ len && len % 256 = 0))

/-- DL_WRITE of `data` at the fill; `len`: the length asked for, `sized`: FLS_DL_LEN's rules apply. -/
def State.dlWrite (s : State) (t : Fin 3) (len : Nat) (data : Bytes) (sized : Bool) (io : FlashIo) : State × FlsRes :=
  match s.flash.loading t with
  | none => (s, 2)
  | some d =>
    let b := s.flash.images[t]
    let known := 512 ≤ d.fill
    let size := 512 + bodyLen b
    if d.verified then (s, 2)
    else if sized && badChunk len (known && d.fill + len = size) then (s, 4)
    else if (known && size < d.fill + len) || regionSize t < d.fill + len then (s, 5)
    else if data.length != len then (s, 6)
    else if io = .fails then (s.flashError 1 (regionBase t + d.fill), 8)
    else (s.modFls fun F => { F with
        images := vmod F.images t fun b => b.take d.fill ++ data, dl := some { d with fill := d.fill + len },
        fillReg := BitVec.ofNat 26 (d.fill + len) }, 0)

/-- VERIFY of a region. -/
def State.dlVerify (s : State) (t : Fin 3) (io : FlashIo) : State × FlsRes :=
  match s.flash.loading t with
  | none => (s, 2)
  | some d =>
    let b := s.flash.images[t]
    if d.verified || d.fill < 512 || d.fill != 512 + bodyLen b then (s, 2)
    else match s.verify t (io != .fails) with
      | (s, 0) =>
        let s := s.modFls fun F => { F with dl := some { d with verified := true } }
        (s.flashEvent 0x0C01 (2 + 16 * t.val) ((imageVer b).toNat + 2 ^ 32 * (imageEpoch b).toNat), 0)
      | (s, _) => (s, 7)

/-- ACTIVATE of a region; for recovery the fuses follow. -/
def State.dlActivate (s : State) (t : Fin 3) (io : FlashIo) : State × FlsRes :=
  match s.flash.loading t with
  | none => (s, 2)
  | some d =>
    if !d.verified then (s, 2)
    else
      let F := s.flash
      let b := F.images[t]
      let own := (imageEpoch b).toNat
      let fuse := if t = 2 then min (F.js.slots[slotRegion F.js.active]).epoch.toNat own else 0
      let trial := if t = 2 then 0 else F.trialCtl &&& 0x8000FFFF
      match s.append (.activate t (imageEpoch b) (imageVer b) trial fuse (imageDigest b)) io with
      | (s, false) => (s, 8)
      | (s, true) =>
        let s := (s.modFls fun F => { F with dl := none }).stageEvent 3 t 0
        (if t = 2 then s.blow else s, 0)

/-- CONFIRM of the running trial. -/
def State.confirm (s : State) (io : FlashIo) : State × FlsRes :=
  match if s.flash.booted = 3 then s.flash.js.pending else none with
  | some x => match s.append (.confirm x (s.flash.js.target x)) io with
    | (s, false) => (s, 8)
    | (s, true) =>
      let s := (s.modFls fun F => { F with booted := 0, trialAt := none }).stageEvent 5 (slotRegion x) 0
      (s.blow, 0)
  | none => (s, 2)

/-- ROLLBACK of the pending slot; when it runs, RESTART follows. -/
def State.rollback (s : State) (cause : Nat) (io : FlashIo) : State × FlsRes :=
  match s.flash.js.pending with
  | none => (s, 2)
  | some x => match s.append (.rollback x cause) io with
    | (s, false) => (s, 8)
    | (s, true) =>
      let s := s.stageEvent 6 (slotRegion x) cause
      (if s.flash.booted = 3 then s.warmReset 0x08 false else s, 0)

/-! ### FLS_CMD -/

/-- A command of FLS_CMD: BUSY during a PLDM update, PFAIL after a power-fail warning, and otherwise its own result. -/
def State.flsCmd (s : State) (code : BitVec 4) (f : State → State × FlsRes) : State :=
  if !s.pfServes 0x40000 then s
  else
    let (s, r) := if s.flash.pldm != .idle then (s, 1) else if s.pwr.pfail then (s, 9) else f s
    s.modFls fun F => { F with res := BitVec.ofNat 8 r, lastCmd := code }

/-- A command that names a region. -/
def State.flsTarget (s : State) (code : BitVec 4) (target : BitVec 2) (f : State → Fin 3 → State × FlsRes) : State :=
  s.flsCmd code fun s => match targetOf target with
    | some t => f s t
    | none => (s, 3)

/-- DL_BEGIN. -/
def execDlBegin (target : BitVec 2) (io : FlashIo) (s : State) : Host.Outcome State Fault Refusal :=
  .next (s.flsTarget 1 target fun s t => s.dlBegin t false io)

/-- DL_WRITE; `data`: what the read of FLS_DL_LEN bytes from FLS_DL_IOVA returns, short where it fails. -/
def execDlWrite (target : BitVec 2) (data : Bytes) (io : FlashIo) (s : State) : Host.Outcome State Fault Refusal :=
  .next (s.flsTarget 2 target fun s t => s.dlWrite t s.flash.dlLen.toNat (if s.lost .pf then [] else data) true io)

/-- VERIFY. -/
def execVerify (target : BitVec 2) (io : FlashIo) (s : State) : Host.Outcome State Fault Refusal :=
  .next (s.flsTarget 3 target fun s t => s.dlVerify t io)

/-- ACTIVATE. -/
def execActivate (target : BitVec 2) (io : FlashIo) (s : State) : Host.Outcome State Fault Refusal :=
  .next (s.flsTarget 4 target fun s t => s.dlActivate t io)

/-- RESTART. -/
def execRestart (_ : BitVec 2) (s : State) : Host.Outcome State Fault Refusal :=
  .next (s.flsCmd 5 fun s => (s.warmReset 0x08 false, 0))

/-- CONFIRM. -/
def execConfirm (_ : BitVec 2) (io : FlashIo) (s : State) : Host.Outcome State Fault Refusal := .next (s.flsCmd 6 fun s => s.confirm io)

/-- ROLLBACK. -/
def execRollback (_ : BitVec 2) (io : FlashIo) (s : State) : Host.Outcome State Fault Refusal := .next (s.flsCmd 7 fun s => s.rollback 4 io)

/-- ABORT. -/
def execAbort (target : BitVec 2) (s : State) : Host.Outcome State Fault Refusal :=
  .next (s.flsTarget 8 target fun s t =>
    if (s.flash.loading t).isSome then (s.modFls fun F => { F with dl := none }, 0) else (s, 2))

/-- A reserved CMD ends BAD_CMD. -/
def State.flsBadCmd (s : State) (code : BitVec 4) : State := s.flsCmd code fun s => (s, 10)

/-- TRIAL_TIMER_EXPIRE (R538): TIME s after HOST_READY of the trial. -/
def execTrialTimerExpire (io : FlashIo) (s : State) : Host.Outcome State Fault Refusal :=
  .next (match s.flash.trialAt with
    | some t =>
      let w := s.flash.js.trial
      let secs := w.toNat % 65536
      if secs = 0 || s.since t < secs * 1000000000 || s.pwr.pfail then s
      else if w.getLsbD 31 then (s.confirm io).1 else (s.rollback 3 io).1
    | none => s)

/-- FLS_SEAL (R530): the second of two writes of 0x5EA1 within 10 ms, while no slot is PENDING. -/
def execFlsSeal (v : W32) (s : State) : Host.Outcome State Fault Refusal :=
  .next (if !s.pfServes 0x40000 || v.toNat % 65536 != 0x5EA1 || s.flash.js.pending.isSome || s.pwr.pfail then s
    else match s.flash.sealAt with
      | some t =>
        if s.since t ≤ 10000000 then (s.modFls fun F => { F with sealAt := none }).blowTo 64
        else s.modFls fun F => { F with sealAt := some s.pwr.clk }
      | none => s.modFls fun F => { F with sealAt := some s.pwr.clk })

/-! ### Configuration store (R545) -/

/-- A type that PUT and DEL take: one of Table 20-12 but for the training records, or one of the operator's. -/
def cfgWritable (typ : Nat) : Bool := (1 ≤ typ && typ ≤ 6) || (0x8000 ≤ typ && typ ≤ 0xFFFE)

/-- A PUT or DEL: PFAIL, BAD_TYPE, or what `f` answers: an error, or the records of the new store. -/
def State.cfgCmd (s : State) (typ : W16) (io : FlashIo) (f : Flash → Nat × List CfgRec) : State :=
  if !s.pfServes 0x40000 then s
  else
    let result (s : State) (r : Nat) : State := s.modFls fun F => { F with cfgRes := BitVec.ofNat 4 r }
    if s.pwr.pfail then result s 7
    else if !cfgWritable typ.toNat then result s 2
    else match f s.flash with
      | (0, l) =>
        if 4 * 2 ^ 20 - 64 < storeLen l then result s 4
        else match s.rewrite l io with
          | (s, true) => result s 0
          | (s, false) => result s 6
      | (r, _) => result s r

/-- FLS_CFG_PUT. -/
def execFlsCfgPut (typ : W16) (io : FlashIo) (s : State) : Host.Outcome State Fault Refusal :=
  .next (s.cfgCmd typ io fun F =>
    let n := F.cfgLen.toNat
    let r : CfgRec := ⟨typ, F.cfgBuf.toList.take n⟩
    if n = 0 || 1024 < n || r.wrongLen then (3, [])
    else (0, F.store.filter (fun x => !(x.typ = typ && x.key = r.key)) ++ [r]))

/-- FLS_CFG_DEL. -/
def execFlsCfgDel (typ : W16) (io : FlashIo) (s : State) : Host.Outcome State Fault Refusal :=
  .next (s.cfgCmd typ io fun F =>
    let hit (x : CfgRec) : Bool := x.typ = typ && (x.key = none || x.key = some (F.cfgKey.toNat % 16))
    if F.store.any hit then (0, F.store.filter fun x => !hit x) else (5, []))

/-- FLS_CFG_READ: record `i` of the selected copy; a training record without its value. -/
def execFlsCfgRead (i : W16) (s : State) : Host.Outcome State Fault Refusal :=
  .next (if !s.pfServes 0x40000 then s
    else s.modFls fun F => match F.store[i.toNat]? with
      | none => { F with cfgRes := 5 }
      | some r =>
        let shown := if r.typ = 0x10 || r.typ = 0x11 then [] else r.val
        { F with
          cfgRes := 0, cfgLen := BitVec.ofNat 16 r.val.length,
          cfgBuf := Vector.ofFn fun k : Fin 1024 => if k.val < shown.length then byteAt shown k.val else F.cfgBuf[k] })

/-! ### PLDM (R540, Table 20-10) -/

/-- The channel of PLDM among the replies. -/
def pldmChannel : Nat := 33

/-- A PLDM answer: its completion code and its fields. -/
def State.pldmSay (s : State) (code : Nat) (fields : List Nat) : State := s.emit (.reply pldmChannel code fields)

/-- The management controller answers PLDM, in every form but the ROM's (R535). -/
def State.pldmUp (s : State) : Bool := s.pwr.pkgUp && s.boot.hostReady && s.boot.form != .rom

/-- PLDM firmware-update completion codes (DSP0267). -/
def pldmNotUpdating : Nat := 0x80
/-- ALREADY_IN_UPDATE_MODE. -/
def pldmAlready : Nat := 0x81
/-- INVALID_STATE_FOR_COMMAND. -/
def pldmBadState : Nat := 0x84
/-- UNABLE_TO_INITIATE_UPDATE. -/
def pldmUnable : Nat := 0x8A

/-- Progress as a number. -/
def Pldm.code : Pldm → Nat
  | .idle => 0 | .requested => 1 | .table => 2 | .component => 3

/-- QUERY_DEVICE_IDENTIFIERS. -/
def execQueryDeviceIdentifiers (s : State) : Host.Outcome State Fault Refusal :=
  .next (if s.pldmUp then s.pldmSay 0 [0x5E03, Config.serial.toNat] else s)

/-- GET_FIRMWARE_PARAMETERS: active, pending and recovery versions. -/
def execGetFirmwareParameters (s : State) : Host.Outcome State Fault Refusal :=
  .next (if !s.pldmUp then s
    else
      let j := s.flash.js
      let ver (t : Fin 3) : Nat := (j.slots[t]).ver.toNat
      s.pldmSay 0 [ver (slotRegion j.active), (j.pending.map fun x => ver (slotRegion x)).getD 0, ver 2])

/-- GET_STATUS. -/
def execGetStatus (s : State) : Host.Outcome State Fault Refusal :=
  .next (if s.pldmUp then s.pldmSay 0 [s.flash.pldm.code, s.flash.fillReg.toNat] else s)

/-- REQUEST_UPDATE. -/
def execRequestUpdate (s : State) : Host.Outcome State Fault Refusal :=
  .next (if !s.pldmUp then s
    else if s.flash.pldm != .idle then s.pldmSay pldmAlready []
    else if s.flash.dl.isSome || s.pwr.pfail then s.pldmSay pldmUnable []
    else (s.modFls fun F => { F with pldm := .requested }).pldmSay 0 [])

/-- A request inside an update. -/
def State.pldmReq (s : State) (ok : Pldm → Bool) (f : State → State) : State :=
  if !s.pldmUp then s
  else if s.flash.pldm = .idle then s.pldmSay pldmNotUpdating []
  else if ok s.flash.pldm then f s else s.pldmSay pldmBadState []

/-- PASS_COMPONENT_TABLE. -/
def execPassComponentTable (s : State) : Host.Outcome State Fault Refusal :=
  .next (s.pldmReq (· = .requested) fun s => (s.modFls fun F => { F with pldm := .table }).pldmSay 0 [])

/-- The region of a component: 1 the main image, into the inactive slot; 2 the recovery image. -/
def Flash.component (F : Flash) (comp : W16) : Option (Fin 3) :=
  if comp = 1 then some (if F.js.active = 0 then 1 else 0) else if comp = 2 then some 2 else none

/-- UPDATE_COMPONENT, as DL_BEGIN: its result follows the completion code. -/
def execUpdateComponent (comp : W16) (io : FlashIo) (s : State) : Host.Outcome State Fault Refusal :=
  .next (s.pldmReq (· = .table) fun s => match s.flash.component comp with
    | none => s.pldmSay 0 [2]
    | some t =>
      if s.pwr.pfail then s.pldmSay 0 [9]
      else
        let (s, r) := s.dlBegin t true io
        (if r = 0 then s.modFls fun F => { F with pldm := .component } else s).pldmSay 0 [r])

/-- FIRMWARE_DATA_RECEIVED, as DL_WRITE; a whole image is then verified and applied, and each result is reported. -/
def State.pldmData (s : State) (t : Fin 3) (data : Bytes) (io : FlashIo) : State :=
  let (s, r) := s.dlWrite t data.length data false io
  match s.flash.loading t with
  | some d =>
    if r != 0 || d.fill < 512 || d.fill != 512 + bodyLen s.flash.images[t] then s.pldmSay 0 [r, s.flash.fillReg.toNat]
    else
      let (s, v) := s.dlVerify t io
      if v != 0 then s.pldmSay 0 [r, s.flash.fillReg.toNat, v]
      else
        let (s, a) := s.dlActivate t io
        s.pldmSay 0 [r, s.flash.fillReg.toNat, v, a]
  | none => s

/-- FIRMWARE_DATA_RECEIVED. -/
def execFirmwareDataReceived (data : Bytes) (io : FlashIo) (s : State) : Host.Outcome State Fault Refusal :=
  .next (if !s.pldmUp || s.flash.pldm != .component || s.pwr.pfail then s
    else match s.flash.dl with
      | some d => if d.verified then s else s.pldmData d.target data io
      | none => s)

/-- ACTIVATE_FIRMWARE, as RESTART: once nothing is still loading. -/
def execActivateFirmware (s : State) : Host.Outcome State Fault Refusal :=
  .next (s.pldmReq (fun x => x = .component && s.flash.dl.isNone) fun s =>
    if s.pwr.pfail then s.pldmSay 0 [9] else (s.pldmSay 0 []).warmReset 0x08 false)

/-- CANCEL_UPDATE_COMPONENT, as ABORT. -/
def execCancelUpdateComponent (s : State) : Host.Outcome State Fault Refusal :=
  .next (s.pldmReq (· = .component) fun s => (s.modFls fun F => { F with pldm := .table, dl := none }).pldmSay 0 [])

/-- CANCEL_UPDATE, as ABORT. -/
def execCancelUpdate (s : State) : Host.Outcome State Fault Refusal :=
  .next (s.pldmReq (fun _ => true) fun s => (s.modFls fun F => { F with pldm := .idle, dl := none }).pldmSay 0 [])

end Sys2Proof.Machine
end

