-- ==== Sys2Proof/Machine/Sled.lean ====
section
/-! DEFINITION. Machine/Sled.lean: the cages' power allowance, the service button, COLD_RST_N and the SMBus alert (R556 to R571; log
entry 35). -/

namespace Sys2Proof.Machine

/-! ### Cages (R569 to R571) -/

/-- Change a cage. -/
def State.modCage (s : State) (pt : PortNo) (f : Cage → Cage) : State := { s with sled := { s.sled with cages := vmod s.sled.cages pt f } }

/-- What a cage counts against the allowance, in 0.25 W: its class when granted, 1.5 W in low-power mode. -/
def Cage.counted (c : Cage) : Nat := if !c.present || c.passive || c.off then 0 else if c.granted then c.cls else 6

/-- SBD_CAGE_BUDGET: the allowance in use. -/
def Sled.budget (x : Sled) : Nat := (x.cages.toList.map Cage.counted).sum

/-- R570: 14 W a cage, 16 W over all of them. -/
def Sled.mayGrant (x : Sled) (pt : PortNo) (cls : Nat) : Bool := cls ≤ 56 && x.budget + cls ≤ 64 + (x.cages[pt]).counted

/-- The module's power is judged again: a module that waits for a grant and can have it gets it. -/
def State.grant (s : State) (pt : PortNo) : State :=
  let c := s.sled.cages[pt]
  if !c.present || c.passive || c.off || c.granted then s
  else if s.sled.mayGrant pt c.cls then s.modCage pt fun c => { c with granted := true, denied := false }
  else s.modCage pt fun c => { c with denied := true }

/-- Grants are evaluated in ascending cage number. -/
def State.grantAll (s : State) : State := (List.finRange 8).foldl State.grant s

/-- The module is present and not ready; MODULE_CHANGED is posted once. -/
def State.cageDenies (s : State) (pt : PortNo) : State :=
  let P := s.ports[pt]
  let s := (s.modCage pt fun c => { c with ready := false }).moduleGone pt true
  if P.st = .disabled || (P.st = .absent && !P.modReady) then s.moduleEvent pt else s

/-- CAGE_MODULE_INSERT: `cls` in 0.25 W. A passive assembly is ready at once. -/
def execCageModuleInsert (pt : PortNo) (passive : Bool) (cls : Nat) (temp : BitVec 8) (s : State) : Host.Outcome State Fault Refusal :=
  .next (if (s.sled.cages[pt]).present then s
    else
      let s := s.modCage pt fun _ => { Cage.reset with present := true, passive := passive, ready := passive, cls := if passive then 0 else cls, temp := temp }
      if passive then s.moduleReady pt
      else
        let s := (s.modPort pt fun P => { P with modPres := true }).grantAll
        if (s.sled.cages[pt]).denied then s.cageDenies pt else s)

/-- CAGE_MODULE_REMOVE: its allowance is free, and modules that wait for a grant are judged. -/
def execCageModuleRemove (pt : PortNo) (s : State) : Host.Outcome State Fault Refusal :=
  .next (if (s.sled.cages[pt]).present then ((s.modCage pt fun _ => Cage.reset).moduleGone pt false).grantAll else s)

/-- MODULE_ADVERTISEMENT_CHANGE: the module's own grant is evaluated anew. -/
def execModuleAdvertisementChange (pt : PortNo) (cls : Nat) (s : State) : Host.Outcome State Fault Refusal :=
  .next (let c := s.sled.cages[pt]
    if !c.present || c.passive || c.off then s
    else
      let s := (s.modCage pt fun c => { c with cls := cls, granted := false }).grantAll
      if (s.sled.cages[pt]).denied && !c.denied then s.cageDenies pt else s)

/-- CAGE_OVERPOWER (R571): the cage is off until its module is removed. -/
def execCageOverpower (pt : PortNo) (s : State) : Host.Outcome State Fault Refusal :=
  .next (let c := s.sled.cages[pt]
    if c.present && !c.off then
      ((s.modCage pt fun c => { c with off := true, denied := true, granted := false }).cageDenies pt).grantAll
    else s)

/-! ### Button, reset input, alert -/

/-- SERVICE_BUTTON_PRESS (R564). -/
def execServiceButtonPress (s : State) : Host.Outcome State Fault Refusal :=
  .next (if s.sled.stby then { s with sled := { s.sled with press := true } } else s)

/-- SERVICE_BUTTON_HOLD (R564): the 8 s mark. -/
def execServiceButtonHold (s : State) : Host.Outcome State Fault Refusal := .next (if s.sled.stby then s.coldReset 0x02 else s)

/-- COLD_RST_N (R560): low for `lowNs` ns, then high. -/
def execColdRstN (lowNs : Nat) (s : State) : Host.Outcome State Fault Refusal :=
  .next (if s.sled.stby && 1000000 ≤ lowNs then s.coldReset 0x03 else s)

/-- The channel of the SMBus target among the replies. -/
def smbusChannel : Nat := 34

/-- SMBUS_ALERT_RESPONSE (R557): the sled returns its address and releases ALERT_N. -/
def execSmbusAlertResponse (s : State) : Host.Outcome State Fault Refusal :=
  .next (if s.sled.stby && s.sled.alert then
    { s with sled := { s.sled with alert := false } }.emit (.reply smbusChannel 0 [s.sled.smbAddr.toNat])
  else s)

end Sys2Proof.Machine
end

