-- ==== Sys2Proof/Machine/RegisterView.lean ====
section
/-! DEFINITION. Machine/RegisterView.lean: what every readable register reads, but for counters that clear on a read and 64-bit values
(R5, R575, R580 to R587 and the register tables of every chapter; log entry 36). -/

namespace Sys2Proof.Machine

/-! ### Offsets and fields -/

/-- Element and rest of an offset in an array of `n` blocks `step` apart from `base`. -/
def blockIx (n base step off : Nat) : Option (Fin n × Nat) :=
  if h : base ≤ off ∧ (off - base) / step < n then some (⟨(off - base) / step, h.2⟩, (off - base) % step) else none

/-- Element of an array of `n` registers `step` apart from `base`. -/
def regIx (n base step off : Nat) : Option (Fin n) :=
  match blockIx n base step off with
  | some (i, 0) => some i
  | _ => none

/-- The Mover ring, of KIND 2, and the offset in its block (Table 12-9). -/
def State.moverReg (s : State) (fn : Fn) (off : Nat) : Option (RingId × Nat) :=
  let at_ := match fn with
    | .pf => (blockIx 32 0xC1000 0x20 off).map fun x => (RingId.pf x.1, x.2)
    | .vf p => (blockIx 64 0x50A00 0x20 off).map fun x => (RingId.vf p x.1, x.2)
  match at_ with
  | some (r, o) => if (s.ring r).isKind 2 then some (r, o) else none
  | none => none

/-- The ring and the offset in its configuration registers (Table 3-3). -/
def ringReg (fn : Fn) (off : Nat) : Option (RingId × Nat) :=
  match fn with
  | .pf => (blockIx 32 0x80000 0x40 off).map fun x => (RingId.pf x.1, x.2)
  | .vf p => (blockIx 64 0x54000 0x40 off).map fun x => (RingId.vf p x.1, x.2)

/-- The ring and the offset in its doorbell page (Table 3-10). -/
def bellReg (fn : Fn) (off : Nat) : Option (RingId × Nat) :=
  match fn with
  | .pf => (blockIx 32 0x88000 0x1000 off).map fun x => (RingId.pf x.1, x.2)
  | .vf p => (blockIx 64 0 0x1000 off).map fun x => (RingId.vf p x.1, x.2)

/-- The relative core that the partition holds, and the offset in its page (R586). -/
def State.coreReg (s : State) (p : Pid) (off : Nat) : Option (RelCore × Nat) :=
  match blockIx 64 0x58000 0x100 off with
  | some (c, o) => if c.val < (s.coresOf p).length then some (c, o) else none
  | none => none

/-- A register from its fields: each with the place of its lowest bit. -/
def fields (l : List (Nat × Nat)) : W32 := BitVec.ofNat 32 (l.map fun x => x.2 * 2 ^ x.1).sum

/-- A mask from a property of the elements. -/
def maskOf (n : Nat) (f : Fin n → Bool) : W32 := BitVec.ofNat 32 ((List.finRange n).map fun i => bnat (f i) * 2 ^ i.val).sum

/-- A word of a byte buffer. -/
def wordIn (b : Bytes) (o : Nat) : W32 := BitVec.ofNat 32 (leAt b o 4)

/-! ### Rings, mailboxes, Mover rings, MSI-X -/

/-- RING_STS.STATE. -/
def RingState.code : RingState → Nat
  | .disabled => 0 | .active => 1 | .stopping => 2 | .error => 3

/-- Table 3-3 and RING_FAULT_OP (Table 4-8). -/
def Ring.word (R : Ring) (o : Nat) : W32 :=
  match o with
  | 0x00 => BitVec.ofNat 32 (bnat (R.state != .disabled && R.state != .stopping))
  | 0x04 => fields [(24, R.cfgVec.toNat), (16, R.cfgCq.toNat), (12, R.cfgEngine.toNat), (4, R.cfgLog.toNat), (0, R.cfgKind.toNat)]
  | 0x18 => fields [(31, bnat R.irqEach), (16, R.irqTime.toNat), (0, R.irqCount.toNat)]
  | 0x1C => fields [(8, R.errCode.toNat), (0, R.state.code)]
  | 0x20 => R.dev.word
  | 0x24 => R.sw.word
  | 0x28 => R.errFlags.zeroExtend 32
  | 0x2C => fields [(16, R.faultTag.toNat), (0, R.faultOp.toNat)]
  | _ => 0

/-- Table 3-10. -/
def Ring.bellWord (R : Ring) (o : Nat) : W32 :=
  match o with
  | 0x08 => fields [(17, bnat R.cxlSome), (16, bnat R.cxlDone), (0, R.cxlCount.toNat)]
  | 0x0C => R.dev.word
  | _ => 0

/-- Table 3-14. -/
def Mailbox.word (m : Mailbox) (o : Nat) : W32 :=
  match o with
  | 0x2004 => m.inOwn.zeroExtend 32
  | 0x2008 => m.outValid.zeroExtend 32
  | 0x200C => fields [(17, bnat m.outIrq), (16, bnat m.inIrq), (8, m.outVec.toNat), (0, m.inVec.toNat)]
  | 0x2010 => m.err.zeroExtend 32
  | o => match blockIx 16 0x1000 0x100 o with
    | some (i, k) => wordIn m.outSlots[i] k
    | none => 0

/-- Table 12-5: the code of a channel state. -/
def ChState.code : ChState → Nat
  | .free => 0 | .idle => 1 | .running => 2 | .paced => 3 | .halted => 4

/-- Table 12-9. MV_BYTES is undefined while the channel is HALTED: a free value. -/
def State.moverWord (s : State) (r : RingId) (o : Nat) : W32 :=
  let M := (s.ring r).mv
  match o, s.chanOf r with
  | 0x04, some c => fields [(31, 1), (24, c.val), (0, s.chans[c].st.code)]
  | 0x08, _ => fields [(31, bnat M.paceEn), (30, bnat M.paceInvert), (28, M.paceSrc.toNat), (0, M.paceRing.toNat)]
  | 0x0C, _ => M.low
  | 0x10, _ => M.high
  | 0x1C, c =>
    match c with
    | some c => if s.chans[c].st = .halted then s.free 32 else M.bytes
    | none => M.bytes
  | _, _ => 0

/-- BAR2: the MSI-X table and the PBA (Table 2-6, R91). -/
def FnState.msixWord (f : FnState) (o : Nat) : W32 :=
  if o = 0x2000 then maskOf 32 fun i => (f.msix[i.val]).pending
  else if o = 0x2004 then maskOf 32 fun i => (f.msix[32 + i.val]).pending
  else match blockIx 64 0 16 o with
    | some (i, 0) => halfOf (f.msix[i]).addr false
    | some (i, 4) => halfOf (f.msix[i]).addr true
    | some (i, 8) => (f.msix[i]).data
    | some (i, 12) => BitVec.ofNat 32 (bnat (f.msix[i]).masked)
    | _ => 0

/-! ### PF BAR0 -/

/-- SYS_ID, with the PID for TNT_ID (R578). -/
def idWord (low : Nat) : W32 := fields [(16, 0x5E03), (8, if Config.isA0 then 0xA0 else 0xB1), (0, low)]

/-- Table 22-2 and Table 19-6. -/
def State.sysWord (s : State) (off : Nat) : W32 :=
  match off with
  | 0x00 => idWord (if s.flash.hdrBad then 0 else s.flash.hdrBuild.toNat)
  | 0x04 => s.fwVer
  | 0x10 => BitVec.ofNat 32 (bnat s.op.fn.barWidth)
  | 0x14 => fields [(31, bnat s.op.fn.errValid), (0, s.op.fn.errAddr.toNat)]
  | 0x30 => s.scratch
  | 0x104 => fields [(31, bnat s.boot.memLost), (8, bnat s.boot.thermSeen), (0, s.boot.cause.toNat)]
  | 0x108 => fields [(31, bnat s.boot.hostReady), (8, s.boot.fault.toNat), (0, s.boot.milestone.toNat)]
  | _ => 0

/-- PRT_MODE (Table 1-2). -/
def Life.modeWord (L : Life) : W32 :=
  fields [(16, L.idleUs.toNat), (4, L.deepest.toNat), (2, bnat L.retainSram), (1, bnat L.hostloss), (0, bnat L.timing)]

/-- Tables 1-2 and 1-3. PRT_KEYID reads PID + 1 from COMMIT until EMPTY. -/
def Prt.pageWord (P : Prt) (p : Pid) (o : Nat) : W32 :=
  let L := P.life
  match o with
  | 0x04 => fields [(16, L.cmdSts.toNat), (8, L.lastCmd.toNat), (4, bnat L.exec.isSome), (0, L.st.code)]
  | 0x08 => L.quads.zeroExtend 32
  | 0x0C => L.floor.zeroExtend 32
  | 0x10 => L.board.zeroExtend 32
  | 0x14 => L.slice.zeroExtend 32
  | 0x18 => L.modeWord
  | 0x1C => L.drain.zeroExtend 32
  | 0x20 => L.quadsAct.zeroExtend 32
  | 0x24 => L.floorAct.zeroExtend 32
  | 0x28 => L.boardAct.zeroExtend 32
  | 0x40 => BitVec.ofNat 32 (bnat P.tok.consent)
  | 0x44 => if L.st.holds then BitVec.ofNat 32 (p.val + 1) else 0
  | _ => 0

/-- A Weevil unit has parameter tiles of an update in a pass (R250). -/
def State.wvlUnitBusy (s : State) (k : Fin 6) : Bool :=
  (List.finRange 16).any fun p => match (s.prt p).wvl.upd with
    | none => false
    | some u => (s.prt p).wvl.pass != .idle && (s.prt p).wvl.pass != .verdict && u.shards.any fun x =>
        (List.range ((2 * x.nelem + 65535) / 65536)).any fun i => s.wvlUnit p (x.pTile + i) = k

/-- A quad's clocks: state, and its PLL (R487). -/
def State.quadClock (s : State) (q : Quad) : Bool := s.quads[q].st = .run && s.pllLock (4 + q.val)

/-- The SYSPLL. -/
def State.sysPll (s : State) : Bool := s.pllLock 0

/-- Table 18-1: whether a domain's clock runs. -/
def State.domainOn (s : State) (i : Nat) : Bool :=
  let awake := !s.pwr.retained
  if h : 1 ≤ i ∧ i < 129 then s.quadClock ⟨(i - 1) % 64 / 4, by omega⟩
  else if h : 129 ≤ i ∧ i < 161 then s.quadClock ⟨(i - 129) % 16, by omega⟩
  else if i = 0 then true
  else if 161 ≤ i && i < 205 then awake && s.pllLock (if i < 181 then 3 else if i < 201 then 2 else 1)
  else if 205 ≤ i && i < 209 then s.sysPll
  else if 209 ≤ i && i < 221 then awake && s.pllLock (20 + (i - 209) % 6)
  else if h : 221 ≤ i ∧ i < 227 then awake && s.pllLock (20 + (i - 221)) && s.wvlUnitBusy ⟨i - 221, by omega⟩
  else if 227 ≤ i && i < 251 then awake && s.pllLock (26 + (i - 227) % 12 / 6)
  else if 251 ≤ i && i < 267 then s.pllLock (32 + (i - 251))
  else if 267 ≤ i && i < 275 then s.pllLock (32 + 2 * (i - 267))
  else if 275 ≤ i && i < 278 then s.link.up && s.pllLock 28
  else if 278 ≤ i && i < 282 then awake && s.sysPll
  else if i = 285 then s.sysPll && s.sec.jtag != .bypass
  else s.sysPll

/-- QPWR_STS[q] without HELD: MHz and state (Table 18-6). -/
def State.quadWord (s : State) (q : Quad) : Nat :=
  (if s.quads[q].st = .run then s.quads[q].mhz * 2 ^ 16 else 0) + s.quads[q].st.code

/-- Table 18-6. -/
def State.pwrWord (s : State) (o : Nat) : W32 :=
  let P := s.pwr
  match o with
  | 0x08 => P.slew.zeroExtend 32
  | 0x18 => BitVec.ofNat 32 (bnat P.setRefused)
  | 0x20 => P.ssc.zeroExtend 32
  | 0x30 => P.cap.zeroExtend 32
  | 0x34 => P.hyst.zeroExtend 32
  | 0x38 => P.pkg.zeroExtend 32
  | 0x3C => BitVec.ofNat 32 P.ceilSled
  | 0x40 => fields [(31, bnat P.crit), (29, bnat (P.ftherm[1] < 2000)), (28, bnat (P.ftherm[0] < 2000)), (16, (P.tj[2]).toNat),
      (8, (P.tj[1]).toNat), (0, (P.tj[0]).toNat)]
  | 0x44 => fields [(16, P.ftherm[1]), (0, P.ftherm[0])]
  | 0x48 => fields [(31, bnat P.pfail), (30, bnat P.stbyOk), (0, P.volts.toNat)]
  | 0x4C => BitVec.ofNat 32 (bnat P.retEn)
  | 0x50 => BitVec.ofNat 32 (bnat P.retained)
  | o => match regIx 16 0x100 4 o, regIx 16 0x140 4 o, regIx 16 0x180 4 o, regIx 16 0x200 4 o, regIx 9 0x300 4 o with
    | some p, _, _, _, _ => (P.share[p]).zeroExtend 32
    | _, some p, _, _, _ => BitVec.ofNat 32 P.ceil[p]
    | _, _, some p, _, _ => (P.part[p]).zeroExtend 32
    | _, _, _, some q, _ => BitVec.ofNat 32 (2 ^ 31 * bnat s.quads[q].owner.isSome + s.quadWord q)
    | _, _, _, _, some i => maskOf 32 fun j => s.domainOn (32 * i.val + j.val)
    | _, _, _, _, _ => 0

/-- Table 19-7: the code of a watchdog state. -/
def WdState.code : WdState → Nat
  | .disabled => 0 | .running => 1 | .warning => 2 | .paused => 3

/-- Table 19-8. -/
def State.dogWord (s : State) (fn : Fn) (o : Nat) : W32 :=
  let w := s.dog fn
  match o with
  | 0x00 => fields [(31, bnat (w.st != .disabled))]
  | 0x04 => w.period.zeroExtend 32
  | 0x08 => w.warn.zeroExtend 32
  | 0x10 => fields [(8, bnat w.armedAt.isSome), (0, w.st.code)]
  | 0x14 => if w.st = .disabled then 0 else BitVec.ofNat 32 (w.limitMs - s.dogMs fn)
  | 0x1C => BitVec.ofNat 32 (bnat w.lock)
  | 0x20 => if fn = .pf then w.grace.zeroExtend 32 else 0
  | _ => 0

/-- FLS_SLOT_STS: the state of a region. -/
def Flash.slotCode (F : Flash) (t : Fin 3) : Nat :=
  let slot := regionSlot t
  match F.loading t with
  | some d => if d.verified then 2 else 1
  | none =>
    if slot.isSome && F.js.pending = slot then 3
    else if slot = some F.js.active then 4
    else match (F.js.slots[t]).st with
      | .empty => 0
      | .valid => 5
      | .failed => 6

/-- Table 20-14. Every command has ended when the next access comes, so BUSY reads 0 (log entry 34). -/
def Flash.word (F : Flash) (o : Nat) : W32 :=
  match o with
  | 0x04 => fields [(16, F.res.toNat), (0, F.lastCmd.toNat)]
  | 0x08 => fields [(31, bnat (F.booted = 3)), (30, bnat F.cfgDefault), (29, bnat F.sfdp), (28, bnat F.hdrBad), (24, F.booted),
      (20, F.js.active.val), (18, match F.js.pending with | some x => x.val | none => 3), (16, F.js.attempts), (8, F.fuses),
      (0, F.runEpoch.toNat)]
  | 0x38 => F.dlLen.zeroExtend 32
  | 0x3C => F.fillReg.zeroExtend 32
  | 0x40 => F.trialCtl
  | 0x44 => F.detail.zeroExtend 32
  | 0x104 => F.cfgLen.zeroExtend 32
  | 0x108 => F.cfgKey.zeroExtend 32
  | 0x10C => F.cfgRes.zeroExtend 32
  | 0x110 => F.cfgGen
  | o =>
    if 0x1000 ≤ o && o < 0x1400 then wordIn F.cfgBuf.toList (o - 0x1000)
    else match blockIx 3 0x10 8 o with
      | some (t, 0) => fields [(28, F.slotCode t), (16, (F.js.slots[t]).epoch.toNat)]
      | some (t, 4) => (F.js.slots[t]).ver
      | _ => 0

/-- Table 16-10. -/
def State.secWord (s : State) (o : Nat) : W32 :=
  match o with
  | 0x00 => fields [(31, bnat s.sec.rngFail), (30, bnat s.sec.session.isSome), (0, s.sec.keyValid.toNat)]
  | 0x04 => BitVec.ofNat 32 (s.sec.wheel.toList.filter (·.isSome)).length
  | 0x08 => BitVec.ofNat 32 (Config.certChain.length % 65536)
  | o =>
    if 0x2000 ≤ o && o < 0x4000 then wordIn Config.certChain (o - 0x2000)
    else match regIx 16 0x40 4 o, regIx 17 0x100 4 o with
      | some p, _ => (s.sec.fslots[p]).zeroExtend 32
      | none, some k => s.sec.keygen[k]
      | none, none => 0

/-- Table 3-10, Tables 22-3 and 12-10: rings and channels of the operator. -/
def State.operRings (s : State) (off : Nat) : W32 :=
  match off with
  | 0x81004 => maskOf 32 fun n => (s.op.rings[n]).state = .error
  | 0x81008 => maskOf 32 fun n => (s.op.rings[n]).state != .disabled
  | 0xC0000 => maskOf 32 fun c => s.chans[c].st != .free
  | off => match regIx 17 0xC0040 4 off, regIx 32 0xC0100 4 off with
    | some p, _ => (s.movQuota[p]).zeroExtend 32
    | none, some c =>
      match s.chans[c].ring with
      | some r => fields [(31, 1), (16, r.fn.source.toNat), (8, r.num), (0, s.chans[c].st.code)]
      | none => BitVec.ofNat 32 s.chans[c].st.code
    | none, none => 0

/-- Table 7-9. -/
def State.tierWord (s : State) (o : Nat) : W32 :=
  match o with
  | 0x00 => s.tier.late.zeroExtend 32
  | 0x04 => s.tier.poolAge.zeroExtend 32
  | 0x08 => BitVec.ofNat 32 s.poolSize
  | 0x0C => BitVec.ofNat 32 s.poolFree
  | 0x10 => s.tier.boardInst.zeroExtend 32
  | 0x14 => fields [(16, s.tier.ddrFail.toNat), (0, s.tier.stkFail.toNat)]
  | o => match regIx 16 0x40 4 o with
    | some p => (s.tier.stgQuota[p]).zeroExtend 32
    | none => 0

/-- Tables 8-11, 9-12 and 11-11. -/
def State.engineWord (s : State) (off : Nat) : W32 :=
  match off with
  | 0x140000 => s.sqBacklog.zeroExtend 32
  | 0x140004 => maskOf 16 fun p => (s.prt p).scb.plan.isSome
  | 0x140008 => BitVec.ofNat 32 ((List.finRange 16).map s.scbMoves).sum
  | 0x180000 => maskOf 6 s.wvlUnitBusy
  | 0x180004 => maskOf 16 fun p => (s.prt p).wvl.upd.isSome
  | 0x1C0000 => maskOf 16 fun q => s.tigers[q].isSome
  | off => match regIx 16 0x140100 4 off, regIx 16 0x1C0100 4 off with
    | some p, _ => BitVec.ofNat 32 (s.prt p).scb.liveTiles
    | none, some q =>
      match s.tigers[q] with
      | some c => fields [(31, 1), (0, c.ring.fn.source.toNat)]
      | none => 0x1F
    | none, none => 0

/-- SU_STS.STATE (Table 6-4). -/
def SuState.code : SuState → Nat
  | .empty => 0 | .loading => 1 | .loaded => 2 | .running => 3 | .frameWait => 4 | .done => 5 | .fault => 6

/-- A share of a compute operation of the Stag, or of the vector unit, runs on a relative core (R129). -/
def State.shareRuns (s : State) (p : Pid) (r : Nat) (stag : Bool) : Bool :=
  (s.prt p).rings.toList.any fun R => R.cmds.any fun k => k.hdr.engine = 1 && match k.run with
    | none => false
    | some run => run.active.any fun a => (a.op.lop = 1) = stag && !a.lostCores.contains r &&
        match checkCompute (s.coresOf p).length a.op with
        | .ok C => (shareCores C a.op).contains r
        | .error _ => false

/-- The partition that holds a core, and its relative number. -/
def State.holder (s : State) (c : Core) : Option (Pid × Nat) :=
  match s.quads[quadOf c].owner with
  | some p => ((s.coresOf p).findIdx? (· = c)).map fun r => (p, r)
  | none => none

/-- Tiles that take a slot of a core's tile memory, of a kind. -/
def Memory.slotsOf (m : Memory) (c : Core) (f : Tile → Bool) : Nat :=
  ((m.tiles.filter f).map fun t => max (t.uses (Home.onCore c)) (t.fills (Home.onCore c))).sum

/-- Table 22-4, R583. -/
def State.coreWord (s : State) (c : Core) (o : Nat) : W32 :=
  match s.holder c with
  | none => if o = 0x00 then 0x001F0000 else if o = 0x04 then 0x03000000 else 0
  | some (p, r) =>
    let C := (s.prt p).cores[r]?
    let m := (s.prt p).mem
    let steward (t : Tile) : Bool := match m.objOf t.num with
      | some x => x.steward
      | none => false
    match o with
    | 0x00 => fields [(31, 1), (16, p.val), (0, r)]
    | 0x04 => BitVec.ofNat 32 (s.quads[quadOf c].st.code * 2 ^ 24 + bnat (s.shareRuns p r false) * 2 ^ 17 + bnat (s.shareRuns p r true) * 2 ^ 16
        + match C with
          | some x => ((List.finRange 4).map fun u => (x.units[u]).st.code * 16 ^ u.val).sum
          | none => 0)
    | 0x08 => match C with
      | some x => BitVec.ofNat 32 ((maskOf 16 fun b => (x.pairs[b]).broken).toNat * 65536 + (maskOf 16 fun b => (x.pairs[b]).bound).toNat)
      | none => 0
    | 0x0C => fields [(16, m.slotsOf c fun t => !t.bound && !steward t), (8, m.slotsOf c (·.bound)), (0, m.slotsOf c fun t => !t.bound && steward t)]
    | _ => 0

/-- Table 14-6. -/
def Port.word (P : Port) (clk time : Nat) (o : Nat) : W32 :=
  match o with
  | 0x000 => fields [(31, bnat P.en), (8, P.mask.toNat)]
  | 0x004 => fields [(31, bnat P.modPres), (30, bnat P.modReady), (29, bnat P.silent), (28, bnat P.unstable),
      (16, (maskOf 8 fun l => (P.lanes[l]).st = .active).toNat), (8, P.width), (0, P.st.code)]
  | 0x008 => fields [(8, P.silentN.toNat), (0, P.failN.toNat)]
  | 0x00C => if P.st = .backoff then BitVec.ofNat 32 ((backoffNs P.failN.toNat - (clk - P.since)) / 1000000) else 0
  | 0x010 => P.ueMaxNext.zeroExtend 32
  | 0x428 => if P.st = .active then BitVec.ofNat 32 (min ((clk - P.since) / 1000000) 0xFFFFFFFF) else 0
  | o => match regIx 8 0x40 4 o with
    | some l => fields [(4, min 3 ((P.lanes[l]).recent time).length), (0, (P.lanes[l]).st.code)]
    | none => 0

/-- Milliseconds since the last heartbeat, saturating; 0 before the first (R370). -/
def State.hbAge (s : State) (fn : Fn) : W32 :=
  match (s.fnSt fn).loss.hbLast with
  | some t => BitVec.ofNat 32 (min 0xFFFF (s.since t / 1000000))
  | none => 0

/-- LNK_LOSS, LNK_HOLD and TNT_HL_STS: loss, KEEP_OK and the held entries, with CAUSE at bit `c` and HELD at bit `h`. -/
def FnState.lossWord (f : FnState) (c h : Nat) : W32 :=
  fields [(31, bnat f.loss.lost), (30, bnat f.loss.keepOk), (c, f.loss.cause.toNat), (h, f.held.length)]

/-- Table 13-6 and Table 2-11. -/
def State.linkWord (s : State) (o : Nat) : W32 :=
  match o with
  | 0x000 => BitVec.ofNat 32 s.lnkSts
  | 0x004 => BitVec.ofNat 32 (bnat s.link.ideReq)
  | 0x008 => s.op.fn.loss.hbTmo.zeroExtend 32
  | 0x00C => s.hbAge .pf
  | 0x010 => s.op.fn.lossWord 0 16
  | 0x020 => fields [(31, bnat s.op.fn.loss.rebased), (0, s.link.attachSts.toNat)]
  | 0x024 => BitVec.ofNat 32 s.mtr.hold.length
  | 0x02C => s.link.lossCnt
  | 0x100 => fields [(16, s.op.win.pid.toNat), (0, bnat s.op.win.en)]
  | 0x104 => s.op.win.base.zeroExtend 32
  | o => match regIx 16 0x40 4 o, regIx 16 0x80 4 o with
    | some p, _ => (s.prt p).fn.loss.hbTmo.zeroExtend 32
    | none, some p => (s.prt p).fn.lossWord 16 0
    | none, none => 0

/-- R559: WAKE_N is asserted. -/
def State.wakeOut (s : State) : Bool :=
  s.sled.wakeEn && s.sled.perstA &&
    (s.mtr.hold.length != 0 || (List.finRange 16).any fun p => (s.life p).st = .detached && (s.prt p).fn.held.length != 0)

/-- Table 21-13. The service button's level is its pin's: a free value. -/
def State.sledWord (s : State) (o : Nat) : W32 :=
  let x := s.sled
  match o with
  | 0x00 => x.slew.zeroExtend 32
  | 0x04 => fields [(16, x.straps.toNat), (10, bnat x.sris), (9, bnat x.refclkA), (8, bnat !s.wakeOut), (7, bnat !x.alert),
      (6, bnat !x.therm), (5, bnat !x.faultN), (4, (s.free 1).toNat), (3, 1), (2, bnat !x.prsnt), (1, bnat !x.perstB), (0, bnat !x.perstA)]
  | 0x08 => BitVec.ofNat 32 (bnat x.press)
  | 0x0C => x.ident.zeroExtend 32
  | 0x10 => BitVec.ofNat 32 (bnat x.wakeEn)
  | 0x40 => BitVec.ofNat 32 x.budget
  | 0x50 => x.inletT.zeroExtend 32
  | o => match regIx 8 0x100 4 o with
    | some p =>
      let c := x.cages[p]
      fields [(31, bnat c.present), (30, bnat c.ready), (29, bnat c.passive), (28, bnat c.denied), (8, c.counted), (0, c.temp.toNat)]
    | none => 0

/-- A PF register below 0x0010_0000. -/
def State.pfLow (s : State) (off : Nat) : W32 :=
  if off < 0x10000 then s.sysWord off
  else if off < 0x20000 then match blockIx 16 0x10000 0x1000 off with
    | some (p, o) => (s.prt p).pageWord p o
    | none => 0
  else if off < 0x30000 then s.pwrWord (off - 0x20000)
  else if off < 0x40000 then s.dogWord .pf (off - 0x30000)
  else if off < 0x50000 then s.flash.word (off - 0x40000)
  else if off < 0x60000 then s.secWord (off - 0x50000)
  else if off < 0x80000 then match regIx 16 0x60040 4 off with
    | some p => ((s.prt p).mtr.ivl).zeroExtend 32
    | none =>
      if off = 0x60014 then s.op.fn.perfWrap.zeroExtend 32
      else if off = 0x60018 then fields [(8, bnat s.op.fn.perfIrqEn), (0, s.op.fn.perfVec.toNat)]
      else 0
  else if off < 0x81000 then match ringReg .pf off with
    | some (r, o) => (s.ring r).word o
    | none => 0
  else if 0x88000 ≤ off && off < 0xA8000 then match bellReg .pf off with
    | some (r, o) => (s.ring r).bellWord o
    | none => 0
  else if 0xB0000 ≤ off && off < 0xC0000 then s.op.fn.mail.word (off - 0xB0000)
  else if 0xC1000 ≤ off then match s.moverReg .pf off with
    | some (r, o) => s.moverWord r o
    | none => 0
  else s.operRings off

/-- A PF register that is neither a counter cleared by its read nor half of a 64-bit value. -/
def State.pfWord (s : State) (off : Nat) : W32 :=
  if off < 0x100000 then s.pfLow off
  else if off < 0x140000 then s.tierWord (off - 0x100000)
  else if off < 0x200000 then s.engineWord off
  else if off < 0x300000 then match blockIx 64 0x200000 0x1000 off with
    | some (c, o) => s.coreWord c o
    | none => 0
  else if off < 0x308000 then match blockIx 8 0x300000 0x1000 off with
    | some (p, o) => (s.ports[p]).word s.pwr.clk s.pwr.time.toNat o
    | none => 0
  else if off < 0x400000 then s.netWord off
  else if off < 0x500000 then s.linkWord (off - 0x400000)
  else s.sledWord (off - 0x500000)

/-! ### VF BAR0 -/

/-- TNT_WVL_STS.PASS. -/
def WvlPass.code : WvlPass → Nat
  | .idle => 0 | .norm => 1 | .verdict => 2 | .trust => 3 | .apply => 4

/-- TNT_BAR (Table 4-8). -/
def Barrier.word (b : Barrier) : W32 :=
  fields [(31, bnat b.cfg), (30, bnat b.fabric), (29, bnat b.broken), (16, b.arrived % 2 ^ 12), (0, b.gen.toNat)]

/-- PAIR_STS (Table 6-6). -/
def Pair.word (x : Pair) : W32 :=
  fields [(31, bnat x.bound), (30, bnat x.broken), (29, bnat x.stale), (28, bnat x.quar.isSome), (27, bnat x.overrel), (26, bnat x.valid),
    (16, x.remain), (0, x.swaps.toNat)]

/-- A stream unit's registers (Table 6-4). -/
def StreamUnit.word (x : StreamUnit) (o : Nat) : W32 :=
  match o with
  | 0x0C => fields [(24, x.fault.code), (23, bnat x.cmdRej), (8, x.pc % 1024), (0, x.st.code)]
  | 0x10 => x.epochReg
  | _ => 0

/-- A core's page (Tables 6-4 and 6-6). -/
def CoreStreams.word (c : CoreStreams) (o : Nat) : W32 :=
  match o with
  | 0x04 => c.pairObj
  | 0x08 => fields [(16, c.pairTimeout.toNat), (8, c.pairUses.toNat), (7, bnat c.pairCcons), (6, bnat c.pairCprod)]
  | 0x0C => fields [(2, c.pairProdCore.toNat), (0, c.pairProdUnit.toNat)]
  | 0x10 => fields [(4, bnat c.busy), (0, c.result.toNat)]
  | o => match blockIx 4 0x80 0x20 o, regIx 16 0x40 4 o with
    | some (u, k), _ => (c.units[u]).word k
    | none, some b => (c.pairs[b]).word
    | none, none => 0

/-- Tables 1-8 and 22-9. -/
def State.idReg (s : State) (p : Pid) (o : Nat) : W32 :=
  let P := s.prt p
  match o with
  | 0x000 => BitVec.ofNat 32 P.life.st.code
  | 0x004 => BitVec.ofNat 32 (bnat P.tok.consent)
  | 0x024 => P.tok.attachSts.zeroExtend 32
  | 0x040 => idWord p.val
  | 0x044 => BitVec.ofNat 32 (s.coresOf p).length
  | 0x048 => BitVec.ofNat 32 (s.tilesFree p)
  | 0x04C => P.life.quadsAct.zeroExtend 32
  | 0x050 => P.life.floorAct.zeroExtend 32
  | 0x054 => P.life.boardAct.zeroExtend 32
  | 0x058 => P.life.modeWord
  | 0x05C => P.life.slice.zeroExtend 32
  | 0x060 => BitVec.ofNat 32 (bnat P.fn.barWidth)
  | 0x064 => fields [(31, bnat P.fn.errValid), (0, P.fn.errAddr.toNat % 2 ^ 20)]
  | 0x100 => P.ep.c
  | 0x104 => BitVec.ofNat 32 P.ep.revoked.length
  | 0x108 => P.ep.fenceTmo.zeroExtend 32
  | o => match regIx 32 0x200 4 o with
    | some b => (P.bars[b]).word
    | none => 0

/-- Tables 6-8, 7-8 and 8-10. -/
def Prt.runReg (P : Prt) (o : Nat) : W32 :=
  match o with
  | 0x300 => fields [(1, P.rt.policy.toNat), (0, bnat P.rt.en)]
  | 0x304 => P.rt.period.zeroExtend 32
  | 0x308 => P.rt.deadline.zeroExtend 32
  | 0x318 => P.rt.frame
  | 0x320 => fields [(8, bnat P.rt.strIrqEn), (0, P.rt.strVec.toNat)]
  | 0x400 => BitVec.ofNat 32 (P.mem.homed Home.inFloor)
  | 0x404 => BitVec.ofNat 32 (P.mem.homed Home.inPool)
  | 0x408 => BitVec.ofNat 32 (P.mem.homed Home.isBoard)
  | 0x40C => BitVec.ofNat 32 (P.mem.tiles.map (·.sectors)).sum
  | 0x410 => fields [(16, P.mem.homed Home.isStaging), (0, P.mem.homed Home.inTile)]
  | 0x414 => BitVec.ofNat 32 (P.mem.tiles.filter (·.st = .poisoned)).length
  | 0x41C => P.mem.cnt.evicted
  | 0x420 => P.mem.cnt.moveWait
  | 0x500 => fields [(31, bnat P.scb.plan.isSome), (30, bnat P.scb.runOpen), (29, bnat (P.scb.runEpoch.ahead P.ep.c)), (0, P.scb.pos)]
  | 0x504 => P.scb.runEpoch
  | 0x508 => BitVec.ofNat 32 P.scb.liveTiles
  | 0x50C => BitVec.ofNat 32 P.scb.peakTiles
  | 0x510 => BitVec.ofNat 32 P.scb.interval
  | 0x514 => P.scb.lateCnt
  | 0x518 => P.scb.demoteCnt
  | 0x51C => P.scb.recompCnt
  | 0x524 => P.scb.sqfbCnt
  | 0x528 => P.scb.qwaitTmo.zeroExtend 32
  | 0x52C => P.scb.fbMax.zeroExtend 32
  | _ => 0

/-- Tables 9-11, 10-8 and 11-10. -/
def Prt.trainReg (P : Prt) (o : Nat) : W32 :=
  match o with
  | 0x600 => P.wvl.t
  | 0x604 => fields [(31, bnat P.wvl.upd.isSome), (28, P.wvl.pass.code), (0, P.wvl.lastCause.toNat)]
  | 0x608 => P.wvl.epochReg
  | 0x620 => P.wvl.reduceTmo.zeroExtend 32
  | 0x780 => P.gx.resSel.zeroExtend 32
  | 0x784 => match P.gx.slots.find? (·.slot = P.gx.resSel.toNat) with
    | some x => fields [(31, bnat x.pending.isSome), (0, bnat x.bank)]
    | none => 0
  | 0x788 => match P.gx.slots.find? (·.slot = P.gx.resSel.toNat) with
    | some x => x.pending.getD 0
    | none => 0
  | 0x78C => P.gx.carryCnt
  | 0x808 => P.sol.tinyCnt
  | o => match blockIx 16 0x700 8 o with
    | some (g, k) => match P.gx.groups[g] with
      | some G => if k = 0 then fields [(31, 1), (0, G.id.toNat)] else if k = 4 then fields [(16, G.nmemb), (0, G.rank)] else 0
      | none => 0
    | none => 0

/-- Tables 13-7 and 16-11, and TNT_MV_QUOTA and TNT_MV_HELD (Table 12-8). -/
def State.hostReg (s : State) (p : Pid) (o : Nat) : W32 :=
  let P := s.prt p
  match o with
  | 0x900 => (s.movQuota[(⟨p.val, by omega⟩ : Fin 17)]).zeroExtend 32
  | 0x904 => BitVec.ofNat 32 (s.chans.toList.filter fun c => c.st != .free && c.ring.map (·.fn) = some (.vf p)).length
  | 0x1200 => P.fn.lossWord 16 0
  | 0x120C => BitVec.ofNat 32 (bnat P.fn.loss.mode)
  | 0x1210 => fields [(31, bnat P.fn.loss.rebased), (16, P.fn.loss.mvDropped.toNat), (0, P.fn.loss.cmdDropped.toNat)]
  | 0x1214 => P.fn.loss.hbTmo.zeroExtend 32
  | 0x1218 => s.hbAge (.vf p)
  | 0x1300 => fields [(16, bnat P.life.timingAct), (0, (s.sec.wheel.toList.filter (· = some p)).length)]
  | 0x1304 => s.sec.keygen[(⟨p.val + 1, by omega⟩ : Fin 17)]
  | 0x1344 => P.meas.cnt
  | o => match regIx 12 0x1350 4 o with
    | some k => BitVec.ofNat 32 (P.meas.m.toNat / 2 ^ (32 * k.val))
    | none => 0

/-- Table 18-7. -/
def State.tenantPwr (s : State) (p : Pid) (o : Nat) : W32 :=
  match o with
  | 0x1400 => fields [(16, s.pwr.ceilSled), (0, s.pwr.ceil[p])]
  | 0x1444 => (s.pwr.part[p]).zeroExtend 32
  | o => match regIx 16 0x1404 4 o with
    | some i => match (s.quadsOf p)[i.val]? with
      | some q => BitVec.ofNat 32 (s.quadWord q)
      | none => 0
    | none => 0

/-- The tenant control block (Table 22-8), `o` from 0x5_0000. -/
def State.tenantWord (s : State) (p : Pid) (o : Nat) : W32 :=
  if o < 0x300 then s.idReg p o
  else if o < 0x600 then (s.prt p).runReg o
  else if o < 0x900 then (s.prt p).trainReg o
  else if 0xA00 ≤ o && o < 0x1200 then match s.moverReg (.vf p) (0x50000 + o) with
    | some (r, k) => s.moverWord r k
    | none => 0
  else if o < 0x1400 then s.hostReg p o
  else if o < 0x4000 then s.tenantPwr p o
  else if o < 0x5000 then match ringReg (.vf p) (0x50000 + o) with
    | some (r, k) => (s.ring r).word k
    | none => 0
  else match s.coreReg p (0x50000 + o) with
    | some (c, k) => (s.core p c).word k
    | none => 0

/-- A VF register that is neither a counter cleared by its read nor half of a 64-bit value. -/
def State.vfWord (s : State) (p : Pid) (off : Nat) : W32 :=
  let P := s.prt p
  if off < 0x40000 then match bellReg (.vf p) off with
    | some (r, o) => (s.ring r).bellWord o
    | none => 0
  else if off < 0x50000 then P.fn.mail.word (off - 0x40000)
  else if off < 0x60000 then s.tenantWord p (off - 0x50000)
  else if off < 0x70000 then
    if off = 0x60040 then fields [(31, bnat P.life.timingAct), (16, P.mtr.satMask.toNat), (0, P.mtr.ivl.toNat)]
    else if off = 0x60048 then P.fn.perfWrap.zeroExtend 32
    else if off = 0x6004C then fields [(8, bnat P.fn.perfIrqEn), (0, P.fn.perfVec.toNat)]
    else if 0x60100 ≤ off && off < 0x60200 then wordIn P.mtr.last (off - 0x60100)
    else 0
  else if off < 0x80000 then s.dogWord (.vf p) (off - 0x70000)
  else if off = 0x80000 then BitVec.ofNat 32 (bnat P.win.en)
  else if off = 0x80004 then P.win.base.zeroExtend 32
  else 0

/-- A register of a function that is neither a counter cleared by its read nor half of a 64-bit value; BAR2 lies 0x1000_0000 above. -/
def State.word (s : State) (fn : Fn) (off : Nat) : W32 :=
  if 0x10000000 ≤ off then (s.fnSt fn).msixWord (off - 0x10000000)
  else match fn with
    | .pf => s.pfWord off
    | .vf p => s.vfWord p off

end Sys2Proof.Machine
end

