-- ==== Sys2Proof/Machine/Registers.lean ====
section
/-! DEFINITION. Machine/Registers.lean: registers without behaviour of their own, counters that clear on a read, and 64-bit values
read in halves (R5, R479, R480, R575 to R588; log entry 36). An access of BAR2 is written at its offset plus 0x1000_0000. -/

namespace Sys2Proof.Machine

/-! ### Writes (R576) -/

/-- Tables 3-14: the mailbox registers, `o` from the mailbox's base. -/
def Mailbox.write (m : Mailbox) (o : Nat) (v : W32) : Mailbox :=
  if o = 0x200C then { m with outIrq := v.getLsbD 17, inIrq := v.getLsbD 16, outVec := BitVec.ofNat 6 (bitsOf v.toNat 8 6), inVec := v.truncate 6 }
  else if o = 0x2010 then { m with err := m.err &&& ~~~(v.truncate 3) }
  else match blockIx 16 0 0x100 o with
    | some (i, k) => { m with inSlots := vmod m.inSlots i fun b => putWord b k v }
    | none => m

/-- Table 12-9: the marks and the level word, while EN is 0 (R341). -/
def MoverRing.write (M : MoverRing) (o : Nat) (v : W32) : MoverRing :=
  if M.paceEn then M
  else if o = 0x0C then { M with low := v }
  else if o = 0x10 then { M with high := v }
  else if o = 0x14 then { M with lvl := BitVec.ofNat 48 (M.lvl.toNat / 2 ^ 32 * 2 ^ 32 + v.toNat) }
  else if o = 0x18 then { M with lvl := BitVec.ofNat 48 (v.toNat % 65536 * 2 ^ 32 + M.lvl.toNat % 2 ^ 32) }
  else M

/-- Write a Mover register of a function. -/
def State.moverWrite (s : State) (fn : Fn) (off : Nat) (v : W32) : State :=
  match s.moverReg fn off with
  | some (r, o) => s.modRing r fun R => { R with mv := R.mv.write o v }
  | none => s

/-- Table 18-6. -/
def Power.write (P : Power) (o : Nat) (v : W32) : Power :=
  if o = 0x0C || o = 0x10 then { P with timeSet := setHalf P.timeSet (o = 0x10) v }
  else if o = 0x18 then { P with setRefused := P.setRefused && !v.getLsbD 0 }
  else if o = 0x30 then { P with cap := v.truncate 9 }
  else if o = 0x34 then { P with hyst := v.truncate 5 }
  else match regIx 16 0x100 4 o with
    | some p => { P with share := vmod P.share p fun _ => v.truncate 9 }
    | none => P

/-- Table 19-8: the watchdog registers; those of the device only until LOCK is set (R522). -/
def Watchdog.write (w : Watchdog) (o : Nat) (dev : Bool) (v : W32) : Watchdog :=
  if w.lock then w
  else if o = 0x04 then { w with period := v.truncate 20 }
  else if o = 0x08 then { w with warn := v.truncate 20 }
  else if o = 0x20 && dev then { w with grace := v.truncate 20 }
  else w

/-- Table 20-14. -/
def Flash.write (F : Flash) (o : Nat) (v : W32) : Flash :=
  if o = 0x30 || o = 0x34 then { F with dlIova := setHalf F.dlIova (o = 0x34) v }
  else if o = 0x38 then { F with dlLen := v.truncate 21 }
  else if o = 0x40 then { F with trialCtl := v &&& 0x8000FFFF }
  else if o = 0x104 then { F with cfgLen := v.truncate 16 }
  else if o = 0x108 then { F with cfgKey := v.truncate 8 }
  else if 0x1000 ≤ o && o < 0x1400 then
    { F with cfgBuf := Vector.ofFn fun (k : Fin 1024) =>
        if o - 0x1000 ≤ k.val && k.val < o - 0x1000 + 4 then BitVec.ofNat 8 (v.toNat / 2 ^ (8 * (k.val - (o - 0x1000)))) else F.cfgBuf[k] }
  else F

/-- A reserved CMD of FLS_CMD. -/
def flsReserved (v : W32) : Bool := bitsOf v.toNat 24 8 = 0x5A && (v.toNat % 16 = 0 || 8 < v.toNat % 16)

/-- The bits of PERF_WRAP and of PERF_IRQ (R481). -/
def FnState.perfWrite (f : FnState) (irq : Bool) (v : W32) : FnState :=
  if irq then { f with perfIrqEn := v.getLsbD 8, perfVec := v.truncate 6 } else { f with perfWrap := f.perfWrap &&& ~~~(v.truncate 18) }

/-- Table 21-13. -/
def Sled.write (x : Sled) (o : Nat) (v : W32) : Sled :=
  if o = 0x00 then { x with slew := v.truncate 6 }
  else if o = 0x08 then { x with press := x.press && !v.getLsbD 0 }
  else if o = 0x0C then { x with ident := v.truncate 2 }
  else if o = 0x10 then { x with wakeEn := v.getLsbD 0 }
  else x

/-- A write of the PF's BAR0. -/
def State.pfWrite (s : State) (off : Nat) (v : W32) : State :=
  if !s.pfServes off then s
  else if off = 0x30 then { s with scratch := v }
  else if 0x20000 ≤ off && off < 0x20324 then s.modPwr fun P => P.write (off - 0x20000) v
  else if 0x30000 ≤ off && off < 0x30024 then { s with wdg := s.wdg.write (off - 0x30000) true v }
  else if off = 0x40000 then if flsReserved v then s.flsBadCmd (v.truncate 4) else s
  else if 0x40000 ≤ off && off < 0x41400 then s.modFls fun F => F.write (off - 0x40000) v
  else if off = 0x60014 || off = 0x60018 then s.modFn .pf fun f => f.perfWrite (off = 0x60018) v
  else if 0xB0000 ≤ off && off < 0xB2014 then s.modFn .pf fun f => { f with mail := f.mail.write (off - 0xB0000) v }
  else if 0xC1000 ≤ off && off < 0xC1400 then s.moverWrite .pf off v
  else if 0x308000 ≤ off && off < 0x320000 then s.netWrite off v false []
  else if off = 0x400004 then { s with link := { s.link with ideReq := v.getLsbD 0 } }
  else if 0x500000 ≤ off && off < 0x500120 then { s with sled := s.sled.write (off - 0x500000) v }
  else s

/-- Table 6-8: the frame registers, while EN is 0, and the stream fault registers. -/
def RtState.write (R : RtState) (o : Nat) (v : W32) : RtState :=
  if o = 0x20 then { R with strIrqEn := v.getLsbD 8, strVec := v.truncate 6 }
  else if o = 0x28 || o = 0x2C then { R with faultCore := R.faultCore &&& ~~~(setHalf 0 (o = 0x2C) v) }
  else if R.en then R
  else if o = 0x04 then { R with period := v.truncate 20 }
  else if o = 0x08 then { R with deadline := v.truncate 20 }
  else if o = 0x10 || o = 0x14 then { R with start := setHalf R.start (o = 0x14) v }
  else R

/-- Table 6-6: the values that the next BIND takes. -/
def CoreStreams.write (c : CoreStreams) (o : Nat) (v : W32) : CoreStreams :=
  if o = 0x04 then { c with pairObj := v }
  else if o = 0x08 then
    { c with pairTimeout := BitVec.ofNat 16 (v.toNat / 65536), pairUses := BitVec.ofNat 8 (bitsOf v.toNat 8 8),
             pairCcons := v.getLsbD 7, pairCprod := v.getLsbD 6 }
  else if o = 0x0C then { c with pairProdCore := BitVec.ofNat 6 (bitsOf v.toNat 2 6), pairProdUnit := v.truncate 2 }
  else c

/-- Table 6-4: SU_PROG, and SU_EPOCH in LOADED and DONE. -/
def StreamUnit.write (x : StreamUnit) (o : Nat) (v : W32) : StreamUnit :=
  if o = 0x04 then { x with progTa := BitVec.ofNat 48 (x.progTa.toNat / 2 ^ 32 * 2 ^ 32 + v.toNat) }
  else if o = 0x08 then { x with progTa := BitVec.ofNat 48 (v.toNat % 65536 * 2 ^ 32 + x.progTa.toNat % 2 ^ 32) }
  else if o = 0x10 then if x.st = .loaded || x.st = .done then { x with epochReg := v } else x
  else x

/-- The page of a relative core: a reserved PAIR_CMD gives BAD_FIELD, a reserved SU_CMD sets CMD_REJ (R159, R164). -/
def State.coreWrite (s : State) (p : Pid) (off : Nat) (v : W32) : State :=
  match s.coreReg p off with
  | none => s
  | some (c, o) =>
    if o = 0 then
      let b : PairRef := ⟨p, c, ⟨v.toNat % 16, Nat.mod_lt _ (by decide)⟩⟩
      if v.toNat / 2 ^ 30 != 0 then s
      else if (s.core p c).busy then s.pairBusy b
      else s.pairResult b 4
    else if o < 0x80 then s.modCore p c fun x => x.write o v
    else match blockIx 4 0x80 0x20 o with
      | some (u, 0) => if v.toNat % 16 = 0 || 3 < v.toNat % 16 then s.suReject ⟨p, c, u⟩ else s
      | some (u, k) => s.modUnit ⟨p, c, u⟩ fun x => x.write k v
      | none => s

/-- The attach group (R379): the words of the token presented, and TNT_HL_MODE. -/
def State.attachWrite (s : State) (p : Pid) (off : Nat) (v : W32) : State :=
  if off = 0x5120C then s.modFn (.vf p) fun f => { f with loss := { f.loss with mode := v.getLsbD 0 } }
  else match regIx 4 0x50010 4 off with
    | some k => s.modPrt p fun P => { P with tok := { P.tok with
        attach := BitVec.ofNat 128 (P.tok.attach.toNat - bitsOf P.tok.attach.toNat (32 * k.val) 32 * 2 ^ (32 * k.val)
          + v.toNat * 2 ^ (32 * k.val)) } }
    | none => s

/-- The other registers of the tenant control block. -/
def State.tenantWrite (s : State) (p : Pid) (off : Nat) (v : W32) : State :=
  if off = 0x50108 then s.modPrt p fun P => { P with ep := { P.ep with fenceTmo := v.truncate 16 } }
  else if 0x50300 ≤ off && off < 0x50330 then s.modRt p fun R => R.write (off - 0x50300) v
  else if off = 0x50528 then s.modScb p fun S => { S with qwaitTmo := v.truncate 16 }
  else if off = 0x50600 then
    if (s.life p).st = .ready || (s.life p).st = .suspended then s.modWvl p fun W => { W with t := v } else s
  else if off = 0x50620 then s.modWvl p fun W => { W with reduceTmo := v.truncate 16 }
  else if off = 0x50780 then s.modPrt p fun P => { P with gx := { P.gx with resSel := v.truncate 14 } }
  else if 0x50A00 ≤ off && off < 0x51200 then s.moverWrite (.vf p) off v
  else if 0x58000 ≤ off && off < 0x5C000 then s.coreWrite p off v
  else match regIx 12 0x51310 4 off with
    | some k => s.modPrt p fun P => { P with meas := { P.meas with d := vmod P.meas.d k fun _ => v } }
    | none => s

/-- A write of a VF's BAR0. -/
def State.vfWrite (s : State) (p : Pid) (off : Nat) (v : W32) : State :=
  if (0x50010 ≤ off && off < 0x50020) || off = 0x5120C then if s.vfAttach p then s.attachWrite p off v else s
  else if !s.vfFull p then s
  else if 0x40000 ≤ off && off < 0x42014 then s.modFn (.vf p) fun f => { f with mail := f.mail.write (off - 0x40000) v }
  else if off = 0x60048 || off = 0x6004C then s.modFn (.vf p) fun f => f.perfWrite (off = 0x6004C) v
  else if 0x70000 ≤ off && off < 0x70020 then s.modPrt p fun P => { P with pwd := P.pwd.write (off - 0x70000) false v }
  else s.tenantWrite p off v

/-- A write of the MSI-X table in BAR2: a vector's address, data and mask. A pending message follows the unmask (R91). -/
def State.msixWrite (s : State) (fn : Fn) (off : Nat) (v : W32) : State :=
  match blockIx 64 0 16 off with
  | none => s
  | some (i, o) =>
    let was := (s.fnSt fn).msix[i]
    let s := s.modFn fn fun f => { f with msix := vmod f.msix i fun m =>
      if o = 12 then { m with masked := v.getLsbD 0 }
      else if o = 8 then { m with data := v }
      else { m with addr := setHalf m.addr (o = 4) v } }
    if o = 12 && was.masked && !v.getLsbD 0 && was.pending && !(s.fnSt fn).msixMask then
      (s.modFn fn fun f => { f with msix := vmod f.msix i fun m => { m with pending := false } }).msix fn (BitVec.ofNat 6 i.val)
    else s

/-- REGISTER_WRITE (R576). A read-only or reserved address discards it (R5). -/
def execRegisterWrite (fn : Fn) (off : Nat) (v : W32) (s : State) : Host.Outcome State Fault Refusal :=
  .next (if off % 4 != 0 then s
    else if 0x10000000 ≤ off then if s.present fn then s.msixWrite fn (off - 0x10000000) v else s
    else match fn with
      | .pf => s.pfWrite off v
      | .vf p => s.vfWrite p off v)

/-! ### Counters that clear on a read (R479) -/

/-- An RC counter of a fabric port's page (Table 14-6). -/
def Port.counter (P : Port) (o : Nat) : Option (W32 × Port) :=
  if o = 0x100 then some (P.crc, { P with crc := 0 })
  else if o = 0x104 then some (P.replayCnt, { P with replayCnt := 0 })
  else if o = 0x108 then some (P.down, { P with down := 0 })
  else if o = 0x10C then some (P.drop, { P with drop := 0 })
  else if o = 0x110 then some (P.rejoin, { P with rejoin := 0 })
  else if o = 0x114 then some (P.fail, { P with fail := 0 })
  else match blockIx 8 0x200 8 o with
    | some (k, 0) => some ((P.lanes[k]).lol, { P with lanes := vmod P.lanes k fun l => { l with lol := 0 } })
    | some (k, 4) => some ((P.lanes[k]).ue, { P with lanes := vmod P.lanes k fun l => { l with ue := 0 } })
    | _ => none

/-- An RC counter of the TIER block (Tables 7-9 and 22-5). -/
def TierRegs.counter (T : TierRegs) (o : Nat) : Option (W32 × TierRegs) :=
  if o = 0x200 then some (T.stgCe, { T with stgCe := 0 })
  else if o = 0x204 then some (T.stgUe, { T with stgUe := 0 })
  else match blockIx 12 0x100 8 o, blockIx 6 0x180 8 o with
    | some (c, 0), _ => some (T.ddrCe[c], { T with ddrCe := vmod T.ddrCe c fun _ => 0 })
    | some (c, 4), _ => some (T.ddrUe[c], { T with ddrUe := vmod T.ddrUe c fun _ => 0 })
    | none, some (k, 0) => some (T.stkCe[k], { T with stkCe := vmod T.stkCe k fun _ => 0 })
    | none, some (k, 4) => some (T.stkUe[k], { T with stkUe := vmod T.stkUe k fun _ => 0 })
    | _, _ => none

/-- An RC counter of a physical core (Table 22-4). -/
def CoreErr.counter (E : CoreErr) (o : Nat) : Option (W32 × CoreErr) :=
  if o = 0x10 then some (E.ce, { E with ce := 0 })
  else if o = 0x14 then some (E.ue, { E with ue := 0 })
  else if o = 0x18 then some (E.rst, { E with rst := 0 })
  else none

/-- The RC counters of the operator window and of the link. -/
def State.linkCounter (s : State) (off : Nat) : Option (W32 × State) :=
  if off = 0x400028 then some (s.link.mtrLost, { s with link := { s.link with mtrLost := 0, mtrLostArmed := true } })
  else if off = 0x400108 then some (s.op.win.denyCnt, s.modOpw fun w => { w with denyCnt := 0 })
  else if off = 0x40010C then some (s.op.win.faultCnt, s.modOpw fun w => { w with faultCnt := 0 })
  else if off = 0x400110 then some (s.op.win.poisonCnt, s.modOpw fun w => { w with poisonCnt := 0 })
  else none

/-- An RC counter of the PF, and the state after its read. -/
def State.pfCounter (s : State) (off : Nat) : Option (W32 × State) :=
  if off = 0x30018 then some (s.wdg.seqErr, { s with wdg := { s.wdg with seqErr := 0 } })
  else if off = 0x4004C then some (s.flash.errCnt, s.modFls fun F => { F with errCnt := 0 })
  else if off = 0x60010 then some (s.mtr.unsigned, { s with mtr := { s.mtr with unsigned := 0 } })
  else if off = 0x81000 then some (s.op.fn.evtLost, s.modFn .pf fun f => { f with evtLost := 0 })
  else if 0x100100 ≤ off && off < 0x100208 then
    (s.tier.counter (off - 0x100000)).map fun x => (x.1, { s with tier := x.2 })
  else if 0x400000 ≤ off then s.linkCounter off
  else if 0x308000 ≤ off then s.netCounter off
  else match blockIx 64 0x200000 0x1000 off, blockIx 8 0x300000 0x1000 off with
    | some (c, o), _ => ((s.coreErr[c]).counter o).map fun x => (x.1, { s with coreErr := vmod s.coreErr c fun _ => x.2 })
    | none, some (p, o) => ((s.ports[p]).counter o).map fun x => (x.1, s.modPort p fun _ => x.2)
    | none, none => none

/-- An RC counter of a partition. Reading WIN_FAULT_CNT or TNT_TIER_ERR_CNT clears VALID of the address beside it (Tables 2-10, 7-8). -/
def Prt.counter (P : Prt) (off : Nat) : Option (W32 × Prt) :=
  if off = 0x5002C then some (P.tok.failCnt, { P with tok := { P.tok with failCnt := 0 } })
  else if off = 0x50068 then some (P.fn.evtLost, { P with fn := { P.fn with evtLost := 0 } })
  else if off = 0x50418 then some (P.mem.cnt.errCnt, { P with mem := { P.mem with cnt := { P.mem.cnt with errCnt := 0, poisonValid := false } } })
  else if off = 0x50520 then some (P.scb.staleCnt, { P with scb := { P.scb with staleCnt := 0 } })
  else if off = 0x50614 then some (P.wvl.skipCnt, { P with wvl := { P.wvl with skipCnt := 0 } })
  else if off = 0x50618 then some (P.wvl.keptCnt, { P with wvl := { P.wvl with keptCnt := 0 } })
  else if off = 0x5061C then some (P.wvl.satCnt, { P with wvl := { P.wvl with satCnt := 0 } })
  else if off = 0x50790 then some (P.gx.dropCnt, { P with gx := { P.gx with dropCnt := 0 } })
  else if off = 0x5080C then some (P.sol.brkCnt, { P with sol := { P.sol with brkCnt := 0 } })
  else if off = 0x50810 then some (P.sol.nconvCnt, { P with sol := { P.sol with nconvCnt := 0 } })
  else if off = 0x50908 then some (P.mvBad, { P with mvBad := 0 })
  else if off = 0x60044 then some (P.mtr.lost, { P with mtr := { P.mtr with lost := 0 } })
  else if off = 0x70018 then some (P.pwd.seqErr, { P with pwd := { P.pwd with seqErr := 0 } })
  else if off = 0x80008 then some (P.win.faultCnt, { P with win := { P.win with faultCnt := 0, faultValid := false } })
  else if off = 0x8000C then some (P.win.poisonCnt, { P with win := { P.win with poisonCnt := 0 } })
  else none

/-- The counter at an offset of a function, and the state after its read. -/
def State.counter (s : State) (fn : Fn) (off : Nat) : Option (W32 × State) :=
  match fn with
  | .pf => s.pfCounter off
  | .vf p => ((s.prt p).counter off).map fun x => (x.1, s.modPrt p fun _ => x.2)

/-- The attach group of R379. -/
def attachGroup (off : Nat) : Bool :=
  (0x50010 ≤ off && off < 0x50030 && off != 0x50028) || (0x51200 ≤ off && off < 0x5121C)

/-- A read of this offset is served in the state of the function. -/
def State.serves (s : State) (fn : Fn) (off : Nat) : Bool :=
  if 0x10000000 ≤ off then s.present fn
  else match fn with
  | .pf => s.pfServes off
  | .vf p => if off = 0x50000 then s.vfState p else if attachGroup off then s.vfAttach p else s.vfFull p

/-- A read that is not served returns 0 (R5, R22). -/
def State.readsZero (s : State) (fn : Fn) (off : Nat) : State := if s.present fn then s.emit (.regValue fn off 0) else s

/-- RC_COUNTER_READ (R479): the value, and the counter is 0. -/
def execRcCounterRead (fn : Fn) (off : Nat) (s : State) : Host.Outcome State Fault Refusal :=
  .next (if off % 4 != 0 then s
    else if !s.serves fn off then s.readsZero fn off
    else match s.counter fn off with
      | some (v, s) => s.emit (.regValue fn off v)
      | none => s)

/-! ### 64-bit values read in halves (R480) -/

/-- A word from bits. -/
def bitWord (w : Nat) (f : Nat → Bool) : BitVec w := BitVec.ofNat w ((List.range w).map fun i => bnat (f i) * 2 ^ i).sum

/-- SYS_PART_STS (R580). -/
def State.partSts (s : State) : W64 :=
  BitVec.ofNat 64 ((List.finRange 16).map fun p => (s.life p).st.code * 16 ^ p.val).sum

/-- R582: the rings of a partition in a condition; 0 while it is EMPTY. -/
def State.ringMask (s : State) (p : Pid) (f : RingState → Bool) : W64 :=
  if (s.life p).st = .empty then 0
  else BitVec.ofNat 64 ((List.finRange 64).map fun n => bnat (f ((s.prt p).rings[n]).state) * 2 ^ n.val).sum

/-- The 64-bit values of a port's page (Table 14-6). -/
def Port.pair (P : Port) (o : Nat) : Option W64 :=
  if o = 0x300 then some P.ce
  else if o = 0x400 then some P.txBytes
  else if o = 0x408 then some P.rxBytes
  else if o = 0x410 then some P.txPkt
  else if o = 0x418 then some P.rxPkt
  else if o = 0x420 then some P.retryBytes
  else none

/-- RING_BASE and RING_IWB (Table 3-3). -/
def Ring.pair (R : Ring) (o : Nat) : Option W64 :=
  if o = 0x08 then some R.base
  else if o = 0x10 then some (R.iwbAddr ||| BitVec.ofNat 64 (bnat R.iwbEn))
  else none

/-- An address register whose high word carries a VALID bit in bit 31. -/
def validTa (ta : BitVec 48) (valid : Bool) : W64 := BitVec.ofNat 64 (ta.toNat + 2 ^ 63 * bnat valid)

/-- The 64-bit values of the PF's arrays, by the offset of their low word. -/
def State.pfArrayPair (s : State) (off : Nat) : Option W64 :=
  if 0x308000 ≤ off && off < 0x320000 then s.netPair off
  else if 0x50200 ≤ off && off < 0x50280 then
    (regIx 16 0x50200 8 off).map fun p => bitWord 64 fun n => if h : n < 64 then s.sec.wheel[n] = some p else false
  else if 0x80000 ≤ off && off < 0x80800 then (ringReg .pf off).bind fun x => (s.ring x.1).pair x.2
  else if 0x81100 ≤ off && off < 0x81180 then (regIx 16 0x81100 8 off).map fun p => s.ringMask p (· != .disabled)
  else if 0x81180 ≤ off && off < 0x81200 then (regIx 16 0x81180 8 off).map fun p => s.ringMask p (· == .error)
  else if 0xC1000 ≤ off && off < 0xC1400 then
    (s.moverReg .pf off).bind fun x => if x.2 = 0x14 then some ((s.ring x.1).mv.lvl.zeroExtend 64) else none
  else if 0x180100 ≤ off && off < 0x180130 then (regIx 6 0x180100 8 off).map fun k => s.mtr.wvlElem[k]
  else (blockIx 8 0x300000 0x1000 off).bind fun x => (s.ports[x.1]).pair x.2

/-- The 64-bit values of the PF, by the offset of their low word. CLK_TIME reads the refined copy (R484). -/
def State.pfPair (s : State) (off : Nat) : Option W64 :=
  if off = 0x08 then some Config.serial
  else if off = 0x20 then some s.partSts
  else if off = 0x10C then some s.boot.bootT
  else if off = 0x20000 then some (BitVec.ofNat 64 s.stamp)
  else if off = 0x2000C then some s.pwr.timeSet
  else if off = 0x20024 then some (bitWord 64 fun i => i < 48 && s.pllLock i)
  else if off = 0x40030 then some s.flash.dlIova
  else if off = 0x60000 then some s.mtr.instance_
  else if off = 0x60008 then some s.mtr.seq
  else if off = 0x400014 then some s.op.fn.loss.time
  else s.pfArrayPair off

/-- The 64-bit values of a VF, by the offset of their low word. -/
def State.vfPair (s : State) (p : Pid) (off : Nat) : Option W64 :=
  let P := s.prt p
  if off = 0x50310 then some P.rt.start
  else if off = 0x50328 then some P.rt.faultCore
  else if off = 0x50424 then some (validTa P.mem.cnt.poisonTa P.mem.cnt.poisonValid)
  else if off = 0x5060C then some P.wvl.gnorm
  else if off = 0x50800 then some (bitWord 64 fun h => if x : h < 64 then (P.sol.handles[h]).isSome else false)
  else if off = 0x51204 then some P.fn.loss.time
  else if off = 0x80010 then some (validTa P.win.faultTa P.win.faultValid)
  else if 0x50A00 ≤ off && off < 0x51200 then
    (s.moverReg (.vf p) off).bind fun x => if x.2 = 0x14 then some ((s.ring x.1).mv.lvl.zeroExtend 64) else none
  else if 0x54000 ≤ off && off < 0x55000 then (ringReg (.vf p) off).bind fun x => (s.ring x.1).pair x.2
  else (s.coreReg p off).bind fun x => (blockIx 4 0x80 0x20 x.2).bind fun y =>
    if y.2 = 4 then some ((s.unit ⟨p, x.1, y.1⟩).progTa.zeroExtend 64) else none

/-- The value whose low word lies at an offset of a function. -/
def State.pair64 (s : State) (fn : Fn) (off : Nat) : Option W64 :=
  match fn with
  | .pf => s.pfPair off
  | .vf p => s.vfPair p off

/-- The partition and the meter whose low word lies at an offset of a function. -/
def meterAt (fn : Fn) (off : Nat) : Option (Pid × Fin 8) :=
  match fn with
  | .pf => if off < 0x60500 then (blockIx 16 0x60100 0x40 off).bind fun x => (regIx 8 0 8 x.2).map fun k => (x.1, k) else none
  | .vf p => (regIx 8 0x60000 8 off).map fun k => (p, k)

/-- A half that the function's last read of meter 0 latched; 0 before the first (R480). -/
def Meters.latchedHalf (m : Meters) (fn : Fn) (k : Fin 8) (hi : Bool) : W32 :=
  let l := match fn with
    | .pf => m.latchPf
    | .vf _ => m.latchVf
  match l with
  | some v => halfOf v[k] hi
  | none => 0

/-- The words that a read of their own row reveals: PRT_TOKEN and TNT_TOKEN. -/
def tokenAt (fn : Fn) (off : Nat) : Bool :=
  match fn with
  | .pf => 0x10000 ≤ off && off < 0x20000 && 0x30 ≤ off % 0x1000 && off % 0x1000 < 0x40
  | .vf _ => 0x50030 ≤ off && off < 0x50040

/-- A read of a register that is no low word: the latched half of a high word, else the register's value. Counters and token words have
rows of their own. -/
def State.plainRead (s : State) (fn : Fn) (off : Nat) : State :=
  if (s.counter fn off).isSome || tokenAt fn off then s
  else if 4 ≤ off && (meterAt fn (off - 4)).isSome then
    match meterAt fn (off - 4) with
    | some (p, k) => s.emit (.regValue fn off ((s.prt p).mtr.latchedHalf fn k true))
    | none => s
  else if 4 ≤ off && (s.pair64 fn (off - 4)).isSome then s.emit (.regValue fn off (latched (s.fnSt fn).latches off))
  else s.took.emit (.regValue fn off (s.word fn off))

/-- R480: the low half is returned, and the high half is latched for the function. A meter's low word other than meter 0's returns what is
latched and latches nothing. -/
def State.lowRead (s : State) (fn : Fn) (off : Nat) : State :=
  match meterAt fn off with
  | some (p, k) =>
    if k = 0 then s.meterLatch fn p else s.emit (.regValue fn off ((s.prt p).mtr.latchedHalf fn k false))
  | none =>
    match s.pair64 fn off with
    | none => s.plainRead fn off
    | some x =>
      let s := if fn = .pf && off = 0x20000 then s.stamped else s
      (s.modFn fn fun f => { f with latches := latch f.latches (off + 4) (halfOf x true) }).emit (.regValue fn off (halfOf x false))

/-- LOW_WORD_READ; at another offset, the read of that register (log entry 36). -/
def execLowWordRead (fn : Fn) (off : Nat) (s : State) : Host.Outcome State Fault Refusal :=
  .next (if off % 4 != 0 then s
    else if s.serves fn off then s.lowRead fn off else s.readsZero fn off)

end Sys2Proof.Machine
end

