-- ==== Sys2Proof/Machine/Dispatch.lean ====
section
/-! DEFINITION. Machine/Dispatch.lean: one arm for each command. -/

namespace Sys2Proof.Machine

open Sys2Proof

def exec (i : Instr) (s : State) : Host.Outcome State Fault Refusal :=
  match i with
  | .create p => Sys2Proof.Machine.execCreate p s
  | .commit p => Sys2Proof.Machine.execCommit p s
  | .abandon p => Sys2Proof.Machine.execAbandon p s
  | .start p => Sys2Proof.Machine.execStart p s
  | .suspend p => Sys2Proof.Machine.execSuspend p s
  | .suspendHaltComplete p => Sys2Proof.Machine.execSuspendHaltComplete p s
  | .resume p => Sys2Proof.Machine.execResume p s
  | .destroy p => Sys2Proof.Machine.execDestroy p s
  | .resize p => Sys2Proof.Machine.execResize p s
  | .resizeComplete p => Sys2Proof.Machine.execResizeComplete p s
  | .prtCmdReserved p code => Sys2Proof.Machine.execPrtCmdReserved p code s
  | .drainTimeout p => Sys2Proof.Machine.execDrainTimeout p s
  | .drainComplete p => Sys2Proof.Machine.execDrainComplete p s
  | .keyRetire p => Sys2Proof.Machine.execKeyRetire p s
  | .scrubComplete p => Sys2Proof.Machine.execScrubComplete p s
  | .idleTimeout p => Sys2Proof.Machine.execIdleTimeout p s
  | .tntNap p => Sys2Proof.Machine.execTntNap p s
  | .prtStagedWrite p reg v => Sys2Proof.Machine.execPrtStagedWrite p reg v s
  | .prtModeWrite p reg v => Sys2Proof.Machine.execPrtModeWrite p reg v s
  | .prtTokenRead p k => Sys2Proof.Machine.execPrtTokenRead p k s
  | .tntConsentWrite p v => Sys2Proof.Machine.execTntConsentWrite p v s
  | .tntTokenRotate p => Sys2Proof.Machine.execTntTokenRotate p s
  | .tntTokenRead p k => Sys2Proof.Machine.execTntTokenRead p k s
  | .tntAttachGo p => Sys2Proof.Machine.execTntAttachGo p s
  | .attachLockoutEnd p => Sys2Proof.Machine.execAttachLockoutEnd p s
  | .objDefine c => Sys2Proof.Machine.execObjDefine c s
  | .objHint c => Sys2Proof.Machine.execObjHint c s
  | .objRelease c => Sys2Proof.Machine.execObjRelease c s
  | .objReleaseDrained c => Sys2Proof.Machine.execObjReleaseDrained c s
  | .objQuery c => Sys2Proof.Machine.execObjQuery c s
  | .partitionWindowRead p off => Sys2Proof.Machine.execPartitionWindowRead p off s
  | .partitionWindowWrite p off data en => Sys2Proof.Machine.execPartitionWindowWrite p off data en s
  | .operatorWindowRead off => Sys2Proof.Machine.execOperatorWindowRead off s
  | .operatorWindowWrite off data en => Sys2Proof.Machine.execOperatorWindowWrite off data en s
  | .windowControlWrite fn off v => Sys2Proof.Machine.execWindowControlWrite fn off v s
  | .barWidthError fn off read => Sys2Proof.Machine.execBarWidthError fn off read s
  | .sysErrClear fn v => Sys2Proof.Machine.execSysErrClear fn v s
  | .hostRequestError w off => Sys2Proof.Machine.execHostRequestError w off s
  | .ringConfigWrite r off v => Sys2Proof.Machine.execRingConfigWrite r off v s
  | .ringEnable r => Sys2Proof.Machine.execRingEnable r s
  | .ringDisable r => Sys2Proof.Machine.execRingDisable r s
  | .ringEntryAccessFail r what => Sys2Proof.Machine.execRingEntryAccessFail r what s
  | .doorbellWrite r v => Sys2Proof.Machine.execDoorbellWrite r v s
  | .dbCancel r v => Sys2Proof.Machine.execDbCancel r v s
  | .cancelMatchingDone r => Sys2Proof.Machine.execCancelMatchingDone r s
  | .commandConsume r entry => Sys2Proof.Machine.execCommandConsume r entry s
  | .commandReadyStart r => Sys2Proof.Machine.execCommandReadyStart r s
  | .commandPromotion c => Sys2Proof.Machine.execCommandPromotion c s
  | .indexWriteback r => Sys2Proof.Machine.execIndexWriteback r s
  | .irqModerationTimeout r => Sys2Proof.Machine.execIrqModerationTimeout r s
  | .msixUnmask fn vec addr data => Sys2Proof.Machine.execMsixUnmask fn vec addr data s
  | .mbInPost fn v => Sys2Proof.Machine.execMbInPost fn v s
  | .mbOutRelease fn v => Sys2Proof.Machine.execMbOutRelease fn v s
  | .mailboxOutboundPlace fn => Sys2Proof.Machine.execMailboxOutboundPlace fn s
  | .servicePing fn => Sys2Proof.Machine.execServicePing fn s
  | .serviceHeartbeat fn => Sys2Proof.Machine.execServiceHeartbeat fn s
  | .serviceTime fn => Sys2Proof.Machine.execServiceTime fn s
  | .serviceUnknown fn => Sys2Proof.Machine.execServiceUnknown fn s
  | .execList c list => Sys2Proof.Machine.execExecList c list s
  | .controlNop c => Sys2Proof.Machine.execControlNop c s
  | .controlFence c => Sys2Proof.Machine.execControlFence c s
  | .flushReadDone w => Sys2Proof.Machine.execFlushReadDone w s
  | .fenceTimeout c => Sys2Proof.Machine.execFenceTimeout c s
  | .barCfg c => Sys2Proof.Machine.execBarCfg c s
  | .epochCommit c => Sys2Proof.Machine.execEpochCommit c s
  | .epochRevoke c => Sys2Proof.Machine.execEpochRevoke c s
  | .jobEpochDecision p e commit => Sys2Proof.Machine.execJobEpochDecision p e commit s
  | .tntEpochWrite p v => Sys2Proof.Machine.execTntEpochWrite p v s
  | .listNop o => Sys2Proof.Machine.execListNop o s
  | .mbRecv o => Sys2Proof.Machine.execMbRecv o s
  | .mbRecvTimeout o => Sys2Proof.Machine.execMbRecvTimeout o s
  | .mbSend o => Sys2Proof.Machine.execMbSend o s
  | .barArrive o => Sys2Proof.Machine.execBarArrive o s
  | .timestamp o => Sys2Proof.Machine.execTimestamp o s
  | .writeValue o => Sys2Proof.Machine.execWriteValue o s
  | .barrierArrival c => Sys2Proof.Machine.execBarrierArrival c s
  | .fabricBarrierRelease p b => Sys2Proof.Machine.execFabricBarrierRelease p b s
  | .barrierTimeout p b => Sys2Proof.Machine.execBarrierTimeout p b s
  | .matmul o => Sys2Proof.Machine.execMatmul o s
  | .convert o => Sys2Proof.Machine.execConvert o s
  | .vecEw o => Sys2Proof.Machine.execVecEw o s
  | .vecRed o => Sys2Proof.Machine.execVecRed o s
  | .computeOpEnd o => Sys2Proof.Machine.execComputeOpEnd o s
  | .suLoad u => Sys2Proof.Machine.execSuLoad u s
  | .suLoadDone u => Sys2Proof.Machine.execSuLoadDone u s
  | .suStart u rt => Sys2Proof.Machine.execSuStart u rt s
  | .suStop u => Sys2Proof.Machine.execSuStop u s
  | .streamNop u => Sys2Proof.Machine.execStreamNop u s
  | .seti u => Sys2Proof.Machine.execSeti u s
  | .adds u => Sys2Proof.Machine.execAdds u s
  | .addi u => Sys2Proof.Machine.execAddi u s
  | .fadd u => Sys2Proof.Machine.execFadd u s
  | .loop u => Sys2Proof.Machine.execLoop u s
  | .endl u => Sys2Proof.Machine.execEndl u s
  | .mov u => Sys2Proof.Machine.execMov u s
  | .movEnd u k => Sys2Proof.Machine.execMovEnd u k s
  | .swap u => Sys2Proof.Machine.execSwap u s
  | .waitf u => Sys2Proof.Machine.execWaitf u s
  | .waitv u => Sys2Proof.Machine.execWaitv u s
  | .rel u => Sys2Proof.Machine.execRel u s
  | .sig u => Sys2Proof.Machine.execSig u s
  | .wsig u => Sys2Proof.Machine.execWsig u s
  | .streamBar u => Sys2Proof.Machine.execStreamBar u s
  | .dline u => Sys2Proof.Machine.execDline u s
  | .fend u => Sys2Proof.Machine.execFend u s
  | .streamEnd u => Sys2Proof.Machine.execStreamEnd u s
  | .streamEpoch u => Sys2Proof.Machine.execStreamEpoch u s
  | .pairBind b => Sys2Proof.Machine.execPairBind b s
  | .pairBindDone b => Sys2Proof.Machine.execPairBindDone b s
  | .pairUnbind b => Sys2Proof.Machine.execPairUnbind b s
  | .pairReset b => Sys2Proof.Machine.execPairReset b s
  | .pairAutoSwap b => Sys2Proof.Machine.execPairAutoSwap b s
  | .pairWaitTimeout w => Sys2Proof.Machine.execPairWaitTimeout w s
  | .rtCtlWrite p v => Sys2Proof.Machine.execRtCtlWrite p v s
  | .frameStart p => Sys2Proof.Machine.execFrameStart p s
  | .frameEarlyWake p => Sys2Proof.Machine.execFrameEarlyWake p s
  | .deadlinePass w => Sys2Proof.Machine.execDeadlinePass w s
  | .moveCopyBegin p t => Sys2Proof.Machine.execMoveCopyBegin p t s
  | .moveComplete p t => Sys2Proof.Machine.execMoveComplete p t s
  | .moveDestinationFail p t => Sys2Proof.Machine.execMoveDestinationFail p t s
  | .backgroundPromotion p t => Sys2Proof.Machine.execBackgroundPromotion p t s
  | .tierAccessFail p t w k d => Sys2Proof.Machine.execTierAccessFail p t w k d s
  | .tierAccessLate p t w d => Sys2Proof.Machine.execTierAccessLate p t w d s
  | .memoryUnitDown m => Sys2Proof.Machine.execMemoryUnitDown m s
  | .tileClear c => Sys2Proof.Machine.execTileClear c s
  | .readAheadExpire p k => Sys2Proof.Machine.execReadAheadExpire p k s
  | .tierSettingWrite off v => Sys2Proof.Machine.execTierSettingWrite off v s
  | .stagingQuotaWrite p v => Sys2Proof.Machine.execStagingQuotaWrite p v s
  | .planLoad c => Sys2Proof.Machine.execPlanLoad c s
  | .planUnload c => Sys2Proof.Machine.execPlanUnload c s
  | .runBegin c => Sys2Proof.Machine.execRunBegin c s
  | .mark c => Sys2Proof.Machine.execMark c s
  | .runEnd c => Sys2Proof.Machine.execRunEnd c s
  | .instanceCloseComplete p rec_ mb => Sys2Proof.Machine.execInstanceCloseComplete p rec_ mb s
  | .fetchbackEvaluate p => Sys2Proof.Machine.execFetchbackEvaluate p s
  | .fetchbackIssue p rec_ mb => Sys2Proof.Machine.execFetchbackIssue p rec_ mb s
  | .injectedSegmentEnd p rec_ mb failed => Sys2Proof.Machine.execInjectedSegmentEnd p rec_ mb failed s
  | .scarabTaskIssue => Sys2Proof.Machine.execScarabTaskIssue s
  | .quarantineWaitTimeout w => Sys2Proof.Machine.execQuarantineWaitTimeout w s
  | .scarabSettingWrite fn v => Sys2Proof.Machine.execScarabSettingWrite fn v s
  | .updateCommand c list => Sys2Proof.Machine.execUpdateCommand c list s
  | .normPassEnd c => Sys2Proof.Machine.execNormPassEnd c s
  | .decisionContribution slice e members tmoMs rank sum nonfinite opError stopped => Sys2Proof.Machine.execDecisionContribution slice e members tmoMs rank sum nonfinite opError stopped s
  | .reductionTimeout slice e => Sys2Proof.Machine.execReductionTimeout slice e s
  | .verdict p cause sum bad => Sys2Proof.Machine.execVerdict p cause sum bad s
  | .decisionPointUnreachable p => Sys2Proof.Machine.execDecisionPointUnreachable p s
  | .trustPassEnd c => Sys2Proof.Machine.execTrustPassEnd c s
  | .applyPassEnd c => Sys2Proof.Machine.execApplyPassEnd c s
  | .gx o => Sys2Proof.Machine.execGx o s
  | .allgather o => Sys2Proof.Machine.execAllgather o s
  | .bcast o => Sys2Proof.Machine.execBcast o s
  | .send o => Sys2Proof.Machine.execSend o s
  | .recv o => Sys2Proof.Machine.execRecv o s
  | .bucketContribution o k rank sent => Sys2Proof.Machine.execBucketContribution o k rank sent s
  | .bucketDeadline o k => Sys2Proof.Machine.execBucketDeadline o k s
  | .lateContribution o k => Sys2Proof.Machine.execLateContribution o k s
  | .fabricLanding o rank tag data => Sys2Proof.Machine.execFabricLanding o rank tag data s
  | .sendRecvTimeout o => Sys2Proof.Machine.execSendRecvTimeout o s
  | .collectivePeerUnreachable o rank reason => Sys2Proof.Machine.execCollectivePeerUnreachable o rank reason s
  | .dense o => Sys2Proof.Machine.execDense o s
  | .schedReg o => Sys2Proof.Machine.execSchedReg o s
  | .schedDrop o => Sys2Proof.Machine.execSchedDrop o s
  | .schedDropRelease o => Sys2Proof.Machine.execSchedDropRelease o s
  | .sparse o => Sys2Proof.Machine.execSparse o s
  | .h2t m data => Sys2Proof.Machine.execH2t m data s
  | .t2h m => Sys2Proof.Machine.execT2h m s
  | .t2t m => Sys2Proof.Machine.execT2t m s
  | .place m => Sys2Proof.Machine.execPlace m s
  | .xfer o data => Sys2Proof.Machine.execXfer o data s
  | .moverDescriptorStart r desc => Sys2Proof.Machine.execMoverDescriptorStart r desc s
  | .moverFlushTimeout w => Sys2Proof.Machine.execMoverFlushTimeout w s
  | .paceLevelPoll m => Sys2Proof.Machine.execPaceLevelPoll m s
  | .paceRelease m => Sys2Proof.Machine.execPaceRelease m s
  | .mvPaceWrite r v => Sys2Proof.Machine.execMvPaceWrite r v s
  | .mvCtlReset r => Sys2Proof.Machine.execMvCtlReset r s
  | .movChKill m => Sys2Proof.Machine.execMovChKill m s
  | .movQuotaWrite k v => Sys2Proof.Machine.execMovQuotaWrite k v s
  | .perstNAssert => Sys2Proof.Machine.execPerstNAssert s
  | .perstNDeassert refclk => Sys2Proof.Machine.execPerstNDeassert refclk s
  | .hotReset => Sys2Proof.Machine.execHotReset s
  | .linkDisable => Sys2Proof.Machine.execLinkDisable s
  | .surpriseLinkDown => Sys2Proof.Machine.execSurpriseLinkDown s
  | .linkChanged width rate => Sys2Proof.Machine.execLinkChanged width rate s
  | .pfHeartbeatTimeout => Sys2Proof.Machine.execPfHeartbeatTimeout s
  | .vfHeartbeatTimeout p => Sys2Proof.Machine.execVfHeartbeatTimeout p s
  | .heartbeatTmoWrite fn v => Sys2Proof.Machine.execHeartbeatTmoWrite fn v s
  | .vfFlr p => Sys2Proof.Machine.execVfFlr p s
  | .vfBusMasterDisable p => Sys2Proof.Machine.execVfBusMasterDisable p s
  | .vfD3hot p => Sys2Proof.Machine.execVfD3hot p s
  | .vfRemoved p => Sys2Proof.Machine.execVfRemoved p s
  | .pfFlr => Sys2Proof.Machine.execPfFlr s
  | .pfBusMasterDisable => Sys2Proof.Machine.execPfBusMasterDisable s
  | .pfD3hot => Sys2Proof.Machine.execPfD3hot s
  | .ideInsecure io mem => Sys2Proof.Machine.execIdeInsecure io mem s
  | .hostLineInvalidate fn iova => Sys2Proof.Machine.execHostLineInvalidate fn iova s
  | .hdmDecoderCommit base size => Sys2Proof.Machine.execHdmDecoderCommit base size s
  | .operatorStopTimeout => Sys2Proof.Machine.execOperatorStopTimeout s
  | .lnkOpAttach v => Sys2Proof.Machine.execLnkOpAttach v s
  | .portEnable pt => Sys2Proof.Machine.execPortEnable pt s
  | .portDisable pt => Sys2Proof.Machine.execPortDisable pt s
  | .laneMaskWrite pt v => Sys2Proof.Machine.execLaneMaskWrite pt v s
  | .retrain pt => Sys2Proof.Machine.execRetrain pt s
  | .portModuleReady pt => Sys2Proof.Machine.execPortModuleReady pt s
  | .trainingTimerExpire pt => Sys2Proof.Machine.execTrainingTimerExpire pt s
  | .backoffEnd pt => Sys2Proof.Machine.execBackoffEnd pt s
  | .partnerSignalSeen pt => Sys2Proof.Machine.execPartnerSignalSeen pt s
  | .detectLock pt lanes => Sys2Proof.Machine.execDetectLock pt lanes s
  | .tuneComplete pt lanes => Sys2Proof.Machine.execTuneComplete pt lanes s
  | .alignComplete pt lanes => Sys2Proof.Machine.execAlignComplete pt lanes s
  | .descriptorReceived pt d => Sys2Proof.Machine.execDescriptorReceived pt d s
  | .laneLockLoss pt l => Sys2Proof.Machine.execLaneLockLoss pt l s
  | .partnerLaneNotice pt l => Sys2Proof.Machine.execPartnerLaneNotice pt l s
  | .fecWindowEnd pt ue ce => Sys2Proof.Machine.execFecWindowEnd pt ue ce s
  | .restripeAgreed pt => Sys2Proof.Machine.execRestripeAgreed pt s
  | .restripeTimeout pt => Sys2Proof.Machine.execRestripeTimeout pt s
  | .laneLockRegained pt l => Sys2Proof.Machine.execLaneLockRegained pt l s
  | .laneProbationEnd pt l => Sys2Proof.Machine.execLaneProbationEnd pt l s
  | .fabLclr pt v => Sys2Proof.Machine.execFabLclr pt v s
  | .fabLaneUeMaxWrite pt v => Sys2Proof.Machine.execFabLaneUeMaxWrite pt v s
  | .fabricPacketReceive pt crcOk seq pkt => Sys2Proof.Machine.execFabricPacketReceive pt crcOk seq pkt s
  | .replayRequest pt acked => Sys2Proof.Machine.execReplayRequest pt acked s
  | .ackTimeout pt => Sys2Proof.Machine.execAckTimeout pt s
  | .descriptorSend pt => Sys2Proof.Machine.execDescriptorSend pt s
  | .candidateForget pt => Sys2Proof.Machine.execCandidateForget pt s
  | .fmStable => Sys2Proof.Machine.execFmStable s
  | .fabFmCtlWrite v => Sys2Proof.Machine.execFabFmCtlWrite v s
  | .remoteAccess serial write off v rec_ => Sys2Proof.Machine.execRemoteAccess serial write off v rec_ s
  | .fabApply v => Sys2Proof.Machine.execFabApply v s
  | .e2eResend k => Sys2Proof.Machine.execE2eResend k s
  | .e2eTimeout k => Sys2Proof.Machine.execE2eTimeout k s
  | .nodeLostDeclare n => Sys2Proof.Machine.execNodeLostDeclare n s
  | .fabGrpLoad v rec_ => Sys2Proof.Machine.execFabGrpLoad v rec_ s
  | .fabGrpRemove v => Sys2Proof.Machine.execFabGrpRemove v s
  | .entropyFault startup => Sys2Proof.Machine.execEntropyFault startup s
  | .spdmGetVersion r => Sys2Proof.Machine.execSpdmGetVersion r s
  | .spdmGetCapabilities r => Sys2Proof.Machine.execSpdmGetCapabilities r s
  | .spdmNegotiateAlgorithms r => Sys2Proof.Machine.execSpdmNegotiateAlgorithms r s
  | .spdmGetDigests r => Sys2Proof.Machine.execSpdmGetDigests r s
  | .spdmGetCertificate r slot off len => Sys2Proof.Machine.execSpdmGetCertificate r slot off len s
  | .spdmChallenge r slot => Sys2Proof.Machine.execSpdmChallenge r slot s
  | .spdmGetMeasurements r index signed => Sys2Proof.Machine.execSpdmGetMeasurements r index signed s
  | .spdmKeyExchange r => Sys2Proof.Machine.execSpdmKeyExchange r s
  | .spdmFinish r => Sys2Proof.Machine.execSpdmFinish r s
  | .spdmHeartbeat r => Sys2Proof.Machine.execSpdmHeartbeat r s
  | .spdmKeyUpdate r => Sys2Proof.Machine.execSpdmKeyUpdate r s
  | .spdmEndSession r => Sys2Proof.Machine.execSpdmEndSession r s
  | .spdmVendorDefinedRequest r secure => Sys2Proof.Machine.execSpdmVendorDefinedRequest r secure s
  | .jtagBypass => Sys2Proof.Machine.execJtagBypass s
  | .jtagIdcode => Sys2Proof.Machine.execJtagIdcode s
  | .jtagSamplePreload => Sys2Proof.Machine.execJtagSamplePreload s
  | .jtagExtest code => Sys2Proof.Machine.execJtagExtest code s
  | .jtagClamp code => Sys2Proof.Machine.execJtagClamp code s
  | .jtagHighz code => Sys2Proof.Machine.execJtagHighz code s
  | .tntMeasGo p v => Sys2Proof.Machine.execTntMeasGo p v s
  | .secFslotsWrite p v => Sys2Proof.Machine.execSecFslotsWrite p v s
  | .millisecondBoundary x => Sys2Proof.Machine.execMillisecondBoundary x s
  | .meterIntervalBoundary p => Sys2Proof.Machine.execMeterIntervalBoundary p s
  | .meterRecordSigned => Sys2Proof.Machine.execMeterRecordSigned s
  | .mtrIvlWrite p v => Sys2Proof.Machine.execMtrIvlWrite p v s
  | .meterLatchRead fn p => Sys2Proof.Machine.execMeterLatchRead fn p s
  | .lowWordRead fn off => Sys2Proof.Machine.execLowWordRead fn off s
  | .rcCounterRead fn off => Sys2Proof.Machine.execRcCounterRead fn off s
  | .clkTimeSlewWrite v => Sys2Proof.Machine.execClkTimeSlewWrite v s
  | .clkTimeSetGo v => Sys2Proof.Machine.execClkTimeSetGo v s
  | .clkSscWrite v => Sys2Proof.Machine.execClkSscWrite v s
  | .pllUnlock pll => Sys2Proof.Machine.execPllUnlock pll s
  | .accessWake q => Sys2Proof.Machine.execAccessWake q s
  | .accessWakeIdle q => Sys2Proof.Machine.execAccessWakeIdle q s
  | .quadTransitionComplete q => Sys2Proof.Machine.execQuadTransitionComplete q s
  | .retentionEntry => Sys2Proof.Machine.execRetentionEntry s
  | .retentionExit => Sys2Proof.Machine.execRetentionExit s
  | .retentionExitComplete => Sys2Proof.Machine.execRetentionExitComplete s
  | .clkRetCtlWrite v => Sys2Proof.Machine.execClkRetCtlWrite v s
  | .thermtrip => Sys2Proof.Machine.execThermtrip s
  | .supplyFault rail => Sys2Proof.Machine.execSupplyFault rail s
  | .powerFailWarn volts => Sys2Proof.Machine.execPowerFailWarn volts s
  | .powerFailRecover => Sys2Proof.Machine.execPowerFailRecover s
  | .powerFailShutdown => Sys2Proof.Machine.execPowerFailShutdown s
  | .tntCoreRst p v => Sys2Proof.Machine.execTntCoreRst p v s
  | .sysRstCore k => Sys2Proof.Machine.execSysRstCore k s
  | .sysRstPartition p => Sys2Proof.Machine.execSysRstPartition p s
  | .sysRstWarm => Sys2Proof.Machine.execSysRstWarm s
  | .sysRstCold => Sys2Proof.Machine.execSysRstCold s
  | .pwdReset p v => Sys2Proof.Machine.execPwdReset p v s
  | .watchdogWarning fn => Sys2Proof.Machine.execWatchdogWarning fn s
  | .deviceWatchdogExpire => Sys2Proof.Machine.execDeviceWatchdogExpire s
  | .partitionWatchdogExpire p => Sys2Proof.Machine.execPartitionWatchdogExpire p s
  | .mcWatchdogExpire => Sys2Proof.Machine.execMcWatchdogExpire s
  | .watchdogServe fn v => Sys2Proof.Machine.execWatchdogServe fn v s
  | .serveArmTimeout fn => Sys2Proof.Machine.execServeArmTimeout fn s
  | .watchdogEnableWrite fn v => Sys2Proof.Machine.execWatchdogEnableWrite fn v s
  | .wdgLock => Sys2Proof.Machine.execWdgLock s
  | .standbyApply => Sys2Proof.Machine.execStandbyApply s
  | .bootMilestone b => Sys2Proof.Machine.execBootMilestone b s
  | .dlBegin target io => Sys2Proof.Machine.execDlBegin target io s
  | .dlWrite target data io => Sys2Proof.Machine.execDlWrite target data io s
  | .verify target io => Sys2Proof.Machine.execVerify target io s
  | .activate target io => Sys2Proof.Machine.execActivate target io s
  | .restart target => Sys2Proof.Machine.execRestart target s
  | .confirm target io => Sys2Proof.Machine.execConfirm target io s
  | .rollback target io => Sys2Proof.Machine.execRollback target io s
  | .abort target => Sys2Proof.Machine.execAbort target s
  | .trialTimerExpire io => Sys2Proof.Machine.execTrialTimerExpire io s
  | .flsSeal v => Sys2Proof.Machine.execFlsSeal v s
  | .flsCfgPut typ io => Sys2Proof.Machine.execFlsCfgPut typ io s
  | .flsCfgDel typ io => Sys2Proof.Machine.execFlsCfgDel typ io s
  | .flsCfgRead k => Sys2Proof.Machine.execFlsCfgRead k s
  | .queryDeviceIdentifiers => Sys2Proof.Machine.execQueryDeviceIdentifiers s
  | .getFirmwareParameters => Sys2Proof.Machine.execGetFirmwareParameters s
  | .getStatus => Sys2Proof.Machine.execGetStatus s
  | .requestUpdate => Sys2Proof.Machine.execRequestUpdate s
  | .passComponentTable => Sys2Proof.Machine.execPassComponentTable s
  | .updateComponent comp io => Sys2Proof.Machine.execUpdateComponent comp io s
  | .firmwareDataReceived data io => Sys2Proof.Machine.execFirmwareDataReceived data io s
  | .activateFirmware => Sys2Proof.Machine.execActivateFirmware s
  | .cancelUpdateComponent => Sys2Proof.Machine.execCancelUpdateComponent s
  | .cancelUpdate => Sys2Proof.Machine.execCancelUpdate s
  | .pbPrsntDeassert => Sys2Proof.Machine.execPbPrsntDeassert s
  | .inputGood => Sys2Proof.Machine.execInputGood s
  | .coldRstN lowNs => Sys2Proof.Machine.execColdRstN lowNs s
  | .serviceButtonPress => Sys2Proof.Machine.execServiceButtonPress s
  | .serviceButtonHold => Sys2Proof.Machine.execServiceButtonHold s
  | .cageModuleInsert pt passive cls temp => Sys2Proof.Machine.execCageModuleInsert pt passive cls temp s
  | .cageModuleRemove pt => Sys2Proof.Machine.execCageModuleRemove pt s
  | .cageOverpower pt => Sys2Proof.Machine.execCageOverpower pt s
  | .smbusAlertResponse => Sys2Proof.Machine.execSmbusAlertResponse s
  | .registerWrite fn off v => Sys2Proof.Machine.execRegisterWrite fn off v s
  | .solverOpEnd o => Sys2Proof.Machine.execSolverOpEnd o s
  | .moverDescriptorEnd m => Sys2Proof.Machine.execMoverDescriptorEnd m s
  | .linkUp width rate cxl => Sys2Proof.Machine.execLinkUp width rate cxl s
  | .vfEnable n => Sys2Proof.Machine.execVfEnable n s
  | .standbyLoss => Sys2Proof.Machine.execStandbyLoss s
  | .moduleAdvertisementChange pt cls => Sys2Proof.Machine.execModuleAdvertisementChange pt cls s

end Sys2Proof.Machine
end

