-- ==== Sys2Proof/Safety.lean ====
section
/-! DEFINITION. Safety.lean: what claims say of a whole state and of two states in a run. -/

namespace Sys2Proof.Machine

/-- Every partition's stored bytes are in the one canonical form of a memory. -/
def State.memOk (s : State) : Prop := ∀ p : Pid, Memory.wf (s.prt p).mem.bytes = true

/-- The fuse count is an index of a fuse: from 0 to 64 (chapter 20, Anti-rollback fuses). -/
def State.fusesOk (s : State) : Prop := s.flash.fuses ≤ 64

/-- What every step keeps: canonical memories and a fuse count that the 64 fuses can have. -/
def State.Inv (s : State) : Prop := s.memOk ∧ s.fusesOk

/-- A PRT_CMD write is taken: the PF answers, no command of the partition is in execution once the write has made the
sled leave retention, and the partition is in a state the command accepts (R18, R20, R498). -/
def State.PrtTakes (s : State) (p : Pid) (accepts : PState → Bool) : Prop :=
  s.pfOpen = true ∧ (s.exitRetention.life p).exec = none ∧ accepts (s.exitRetention.life p).st = true

/-- The sled once a PRT_CMD write has been taken: its code stands in the page (R18). -/
def State.prtTaken (s : State) (p : Pid) (code : BitVec 4) : State :=
  s.exitRetention.modLife p fun L => { L with lastCmd := code }

/-- The sled with the object in the map and its tiles made where R53 puts them. -/
def State.defined (s : State) (p : Pid) (x : Obj) : State :=
  (List.range x.tiles).foldl (fun s i => s.createTile p (x.base + i) (s.definePlace p x i))
    (s.modMem p fun m => { m with objs := m.objs ++ [x] })

/-- The states reached from `s` in any number of steps. -/
inductive RunsTo (s : State) : State → Prop where
  | refl : RunsTo s s
  | step {t u : State} : RunsTo s t → step t = .next u → RunsTo s u

end Sys2Proof.Machine
end

