-- ==== Sys2Proof/Certificates/Slice0/Obligations.lean ====
section
/-! DEFINITION. Certificates/Slice0/Obligations.lean: the statements for the provers. Each clause of a statement about a family of
commands names its command and rule, and its conclusion is the next state that the command answers, written whole: everything that state
does not name stays as it was. -/

open Sys2Proof Sys2Proof.Machine

/-- A step with a command at the front of the queue is `exec` of that command on the state with the queue's rest. -/
def Obligations.StepRunsFrontCommand : Prop :=
  (∀ (c : Instr) (s : State), step (s.withPending (c :: s.pending)) = exec c s) ∧
  (∀ (c : Instr) (rest : List Instr) (s : State), s.pending = c :: rest → step s = exec c (s.withPending rest))

/-- The model's choice (log entry 8): on an empty queue a step is one tick of the Cicada timer. -/
def Obligations.EmptyQueueTicks : Prop := ∀ s : State, s.pending = [] → step s = .next s.tick

/-- Every command, in every state, ends in a next state: none faults and none is refused. -/
def Obligations.EveryCommandCompletes : Prop := ∀ (c : Instr) (s : State), ∃ t, exec c s = .next t

/-- The sled right after reset: what Tables 1-2, 1-8, 2-10, 2-11, 3-3, 4-8, 7-9, 8-11, 12-9, 13-6, 18-6 and 19-8 give their registers. -/
def Obligations.ResetValues : Prop :=
  (∀ p : Pid, (State.reset.life p).st = .empty ∧ (State.reset.life p).drain = 0x64 ∧ (State.reset.prt p).tok.consent = false) ∧
  (∀ p : Pid, (State.reset.prt p).ep.c = 0 ∧ (State.reset.prt p).ep.revoked = [] ∧ (State.reset.prt p).ep.fenceTmo = 0x000A) ∧
  (∀ p : Pid, (State.reset.prt p).win.en = false ∧ (State.reset.prt p).mem.objs = [] ∧ (State.reset.prt p).mem.tiles = []) ∧
  (∀ r : RingId, State.reset.ring r = Ring.reset ∧ Ring.reset.state = .disabled) ∧
  (State.reset.op.win.en = false ∧ State.reset.tier.late = 0x01F4 ∧ State.reset.tier.poolAge = 0x0064) ∧
  (∀ p : Pid, State.reset.tier.stgQuota[p] = 0x070 ∧ State.reset.movQuota[p.val] = 1) ∧
  (State.reset.sqBacklog = 0x040 ∧ State.reset.movQuota[16] = 8) ∧
  (State.reset.pwr.cap = 0x17C ∧ State.reset.pwr.hyst = 0x05 ∧ State.reset.pwr.ceilSled = 2000 ∧ State.reset.link.up = false) ∧
  (∀ q : Quad, State.reset.quads[q].owner = none ∧ State.reset.quads[q].st = .off) ∧
  (State.reset.scratch = 0 ∧ State.reset.pending = [])

/-- The sled right after reset has the invariant. -/
def Obligations.ResetHasInvariant : Prop := State.reset.Inv

/-- Every step keeps the invariant, from every state that has it: the stored bytes of every partition stay in the one canonical form, and
the fuse count stays a count of the 64 fuses. -/
def Obligations.EveryStepKeepsInvariant : Prop := ∀ s t : State, s.Inv → step s = .next t → t.Inv

/-- Anti-rollback (R529): along every run, from any state whose count is one of 64 fuses, no fuse is ever unblown, whatever the commands
are: resets of every scope, updates and failed programs among them. -/
def Obligations.FusesNeverDecrease : Prop :=
  ∀ s t : State, s.flash.fuses ≤ 64 → RunsTo s t → s.flash.fuses ≤ t.flash.fuses ∧ t.flash.fuses ≤ 64

/-- The queue is first in, first out: after `k` steps it holds the commands that waited but the first `k`, in their order. -/
def Obligations.QueueIsFirstInFirstOut : Prop :=
  ∀ (cs : List Instr) (k : Nat) (s : State), k ≤ cs.length →
    ∃ t, Host.Core.run Sys2Proof.core k (s.withPending cs) = .next t ∧ t.pending = cs.drop k

/-- Along every run what the sled has put out is never taken back, and the count of free values taken never goes back. -/
def Obligations.OutputsOnlyGrow : Prop := ∀ s t : State, RunsTo s t → s.out <+: t.out ∧ s.nfree ≤ t.nfree

/-- R7 and R8: the comparison of epochs. -/
def Obligations.EpochsCompareSerially : Prop :=
  (∀ a b : Epoch,
    ((a.toNat + 2 ^ 32 - b.toNat) % 2 ^ 32 = 0 → a = b) ∧
    (1 ≤ (a.toNat + 2 ^ 32 - b.toNat) % 2 ^ 32 ∧ (a.toNat + 2 ^ 32 - b.toNat) % 2 ^ 32 ≤ 2 ^ 31 - 1 →
      Epoch.ahead a b = true ∧ Epoch.behind a b = false) ∧
    (2 ^ 31 - 1 < (a.toNat + 2 ^ 32 - b.toNat) % 2 ^ 32 → Epoch.behind a b = true ∧ Epoch.ahead a b = false)) ∧
  (∀ b : Epoch, Epoch.behind (b + 0x80000000) b = true ∧ Epoch.ahead (b + 0x80000000) b = false) ∧
  (Epoch.ahead 0x00000005 0xFFFFFFF0 = true ∧ Epoch.behind 0xFFFFFFE0 0xFFFFFFF0 = true ∧ Epoch.behind 0x7FFFFFF0 0xFFFFFFF0 = true)

/-- R268: the known answer of the generator, and the values that elements 0 to 7 receive. -/
def Obligations.PhiloxKnownAnswer : Prop :=
  philox 0 0 0 0 0 = (0x6627E8D5, 0xE169C58D, 0xBC57AC4C, 0x9B00DBD8) ∧
  (List.range 8).map (fun i => rndOf 0 i 0 0 0) = [0xE8D5, 0x6627, 0xC58D, 0xE169, 0xAC4C, 0xBC57, 0xDBD8, 0x9B00]

/-- R9: the status byte of every completion the sled writes is a code from 0x00 to 0x14. -/
def Obligations.CompletionStatusCodes : Prop :=
  ∀ (c : Completion) (phase : Bool) (time : Nat),
    (c.bytes phase time).length = 16 ∧ ∃ b, (c.bytes phase time)[2]? = some b ∧ b = c.status.code ∧ b ≤ 0x14

/-- R560: COLD_RST_N, with the standby rail present. The command is the whole low level, from its fall to its rise. -/
def Obligations.ColdResetInput : Prop :=
  ∀ (s : State) (lowNs : Nat), s.sled.stby = true →
    (1000000 ≤ lowNs → exec (.coldRstN lowNs) s = .next (s.coldReset 0x03) ∧ (s.coldReset 0x03).boot.cause = 0x03) ∧
    (lowNs < 1000000 → exec (.coldRstN lowNs) s = .next s)

/-- A write through the partition window (R62, R63): the bytes of the line whose enables are set take the written values, and every
other byte of the partition and the whole memory of every other partition stay. -/
def Obligations.WindowWriteStores : Prop :=
  ∀ (s : State) (p : Pid) (off ta : Nat) (data : Bytes) (en : W64) (o : Obj) (x : Tile),
    s.memOk → s.windowsUp = true → off < 2 ^ 28 → ta = (s.prt p).win.base.toNat * 2 ^ 28 + off / 64 * 64 →
    (s.prt p).win.en = true →
    ((s.life p).st = .ready ∨ (s.life p).st = .running ∨ (s.life p).st = .napping ∨ (s.life p).st = .suspended) →
    ta < 2 ^ 48 → (s.prt p).mem.objOf (tileOf ta) = some o → o.steward = false → o.releasing = none →
    s.tile? p (tileOf ta) = some x → x.tag = none → x.st ≠ .poisoned → s.lineUp p ta = true →
    ∃ t, exec (.partitionWindowWrite p off data en) s = .next t ∧
      (∀ i, i < 64 → readByte (t.prt p).mem.bytes (ta + i) =
        if en.getLsbD i then byteAt data i else readByte (s.prt p).mem.bytes (ta + i)) ∧
      (∀ a, a < ta ∨ ta + 64 ≤ a → readByte (t.prt p).mem.bytes a = readByte (s.prt p).mem.bytes a) ∧
      ∀ q, q ≠ p → (t.prt q).mem = (s.prt q).mem

/-- R32: each word of PRT_TOKEN0–3 is put out as it is by the first read of it and as 0 by a read after that; no read changes the token. -/
def Obligations.TokenWordsAreRevealedOnce : Prop :=
  ∀ (s : State) (p : Pid) (k : Fin 4), s.pfOpen = true →
    ∃ t u, exec (.prtTokenRead p k) s = .next t ∧ exec (.prtTokenRead p k) t = .next u ∧
      ((s.prt p).tok.prtUnread.getLsbD k.val = true →
        t.out = s.out ++ [.regValue .pf (0x10000 + 0x1000 * p.val + 0x30 + 4 * k.val) (tokenWord (s.prt p).tok.token k)]) ∧
      u.out = t.out ++ [.regValue .pf (0x10000 + 0x1000 * p.val + 0x30 + 4 * k.val) 0] ∧
      (t.prt p).tok.token = (s.prt p).tok.token ∧ (u.prt p).tok.token = (s.prt p).tok.token ∧
      ∀ j : Fin 4, j ≠ k → (u.prt p).tok.prtUnread.getLsbD j.val = (s.prt p).tok.prtUnread.getLsbD j.val

/-- Two memories in the canonical form that read alike at every address are one and the same data. -/
def Obligations.CanonicalMemoriesAreData : Prop :=
  ∀ m n : List Host.Cell, Memory.wf m = true → Memory.wf n = true → (∀ a, readByte m a = readByte n a) → m = n

/-- PRT commands that are taken: CREATE, COMMIT, ABANDON, START, SUSPEND, RESUME, DESTROY, RESIZE; about the lifecycle and the PRT page. Where a rule leaves a point open, the operations named follow log entry 30 (the model's choices). -/
def Obligations.PrtCommandsTakeEffect : Prop :=
  -- CREATE (R21)
  (∀ (s : State) (p : Pid),
    s.PrtTakes p (· = .empty) →
    exec (.create p) s = .next ((((s.prtTaken p 1).modPrt p fun P => { P with life := { Life.reset with lastCmd := 1 }, tok := Tokens.reset }).setPState p .configuring 0).endPrt p 1 0)) ∧
  -- COMMIT (R15)
  (∀ (s : State) (p : Pid),
    s.PrtTakes p (· = .configuring) →
    (s.prtTaken p 2).commitCheck p = none →
    exec (.commit p) s = .next (((s.prtTaken p 2).commitDone p).endPrt p 2 0)) ∧
  -- ABANDON (R21)
  (∀ (s : State) (p : Pid),
    s.PrtTakes p (· = .configuring) →
    exec (.abandon p) s = .next (((s.prtTaken p 3).setPState p .empty 0).endPrt p 3 0)) ∧
  -- START (R21)
  (∀ (s : State) (p : Pid),
    s.PrtTakes p (· = .ready) →
    exec (.start p) s = .next (((((((s.prtTaken p 4).modPwd p fun w => w.restart (s.prtTaken p 4).pwr.time.toNat).modLoss (.vf p) fun l => { l with hbFrom := (s.prtTaken p 4).pwr.clk }).setPState p .running 0).wakeQuads p).unpause p).goes p |>.endPrt p 4 0)) ∧
  -- SUSPEND (R24)
  (∀ (s : State) (p : Pid),
    s.PrtTakes p (fun x => x = .running || x = .napping) →
    exec (.suspend p) s = .next (((s.prtTaken p 5).modLife p fun L => { L with exec := some .suspend, lossAfter := L.halting, halting := false }).startDrain p)) ∧
  -- RESUME (R21)
  (∀ (s : State) (p : Pid),
    s.PrtTakes p (· = .suspended) →
    exec (.resume p) s = .next ((((((s.prtTaken p 6).setPState p .running 0).wakeQuads p).unpause p).goes p).endPrt p 6 0)) ∧
  -- DESTROY (R23)
  (∀ (s : State) (p : Pid),
    s.PrtTakes p PState.committed →
    exec (.destroy p) s = .next (((((((((s.prtTaken p 7).freeClaims p).unpause p).setPState p .draining 0).forceConsent p).modLife p fun L => { L with exec := some .destroy, halting := false, lossAfter := false }).modPwd p Watchdog.disabled).dropLost p).cancelUnstarted p |>.startDrain p)) ∧
  -- RESIZE (R37)
  (∀ (s : State) (p : Pid),
    s.PrtTakes p (fun x => x = .ready || x = .running || x = .napping || x = .suspended) →
    ((s.prtTaken p 8).life p).staged ≠ ((s.prtTaken p 8).life p).inForce →
    (s.prtTaken p 8).resizeCheck p ((s.prtTaken p 8).life p).staged = none →
    exec (.resize p) s = .next (
      let t := s.prtTaken p 8
      let n := (t.life p).staged
      ((t.addQuads p n.quads).modLife p fun L => { L with exec := some (.resize n.quads n.floor n.board n.timing (t.sec.fslots[p]).toNat) }).resizeMoves p n)) ∧
  -- PRT_CMD_RESERVED (R18)
  (∀ (s : State) (p : Pid) (code : BitVec 4),
    s.pfOpen = true →
    9 ≤ code.toNat →
    exec (.prtCmdReserved p code) s = .next (s.exitRetention.prtResult p code 6))

/-- The lifecycle steps that no write asks for: halts, drains, scrubs, naps, lockouts; about the lifecycle and the keys. Where a rule leaves a point open, the operations named follow log entry 30 (the model's choices). -/
def Obligations.PartitionLifecycleEvents : Prop :=
  -- SUSPEND_HALT_COMPLETE (R24)
  (∀ (s : State) (p : Pid),
    (s.life p).exec = some .suspend →
    s.engineBusy p = false →
    exec (.suspendHaltComplete p) s = .next (((((s.endDrain p).setPState p .suspended 0).pause p).sleepQuads p).endPrt p 5 0)) ∧
  -- RESIZE_COMPLETE (R37)
  (∀ (s : State) (p : Pid) (q : BitVec 16) (f b : BitVec 7) (t : Bool) (k : Nat),
    (s.life p).exec = some (.resize q f b t k) →
    (s.resizeMoves p ⟨q, f, b, t⟩).resizeOver p ⟨q, f, b, t⟩ = true →
    exec (.resizeComplete p) s = .next ((s.resizeMoves p ⟨q, f, b, t⟩).resizeDone p ⟨q, f, b, t⟩ k)) ∧
  -- DRAIN_TIMEOUT (R24)
  (∀ (s : State) (p : Pid),
    s.drainOver p = true →
    (s.life p).st = .draining →
    exec (.drainTimeout p) s = .next (((s.stopWork (.vf p) .partitionReset).cancelUnstarted p).enterScrub p)) ∧
  -- DRAIN_COMPLETE (R26)
  (∀ (s : State) (p : Pid),
    (s.life p).st = .draining →
    s.engineBusy p = false →
    s.queuedLeft p = false →
    (ringsOf (.vf p)).all (fun r => (s.ring r).cmds.isEmpty) = true →
    exec (.drainComplete p) s = .next (s.enterScrub p)) ∧
  -- KEY_RETIRE (R442)
  (∀ (s : State) (p : Pid),
    (s.life p).st = .scrubbing →
    (s.life p).keyRetired = false →
    s.keyIdle p = true →
    exec (.keyRetire p) s = .next ((s.retireKey p).modLife p fun L => { L with keyRetired := true })) ∧
  -- SCRUB_COMPLETE (R28)
  (∀ (s : State) (p : Pid),
    (s.life p).st = .scrubbing →
    (s.life p).keyRetired = true →
    exec (.scrubComplete p) s = .next ((((s.dropRuns p).modPrt p Prt.scrubbed).releaseQuads p).modSec (fun S => S.unclaim p) |>.setPState p .empty 8)) ∧
  -- IDLE_TIMEOUT (R21)
  (∀ (s : State) (p : Pid),
    (s.life p).idleUs ≠ 0 →
    s.idleFor p (s.life p).idleUs.toNat = true →
    (s.life p).st = .running →
    (s.life p).exec ≠ some .suspend →
    (s.life p).halting = false →
    exec (.idleTimeout p) s = .next ((s.setPState p .napping 1).sleepQuads p)) ∧
  -- TNT_NAP (R21)
  (∀ (s : State) (p : Pid),
    s.vfFull p = true →
    (s.life p).st = .running →
    (s.life p).exec ≠ some .suspend →
    (s.life p).halting = false →
    s.hasWork p = false →
    exec (.tntNap p) s = .next ((s.setPState p .napping 2).sleepQuads p)) ∧
  -- ATTACH_LOCKOUT_END (R35)
  (∀ (s : State) (p : Pid) (t : Nat),
    (s.prt p).tok.lockedAt = some t →
    1000000000 ≤ s.since t →
    exec (.attachLockoutEnd p) s = .next (s.modPrt p fun P => { P with tok := { P.tok with lockedAt := none, misses := 0 } }))

/-- Writes of the PRT page and of consent, and reads of the token words; about the staged values, consent and tokens. Where a rule leaves a point open, the operations named follow log entries 2, 30 (the model's choices). -/
def Obligations.PartitionPageWrites : Prop :=
  -- PRT_STAGED_WRITE (R16)
  (∀ (s : State) (p : Pid) (v : W32),
    s.pfOpen = true →
    (s.life p).st.settable = true →
    exec (.prtStagedWrite p .quads v) s = .next (s.modLife p fun L => { L with quads := v.truncate 16 })) ∧
  -- PRT_STAGED_WRITE (R16)
  (∀ (s : State) (p : Pid) (v : W32),
    s.pfOpen = true →
    (s.life p).st.settable = true →
    exec (.prtStagedWrite p .floor v) s = .next (s.modLife p fun L => { L with floor := v.truncate 7 })) ∧
  -- PRT_STAGED_WRITE (R16)
  (∀ (s : State) (p : Pid) (v : W32),
    s.pfOpen = true →
    (s.life p).st.settable = true →
    exec (.prtStagedWrite p .board v) s = .next (s.modLife p fun L => { L with board := v.truncate 7 })) ∧
  -- PRT_MODE_WRITE (R17)
  (∀ (s : State) (p : Pid) (v : W32),
    s.pfOpen = true →
    (s.life p).st.settable = true →
    exec (.prtModeWrite p .mode v) s = .next (s.modLife p (·.writeMode v))) ∧
  -- PRT_MODE_WRITE (R17)
  (∀ (s : State) (p : Pid) (v : W32),
    s.pfOpen = true →
    (s.life p).st = .configuring →
    exec (.prtModeWrite p .slice v) s = .next (s.modLife p fun L => { L with slice := v.truncate 12 })) ∧
  -- PRT_MODE_WRITE (R17)
  (∀ (s : State) (p : Pid) (v : W32),
    s.pfOpen = true →
    (s.life p).st.settable = true →
    exec (.prtModeWrite p .drain v) s = .next (s.modLife p fun L => { L with drain := v.truncate 16 })) ∧
  -- PRT_TOKEN_READ (R32)
  (∀ (s : State) (p : Pid) (k : Fin 4),
    s.pfOpen = true →
    exec (.prtTokenRead p k) s = .next ((s.modPrt p fun P => { P with tok := { P.tok with prtUnread := P.tok.prtUnread &&& ~~~(wordBit k) } }).emit (.regValue .pf (0x10000 + 0x1000 * p.val + 0x30 + 4 * k.val) (if (s.prt p).tok.prtUnread.getLsbD k.val then tokenWord (s.prt p).tok.token k else 0)))) ∧
  -- TNT_TOKEN_READ (R33)
  (∀ (s : State) (p : Pid) (k : Fin 4),
    s.vfFull p = true →
    exec (.tntTokenRead p k) s = .next ((s.modPrt p fun P => { P with tok := { P.tok with tntUnread := P.tok.tntUnread &&& ~~~(wordBit k) } }).emit (.regValue (.vf p) (0x50030 + 4 * k.val) (if (s.prt p).tok.tntUnread.getLsbD k.val then tokenWord (s.prt p).tok.token k else 0)))) ∧
  -- TNT_TOKEN_ROTATE (R33)
  (∀ (s : State) (p : Pid),
    s.vfFull p = true →
    exec (.tntTokenRotate p) s = .next (s.took.modPrt p fun P => { P with tok := { P.tok with token := Config.drbg 128 s.nfree, valid := true, prtUnread := 0, tntUnread := 0xF } })) ∧
  -- TNT_CONSENT_WRITE (R30)
  (∀ (s : State) (p : Pid) (v : W32),
    s.vfFull p = true →
    (s.prt p).tok.consent ≠ v.getLsbD 0 →
    exec (.tntConsentWrite p v) s = .next ((s.modPrt p fun P => { P with tok := { P.tok with consent := v.getLsbD 0 } }).postOper p 0x0803 (bnat (v.getLsbD 0)) 0))

/-- Object commands: define, hint, release, query and clear; about the object map and its tiles. Where a rule leaves a point open, the operations named follow log entry 24 (the model's choices). -/
def Obligations.ObjectCommandsTakeEffect : Prop :=
  -- OBJ_DEFINE (R52)
  (∀ (s : State) (c : CmdRef) (p : Pid) (n : Fin 64) (k : Cmd),
    s.inline_ c 4 0x40 = some k →
    c.ring = .vf p n →
    s.defineBad p k.operands = none →
    (s.prt p).mem.objs.length < 32768 →
    (objOf k.operands).hint ≠ 1 →
    s.budgetFits p (objOf k.operands).tiles = true →
    (List.range (objOf k.operands).tiles).find? (fun i => ((s.defined p (objOf k.operands)).tile? p ((objOf k.operands).base + i)).isNone) = none →
    exec (.objDefine c) s = .next ((s.defined p (objOf k.operands)).finish c .ok 0)) ∧
  -- OBJ_HINT (R54)
  (∀ (s : State) (c : CmdRef) (p : Pid) (n : Fin 64) (k : Cmd) (o : Obj),
    s.inline_ c 4 0x41 = some k →
    c.ring = .vf p n →
    objOperandsOk k.operands true false false false = true →
    BitVec.ofNat 3 (leAt k.operands 4 4) < 6 →
    BitVec.ofNat 3 (leAt k.operands 4 4) ≠ 1 →
    (s.prt p).mem.target k.operands = some o →
    o.steward = false →
    o.hint ≠ 1 →
    coreBad (s.coresOf p).length (BitVec.ofNat 3 (leAt k.operands 4 4)) (BitVec.ofNat 8 (leAt k.operands 5 1)) = false →
    (s.prt p).mem.hasBound o = false →
    (s.prt p).mem.anyMoving ((List.range o.tiles).map (o.base + ·)) = false →
    exec (.objHint c) s = .next ((s.modMem p fun m => { m with objs := m.objs.map fun y => if y.id = o.id then { y with hint := BitVec.ofNat 3 (leAt k.operands 4 4), core := BitVec.ofNat 8 (leAt k.operands 5 1) } else y }).finish c .ok 0)) ∧
  -- OBJ_RELEASE (R55)
  (∀ (s : State) (c : CmdRef) (p : Pid) (n : Fin 64) (k : Cmd) (o : Obj),
    s.inline_ c 4 0x42 = some k →
    c.ring = .vf p n →
    objOperandsOk k.operands false false false false = true →
    (s.prt p).mem.target k.operands = some o →
    o.steward = false →
    (s.prt p).mem.hasBound o = false →
    s.hasSchedule p o = false →
    exec (.objRelease c) s = .next (((s.modMem p fun m => { m with objs := m.objs.map fun y => if y.id = o.id then { y with releasing := some c } else y }).modCmd c fun k => { k with stage := .running }).releaseEnd c p)) ∧
  -- OBJ_RELEASE_DRAINED (R55)
  (∀ (s : State) (c : CmdRef) (p : Pid) (n : Fin 64) (o : Obj),
    c.ring = .vf p n →
    (s.prt p).mem.releasedBy c = some o →
    s.rangeBusy p o.base o.tiles = false →
    exec (.objReleaseDrained c) s = .next ((((s.freeRange p o.base o.tiles).modMem p fun m => { m with objs := m.objs.filter (·.id != o.id) }).finish c .ok 0).noteReady c.ring.fn)) ∧
  -- OBJ_QUERY (R57)
  (∀ (s : State) (c : CmdRef) (p : Pid) (n : Fin 64) (k : Cmd) (o : Obj),
    s.inline_ c 4 0x43 = some k →
    c.ring = .vf p n →
    objOperandsOk k.operands false false false true = true →
    (s.prt p).mem.target k.operands = some o →
    leAt k.operands 24 8 % 32 = 0 →
    s.lost c.ring.fn = false →
    exec (.objQuery c) s = .next ((s.dataWrite c.ring (BitVec.ofNat 64 (leAt k.operands 24 8)) ((s.prt p).mem.objRecord o)).finish c .ok 0)) ∧
  -- TILE_CLEAR (R205)
  (∀ (s : State) (c : CmdRef) (p : Pid) (n : Fin 64) (k : Cmd) (o : Obj),
    s.inline_ c 4 0x44 = some k →
    c.ring = .vf p n →
    leAt k.operands 4 4 = 0 →
    leAt k.operands 8 8 / 2 ^ 48 = 0 →
    zeroIn k.operands 20 48 = true →
    leAt k.operands 8 8 % tileBytes = 0 →
    0 < leAt k.operands 16 4 →
    leAt k.operands 16 4 ≤ 16777216 →
    (s.prt p).mem.target k.operands = some o →
    o.steward = false →
    o.base ≤ tileOf (leAt k.operands 8 8) →
    tileOf (leAt k.operands 8 8) + leAt k.operands 16 4 ≤ o.base + o.tiles →
    exec (.tileClear c) s = .next ((((List.range (leAt k.operands 16 4)).foldl (fun s i => s.clearTile p (tileOf (leAt k.operands 8 8) + i)) s).modCmd c fun k => { k with stage := .running }).clearDone c p))

/-- Window accesses that are served, window registers, and BAR width errors; about the windows and the SYS_ERR latch. Where a rule leaves a point open, the operations named follow log entry 36 (the model's choices). -/
def Obligations.WindowAccesses : Prop :=
  -- PARTITION_WINDOW_READ (R63)
  (∀ (s : State) (p : Pid) (off : Nat),
    s.windowsUp = true →
    off < 2 ^ 28 →
    (s.prt p).win.en = true →
    (s.life p).st = .ready ∨ (s.life p).st = .running ∨ (s.life p).st = .napping ∨ (s.life p).st = .suspended →
    (s.prt p).mem.windowReach ((s.prt p).win.base.toNat * 2 ^ 28 + off / 64 * 64) = true →
    exec (.partitionWindowRead p off) s = .next ((s.hostBytes (.vf p) 64).windowAccess p ⟨false, (s.prt p).win.base.toNat * 2 ^ 28 + off / 64 * 64, none⟩)) ∧
  -- PARTITION_WINDOW_WRITE (R63)
  (∀ (s : State) (p : Pid) (off : Nat) (data : Bytes) (en : W64),
    s.windowsUp = true →
    off < 2 ^ 28 →
    (s.prt p).win.en = true →
    (s.life p).st = .ready ∨ (s.life p).st = .running ∨ (s.life p).st = .napping ∨ (s.life p).st = .suspended →
    (s.prt p).mem.windowReach ((s.prt p).win.base.toNat * 2 ^ 28 + off / 64 * 64) = true →
    exec (.partitionWindowWrite p off data en) s = .next ((s.hostBytes (.vf p) ((List.range 64).filter fun i => en.getLsbD i).length).windowAccess p ⟨false, (s.prt p).win.base.toNat * 2 ^ 28 + off / 64 * 64, some (data, en)⟩)) ∧
  -- OPERATOR_WINDOW_READ (R63)
  (∀ (s : State) (p : Pid) (off : Nat),
    s.windowsUp = true →
    off < 2 ^ 30 →
    s.exitRetention.op.win.en = true →
    s.exitRetention.op.win.pid.toNat = p.val →
    (s.exitRetention.life p).st.committed = true →
    (s.exitRetention.prt p).tok.consent = true →
    (s.exitRetention.prt p).mem.windowReach (s.exitRetention.op.win.base.toNat * 2 ^ 30 + off / 64 * 64) = true →
    exec (.operatorWindowRead off) s = .next (s.exitRetention.windowAccess p ⟨true, s.exitRetention.op.win.base.toNat * 2 ^ 30 + off / 64 * 64, none⟩)) ∧
  -- OPERATOR_WINDOW_WRITE (R63)
  (∀ (s : State) (p : Pid) (off : Nat) (data : Bytes) (en : W64),
    s.windowsUp = true →
    off < 2 ^ 30 →
    s.exitRetention.op.win.en = true →
    s.exitRetention.op.win.pid.toNat = p.val →
    (s.exitRetention.life p).st.committed = true →
    (s.exitRetention.prt p).tok.consent = true →
    (s.exitRetention.prt p).mem.windowReach (s.exitRetention.op.win.base.toNat * 2 ^ 30 + off / 64 * 64) = true →
    exec (.operatorWindowWrite off data en) s = .next (s.exitRetention.windowAccess p ⟨true, s.exitRetention.op.win.base.toNat * 2 ^ 30 + off / 64 * 64, some (data, en)⟩)) ∧
  -- WINDOW_CONTROL_WRITE (R67)
  (∀ (s : State) (p : Pid) (v : W32),
    s.open_ (.vf p) = true →
    exec (.windowControlWrite (.vf p) 0x80000 v) s = .next (s.modWin p fun w => { w with en := v.getLsbD 0 })) ∧
  -- WINDOW_CONTROL_WRITE (R67)
  (∀ (s : State) (p : Pid) (v : W32),
    s.open_ (.vf p) = true →
    exec (.windowControlWrite (.vf p) 0x80004 v) s = .next (s.modWin p fun w => { w with base := v.truncate 20 })) ∧
  -- WINDOW_CONTROL_WRITE (R67)
  (∀ (s : State) (v : W32),
    s.open_ .pf = true →
    exec (.windowControlWrite .pf 0x400100 v) s = .next (s.modOpw fun w => { w with en := v.getLsbD 0, pid := (v >>> 16).truncate 5 })) ∧
  -- WINDOW_CONTROL_WRITE (R67)
  (∀ (s : State) (v : W32),
    s.open_ .pf = true →
    exec (.windowControlWrite .pf 0x400104 v) s = .next (s.modOpw fun w => { w with base := v.truncate 18 })) ∧
  -- BAR_WIDTH_ERROR (R61)
  (∀ (s : State) (fn : Fn) (off : Nat),
    s.present fn = true →
    (s.fnSt fn).barWidth = false →
    exec (.barWidthError fn off true) s = .next ((s.emit (.regValue fn off 0)).modFn fn fun f => if f.barWidth then f else { f with barWidth := true, errValid := true, errAddr := BitVec.ofNat 26 off })) ∧
  -- SYS_ERR_CLEAR (R579)
  (∀ (s : State) (v : W32),
    s.pfServes 0x10 = true →
    v.getLsbD 0 = true →
    exec (.sysErrClear .pf v) s = .next (s.modFn .pf fun f => { f with barWidth := false, errValid := false, errAddr := 0 })) ∧
  -- SYS_ERR_CLEAR (R579)
  (∀ (s : State) (p : Pid) (v : W32),
    s.vfFull p = true →
    v.getLsbD 0 = true →
    exec (.sysErrClear (.vf p) v) s = .next (s.modFn (.vf p) fun f => { f with barWidth := false, errValid := false, errAddr := 0 }))

/-- Rings: configuration, doorbells, cancels, consumption, starts, index writebacks and interrupts; about the rings and their commands. Where a rule leaves a point open, the operations named follow log entry 37 (the model's choices). -/
def Obligations.RingsAndDoorbells : Prop :=
  -- RING_CONFIG_WRITE (R74)
  (∀ (s : State) (r : RingId) (off : Nat) (v : W32),
    s.open_ r.fn = true →
    exec (.ringConfigWrite r off v) s = .next (s.modRing r (·.configure off v))) ∧
  -- RING_ENABLE (R75)
  (∀ (s : State) (r : RingId),
    s.open_ r.fn = true →
    (s.ring r).state = .disabled →
    s.validConfig r = true →
    exec (.ringEnable r) s = .next ((s.modRing r fun R => { R with state := .active, errCode := 0, dev := ⟨false, 0⟩, sw := ⟨false, 0⟩, evtSeq := 0, sinceIrq := 0, firstAt := none, iwbDue := false, iwbLast := none, rebased := false, dirty := false, cancels := [] }).ringOpened r)) ∧
  -- RING_DISABLE (R76)
  (∀ (s : State) (r : RingId),
    s.open_ r.fn = true →
    (s.ring r).state = .active →
    (s.ring r).isKind 0 = true →
    exec (.ringDisable r) s = .next (((s.modRing r fun R => { R with state := .stopping }).cancelAll r (s.ring r).unstarted).stopIfDone r)) ∧
  -- RING_ENTRY_ACCESS_FAIL (R76)
  (∀ (s : State) (r : RingId),
    (s.ring r).state = .active ∨ (s.ring r).state = .stopping →
    s.lost r.fn = false →
    (s.ring r).queued = true →
    exec (.ringEntryAccessFail r .entryRead) s = .next (s.ringError r 1 ((s.ring r).base + BitVec.ofNat 64 ((s.ring r).dev.idx * (s.ring r).entrySize)))) ∧
  -- RING_ENTRY_ACCESS_FAIL (R76)
  (∀ (s : State) (r : RingId),
    (s.ring r).state = .active ∨ (s.ring r).state = .stopping →
    s.lost r.fn = false →
    (s.ring r).isKind 0 = false →
    (s.ring r).dev ≠ ⟨false, 0⟩ →
    exec (.ringEntryAccessFail r .entryWrite) s = .next (s.ringError r 2 ((s.ring r).base + BitVec.ofNat 64 (((s.ring r).dev.prev (s.ring r).size).idx * (s.ring r).entrySize)))) ∧
  -- RING_ENTRY_ACCESS_FAIL (R76)
  (∀ (s : State) (r : RingId),
    (s.ring r).state = .active ∨ (s.ring r).state = .stopping →
    s.lost r.fn = false →
    (s.ring r).iwbEn = true →
    exec (.ringEntryAccessFail r .indexWrite) s = .next (s.modRing r fun R => { R with iwbEn := false, errFlags := R.errFlags ||| 0x08 })) ∧
  -- DOORBELL_WRITE (R87)
  (∀ (s : State) (r : RingId) (v : W32) (n : Nat),
    s.open_ r.fn = true →
    s.lost r.fn = false →
    (s.ring r).state = .active →
    (idxOf v).idx < (s.ring r).size →
    (s.ring r).claims (idxOf v) = some n →
    exec (.doorbellWrite r v) s = .next ((s.modRing r fun R => { R with sw := idxOf v }).doorbellEffect r (s.ring r).sw)) ∧
  -- DB_CANCEL (R94)
  (∀ (s : State) (r : RingId) (v : W32),
    s.open_ r.fn = true →
    s.lost r.fn = false →
    (s.ring r).isKind 0 = true →
    (s.ring r).state = .active →
    v.getLsbD 31 = true →
    exec (.dbCancel r v) s = .next (s.modRing r fun R => { R with cxlDone := false, cxlCount := satAdd 0 ((s.ring r).cmds.filter fun k => k.unstarted && !k.cancelled).length, cxlSome := R.cmds.any fun k => !k.unstarted, cancels := R.cancels ++ [⟨none, R.consumed + (occupancy (s.ring r).sw (s.ring r).dev (s.ring r).size).getD 0⟩], cmds := R.cmds.map fun k => if k.unstarted then { k with cancelled := true } else k })) ∧
  -- CANCEL_MATCHING_DONE (R95)
  (∀ (s : State) (r : RingId),
    (s.ring r).cancels ≠ [] →
    (s.ring r).cancels.any (fun q => (s.ring r).consumed < q.bound && (s.ring r).state != .error) = false →
    exec (.cancelMatchingDone r) s = .next (((s.modRing r fun R => { R with cancels := [], cxlDone := true }).cancelAll r ((s.ring r).cmds.filter fun k => k.unstarted && k.cancelled)).noteReady r.fn)) ∧
  -- COMMAND_CONSUME (R80)
  (∀ (s : State) (r : RingId) (e : Bytes),
    s.consumable r = true →
    s.consumeOutcome r (s.newCmd r e) e = none →
    exec (.commandConsume r e) s = .next (
      let t := s.fetchLines r.fn ((s.ring r).base + BitVec.ofNat 64 (64 * (s.ring r).dev.idx)) 64
      let k := s.newCmd r e
      (((t.modRing r fun R => { R with dev := R.dev.next R.size, consumed := R.consumed + 1, iwbDue := true, cmds := R.cmds ++ [k], cxlCount := if k.cancelled then satAdd R.cxlCount 1 else R.cxlCount }).bellDone r).busyFn r.fn).noteReady r.fn)) ∧
  -- COMMAND_READY_START (R108)
  (∀ (s : State) (r : RingId) (k : Cmd),
    (s.ring r).head? = some k →
    s.conditions r k = true →
    s.needsFlush r k = false →
    k.hdr.engine = 0 →
    exec (.commandReadyStart r) s = .next ((s.modCmd ⟨r, k.seq⟩ fun k => { k with stage := .started }).noteReady r.fn)) ∧
  -- COMMAND_READY_START (R108)
  (∀ (s : State) (r : RingId) (k : Cmd),
    (s.ring r).head? = some k →
    s.conditions r k = true →
    s.needsFlush r k = false →
    k.hdr.engine ≠ 0 →
    s.slotsUsed r.fn k.hdr.engine.toNat < s.slots r.fn k.hdr.engine.toNat →
    s.winner r.fn k.hdr.engine.toNat = some r →
    exec (.commandReadyStart r) s = .next (
      let t := (s.spend r k.hdr.engine.toNat k).modCmd ⟨r, k.seq⟩ fun k => { k with stage := .started }
      (if k.hdr.engine.toNat = 2 then t.takeTiger ⟨r, k.seq⟩ else t).noteReady r.fn)) ∧
  -- COMMAND_PROMOTION (R110)
  (∀ (s : State) (c : CmdRef) (k : Cmd) (t : Nat),
    s.cmd? c = some k →
    k.stage = .waiting →
    k.level = 4 →
    k.readyAt = some t →
    1000000 ≤ s.since t →
    exec (.commandPromotion c) s = .next (s.modCmd c fun k => { k with promoted := true })) ∧
  -- INDEX_WRITEBACK (R81)
  (∀ (s : State) (r : RingId),
    (s.ring r).state ≠ .disabled →
    (s.ring r).iwbEn = true →
    (s.ring r).iwbDue = true →
    s.lost r.fn = false →
    (s.ring r).iwbLast = none →
    exec (.indexWriteback r) s = .next ((s.hostWrite r.fn (s.ring r).iwbAddr (leVec 4 (s.ring r).dev.word)).modRing r fun R => { R with iwbDue := false, iwbLast := some (s.hostWrite r.fn (s.ring r).iwbAddr (leVec 4 (s.ring r).dev.word)).pwr.clk })) ∧
  -- IRQ_MODERATION_TIMEOUT (R90)
  (∀ (s : State) (r : RingId) (t : Nat),
    (s.ring r).firstAt = some t →
    (s.ring r).irqTime ≠ 0 →
    (s.ring r).irqTime.toNat * 1000 ≤ s.since t →
    exec (.irqModerationTimeout r) s = .next ((s.modRing r fun R => { R with sinceIrq := 0, firstAt := none }).msix r.fn (s.ring r).cfgVec))

/-- Mailboxes: posts, releases, placements and the service queue; about the mailboxes and MSI-X. Where a rule leaves a point open, the operations named follow log entries 13, 37 (the model's choices). -/
def Obligations.MailboxMessages : Prop :=
  -- MSIX_UNMASK (R91)
  (∀ (s : State) (fn : Fn) (v : Fin 64) (addr : W64) (data : W32),
    (s.fnSt fn).msix[v].pending = false →
    exec (.msixUnmask fn v addr data) s = .next (s.modFn fn fun f => { f with msixEn := true, msixMask := false, msix := vmod f.msix v fun _ => ⟨addr, data, false, false⟩ })) ∧
  -- MSIX_UNMASK (R91)
  (∀ (s : State) (fn : Fn) (v : Fin 64) (addr : W64) (data : W32),
    (s.fnSt fn).msix[v].pending = true →
    exec (.msixUnmask fn v addr data) s = .next ((s.modFn fn fun f => { f with msixEn := true, msixMask := false, msix := vmod f.msix v fun _ => ⟨addr, data, false, false⟩ }).msix fn (BitVec.ofNat 6 v.val))) ∧
  -- MB_IN_POST (R98)
  (∀ (s : State) (v : W32),
    s.open_ .pf = true →
    (s.fnSt .pf).mail.inOwn.getLsbD (v.toNat % 16) = false →
    mailHeaderErr .pf (s.fnSt .pf).mail.inSlots[v.toNat % 16] = 0 →
    exec (.mbInPost .pf v) s = .next (s.modMail .pf fun m => { m with inOwn := setBit m.inOwn ⟨v.toNat % 16, Nat.mod_lt _ (by omega)⟩ true, posted := m.posted ++ [⟨v.toNat % 16, Nat.mod_lt _ (by omega)⟩] })) ∧
  -- MB_OUT_RELEASE (R100)
  (∀ (s : State) (fn : Fn) (v : W32),
    s.open_ fn = true →
    exec (.mbOutRelease fn v) s = .next (s.modMail fn fun m => { m with outValid := m.outValid &&& ~~~(v.truncate 16) })) ∧
  -- MAILBOX_OUTBOUND_PLACE (R100)
  (∀ (s : State) (fn : Fn) (m : OutMsg) (rest : List OutMsg) (i : SlotNo),
    (s.fnSt fn).mail.waiting = m :: rest →
    s.canSend fn = true →
    m.slot = some i →
    m.sender = none →
    exec (.mailboxOutboundPlace fn) s = .next (((s.modMail fn fun b => { b with waiting := rest }).placeMsg fn m).freeInSlot fn i)) ∧
  -- SERVICE_PING (R99)
  (∀ (s : State) (fn : Fn) (i : SlotNo) (b : Bytes),
    s.serviceMsg fn = some (i, b) →
    msgType b = 1 →
    exec (.servicePing fn) s = .next (s.reply fn i 0x8001 ((b.drop 8).take (byteAt b 1).toNat))) ∧
  -- SERVICE_HEARTBEAT (R370)
  (∀ (s : State) (fn : Fn) (i : SlotNo) (b : Bytes),
    s.serviceMsg fn = some (i, b) →
    msgType b = 2 →
    exec (.serviceHeartbeat fn) s = .next ((s.modFn fn fun f => { f with loss := { f.loss with hbLast := some s.pwr.clk, hbFrom := s.pwr.clk } }).freeInSlot fn i)) ∧
  -- SERVICE_TIME (R99)
  (∀ (s : State) (fn : Fn) (i : SlotNo) (b : Bytes),
    s.serviceMsg fn = some (i, b) →
    msgType b = 3 →
    exec (.serviceTime fn) s = .next (s.stamped.reply fn i 0x8003 (leBytes 8 s.stamp))) ∧
  -- SERVICE_UNKNOWN (R99)
  (∀ (s : State) (fn : Fn) (i : SlotNo) (b : Bytes),
    s.serviceMsg fn = some (i, b) →
    3 < (msgType b).toNat ∨ (msgType b).toNat = 0 →
    exec (.serviceUnknown fn) s = .next (s.reply fn i (msgType b ||| 0x8000) [1]))

/-- Control commands, fences and barriers; about the commands, the flushing reads and the barriers. Where a rule leaves a point open, the operations named follow log entries 9, 11, 38 (the model's choices). -/
def Obligations.ControlClassCommands : Prop :=
  -- EXEC_LIST (R105)
  (∀ (s : State) (c : CmdRef) (l : Bytes) (k : Cmd) (ops : List ListOp),
    s.cmd? c = some k →
    k.stage = .started →
    k.hdr.opc = 0x80 →
    k.hdr.engine ≠ 0 →
    k.hdr.engine ≠ 3 →
    s.fnRuns c.ring.fn = true →
    s.canRead c.ring.fn (BitVec.ofNat 64 (leAt k.operands 0 8)) (leAt k.operands 8 4) = true →
    parseList (leAt k.operands 0 8) (leAt k.operands 8 4) l = .ok ops →
    zeroIn k.operands 12 48 = true →
    exec (.execList c l) s = .next (((s.fetchLines c.ring.fn (BitVec.ofNat 64 (leAt k.operands 0 8)) (leAt k.operands 8 4)).modCmd c fun k => { k with stage := .running, wait := none, run := some { ops := ops, next := 0, active := [], error := none, warning := none, chain := none } }).advance c)) ∧
  -- CONTROL_NOP (R103)
  (∀ (s : State) (c : CmdRef) (k : Cmd),
    s.inline_ c 0 1 = some k →
    zeroIn k.operands 0 48 = true →
    exec (.controlNop c) s = .next (s.finish c .ok 0)) ∧
  -- CONTROL_FENCE (R113)
  (∀ (s : State) (c : CmdRef) (k : Cmd),
    s.inline_ c 0 2 = some k →
    zeroIn k.operands 0 48 = true →
    (s.ring c.ring).dirty = true →
    exec (.controlFence c) s = .next (s.modCmd c fun k => { k with stage := .postFlush s.pwr.clk .ok 0 })) ∧
  -- CONTROL_FENCE (R113)
  (∀ (s : State) (c : CmdRef) (k : Cmd),
    s.inline_ c 0 2 = some k →
    zeroIn k.operands 0 48 = true →
    (s.ring c.ring).dirty = false →
    exec (.controlFence c) s = .next (s.conclude c .ok 0)) ∧
  -- FLUSH_READ_DONE (R113)
  (∀ (s : State) (c : CmdRef) (k : Cmd) (t : Nat) (st : Status) (d : W32),
    s.cmd? c = some k →
    s.lost c.ring.fn = false →
    k.stage = .postFlush t st d →
    exec (.flushReadDone (.cmd c)) s = .next ((s.confirmed c).conclude c st d)) ∧
  -- FENCE_TIMEOUT (R114)
  (∀ (s : State) (c : CmdRef) (k : Cmd) (t : Nat) (st : Status) (d : W32),
    s.cmd? c = some k →
    k.stage = .postFlush t st d →
    s.fenceTmo c.ring.fn * 1000000 ≤ s.since t →
    s.lost c.ring.fn = false →
    exec (.fenceTimeout c) s = .next (s.conclude c .fenceTimeout 0xF0)) ∧
  -- BAR_CFG (R117)
  (∀ (s : State) (c : CmdRef) (p : Pid) (n : Fin 64) (k : Cmd),
    s.inline_ c 0 3 = some k →
    c.ring = .vf p n →
    barCfgClean k.operands = true →
    (s.bar p ⟨leAt k.operands 0 1 % 32, Nat.mod_lt _ (by omega)⟩).arrived = 0 →
    bitOf (leAt k.operands 6 1) 0 = false →
    BitVec.ofNat 12 (leAt k.operands 4 2) ≠ 0 →
    exec (.barCfg c) s = .next ((s.modBar p ⟨leAt k.operands 0 1 % 32, Nat.mod_lt _ (by omega)⟩ fun _ => { Barrier.reset with cfg := true, fabric := false, count := BitVec.ofNat 12 (leAt k.operands 4 2), group := BitVec.ofNat 16 (leAt k.operands 8 2), timeout := BitVec.ofNat 32 (leAt k.operands 12 4) }).finish c .ok 0)) ∧
  -- BARRIER_ARRIVAL (R118)
  (∀ (s : State) (c : CmdRef) (p : Pid) (n : Fin 64) (k : Cmd) (st : Status) (d : W32) (g : Nat),
    s.cmd? c = some k →
    c.ring = .vf p n →
    k.stage = .worked st d →
    (s.bar p k.hdr.barId).meets = .waits g →
    exec (.barrierArrival c) s = .next (((s.modCmd c fun k => { k with stage := .atBarrier g st d }).countArrival p k.hdr.barId).releaseIfFull p k.hdr.barId)) ∧
  -- FABRIC_BARRIER_RELEASE (R119)
  (∀ (s : State) (p : Pid) (b : BarNo),
    (s.bar p b).cfg = true →
    (s.bar p b).fabric = true →
    (s.bar p b).broken = false →
    (s.bar p b).count.toNat ≤ (s.bar p b).arrived →
    exec (.fabricBarrierRelease p b) s = .next ((s.wakePartition p).releaseBarrier p b)) ∧
  -- BARRIER_TIMEOUT (R120)
  (∀ (s : State) (p : Pid) (b : BarNo) (t : Nat),
    (s.bar p b).firstAt = some t →
    (s.bar p b).cfg = true →
    (s.bar p b).broken = false →
    (s.bar p b).timeout ≠ 0 →
    (s.life p).pausedAt = none →
    (s.bar p b).timeout.toNat * 1000 ≤ s.since t →
    exec (.barrierTimeout p b) s = .next (s.breakBarrier p b .fenceTimeout (BitVec.ofNat 32 (0x10000 + b.val))))

/-- List operations of the control class; about the runs of command lists. Where a rule leaves a point open, the operations named follow log entry 14 (the model's choices). -/
def Obligations.ControlListOperations : Prop :=
  -- LIST_NOP (R107)
  (∀ (s : State) (o : OpRef) (k : Cmd) (x : ListOp),
    s.nextOp o 0 0x80 = some (k, x) →
    exec (.listNop o) s = .next (s.opInstant o .ok 0)) ∧
  -- MB_RECV (R99)
  (∀ (s : State) (o : OpRef) (p : Pid) (n : Fin 64) (k : Cmd) (x : ListOp),
    o.cmd.ring = .vf p n →
    s.nextOp o 0 0x81 = some (k, x) →
    recvOk x = true →
    s.inOneObject o.cmd p (x.field 16 8) 256 = none →
    exec (.mbRecv o) s = .next (s.recvNow o p x k false)) ∧
  -- MB_RECV_TIMEOUT (R99)
  (∀ (s : State) (o : OpRef) (k : Cmd) (a : ActiveOp),
    s.activeOp o = some (k, a) →
    a.op.lop = 0x81 →
    a.op.field 12 4 ≠ 0 →
    a.op.field 12 4 * 1000 ≤ s.since a.since →
    exec (.mbRecvTimeout o) s = .next (s.opEnd o .fenceTimeout (BitVec.ofNat 32 (0x30000 + a.op.field 8 1)))) ∧
  -- MB_SEND (R100)
  (∀ (s : State) (o : OpRef) (p : Pid) (n : Fin 64) (k : Cmd) (x : ListOp),
    o.cmd.ring = .vf p n →
    s.nextOp o 0 0x82 = some (k, x) →
    sendOk x = true →
    x.field 9 1 = 0 →
    s.blocked p (tilesOf (x.field 16 8) 0) (s.tagOf o.cmd.ring k.hdr) = false →
    (s.loaded p (x.field 16 8) 0).canSend (.vf p) = true →
    ((s.loaded p (x.field 16 8) 0).fnSt (.vf p)).mail.waiting = [] →
    exec (.mbSend o) s = .next (((s.loaded p (x.field 16 8) 0).placeMsg (.vf p) ⟨x.field 8 1, BitVec.ofNat 16 (x.field 10 2), s.load p (x.field 16 8) 0, none, some o⟩).opInstant o .ok 0)) ∧
  -- BAR_ARRIVE (R118)
  (∀ (s : State) (o : OpRef) (p : Pid) (n : Fin 64) (k : Cmd) (x : ListOp) (g : Nat),
    o.cmd.ring = .vf p n →
    s.nextOp o 0 0x83 = some (k, x) →
    x.field 8 1 < 32 →
    x.zero 9 16 = true →
    (s.bar p ⟨x.field 8 1 % 32, Nat.mod_lt _ (by omega)⟩).meets = .waits g →
    exec (.barArrive o) s = .next (((s.opBegin o { s.newOp o x [] with gen := some g }).countArrival p ⟨x.field 8 1 % 32, Nat.mod_lt _ (by omega)⟩).releaseIfFull p ⟨x.field 8 1 % 32, Nat.mod_lt _ (by omega)⟩)) ∧
  -- TIMESTAMP (R107)
  (∀ (s : State) (o : OpRef) (k : Cmd) (x : ListOp),
    s.nextOp o 0 0x84 = some (k, x) →
    x.lop = 0x84 →
    x.field 8 8 % 8 = 0 →
    s.lost o.cmd.ring.fn = false →
    exec (.timestamp o) s = .next ((s.stamped.dataWrite o.cmd.ring (BitVec.ofNat 64 (x.field 8 8)) (leBytes 8 s.stamp)).opInstant o .ok 0)) ∧
  -- WRITE_VALUE (R107)
  (∀ (s : State) (o : OpRef) (k : Cmd) (x : ListOp),
    s.nextOp o 0 0x85 = some (k, x) →
    x.lop = 0x85 →
    x.field 8 8 % 8 = 0 →
    s.lost o.cmd.ring.fn = false →
    exec (.writeValue o) s = .next ((s.dataWrite o.cmd.ring (BitVec.ofNat 64 (x.field 8 8)) (leBytes 8 (x.field 16 8))).opInstant o .ok 0))

/-- Commits and revokes of epochs, decisions of a job, and TNT_EPOCH; about the epoch state. Where a rule leaves a point open, the operations named follow log entries 12, 30 (the model's choices). -/
def Obligations.EpochDecisions : Prop :=
  -- EPOCH_COMMIT (R121)
  (∀ (s : State) (c : CmdRef) (p : Pid) (n : Fin 64) (k : Cmd),
    s.inline_ c 0 4 = some k →
    c.ring = .vf p n →
    epochOperandsOk k.operands = true →
    leAt k.operands 0 1 = 0 →
    k.hdr.epoch.ahead (s.prt p).ep.c = true →
    exec (.epochCommit c) s = .next (((s.commitEpoch p k.hdr.epoch).noteReady (.vf p)).finish c .ok 0)) ∧
  -- EPOCH_REVOKE (R122)
  (∀ (s : State) (c : CmdRef) (p : Pid) (n : Fin 64) (k : Cmd),
    s.inline_ c 0 5 = some k →
    c.ring = .vf p n →
    epochOperandsOk k.operands = true →
    leAt k.operands 0 1 = 0 →
    (s.prt p).ep.check k.hdr.epoch = .ok →
    exec (.epochRevoke c) s = .next ((s.revokeEpoch p k.hdr.epoch).finish c .ok 0)) ∧
  -- JOB_EPOCH_DECISION (R123)
  (∀ (s : State) (p : Pid) (e : Epoch) (b : Bool),
    (s.life p).st.committed = true →
    exec (.jobEpochDecision p e b) s = .next (s.decideJob p e b)) ∧
  -- TNT_EPOCH_WRITE (R125)
  (∀ (s : State) (p : Pid) (v : W32),
    s.vfFull p = true →
    (s.life p).st = .ready →
    exec (.tntEpochWrite p v) s = .next (s.modPrt p fun P => { P with ep := { P.ep with c := v, revoked := [], byCommit := false } }))

/-- Compute operations: checks, cores and results; about the compute operations and tile data. Where a rule leaves a point open, the operations named follow log entries 15, 16 (the model's choices). -/
def Obligations.ComputeOperationsStartAndEnd : Prop :=
  -- MATMUL (R145)
  (∀ (s : State) (o : OpRef) (p : Pid) (n : Fin 64) (k : Cmd) (x : ListOp) (C : ComputeOp),
    o.cmd.ring = .vf p n →
    s.nextOp o 1 1 = some (k, x) →
    checkCompute (s.coresOf p).length x = .ok C →
    s.pairsRead p C.readTiles = [] →
    s.deny o.cmd p C.tiles = none →
    s.blocked p C.tiles (s.tagOf o.cmd.ring k.hdr) = false →
    exec (.matmul o) s = .next ((s.runCompute p C (s.tagOf o.cmd.ring k.hdr) k.dead).opBegin o (s.newOp o x C.spans))) ∧
  -- CONVERT (R141)
  (∀ (s : State) (o : OpRef) (p : Pid) (n : Fin 64) (k : Cmd) (x : ListOp) (C : ComputeOp),
    o.cmd.ring = .vf p n →
    s.nextOp o 1 2 = some (k, x) →
    checkCompute (s.coresOf p).length x = .ok C →
    s.pairsRead p C.readTiles = [] →
    s.deny o.cmd p C.tiles = none →
    s.blocked p C.tiles (s.tagOf o.cmd.ring k.hdr) = false →
    exec (.convert o) s = .next ((s.runCompute p C (s.tagOf o.cmd.ring k.hdr) k.dead).opBegin o (s.newOp o x C.spans))) ∧
  -- VEC_EW (R148)
  (∀ (s : State) (o : OpRef) (p : Pid) (n : Fin 64) (k : Cmd) (x : ListOp) (C : ComputeOp),
    o.cmd.ring = .vf p n →
    s.nextOp o 1 3 = some (k, x) →
    checkCompute (s.coresOf p).length x = .ok C →
    s.pairsRead p C.readTiles = [] →
    s.deny o.cmd p C.tiles = none →
    s.blocked p C.tiles (s.tagOf o.cmd.ring k.hdr) = false →
    exec (.vecEw o) s = .next ((s.runCompute p C (s.tagOf o.cmd.ring k.hdr) k.dead).opBegin o (s.newOp o x C.spans))) ∧
  -- VEC_RED (R149)
  (∀ (s : State) (o : OpRef) (p : Pid) (n : Fin 64) (k : Cmd) (x : ListOp) (C : ComputeOp),
    o.cmd.ring = .vf p n →
    s.nextOp o 1 4 = some (k, x) →
    checkCompute (s.coresOf p).length x = .ok C →
    s.pairsRead p C.readTiles = [] →
    s.deny o.cmd p C.tiles = none →
    s.blocked p C.tiles (s.tagOf o.cmd.ring k.hdr) = false →
    exec (.vecRed o) s = .next ((s.runCompute p C (s.tagOf o.cmd.ring k.hdr) k.dead).opBegin o (s.newOp o x C.spans))) ∧
  -- COMPUTE_OP_END (R130)
  (∀ (s : State) (o : OpRef) (p : Pid) (n : Fin 64) (k : Cmd) (a : ActiveOp) (C : ComputeOp),
    o.cmd.ring = .vf p n →
    s.activeOp o = some (k, a) →
    k.hdr.engine = 1 →
    a.op.lop.toNat ≤ 4 →
    s.fnRuns (.vf p) = true →
    (s.life p).timingAct = false →
    a.lostCores = [] →
    checkCompute ((s.letPairsGo p (· = o)).coresOf p).length a.op = .ok C →
    exec (.computeOpEnd o) s = .next (((s.letPairsGo p (· = o)).countProducer p C.out.tiles).opEnd o .ok 0)) ∧
  -- READ_AHEAD_EXPIRE (R200)
  (∀ (s : State) (p : Pid) (i : Nat) (x : Staged),
    (s.prt p).mem.staged[i]? = some x →
    10000000 ≤ s.since x.at_ →
    exec (.readAheadExpire p i) s = .next (s.modMem p fun m => { m with staged := m.staged.eraseIdx i }))

/-- Stream units: LOAD, its end, START and STOP; about the stream units. Where a rule leaves a point open, the operations named follow log entries 17, 18 (the model's choices). -/
def Obligations.StreamUnitCommands : Prop :=
  -- SU_LOAD (R153)
  (∀ (s : State) (u : UnitRef),
    s.suOpen u = true →
    (s.unit u).st = .empty ∨ (s.unit u).st = .loaded ∨ (s.unit u).st = .done ∨ (s.unit u).st = .fault →
    exec (.suLoad u) s = .next (((s.modUnit u fun x => { x with st := .loading, cmdRej := false, rt := false }).modCore u.pid u.core fun c => { c with signals := 0 }).busyNow u.pid)) ∧
  -- SU_LOAD_DONE (R153)
  (∀ (s : State) (u : UnitRef) (n : Nat),
    (s.unit u).st = .loading →
    s.sledUp = true →
    n = leAt (s.load u.pid (s.unit u).progTa.toNat 128) 2 2 →
    1 ≤ n →
    n ≤ 1024 →
    (s.unit u).progTa.toNat % 64 = 0 →
    (match (s.prt u.pid).mem.objOf (tileOf (s.unit u).progTa.toNat) with | some o => !o.steward && (tilesOf (s.unit u).progTa.toNat (128 + 4 * n)).all fun t => t < o.base + o.tiles | none => false) = true →
    (s.prt u.pid).mem.deny false (tilesOf (s.unit u).progTa.toNat (128 + 4 * n)) = none →
    s.blocked u.pid (tilesOf (s.unit u).progTa.toNat (128 + 4 * n)) (s.unitTag u) = false →
    exec (.suLoadDone u) s = .next ((s.loaded u.pid (s.unit u).progTa.toNat (128 + 4 * n)).loadEnd u (parseImage (s.load u.pid (s.unit u).progTa.toNat (128 + 4 * n))))) ∧
  -- SU_START (R159)
  (∀ (s : State) (u : UnitRef),
    s.suOpen u = true →
    (s.unit u).st = .loaded ∨ (s.unit u).st = .done →
    ((s.modUnit u fun x => { x.drop.restart with st := .running, cmdRej := false, rt := false, frame := 0, tag := x.epochReg }).life u.pid).st ≠ .napping →
    exec (.suStart u false) s = .next ((s.modUnit u fun x => { x.drop.restart with st := .running, cmdRej := false, rt := false, frame := 0, tag := x.epochReg }).busyNow u.pid)) ∧
  -- SU_START (R159)
  (∀ (s : State) (u : UnitRef),
    s.suOpen u = true →
    (s.unit u).st = .loaded ∨ (s.unit u).st = .done →
    (s.prt u.pid).rt.en = true →
    exec (.suStart u true) s = .next (s.modUnit u fun x => { x.drop with st := .frameWait, cmdRej := false, rt := true, tag := x.epochReg, missedTo := 0 })) ∧
  -- SU_STOP (R159)
  (∀ (s : State) (u : UnitRef),
    s.suOpen u = true →
    (s.unit u).st = .running ∨ (s.unit u).st = .frameWait →
    exec (.suStop u) s = .next ((s.modUnit u fun x => { x.drop with st := .loaded, cmdRej := false, rt := false }).breakPairsOf u))

/-- Every stream instruction where it completes; about the registers of the stream units and the signals. Where a rule leaves a point open, the operations named follow log entry 41 (the model's choices). -/
def Obligations.StreamInstructionsExecute : Prop :=
  -- STREAM_NOP (R154)
  (∀ (s : State) (u : UnitRef) (w : Nat),
    s.suInstr u 0 = some w →
    exec (.streamNop u) s = .next (s.suNext u)) ∧
  -- SETI (R154)
  (∀ (s : State) (u : UnitRef) (w : Nat),
    s.suInstr u 1 = some w →
    bitsOf w 22 4 < 8 →
    exec (.seti u) s = .next ((s.modA u (bitsOf w 22 4) fun a => BitVec.ofNat 64 (setPart 64 a.toNat (bitsOf w 20 2) (bitsOf w 0 16))).suNext u)) ∧
  -- SETI (R154)
  (∀ (s : State) (u : UnitRef) (w : Nat),
    s.suInstr u 1 = some w →
    8 ≤ bitsOf w 22 4 →
    bitsOf w 22 4 < 12 →
    exec (.seti u) s = .next ((s.modL u (bitsOf w 22 4 - 8) fun _ => BitVec.ofNat 16 (bitsOf w 0 16)).suNext u)) ∧
  -- ADDS (R154)
  (∀ (s : State) (u : UnitRef) (w : Nat),
    s.suInstr u 2 = some w →
    exec (.adds u) s = .next ((s.modA u (bitsOf w 23 3) fun a => addLow a ((s.unit u).sVal (bitsOf w 21 2))).suNext u)) ∧
  -- ADDI (R154)
  (∀ (s : State) (u : UnitRef) (w : Nat),
    s.suInstr u 3 = some w →
    exec (.addi u) s = .next ((s.modA u (bitsOf w 23 3) fun a => addLow a (64 * signed 16 (bitsOf w 0 16))).suNext u)) ∧
  -- FADD (R154)
  (∀ (s : State) (u : UnitRef) (w : Nat),
    s.suInstr u 4 = some w →
    exec (.fadd u) s = .next ((s.modA u (bitsOf w 23 3) fun a => addLow a (((if (s.unit u).rt then (s.unit u).frame.toNat else 0) % (bitsOf w 0 10 + 1) : Nat) * (s.unit u).sVal (bitsOf w 21 2))).suNext u)) ∧
  -- LOOP (R154)
  (∀ (s : State) (u : UnitRef) (w : Nat),
    s.suInstr u 5 = some w →
    bitsOf w 0 16 ≠ 0 →
    exec (.loop u) s = .next ((s.modL u (bitsOf w 24 2) fun _ => BitVec.ofNat 16 (bitsOf w 0 16)).suNext u)) ∧
  -- ENDL (R154)
  (∀ (s : State) (u : UnitRef) (w : Nat),
    s.suInstr u 6 = some w →
    (s.unit u).lVal (bitsOf w 24 2) = 1 →
    exec (.endl u) s = .next ((s.modL u (bitsOf w 24 2) fun _ => 0).suNext u)) ∧
  -- ENDL (R154)
  (∀ (s : State) (u : UnitRef) (w : Nat),
    s.suInstr u 6 = some w →
    (s.unit u).lVal (bitsOf w 24 2) ≠ 1 →
    bitsOf w 0 10 ≤ (s.unit u).pc →
    exec (.endl u) s = .next ((s.modL u (bitsOf w 24 2) fun _ => (s.unit u).lVal (bitsOf w 24 2) - 1).suGo u ((s.unit u).pc - bitsOf w 0 10))) ∧
  -- MOV (R155)
  (∀ (s : State) (u : UnitRef) (w : Nat) (src dst : MovAddr),
    s.suInstr u 7 = some w →
    s.movAddr u ((s.unit u).aVal (bitsOf w 23 3)) false (64 * bitsOf w 0 11) = some src →
    s.movAddr u ((s.unit u).aVal (bitsOf w 20 3)) true (64 * bitsOf w 0 11) = some dst →
    src.pair = none →
    (s.prt u.pid).mem.deny false (tilesOf src.ta (64 * bitsOf w 0 11) ++ tilesOf dst.ta (64 * bitsOf w 0 11)) = none →
    s.blocked u.pid (tilesOf src.ta (64 * bitsOf w 0 11) ++ tilesOf dst.ta (64 * bitsOf w 0 11)) (s.unitTag u) = false →
    (s.core u.pid u.core).moving < 2 →
    exec (.mov u) s = .next (s.movIssue u w src dst (64 * bitsOf w 0 11))) ∧
  -- MOV_END (R156)
  (∀ (s : State) (u : UnitRef) (j : Nat) (m : MovRun),
    (s.unit u).movs[j]? = some m →
    s.sledUp = true →
    m.holds = none →
    m.live = true →
    ((s.modUnit u fun x => { x with movs := x.movs.eraseIdx j }).unit u).st = .running →
    exec (.movEnd u j) s = .next ((s.modUnit u fun x => { x with movs := x.movs.eraseIdx j }).suNext u)) ∧
  -- SWAP (R166)
  (∀ (s : State) (u : UnitRef) (w : Nat),
    s.suInstr u 8 = some w →
    (s.pair (s.suPair u w true)).bound = true →
    (s.pair (s.suPair u w true)).madeBy u = true →
    (s.pair (s.suPair u w true)).open_ = true →
    exec (.swap u) s = .next ((s.swapPair (s.suPair u w true) (s.unitTag u) (s.unitDead u)).suNext u)) ∧
  -- WAITF (R154)
  (∀ (s : State) (u : UnitRef) (w : Nat),
    s.suInstr u 9 = some w →
    (s.pair (s.suPair u w true)).bound = true →
    (s.pair (s.suPair u w true)).open_ = true →
    exec (.waitf u) s = .next (s.suNext u)) ∧
  -- WAITV (R154)
  (∀ (s : State) (u : UnitRef) (w : Nat),
    s.suInstr u 0x0A = some w →
    (s.pair (s.suPair u w false)).bound = true →
    (s.pair (s.suPair u w false)).ready = true →
    exec (.waitv u) s = .next (s.suNext u)) ∧
  -- REL (R165)
  (∀ (s : State) (u : UnitRef) (w : Nat),
    s.suInstr u 0x0B = some w →
    (s.pair (s.suPair u w false)).bound = true →
    exec (.rel u) s = .next ((s.modPair (s.suPair u w false) Pair.release).suNext u)) ∧
  -- SIG (R158)
  (∀ (s : State) (u : UnitRef) (w : Nat),
    s.suInstr u 0x0C = some w →
    (unitsOf u.pid).filter (fun v => decide (v.core = u.core) && match (s.unit v).wsig with | some (k, _) => decide (k = bitsOf w 22 4) | none => false) = [] →
    exec (.sig u) s = .next ((s.modCore u.pid u.core fun c => { c with signals := c.signals ||| BitVec.ofNat 16 (2 ^ bitsOf w 22 4) }).suNext u)) ∧
  -- WSIG (R158)
  (∀ (s : State) (u : UnitRef) (w : Nat),
    s.suInstr u 0x0D = some w →
    (s.core u.pid u.core).signals.getLsbD (bitsOf w 22 4) = true →
    exec (.wsig u) s = .next ((s.modCore u.pid u.core fun c => { c with signals := if bitOf w 21 then c.signals &&& ~~~(BitVec.ofNat 16 (2 ^ bitsOf w 22 4)) else c.signals }).suNext u)) ∧
  -- STREAM_BAR (R174)
  (∀ (s : State) (u : UnitRef) (w g : Nat),
    s.suInstr u 0x0E = some w →
    (s.bar u.pid ⟨bitsOf w 21 5, by unfold bitsOf; omega⟩).meets = .waits g →
    exec (.streamBar u) s = .next (((s.suWait u (.barrier ⟨bitsOf w 21 5, by unfold bitsOf; omega⟩ g false)).countArrival u.pid ⟨bitsOf w 21 5, by unfold bitsOf; omega⟩).releaseIfFull u.pid ⟨bitsOf w 21 5, by unfold bitsOf; omega⟩)) ∧
  -- STREAM_END (R159)
  (∀ (s : State) (u : UnitRef) (w : Nat),
    s.suInstr u 0x11 = some w →
    bitOf w 20 = false →
    exec (.streamEnd u) s = .next (s.modUnit u fun x => { x.drop with st := .done, rt := false })) ∧
  -- STREAM_EPOCH (R154)
  (∀ (s : State) (u : UnitRef) (w : Nat),
    s.suInstr u 0x12 = some w →
    exec (.streamEpoch u) s = .next ((s.modUnit u fun x => { x with tag := x.tag + BitVec.ofNat 32 (bitsOf w 0 16) }).suNext u)) ∧
  -- DLINE (R176)
  (∀ (s : State) (u : UnitRef) (w : Nat),
    s.suInstr u 0x0F = some w →
    (s.unit u).rt = true →
    exec (.dline u) s = .next ((s.modUnit u fun x => { x with deadline := x.frameAt + bitsOf w 0 16 * 1000 }).suNext u)) ∧
  -- FEND (R177)
  (∀ (s : State) (u : UnitRef) (w : Nat),
    s.suInstr u 0x10 = some w →
    (s.unit u).rt = true →
    s.pwr.time.toNat ≤ (s.unit u).deadline →
    (s.prt u.pid).rt.curStart = (s.unit u).frameAt →
    exec (.fend u) s = .next (s.modUnit u fun x => { x.drop with st := .frameWait, missedTo := 0 }))

/-- Real-time frames, deadlines and buffer pairs; about real-time control and buffer pairs. Where a rule leaves a point open, the operations named follow log entries 19, 41 (the model's choices). -/
def Obligations.FramesAndBufferPairs : Prop :=
  -- RT_CTL_WRITE (R175)
  (∀ (s : State) (p : Pid) (v : W32),
    s.vfFull p = true →
    (s.prt p).rt.en = false →
    v.getLsbD 0 = true →
    (s.prt p).rt.valid (BitVec.ofNat 2 (v.toNat / 2)).toNat = true →
    exec (.rtCtlWrite p v) s = .next (s.modRt p fun t => { t with en := true, policy := BitVec.ofNat 2 (v.toNat / 2), nextPolicy := BitVec.ofNat 2 (v.toNat / 2), shift := 0, begun := false, next := t.firstFrame s.pwr.time.toNat })) ∧
  -- FRAME_START (R177)
  (∀ (s : State) (p : Pid),
    s.framesRun p = true →
    (s.prt p).rt.startOf (s.prt p).rt.next ≤ s.pwr.time.toNat →
    s.frameWaiters p = [] →
    exec (.frameStart p) s = .next (s.modRt p fun t => { t with policy := t.nextPolicy, frame := BitVec.ofNat 32 (s.prt p).rt.next, curStart := (s.prt p).rt.startOf (s.prt p).rt.next, next := (s.prt p).rt.next + 1, begun := true })) ∧
  -- FRAME_START (R177)
  (∀ (s : State) (p : Pid),
    s.framesRun p = true →
    (s.prt p).rt.startOf (s.prt p).rt.next ≤ s.pwr.time.toNat →
    s.frameWaiters p ≠ [] →
    (s.life p).st ≠ .napping →
    exec (.frameStart p) s = .next (((s.frameWaiters p).foldl State.beginFrame (s.modRt p fun t => { t with policy := t.nextPolicy, frame := BitVec.ofNat 32 (s.prt p).rt.next, curStart := (s.prt p).rt.startOf (s.prt p).rt.next, next := (s.prt p).rt.next + 1, begun := true })).busyNow p)) ∧
  -- FRAME_EARLY_WAKE (R177)
  (∀ (s : State) (p : Pid),
    s.framesRun p = true →
    (s.life p).st = .napping →
    s.frameWaiters p ≠ [] →
    (s.prt p).rt.startOf (s.prt p).rt.next ≤ s.pwr.time.toNat →
    exec (.frameEarlyWake p) s = .next (s.wakeQuads p)) ∧
  -- DEADLINE_PASS (R179)
  (∀ (s : State) (u : UnitRef),
    (s.unit u).rt = true →
    (s.unit u).st = .running →
    s.framesRun u.pid = true →
    s.nextDeadline u ≤ s.pwr.time.toNat →
    exec (.deadlinePass (.unit u)) s = .next ((s.unitMiss u).missPolicy u)) ∧
  -- DEADLINE_PASS (R179)
  (∀ (s : State) (c : CmdRef) (k : Cmd),
    s.cmd? c = some k →
    k.unstarted = true →
    k.cancelled = false →
    s.skipsRt c.ring k = true →
    exec (.deadlinePass (.cmd c)) s = .next (((s.cmdMiss c).complete c false .deadlineMiss 0).noteReady c.ring.fn)) ∧
  -- PAIR_BIND (R162)
  (∀ (s : State) (b : PairRef) (x : Obj),
    s.pairPage b = true →
    (s.core b.pid b.core).busy = false →
    s.bindCheck b = .ok x →
    exec (.pairBind b) s = .next (
      let t := s.modPair b fun _ => { Pair.reset with binding := true, obj := x.id, half := x.tiles / 2, base := x.base, timeout := (s.core b.pid b.core).pairTimeout, uses := (s.core b.pid b.core).pairUses.toNat, ccons := (s.core b.pid b.core).pairCcons, cprod := (s.core b.pid b.core).pairCprod, prodCore := (s.core b.pid b.core).pairProdCore, prodUnit := (s.core b.pid b.core).pairProdUnit }
      let t := t.modCore b.pid b.core fun c => { c with busy := true, bindOn := some b.pair }
      let t := t.modMem b.pid fun m => { m with tiles := m.tiles.map fun y => if x.base ≤ y.num && y.num < x.base + x.tiles then { y with bound := true } else y }
      (t.bindMoves b).busyNow b.pid)) ∧
  -- PAIR_BIND_DONE (R162)
  (∀ (s : State) (b : PairRef) (a : Core),
    (s.pair b).binding = true →
    s.absCore b.pid b.core.val = some a →
    (s.pair b).tiles.all (fun t => match s.tile? b.pid t with | some y => decide (y.home = .tileMem a) && !y.isMoving | none => false) = true →
    exec (.pairBindDone b) s = .next ((s.modPair b fun x => { x with bound := true, binding := false }).pairResult b 0)) ∧
  -- PAIR_UNBIND (R162)
  (∀ (s : State) (b : PairRef),
    s.pairPage b = true →
    (s.core b.pid b.core).busy = false →
    (s.pair b).bound = true →
    (s.pair b).holders = [] →
    s.producerRuns b = false →
    exec (.pairUnbind b) s = .next (((s.unbindTiles b).modPair b fun _ => Pair.reset).pairResult b 0)) ∧
  -- PAIR_RESET (R164)
  (∀ (s : State) (b : PairRef),
    s.pairPage b = true →
    (s.core b.pid b.core).busy = false →
    (s.pair b).bound = true →
    exec (.pairReset b) s = .next ((s.modPair b fun x => { x with valid := false, remain := 0, stale := false, quar := none, overrel := false, broken := false }).pairResult b 0)) ∧
  -- PAIR_AUTO_SWAP (R166)
  (∀ (s : State) (b : PairRef),
    (s.pair b).bound = true →
    (s.pair b).cprod = true →
    (s.pair b).uses ≤ (s.pair b).writes →
    (s.pair b).open_ = true →
    exec (.pairAutoSwap b) s = .next ((s.swapPair b none false).modPair b fun x => { x with writes := 0 })) ∧
  -- PAIR_WAIT_TIMEOUT (R168)
  (∀ (s : State) (u : UnitRef) (b : PairRef),
    s.suWaitsOn u = some b →
    (s.life u.pid).pausedAt = none →
    (s.pair b).broken = true →
    exec (.pairWaitTimeout (.unit u)) s = .next (s.suFault u .pairBroken))

/-- Moves of tiles, memory faults and tier settings; about tiles, homes and the tier registers. Where a rule leaves a point open, the operations named follow log entry 7 (the model's choices). -/
def Obligations.TileMovesAndTierEvents : Prop :=
  -- MOVE_COPY_BEGIN (R187)
  (∀ (s : State) (p : Pid) (t : TileNo) (x : Tile) (m : Move),
    s.tile? p t = some x →
    x.st = .moving m →
    m.copying = false →
    s.inFlight p t = false →
    s.copyRoom m.dst = true →
    s.homeUp x.home = true →
    s.homeUp m.dst = true →
    s.sledUp = true →
    exec (.moveCopyBegin p t) s = .next (s.modTile p t fun x => { x with st := .moving { m with copying := true } })) ∧
  -- MOVE_COMPLETE (R187)
  (∀ (s : State) (p : Pid) (t : TileNo) (x : Tile) (m : Move),
    s.tile? p t = some x →
    x.st = .moving m →
    m.copying = true →
    s.failedHome x.home = false →
    s.failedHome m.dst = false →
    s.sledUp = true →
    x.clearAfter = false →
    exec (.moveComplete p t) s = .next (((s.modTile p t fun x => { x with st := .resident }).settle p t m.dst (s.spills p t m)).moveOver p t m true)) ∧
  -- MOVE_DESTINATION_FAIL (R193)
  (∀ (s : State) (p : Pid) (t : TileNo) (x : Tile) (m : Move),
    s.tile? p t = some x →
    x.st = .moving m →
    m.copying = true →
    m.retried = true →
    x.clearAfter = false →
    exec (.moveDestinationFail p t) s = .next ((s.modTile p t fun x => { x with st := .resident }).moveOver p t m false)) ∧
  -- BACKGROUND_PROMOTION (R192)
  (∀ (s : State) (p : Pid) (x : Tile) (h : Home),
    (s.life p).st.committed = true →
    s.sledUp = true →
    ((s.prt p).mem.tiles.filter fun x => match x.st with | .moving y => y.cause = .promotion | _ => false).length < 16 →
    firstBy promoteBefore ((s.prt p).mem.tiles.filter (s.prt p).mem.promotable) = some x →
    s.promotePlace p x.num = some h →
    exec (.backgroundPromotion p x.num) s = .next (s.startMove p x.num h .promotion)) ∧
  -- TIER_ACCESS_FAIL (R202)
  (∀ (s : State) (p : Pid) (t : TileNo) (w : Issuer) (d : ChanNo) (x : Tile),
    s.tile? p t = some x →
    x.isDropped = false →
    x.st ≠ .zero →
    exec (.tierAccessFail p t w .correctable d) s = .next (s.countCe x.home d)) ∧
  -- TIER_ACCESS_FAIL (R202)
  (∀ (s : State) (p : Pid) (t : TileNo) (w : Issuer) (d : ChanNo) (x : Tile),
    s.tile? p t = some x →
    x.st = .resident →
    s.meets w p t = true →
    s.failCause x.home d false false ∈ [1, 2, 6, 7] →
    exec (.tierAccessFail p t w .uncorrectable d) s = .next ((((s.countUe x.home d).poison p t (s.failCause x.home d false false) (failUnit x.home d) false).failRequest w p .tierError (BitVec.ofNat 32 t)).poisonBehind p t (if x.home.isBoard then s.waitsBehind w p t else []))) ∧
  -- TIER_ACCESS_LATE (R202)
  (∀ (s : State) (p : Pid) (t : TileNo) (w : Issuer) (d : ChanNo) (x : Tile),
    s.tile? p t = some x →
    x.home.inStacked = true ∨ x.home.isBoard = true →
    s.canBeLate w = true →
    exec (.tierAccessLate p t w d) s = .next (s.tileFails p t w d true false)) ∧
  -- MEMORY_UNIT_DOWN (R204)
  (∀ (s : State) (k : StackNo),
    s.boot.form = .normal →
    s.boot.hostReady = true →
    s.tier.stkFail.getLsbD k.val = false →
    exec (.memoryUnitDown (.stack k)) s = .next (
      let t := { s with tier := { s.tier with stkFail := s.tier.stkFail ||| BitVec.ofNat 6 (2 ^ k.val) } }
      t.postDev 0x0102 (1 + 256 * k.val) (bnat (t.stackedCap < t.floors) + 2 * bnat (t.tier.boardInst.toNat < ((List.finRange 16).map fun p => if (t.life p).st.holds then (t.life p).boardAct.toNat else 0).sum)))) ∧
  -- TIER_SETTING_WRITE (R209)
  (∀ (s : State) (v : W32),
    s.pfOpen = true →
    exec (.tierSettingWrite 0x100000 v) s = .next ({ s with tier := { s.tier with late := v.truncate 16 } })) ∧
  -- TIER_SETTING_WRITE (R209)
  (∀ (s : State) (v : W32),
    s.pfOpen = true →
    exec (.tierSettingWrite 0x100004 v) s = .next ({ s with tier := { s.tier with poolAge := v.truncate 16 } })) ∧
  -- STAGING_QUOTA_WRITE (R195)
  (∀ (s : State) (p : Pid) (v : W32),
    s.pfOpen = true →
    (s.life p).st = .empty ∨ (s.life p).st = .configuring →
    exec (.stagingQuotaWrite p v) s = .next ({ s with tier := { s.tier with stgQuota := vmod s.tier.stgQuota p fun _ => BitVec.ofNat 11 (min 1792 (v.toNat % 2048)) } })) ∧
  -- QUARANTINE_WAIT_TIMEOUT (R242)
  (∀ (s : State) (u : UnitRef) (t : Nat),
    (s.unit u).wait = .quarantine t →
    s.quarOver u.pid (some t) = true →
    exec (.quarantineWaitTimeout (.unit u)) s = .next (s.failRequest (.unit u) u.pid .fenceTimeout 0x60000))

/-- Plan and run commands of the Scarab; about the plan, the run and the ledger. Where a rule leaves a point open, the operations named follow log entry 23 (the model's choices). -/
def Obligations.PlanCommandsTakeEffect : Prop :=
  -- PLAN_LOAD (R213)
  (∀ (s : State) (c : CmdRef) (p : Pid) (n : Fin 64) (k : Cmd) (P : Plan),
    s.inline_ c 4 1 = some k →
    c.ring = .vf p n →
    leAt k.operands 0 8 % 64 = 0 →
    128 ≤ leAt k.operands 8 4 →
    leAt k.operands 8 4 ≤ 2 ^ 24 →
    zeroIn k.operands 12 48 = true →
    leAt k.operands 0 8 + leAt k.operands 8 4 ≤ 2 ^ 48 →
    (match (s.prt p).mem.objOf (tileOf (leAt k.operands 0 8)) with | some o => !o.steward && o.releasing.isNone && decide (tileOf (leAt k.operands 0 8 + leAt k.operands 8 4 - 1) < o.base + o.tiles) | none => false) = true →
    s.deny c p (tilesOf (leAt k.operands 0 8) (leAt k.operands 8 4)) = none →
    s.blocked p (tilesOf (leAt k.operands 0 8) (leAt k.operands 8 4)) none = false →
    leAt (s.load p (leAt k.operands 0 8) (leAt k.operands 8 4)) 52 4 = leAt k.operands 8 4 →
    parsePlan (s.load p (leAt k.operands 0 8) (leAt k.operands 8 4)) = .ok P →
    leAt (s.load p (leAt k.operands 0 8) (leAt k.operands 8 4)) 24 8 % tileBytes = 0 →
    P.base ≠ 0 →
    P.base + P.nmb * P.mbStride ≤ 2 ^ 32 →
    (s.prt p).mem.overlaps P.base (P.nmb * P.mbStride) = false →
    (((s.loaded p (leAt k.operands 0 8) (leAt k.operands 8 4)).noteServed c).prt p).scb.plan = none →
    (s.prt p).mem.used + P.peak ≤ ((s.loaded p (leAt k.operands 0 8) (leAt k.operands 8 4)).noteServed c).budget p →
    (s.prt p).mem.objs.length + P.nmb ≤ 32768 →
    exec (.planLoad c) s = .next ((((s.loaded p (leAt k.operands 0 8) (leAt k.operands 8 4)).noteServed c).installPlan p P).finish c .ok 0)) ∧
  -- PLAN_UNLOAD (R212)
  (∀ (s : State) (c : CmdRef) (p : Pid) (n : Fin 64) (k : Cmd),
    s.inline_ c 4 2 = some k →
    c.ring = .vf p n →
    zeroIn k.operands 0 48 = true →
    (s.prt p).scb.plan ≠ none →
    exec (.planUnload c) s = .next (((s.closeRun p).modCmd c fun k => { k with stage := .running }).closesDone p)) ∧
  -- RUN_BEGIN (R216)
  (∀ (s : State) (c : CmdRef) (p : Pid) (n : Fin 64) (k : Cmd),
    s.inline_ c 4 3 = some k →
    c.ring = .vf p n →
    zeroIn k.operands 0 48 = true →
    (s.prt p).scb.plan ≠ none →
    (s.prt p).scb.runOpen = false →
    (s.prt p).scb.allClosed = true →
    exec (.runBegin c) s = .next ((s.modScb p fun S => { S with runOpen := true, runEpoch := k.hdr.epoch, marked := false, lateFirst := false }).finish c .ok 0)) ∧
  -- MARK (R222)
  (∀ (s : State) (c : CmdRef) (p : Pid) (n : Fin 64) (k : Cmd) (P : Plan) (t : State),
    s.inline_ c 4 4 = some k →
    c.ring = .vf p n →
    (s.prt p).scb.plan = some P →
    zeroIn k.operands 4 48 = true →
    (s.prt p).scb.runOpen = true →
    (s.prt p).scb.runEpoch = k.hdr.epoch →
    leAt k.operands 0 4 = (if (s.prt p).scb.marked then (s.prt p).scb.pos + 1 else 0) →
    leAt k.operands 0 4 < P.marks.length →
    s.markEffects p P (leAt k.operands 0 4) = (t, true) →
    exec (.mark c) s = .next (t.finish c .ok 0)) ∧
  -- RUN_END (R220)
  (∀ (s : State) (c : CmdRef) (p : Pid) (n : Fin 64) (k : Cmd),
    s.inline_ c 4 5 = some k →
    c.ring = .vf p n →
    zeroIn k.operands 0 48 = true →
    (s.prt p).scb.runOpen = true →
    (s.prt p).scb.runEpoch = k.hdr.epoch →
    exec (.runEnd c) s = .next (((s.closeRun p).modCmd c fun k => { k with stage := .running }).closesDone p))

/-- What the Scarab does by itself: closes, evaluations, fetch-backs, tasks; about the ledger and the Scarab settings. Where a rule leaves a point open, the operations named follow log entries 20, 21, 22 (the model's choices). -/
def Obligations.ScarabWorkEvents : Prop :=
  -- INSTANCE_CLOSE_COMPLETE (R221)
  (∀ (s : State) (p : Pid) (i j : Nat) (x : Inst),
    (s.prt p).scb.inst? i j = some x →
    x.closing = true →
    exec (.instanceCloseComplete p i j) s = .next ((s.closeEnd p i j).closesDone p)) ∧
  -- FETCHBACK_EVALUATE (R232)
  (∀ (s : State) (p : Pid),
    (s.prt p).scb.runOpen = true →
    (s.prt p).scb.marked = true →
    s.scbPaused p = false →
    exec (.fetchbackEvaluate p) s = .next (s.modScb p fun S => { S with insts := S.insts.map fun x => if x.st = .placed && x.due.isNone && (s.prt p).scb.dueBy x s.pwr.time.toNat then { x with due := some s.pwr.time.toNat } else x })) ∧
  -- FETCHBACK_ISSUE (R233)
  (∀ (s : State) (p : Pid) (i j : Nat) (x : Inst) (r : PlanRec),
    firstBy (s.prt p).scb.fetchBefore ((s.prt p).scb.insts.filter fun x => x.st = .placed && x.due.isSome && !x.closing) = some x →
    (s.prt p).scb.rec? i = some r →
    x.is i j = true →
    s.scbPaused p = false →
    ((s.prt p).scb.insts.filter (·.st = .fetching)).length < (s.prt p).scb.fetchMax →
    r.fdest = 0 →
    exec (.fetchbackIssue p i j) s = .next ((s.modScb p fun S => { S with tasks := S.tasks.filter fun k => !(k.rec_ = i && k.mb = j) }).modInst p i j fun y => { y with st := .ready })) ∧
  -- SCARAB_TASK_ISSUE (R239)
  (∀ (s : State),
    s.boot.hostReady = true →
    s.sledUp = true →
    exec .scarabTaskIssue s = .next (s.issueFirst s.taskOrder)) ∧
  -- INJECTED_SEGMENT_END (R238)
  (∀ (s : State) (p : Pid) (i j : Nat) (x : Inst) (ops : List ListOp) (b : Bool),
    (s.prt p).scb.injected.any (fun y => y.rec_ = i && y.mb = j) = true →
    s.fnRuns (.vf p) = true →
    (s.prt p).scb.inst? i j = some x →
    (s.prt p).scb.segOps i j = some ops →
    x.closing = true →
    exec (.injectedSegmentEnd p i j b) s = .next ((s.modScb p fun S => { S with injected := S.injected.filter fun y => !(y.rec_ = i && y.mb = j) }).noteReady (.vf p))) ∧
  -- SCARAB_SETTING_WRITE (R248)
  (∀ (s : State) (v : W32),
    s.pfOpen = true →
    exec (.scarabSettingWrite .pf v) s = .next ({ s with sqBacklog := v.truncate 12 })) ∧
  -- SCARAB_SETTING_WRITE (R248)
  (∀ (s : State) (p : Pid) (v : W32),
    s.vfFull p = true →
    exec (.scarabSettingWrite (.vf p) v) s = .next (s.modScb p fun S => { S with fbMax := v.truncate 5 }))

/-- The Weevil: the phases of an update command and the reduction of its verdict; about the update unit and the reductions. Where a rule leaves a point open, the operations named follow log entry 25 (the model's choices). -/
def Obligations.UpdateCommandPhases : Prop :=
  -- UPDATE_COMMAND (R254)
  (∀ (s : State) (c : CmdRef) (p : Pid) (n : Fin 64) (l : Bytes) (k : Cmd) (ops : List ListOp) (b : ListOp) (xs : List UpdShard),
    s.cmd? c = some k →
    c.ring = .vf p n →
    k.stage = .started →
    k.hdr.opc = 0x80 →
    k.hdr.engine = 3 →
    s.fnRuns c.ring.fn = true →
    s.canRead c.ring.fn (BitVec.ofNat 64 (leAt k.operands 0 8)) (leAt k.operands 8 4) = true →
    parseList (leAt k.operands 0 8) (leAt k.operands 8 4) l = .ok ops →
    ops.findSome? (·.check c.ring.fn 3) = none →
    zeroIn k.operands 12 48 = true →
    k.hdr.epoch.ahead ((s.fetchLines c.ring.fn (BitVec.ofNat 64 (leAt k.operands 0 8)) (leAt k.operands 8 4)).prt p).ep.c = true →
    readUpdate ops (fun g => ((s.fetchLines c.ring.fn (BitVec.ofNat 64 (leAt k.operands 0 8)) (leAt k.operands 8 4)).groupOf p g).isSome) = .ok (b, xs) →
    BitVec.ofNat 16 (b.field 8 2) = 0 →
    exec (.updateCommand c l) s = .next (
      let t := s.fetchLines c.ring.fn (BitVec.ofNat 64 (leAt k.operands 0 8)) (leAt k.operands 8 4)
      let u : Update := { cmd := c, epoch := k.hdr.epoch, group := 0, clip := BitVec.ofNat 32 (b.field 12 4), seed := BitVec.ofNat 64 (b.field 16 8), resIova := BitVec.ofNat 64 (b.field 24 8), shards := xs, part := none, lowBad := none, errs := [], verdict := none, verdictAt := 0, factor := 0x3F800000, gnorm := 0, ratios := [], kept := 0, sat := 0, recBad := false, fin := none }
      (t.modCmd c fun k => { k with stage := .running, wait := none, spans := (((xs.flatMap (·.spans)).flatMap spanTiles).filter fun i => (t.prt p).mem.reach false i).map (·, 1) }).modWvl p fun W => { W with pass := .norm, epochReg := k.hdr.epoch, upd := some u })) ∧
  -- NORM_PASS_END (R257)
  (∀ (s : State) (c : CmdRef) (p : Pid) (u : Update),
    s.updIn c .norm = some (p, u) →
    s.updWaits p u ((u.shards.map (·.gSpan)).flatMap spanTiles) = none →
    u.group = 0 →
    ((u.shards.map (·.gSpan)).flatMap spanTiles).findSome? (s.updDeny p u) = none →
    (u.shards.map fun x => x.norm (s.prt p).mem.bytes).flatMap (·.2) = [] →
    exec (.normPassEnd c) s = .next (
      let q : NormPart := ⟨match s.groupOf p 0 with | some g => g.rank | none => 0, ((u.shards.map fun x => x.norm (s.prt p).mem.bytes).map (·.1)).sum, 0, false, false⟩
      (s.updServed p u (u.shards.map (·.gSpan))).modWvl p fun W => { W with pass := .verdict, upd := some { u with part := some q, lowBad := none, errs := [], verdict := some (verdictMsg (causeOf false false false [q]) [q]) } })) ∧
  -- VERDICT (R258)
  (∀ (s : State) (p : Pid) (i j l : Nat) (u : Update) (v : VerdictMsg),
    (s.prt p).wvl.upd = some u →
    (s.prt p).wvl.pass = .verdict →
    u.fin = none →
    s.fnRuns (.vf p) = true →
    u.group = 0 →
    u.verdict = some v →
    exec (.verdict p i j l) s = .next (s.takeVerdict p u v)) ∧
  -- TRUST_PASS_END (R263)
  (∀ (s : State) (c : CmdRef) (p : Pid) (u : Update),
    s.updIn c .trust = some (p, u) →
    u.numbered.filter (fun x => decide (x.1.hyper.alg = 2)) = [] →
    s.updWaits p u [] = none →
    exec (.trustPassEnd c) s = .next ((s.updServed p u []).modWvl p fun W => { W with pass := .apply, upd := W.upd.map fun u => { u with ratios := [] } })) ∧
  -- APPLY_PASS_END (R262)
  (∀ (s : State) (c : CmdRef) (p : Pid) (u : Update),
    s.updIn c .apply = some (p, u) →
    s.updWaits p u ((u.shards.flatMap (·.spans)).flatMap spanTiles) = none →
    u.shards.findSome? (fun x => (List.range x.nelem).findSome? fun j => (x.elemTiles j).findSome? (s.updDeny p u)) = none →
    exec (.applyPassEnd c) s = .next (((s.applyAll p u fun _ => true).updServed p u (u.shards.map (·.gSpan))).updEnds p .ok 0)) ∧
  -- DECISION_CONTRIBUTION (R258)
  (∀ (s : State) (a : BitVec 12) (e : Epoch) (i j : Nat) (p : Pid) (r q n : Nat) (x y : Bool),
    (s.life p).slice = a →
    (s.life p).st.committed = true →
    s.decidesHere p = true →
    exec (.decisionContribution a e i j r q n x y) s = .next (s.contribute a e i j ⟨r, q, n, x, y⟩)) ∧
  -- REDUCTION_TIMEOUT (R259)
  (∀ (s : State) (a : BitVec 12) (e : Epoch) (r : Reduction),
    s.red? a e = some r →
    r.decided = none →
    r.tmoMs * 1000000 ≤ s.since r.firstAt →
    exec (.reductionTimeout a e) s = .next (s.decideRed r true)) ∧
  -- DECISION_POINT_UNREACHABLE (R259)
  (∀ (s : State) (p : Pid) (u : Update) (d : W32),
    (s.prt p).wvl.upd = some u →
    s.noDecision p = some d →
    (s.prt p).wvl.pass = .verdict →
    u.group ≠ 0 →
    u.fin = none →
    s.fnRuns (.vf p) = true →
    exec (.decisionPointUnreachable p) s = .next (s.orphan p u d))

/-- Fabric operations that start: GX, ALLGATHER, BCAST, SEND, RECV; about the collective unit. Where a rule leaves a point open, the operations named follow log entry 26 (the model's choices). -/
def Obligations.FabricOperationsStart : Prop :=
  -- GX (R287)
  (∀ (s : State) (o : OpRef) (p : Pid) (n : Fin 64) (k : Cmd) (x : ListOp),
    o.cmd.ring = .vf p n →
    s.nextOp o 6 1 = some (k, x) →
    s.gxCheck p k x = none →
    ((s.prt p).gx.pendings (gxOf x)).any (·.isSome) = false →
    exec (.gx o) s = .next (s.fabBegin p o x k (gxOf x).group true ([(gxOf x).flat (gxOf x).gTile, (gxOf x).flat (gxOf x).oTile] ++ if (gxOf x).res then [(gxOf x).rSpan] else []) (.gx (gxOf x) (List.replicate (gxOf x).nb Bucket.empty)))) ∧
  -- ALLGATHER (R290)
  (∀ (s : State) (o : OpRef) (p : Pid) (n : Fin 64) (k : Cmd) (x : ListOp) (g : Group),
    o.cmd.ring = .vf p n →
    s.nextOp o 6 2 = some (k, x) →
    x.zero 8 10 = true →
    x.zero 14 16 = true →
    x.zero 28 32 = true →
    0 < x.field 24 4 →
    x.field 24 4 ≤ 65535 →
    x.field 12 2 = 0 →
    s.groupOf p (BitVec.ofNat 16 (x.field 10 2)) = some g →
    0 < g.nmemb →
    rangesMeet (x.field 16 4, x.field 24 4) (x.field 20 4, x.field 24 4 * g.nmemb) = false →
    exec (.allgather o) s = .next (s.fabBegin p o x k (BitVec.ofNat 16 (x.field 10 2)) true [(x.field 16 4, x.field 24 4), (x.field 20 4, x.field 24 4 * g.nmemb)] (.gather none (x.field 16 4) (x.field 20 4) (x.field 24 4) [] false))) ∧
  -- BCAST (R290)
  (∀ (s : State) (o : OpRef) (p : Pid) (n : Fin 64) (k : Cmd) (x : ListOp) (g : Group),
    o.cmd.ring = .vf p n →
    s.nextOp o 6 3 = some (k, x) →
    x.zero 8 10 = true →
    x.zero 14 16 = true →
    x.zero 28 32 = true →
    0 < x.field 24 4 →
    x.field 24 4 ≤ 65535 →
    s.groupOf p (BitVec.ofNat 16 (x.field 10 2)) = some g →
    x.field 12 2 < g.nmemb →
    exec (.bcast o) s = .next (s.fabBegin p o x k (BitVec.ofNat 16 (x.field 10 2)) true (if g.rank = x.field 12 2 then [(x.field 16 4, x.field 24 4)] else [(x.field 20 4, x.field 24 4)]) (.gather (some (x.field 12 2)) (x.field 16 4) (x.field 20 4) (x.field 24 4) [] false))) ∧
  -- SEND (R291)
  (∀ (s : State) (o : OpRef) (p : Pid) (n : Fin 64) (k : Cmd) (x : ListOp) (g : Group),
    o.cmd.ring = .vf p n →
    s.nextOp o 6 4 = some (k, x) →
    x.field 8 1 < 64 →
    x.field 9 1 < 64 →
    0 < x.field 20 4 →
    x.field 20 4 ≤ 65535 →
    x.zero 28 32 = true →
    x.field 14 1 = 0 →
    x.field 15 1 = 0 →
    s.groupOf p (BitVec.ofNat 16 (x.field 10 2)) = some g →
    x.field 12 2 < g.nmemb →
    x.field 12 2 ≠ g.rank →
    s.keyBusy p (BitVec.ofNat 16 (x.field 10 2)) true (x.field 8 1) (x.field 9 1) (x.field 12 2) = false →
    s.unreachable (g.nodes.getD (x.field 12 2) 0) = none →
    exec (.send o) s = .next (s.fabBegin p o x k (BitVec.ofNat 16 (x.field 10 2)) false [(x.field 16 4, x.field 20 4)] (.send (x.field 8 1) (x.field 9 1) (x.field 12 2) (x.field 16 4) (x.field 20 4) (x.field 24 4) false))) ∧
  -- RECV (R292)
  (∀ (s : State) (o : OpRef) (p : Pid) (n : Fin 64) (k : Cmd) (x : ListOp) (g : Group),
    o.cmd.ring = .vf p n →
    s.nextOp o 6 5 = some (k, x) →
    x.field 8 1 < 64 →
    x.field 9 1 < 64 →
    0 < x.field 20 4 →
    x.field 20 4 ≤ 65535 →
    x.zero 28 32 = true →
    x.field 14 1 = 0 →
    x.field 15 1 = 0 →
    s.groupOf p (BitVec.ofNat 16 (x.field 10 2)) = some g →
    x.field 12 2 < g.nmemb →
    x.field 12 2 ≠ g.rank →
    s.keyBusy p (BitVec.ofNat 16 (x.field 10 2)) false (x.field 8 1) (x.field 9 1) (x.field 12 2) = false →
    s.unreachable (g.nodes.getD (x.field 12 2) 0) = none →
    exec (.recv o) s = .next (s.fabBegin p o x k (BitVec.ofNat 16 (x.field 10 2)) false [(x.field 16 4, x.field 20 4)] (.recv (x.field 8 1) (x.field 9 1) (x.field 12 2) (x.field 20 4) (x.field 24 4) (x.field 16 4) none))) ∧
  -- RECV (R292)
  (∀ (s : State) (o : OpRef) (p : Pid) (n : Fin 64) (k : Cmd) (x : ListOp) (g : Group) (c : RelCore) (q : PairNo),
    o.cmd.ring = .vf p n →
    s.nextOp o 6 5 = some (k, x) →
    x.field 8 1 < 64 →
    x.field 9 1 < 64 →
    0 < x.field 20 4 →
    x.field 20 4 ≤ 65535 →
    x.zero 28 32 = true →
    x.field 14 1 = 1 →
    x.field 15 1 = q.val →
    x.field 16 4 = c.val →
    s.groupOf p (BitVec.ofNat 16 (x.field 10 2)) = some g →
    x.field 12 2 < g.nmemb →
    x.field 12 2 ≠ g.rank →
    s.keyBusy p (BitVec.ofNat 16 (x.field 10 2)) false (x.field 8 1) (x.field 9 1) (x.field 12 2) = false →
    s.unreachable (g.nodes.getD (x.field 12 2) 0) = none →
    exec (.recv o) s = .next (s.fabBegin p o x k (BitVec.ofNat 16 (x.field 10 2)) false [] (.recv (x.field 8 1) (x.field 9 1) (x.field 12 2) (x.field 20 4) (x.field 24 4) c.val (some (c, q)))))

/-- Contributions, deadlines, landings and lost peers of fabric operations; about the collective unit. Where a rule leaves a point open, the operations named follow log entry 26 (the model's choices). -/
def Obligations.FabricOperationEvents : Prop :=
  -- BUCKET_CONTRIBUTION (R294)
  (∀ (s : State) (o : OpRef) (p : Pid) (i j : Nat) (l : List W32) (r : FabRun) (g : Group) (f : GxFields) (b : List Bucket) (y : Bucket),
    s.fabRun o = some (p, r, g) →
    r.kind = .gx f b →
    b[i]? = some y →
    y.closed = false →
    j < g.nmemb →
    y.parts.any (·.rank = j) = false →
    j ≠ g.rank →
    l.length = f.len i →
    exec (.bucketContribution o i j l) s = .next ((s.setBucket p r f b i { y with openedAt := some (y.openedAt.getD s.pwr.clk), parts := y.parts ++ [⟨j, l⟩] }).landBucket o i)) ∧
  -- BUCKET_DEADLINE (R294)
  (∀ (s : State) (o : OpRef) (p : Pid) (i : Nat) (r : FabRun) (g : Group) (f : GxFields) (b : List Bucket) (y : Bucket) (t : Nat),
    s.fabRun o = some (p, r, g) →
    r.kind = .gx f b →
    b[i]? = some y →
    y.openedAt = some t →
    f.dlUs ≠ 0 →
    f.dlUs * 1000 ≤ s.since t →
    y.complete g.nmemb = false →
    exec (.bucketDeadline o i) s = .next ((s.setBucket p r f b i { y with closed := true }).landBucket o i)) ∧
  -- LATE_CONTRIBUTION (R295)
  (∀ (s : State) (o : OpRef) (p : Pid) (n : Fin 64) (i : Nat) (r : FabRun) (g : Group) (f : GxFields) (b : List Bucket) (y : Bucket),
    o.cmd.ring = .vf p n →
    s.fnRuns (.vf p) = true →
    s.fabRun o = some (p, r, g) →
    r.kind = .gx f b →
    b[i]? = some y →
    y.own = .none →
    y.closed = true →
    f.res = false →
    s.reaches p o (s.ownTiles p f i) (some r.epoch) = .now →
    (s.cmd? o.cmd).any (·.waited) = false →
    exec (.lateContribution o i) s = .next (((s.loaded p (f.gTa i) (f.bytes i)).setBucket p r f b i { y with own := .late }).landBucket o i)) ∧
  -- LATE_CONTRIBUTION (R295)
  (∀ (s : State) (o : OpRef) (p : Pid) (n : Fin 64) (i : Nat) (r : FabRun) (g : Group) (f : GxFields) (b : List Bucket) (y : Bucket),
    o.cmd.ring = .vf p n →
    s.fnRuns (.vf p) = true →
    s.fabRun o = some (p, r, g) →
    r.kind = .gx f b →
    b[i]? = some y →
    y.own = .none →
    y.closed = true →
    f.res = true →
    f.drop = false →
    s.reaches p o (s.ownTiles p f i) (some r.epoch) = .now →
    (s.cmd? o.cmd).any (·.waited) = false →
    exec (.lateContribution o i) s = .next (
      let t := s.loaded p (f.gTa i) (f.bytes i)
      let a := f.values (s.prt p).mem.bytes i ((s.prt p).gx.slot (f.resBase + i)).bank
      ((t.putResidual p f r.epoch i a (t.runTag p r)).setBucket p r f b i { y with own := .late }).landBucket o i)) ∧
  -- FABRIC_LANDING (R292)
  (∀ (s : State) (o : OpRef) (p : Pid) (i : Nat) (e : Option Epoch) (d : Bytes) (r : FabRun) (g : Group) (f : GxFields) (b : List Bucket),
    s.fabRun o = some (p, r, g) →
    s.takesFabric p = true →
    r.kind = .gx f b →
    exec (.fabricLanding o i e d) s = .next (s.landBucket o i)) ∧
  -- FABRIC_LANDING (R292)
  (∀ (s : State) (o : OpRef) (p : Pid) (d : Bytes) (r : FabRun) (g : Group) (a b i n m : Nat) (t : TileNo),
    s.fabRun o = some (p, r, g) →
    s.takesFabric p = true →
    r.kind = .recv a b i n m t none →
    d.length = n * tileBytes →
    s.reaches p o (spanTiles (t, n)) none = .now →
    (s.cmd? o.cmd).any (·.waited) = false →
    exec (.fabricLanding o i none d) s = .next ((s.store p (t * tileBytes) d none).fabEnd p o .ok 0)) ∧
  -- SEND_RECV_TIMEOUT (R293)
  (∀ (s : State) (o : OpRef) (p : Pid) (r : FabRun) (g : Group) (a b i : Nat) (t : TileNo) (n m : Nat) (y : Bool),
    s.fabRun o = some (p, r, g) →
    r.kind = .send a b i t n m y →
    m ≠ 0 →
    m * 1000 ≤ s.since r.since →
    exec (.sendRecvTimeout o) s = .next (s.fabEnd p o .fenceTimeout (BitVec.ofNat 32 (0x80000 + a)))) ∧
  -- SEND_RECV_TIMEOUT (R293)
  (∀ (s : State) (o : OpRef) (p : Pid) (r : FabRun) (g : Group) (a b i n m t : Nat) (y : Option (RelCore × PairNo)),
    s.fabRun o = some (p, r, g) →
    r.kind = .recv a b i n m t y →
    m ≠ 0 →
    m * 1000 ≤ s.since r.since →
    exec (.sendRecvTimeout o) s = .next (s.fabEnd p o .fenceTimeout (BitVec.ofNat 32 (0x80000 + a)))) ∧
  -- COLLECTIVE_PEER_UNREACHABLE (R298)
  (∀ (s : State) (o : OpRef) (p : Pid) (i j : Nat) (r : FabRun) (g : Group),
    s.fabRun o = some (p, r, g) →
    s.unreachable (g.nodes.getD i 0xFFFF) = some j →
    r.needs g i = true →
    exec (.collectivePeerUnreachable o i j) s = .next (s.fabEnd p o .fabricPathLost (pathLost (g.nodes.getD i 0xFFFF).toNat j)))

/-- The Tigers: dense and sparse solves and schedule registrations; about the Tigers and the registered schedules. Where a rule leaves a point open, the operations named follow log entry 27 (the model's choices). -/
def Obligations.SolverOperationsRun : Prop :=
  -- DENSE (R309)
  (∀ (s : State) (o : OpRef) (p : Pid) (n : Fin 64) (k : Cmd) (x : ListOp),
    o.cmd.ring = .vf p n →
    s.nextOp o 2 1 = some (k, x) →
    (denseOf x).fieldsOk x = true →
    (denseOf x).overlaps = false →
    (((denseOf x).ranges.map fun r => spanOf r.1 r.2).flatMap spanTiles).find? (fun t => !(s.prt p).mem.reach (s.accepted o.cmd [t]) t) = none →
    exec (.dense o) s = .next (s.opBegin o (s.newOp o x ((denseOf x).ranges.map fun r => spanOf r.1 r.2)))) ∧
  -- SCHED_REG (R315)
  (∀ (s : State) (o : OpRef) (p : Pid) (n : Fin 64) (k : Cmd) (x : ListOp),
    o.cmd.ring = .vf p n →
    s.nextOp o 2 2 = some (k, x) →
    x.field 8 2 < 64 →
    x.zero 10 16 = true →
    x.zero 22 24 = true →
    x.field 16 6 % 64 = 0 →
    (spanTiles (spanOf (x.field 16 6) 64)).find? (fun t => !(s.prt p).mem.reach (s.accepted o.cmd [t]) t) = none →
    exec (.schedReg o) s = .next (s.opBegin o (s.newOp o x [spanOf (x.field 16 6) 64]))) ∧
  -- SCHED_DROP (R316)
  (∀ (s : State) (o : OpRef) (p : Pid) (n : Fin 64) (k : Cmd) (x : ListOp),
    o.cmd.ring = .vf p n →
    s.nextOp o 2 3 = some (k, x) →
    x.field 8 2 < 64 →
    x.zero 10 16 = true →
    s.sparseOn p (x.field 8 2) = [] →
    exec (.schedDrop o) s = .next ((s.dropSched p (x.field 8 2)).opInstant o .ok 0)) ∧
  -- SCHED_DROP_RELEASE (R316)
  (∀ (s : State) (o : OpRef) (p : Pid) (n : Fin 64) (d : DropWait),
    o.cmd.ring = .vf p n →
    (s.prt p).sol.drops.find? (·.op = o) = some d →
    d.users.any (fun u => (s.activeOp u).isSome) = false →
    exec (.schedDropRelease o) s = .next (((s.dropSched p d.handle.val).modPrt p fun P => { P with sol := { P.sol with drops := P.sol.drops.filter (·.op != o) } }).opEnd o .ok 0)) ∧
  -- SPARSE (R321)
  (∀ (s : State) (o : OpRef) (p : Pid) (n : Fin 64) (k : Cmd) (x : ListOp) (h : Sched),
    o.cmd.ring = .vf p n →
    s.nextOp o 2 4 = some (k, x) →
    (sparseOf x).fieldsOk x = true →
    s.schedOf p (sparseOf x).handle = some h →
    (sparseOf x).stridesOk h = true →
    (sparseOf x).overlaps h = false →
    (((List.range (sparseOf x).nsys).flatMap (fun j => [(sparseOf x).vSpan h j, (sparseOf x).bSpan h j, (sparseOf x).xSpan h j, (sparseOf x).wSpan h j]) ++ [spanOf (sparseOf x).st (32 * (sparseOf x).nsys), spanOf h.ta h.len]).flatMap spanTiles).find? (fun t => !(s.prt p).mem.reach (s.accepted o.cmd [t]) t) = none →
    exec (.sparse o) s = .next (s.opBegin o (s.newOp o x ((List.range (sparseOf x).nsys).flatMap (fun j => [(sparseOf x).vSpan h j, (sparseOf x).bSpan h j, (sparseOf x).xSpan h j, (sparseOf x).wSpan h j]) ++ [spanOf (sparseOf x).st (32 * (sparseOf x).nsys), spanOf h.ta h.len])))) ∧
  -- SOLVER_OP_END (R313)
  (∀ (s : State) (o : OpRef) (p : Pid) (k : Cmd) (a : ActiveOp),
    s.solverOp o 1 = some (p, k, a) →
    s.solverWaits o p k a = none →
    exec (.solverOpEnd o) s = .next (
      let t := ((a.spans.flatMap spanTiles).foldl (fun s t => s.touch p t tileBytes false) (s.noteServed o.cmd)).tigerEnergy p a
      let b := t.runBatch p (denseOf a.op).nprob fun u j => u.denseEnd1 p (denseOf a.op) a (s.tagOf o.cmd.ring k.hdr) k.dead j
      b.2.opEnd o (batchStatus b.1).1 (batchStatus b.1).2)) ∧
  -- SOLVER_OP_END (R313)
  (∀ (s : State) (o : OpRef) (p : Pid) (k : Cmd) (a : ActiveOp),
    s.solverOp o 1 = none →
    s.solverOp o 2 = some (p, k, a) →
    (s.prt p).mem.inTenantObj (a.op.field 16 6) (max 64 (schedHdr (s.load p (a.op.field 16 6) 64)).len) = true →
    (tilesOf (a.op.field 16 6) (max 64 (schedHdr (s.load p (a.op.field 16 6) 64)).len)).findSome? (s.opDeny p a) = none →
    s.blocked p (tilesOf (a.op.field 16 6) (max 64 (schedHdr (s.load p (a.op.field 16 6) 64)).len)) (s.tagOf o.cmd.ring k.hdr) = false →
    schedOk ((((s.noteServed o.cmd).loaded p (a.op.field 16 6) (max 64 (schedHdr (s.load p (a.op.field 16 6) 64)).len)).tigerEnergy p a).load p (a.op.field 16 6) (max 64 (schedHdr (s.load p (a.op.field 16 6) 64)).len)) = true →
    exec (.solverOpEnd o) s = .next (
      let n := max 64 (schedHdr (s.load p (a.op.field 16 6) 64)).len
      let t := ((s.noteServed o.cmd).loaded p (a.op.field 16 6) n).tigerEnergy p a
      let h := schedHdr (t.load p (a.op.field 16 6) n)
      (t.modPrt p fun P => { P with sol := { P.sol with handles := P.sol.handles.setIfInBounds (a.op.field 8 2) (some ⟨a.op.field 16 6, n, h.n, h.nval, h.pb⟩) } }).opEnd o .ok 0)) ∧
  -- SOLVER_OP_END (R313)
  (∀ (s : State) (o : OpRef) (p : Pid) (k : Cmd) (a : ActiveOp) (h : Sched),
    s.solverOp o 1 = none →
    s.solverOp o 2 = none →
    s.solverOp o 4 = some (p, k, a) →
    s.solverWaits o p k a = none →
    s.schedOf p (sparseOf a.op).handle = some h →
    exec (.solverOpEnd o) s = .next (
      let t := ((a.spans.flatMap spanTiles).foldl (fun s t => s.touch p t tileBytes false) (s.noteServed o.cmd)).tigerEnergy p a
      let b := t.runBatch p (sparseOf a.op).nsys fun u j => u.sparseEnd1 p (sparseOf a.op) h a (s.tagOf o.cmd.ring k.hdr) k.dead j
      let i := b.1.findIdx (· != .ok)
      if i < b.1.length then b.2.opEnd o (b.1.getD i .ok) (BitVec.ofNat 32 i) else b.2.opEnd o .ok 0))

/-- Mover transfers, placements and failed host requests; about the transfers of the Mover. Where a rule leaves a point open, the operations named follow log entry 28 (the model's choices). -/
def Obligations.MoverTransfers : Prop :=
  -- H2T (R334)
  (∀ (s : State) (m : MovNo) (r : RingId) (d : DescRun) (p : Pid) (a : Nat) (b : Bytes),
    s.transfer (.chan m) = some (r, d) →
    d.ended = none →
    d.flushAt = none →
    d.desc.kind = 0 →
    s.fnRuns r.fn = true →
    taOperand r d.desc.dst = some (p, a) →
    s.lost r.fn = false →
    b.length = pieceLen (a + d.done) (a + d.desc.len.toNat) →
    s.admits r p = true →
    (s.prt p).mem.deny true [tileOf (a + d.done)] = none →
    s.blocked p [tileOf (a + d.done)] none = false →
    exec (.h2t m b) s = .next (
      let t := s.modDesc (.chan m) fun d => { d with waited := false, quarAt := none }
      let n := pieceLen (a + d.done) (a + d.desc.len.toNat)
      let u := (t.metered r p fun s => s.put p (a + d.done) b none false).hostBytes r.fn n
      (u.modDesc (.chan m) fun d => { d with done := d.done + n, crc := d.crc.map (·.add b) }).transferDone (.chan m))) ∧
  -- T2H (R335)
  (∀ (s : State) (m : MovNo) (r : RingId) (d : DescRun) (p : Pid) (a : Nat),
    s.transfer (.chan m) = some (r, d) →
    d.ended = none →
    d.flushAt = none →
    d.desc.kind = 1 →
    s.fnRuns r.fn = true →
    taOperand r d.desc.src = some (p, a) →
    s.lost r.fn = false →
    s.admits r p = true →
    (s.prt p).mem.deny true [tileOf (a + d.done)] = none →
    s.blocked p [tileOf (a + d.done)] none = false →
    exec (.t2h m) s = .next (
      let t := s.modDesc (.chan m) fun d => { d with waited := false, quarAt := none }
      let n := pieceLen (a + d.done) (a + d.desc.len.toNat)
      let b := t.load p (a + d.done) n
      let u := (t.transferRead (.chan m) r p (a + d.done) n).hostWrite r.fn (d.desc.dst + BitVec.ofNat 64 d.done) b
      (u.modDesc (.chan m) fun d => { d with done := d.done + n, crc := d.crc.map (·.add b) }).transferDone (.chan m))) ∧
  -- T2T (R334)
  (∀ (s : State) (m : MovNo) (r : RingId) (d : DescRun) (p q : Pid) (a b : Nat),
    s.transfer (.chan m) = some (r, d) →
    d.ended = none →
    d.flushAt = none →
    d.desc.kind = 2 →
    s.fnRuns r.fn = true →
    d.desc.operands r = [(p, a), (q, b)] →
    d.buf.length < pieceLen (b + d.done) (b + d.desc.len.toNat) →
    s.admits r p = true →
    (s.prt p).mem.deny true [tileOf (a + d.got)] = none →
    s.blocked p [tileOf (a + d.got)] none = false →
    exec (.t2t m) s = .next (
      let t := s.modDesc (.chan m) fun d => { d with waited := false, quarAt := none }
      let n := pieceLen (a + d.got) (a + d.desc.len.toNat)
      let x := t.load p (a + d.got) n
      (t.transferRead (.chan m) r p (a + d.got) n).modDesc (.chan m) fun d => { d with got := d.got + n, buf := d.buf ++ x, crc := d.crc.map (·.add x) })) ∧
  -- T2T (R334)
  (∀ (s : State) (m : MovNo) (r : RingId) (d : DescRun) (p q : Pid) (a b : Nat),
    s.transfer (.chan m) = some (r, d) →
    d.ended = none →
    d.flushAt = none →
    d.desc.kind = 2 →
    s.fnRuns r.fn = true →
    d.desc.operands r = [(p, a), (q, b)] →
    pieceLen (b + d.done) (b + d.desc.len.toNat) ≤ d.buf.length →
    s.admits r q = true →
    (s.prt q).mem.deny true [tileOf (b + d.done)] = none →
    s.blocked q [tileOf (b + d.done)] none = false →
    exec (.t2t m) s = .next (
      let t := s.modDesc (.chan m) fun d => { d with waited := false, quarAt := none }
      let n := pieceLen (b + d.done) (b + d.desc.len.toNat)
      let u := t.metered r q fun s => s.put q (b + d.done) (d.buf.take n) none false
      (u.modDesc (.chan m) fun d => { d with done := d.done + n, buf := d.buf.drop n }).transferDone (.chan m))) ∧
  -- PLACE (R337)
  (∀ (s : State) (m : MovNo) (r : RingId) (d : DescRun) (p : Pid) (a : Nat) (t : TileNo) (x : Tile) (y : Obj) (l : Place) (u : State),
    s.transfer (.chan m) = some (r, d) →
    d.ended = none →
    d.flushAt = none →
    d.desc.kind = 3 →
    s.fnRuns r.fn = true →
    d.done + d.skipped * tileBytes < d.desc.len.toNat →
    taOperand r d.desc.src = some (p, a) →
    t = tileOf a + d.done / tileBytes + d.skipped →
    d.moving = none →
    s.sledUp = true →
    s.admits r p = true →
    (s.prt p).mem.deny true [t] = none →
    s.blocked p [t] none = false →
    u = s.modDesc (.chan m) (fun d => { d with waited := false, quarAt := none }) →
    u.tile? p t = some x →
    (u.prt p).mem.objOf t = some y →
    u.placeTarget p x y d.desc.tier.toNat = some l →
    x.st = .resident →
    exec (.place m) s = .next ((u.moveTo p t l (.mover m)).modDesc (.chan m) fun d => { d with moving := some t })) ∧
  -- XFER (R351)
  (∀ (s : State) (o : OpRef) (k : Cmd) (x : ListOp) (b : Bytes),
    s.nextOp o 5 1 = some (k, x) →
    s.descCheck o.cmd.ring (some (x.field 40 8)) (descOf (x.body.take 32)) = (none, false) →
    exec (.xfer o b) s = .next (s.opBegin o { s.newOp o x [] with desc := some ((descOf (x.body.take 32)).begin (k.run.bind (·.chain)) none) })) ∧
  -- XFER (R351)
  (∀ (s : State) (o : OpRef) (k : Cmd) (a : ActiveOp) (d : DescRun) (b : Bytes),
    s.nextOp o 5 1 = none →
    s.activeOp o = some (k, a) →
    a.desc = some d →
    d.ended = none →
    exec (.xfer o b) s = .next (s.transferStep (.op o) d.desc.kind.toNat b)) ∧
  -- XFER (R351)
  (∀ (s : State) (o : OpRef) (k : Cmd) (a : ActiveOp) (d : DescRun) (b : Bytes) (t : Status) (w : W32),
    s.nextOp o 5 1 = none →
    s.activeOp o = some (k, a) →
    a.desc = some d →
    d.ended = some (t, w) →
    d.moving = none →
    s.fnRuns o.cmd.ring.fn = true →
    exec (.xfer o b) s = .next (s.xferEnd o a d t w)) ∧
  -- MOVER_FLUSH_TIMEOUT (R335)
  (∀ (s : State) (m : MovNo) (r : RingId) (d : DescRun) (t : Nat),
    s.transfer (.chan m) = some (r, d) →
    d.flushAt = some t →
    s.lost r.fn = false →
    s.fenceTmo r.fn * 1000000 ≤ s.since t →
    exec (.moverFlushTimeout (.chan m)) s = .next (s.modDesc (.chan m) fun d => { d.failed .fenceTimeout 0xF0 with flushAt := none })) ∧
  -- HOST_REQUEST_ERROR (R60)
  (∀ (s : State) (c : CmdRef) (k : Cmd) (t : Nat) (a : Status) (w : W32) (n : Nat),
    s.cmd? c = some k →
    s.lost c.ring.fn = false →
    k.stage = .postFlush t a w →
    exec (.hostRequestError (.cmd c) n) s = .next (s.conclude c .busError 0)) ∧
  -- HOST_REQUEST_ERROR (R60)
  (∀ (s : State) (m : MovNo) (r : RingId) (d : DescRun) (n : Nat),
    s.transfer (.chan m) = some (r, d) →
    s.lost r.fn = false →
    d.ended = none →
    d.flushAt = none →
    d.desc.kind = 0 ∨ d.desc.kind = 1 →
    d.done ≤ n →
    n < d.desc.len.toNat →
    exec (.hostRequestError (.chan m) n) s = .next (s.modDesc (.chan m) fun d => d.failed .busError (BitVec.ofNat 32 (n / 4096 * 4096))))

/-- Mover channels: descriptors, pacing, halts and quotas; about the channels and the Mover registers. Where a rule leaves a point open, the operations named follow log entry 28 (the model's choices). -/
def Obligations.MoverChannelsAndPacing : Prop :=
  -- MOVER_DESCRIPTOR_START (R333)
  (∀ (s : State) (r : RingId) (m : MovNo) (b : Bytes),
    s.chanOf r = some m →
    (s.ring r).state = .active →
    (s.ring r).queued = true →
    s.chans[m].run = none →
    s.chans[m].st ≠ .halted →
    b.length = 32 →
    s.canRead r.fn ((s.ring r).base + BitVec.ofNat 64 (32 * (s.ring r).dev.idx)) 32 = true →
    s.drains r.fn = false →
    s.fnWorks r.fn = true →
    s.holdRoom r.fn = true →
    s.chans[m].st ≠ .paced →
    s.lowerBell r = false →
    (s.ring r).mv.paceEn = false →
    exec (.moverDescriptorStart r b) s = .next (s.descTake m r ((s.ring r).base + BitVec.ofNat 64 (32 * (s.ring r).dev.idx)) b)) ∧
  -- MOVER_DESCRIPTOR_START (R333)
  (∀ (s t : State) (r : RingId) (m : MovNo) (b : Bytes) (l : Nat),
    s.chanOf r = some m →
    (s.ring r).state = .active →
    (s.ring r).queued = true →
    s.chans[m].run = none →
    s.chans[m].st ≠ .halted →
    b.length = 32 →
    s.canRead r.fn ((s.ring r).base + BitVec.ofNat 64 (32 * (s.ring r).dev.idx)) 32 = true →
    s.drains r.fn = false →
    s.fnWorks r.fn = true →
    s.holdRoom r.fn = true →
    s.chans[m].st ≠ .paced →
    s.lowerBell r = false →
    (s.ring r).mv.paceEn = true →
    s.level m r = (.is l, t) →
    (s.ring r).mv.holds l = true →
    exec (.moverDescriptorStart r b) s = .next ((t.pace m).bellDone r)) ∧
  -- MOVER_DESCRIPTOR_END (R333)
  (∀ (s : State) (m : MovNo) (r : RingId) (d : DescRun) (t : Status) (w : W32),
    s.transfer (.chan m) = some (r, d) →
    d.ended = some (t, w) →
    d.moving = none →
    s.fnRuns r.fn = true →
    exec (.moverDescriptorEnd m) s = .next (s.descWriteback m r d t w)) ∧
  -- PACE_LEVEL_POLL (R341)
  (∀ (s t : State) (m : MovNo) (r : RingId) (l : Nat),
    s.chans[m].ring = some r →
    s.chans[m].st = .paced →
    (s.ring r).mv.paceEn = true →
    (s.ring r).mv.byWord = true →
    s.fnWorks r.fn = true →
    2000 ≤ s.since s.chans[m].polledAt →
    s.level m r = (.is l, t) →
    (s.ring r).mv.frees l = true →
    exec (.paceLevelPoll m) s = .next (t.modChan m fun c => { c with st := .running })) ∧
  -- PACE_RELEASE (R340)
  (∀ (s : State) (m : MovNo) (r : RingId),
    s.chans[m].ring = some r →
    s.chans[m].st = .paced →
    (s.ring r).mv.paceEn = false →
    exec (.paceRelease m) s = .next (s.modChan m fun c => { c with st := .running })) ∧
  -- PACE_RELEASE (R340)
  (∀ (s t : State) (m : MovNo) (r : RingId) (l : Nat),
    s.chans[m].ring = some r →
    s.chans[m].st = .paced →
    (s.ring r).mv.paceEn = true →
    (s.ring r).mv.byWord = false →
    s.level m r = (.is l, t) →
    (s.ring r).mv.frees l = true →
    exec (.paceRelease m) s = .next (t.modChan m fun c => { c with st := .running })) ∧
  -- MV_PACE_WRITE (R341)
  (∀ (s : State) (r : RingId) (v : W32),
    s.open_ r.fn = true →
    (s.ring r).isKind 2 = true →
    bitOf v.toNat 31 = false ∨ ((s.ring r).mv.low.toNat < (s.ring r).mv.high.toNat ∧ (bitsOf v.toNat 28 2 ≠ 2 ∨ (s.ring r).mv.lvl.toNat % 4 = 0)) →
    exec (.mvPaceWrite r v) s = .next (s.modRing r fun R => { R with mv := { R.mv with paceEn := bitOf v.toNat 31, paceInvert := bitOf v.toNat 30, paceSrc := BitVec.ofNat 2 (bitsOf v.toNat 28 2), paceRing := BitVec.ofNat 6 v.toNat } })) ∧
  -- MV_CTL_RESET (R346)
  (∀ (s : State) (r : RingId) (m : MovNo),
    s.open_ r.fn = true →
    (s.ring r).isKind 2 = true →
    s.chanOf r = some m →
    s.chans[m].st = .halted →
    exec (.mvCtlReset r) s = .next (s.freeChan m)) ∧
  -- MOV_CH_KILL (R347)
  (∀ (s : State) (m : MovNo),
    s.pfOpen = true →
    s.chans[m].bound = true →
    s.chans[m].st ≠ .halted →
    exec (.movChKill m) s = .next (s.haltChan m 1)) ∧
  -- MOV_QUOTA_WRITE (R328)
  (∀ (s : State) (p : Pid) (v : W32),
    s.pfOpen = true →
    (s.life p).st = .empty ∨ (s.life p).st = .configuring →
    exec (.movQuotaWrite ⟨p.val, by omega⟩ v) s = .next ({ s with movQuota := s.movQuota.set p.val (BitVec.ofNat 6 (min 32 (v.toNat % 64))) (by omega) })) ∧
  -- MOV_QUOTA_WRITE (R328)
  (∀ (s : State) (v : W32),
    s.pfOpen = true →
    s.quotasHeld + min 32 (v.toNat % 64) ≤ 32 →
    s.chansHeld .pf ≤ min 32 (v.toNat % 64) →
    exec (.movQuotaWrite ⟨16, by omega⟩ v) s = .next ({ s with movQuota := s.movQuota.set 16 (BitVec.ofNat 6 (min 32 (v.toNat % 64))) (by omega) }))

/-- Device time, quads and retention; about clocks, quads and retention. Where a rule leaves a point open, the operations named follow log entries 8, 40 (the model's choices). -/
def Obligations.ClocksQuadsAndRetention : Prop :=
  -- CLK_TIME_SLEW_WRITE (R485)
  (∀ (s : State) (v : W32),
    s.pfOpen = true →
    exec (.clkTimeSlewWrite v) s = .next (s.modPwr fun P => { P with slew := v.truncate 16 })) ∧
  -- CLK_TIME_SET_GO (R485)
  (∀ (s : State) (v : W32),
    s.pfOpen = true →
    v.getLsbD 0 = true →
    s.sec.tenantKeys = false →
    exec (.clkTimeSetGo v) s = .next (s.modPwr fun P => { P with time := P.timeSet, frac := 0, lastStamp := P.timeSet.toNat, lastMs := if P.timeSet < P.time then P.timeSet.toNat / 1000000 else P.lastMs })) ∧
  -- CLK_SSC_WRITE (R490)
  (∀ (s : State) (v : W32),
    s.pfOpen = true →
    exec (.clkSscWrite v) s = .next (s.modPwr fun P => { P with ssc := v.truncate 4 })) ∧
  -- MILLISECOND_BOUNDARY (R486)
  (∀ (s : State) (x : Samples),
    s.sled.stby = true →
    s.pwr.lastMs < s.pwr.time.toNat / 1000000 →
    exec (.millisecondBoundary x) s = .next (
      let t := (s.modPwr fun P => { P with lastMs := s.pwr.time.toNat / 1000000 }).metersMs x
      let t := (List.finRange 16).foldl (fun (t : State) (p : Pid) => t.modMem p fun m => { m with tiles := m.tiles.map Tile.aged }) t
      let t := t.modPwr fun P => { P with pkg := x.pkg, part := Vector.ofFn fun p : Fin 16 => BitVec.ofNat 20 (min (t.partMw x p) (2 ^ 20 - 1)), volts := x.volts }
      let t := { t with sled := { t.sled with inletT := x.inlet } }
      (t.capLoop x).thermals x)) ∧
  -- ACCESS_WAKE (R495)
  (∀ (s : State) (q : Quad),
    s.quads[q].owner.isSome = true →
    s.quads[q].st.asleep = true →
    s.quads[q].toward ≠ some .run →
    s.sledUp = true →
    exec (.accessWake q) s = .next (s.modQuad q fun x => { x with toward := some .run, access := some s.pwr.clk })) ∧
  -- ACCESS_WAKE_IDLE (R493)
  (∀ (s : State) (p : Pid) (q : Quad) (t : Nat),
    s.quads[q].owner = some p →
    s.quads[q].access = some t →
    s.quads[q].st = .run →
    s.quads[q].toward = none →
    10000 ≤ s.since t →
    exec (.accessWakeIdle q) s = .next (if s.sleeping p then s.sleepQuad p q else s.modQuad q fun x => { x with access := none })) ∧
  -- QUAD_TRANSITION_COMPLETE (R494)
  (∀ (s : State) (p : Pid) (q : Quad) (t : QState),
    s.quads[q].owner = some p →
    s.quads[q].toward = some t →
    exec (.quadTransitionComplete q) s = .next (
      let st := if t = .off then s.sleepTarget p q else t
      ((s.modQuad q fun x => { x with st := st, toward := none, mhz := if st = .run then s.coreTarget q else 0 }).serveWaits p).noteReady (.vf p))) ∧
  -- RETENTION_ENTRY (R497)
  (∀ (s : State) (t : Nat),
    s.pwr.retSince = some t →
    s.mayRetain = true →
    10000000 ≤ s.since t →
    exec .retentionEntry s = .next (({ s with quads := Vector.ofFn fun q : Fin 16 => match s.quads[q].owner with | some p => { s.quads[q] with st := if s.quadHomes p q then QState.offr else QState.off, toward := none, access := none, mhz := 0 } | none => s.quads[q] }.modPwr fun P => { P with retained := true, retSince := none }).postDev 0x0A07 1 0)) ∧
  -- RETENTION_EXIT (R498)
  (∀ (s : State),
    s.pwr.retained = true →
    s.pwr.retExit = none →
    exec .retentionExit s = .next (s.modPwr fun P => { P with retExit := some s.pwr.clk })) ∧
  -- RETENTION_EXIT_COMPLETE (R498)
  (∀ (s : State) (t : Nat),
    s.pwr.retExit = some t →
    exec .retentionExitComplete s = .next (
      let t := (s.modPwr fun P => { P with retained := false, retExit := none }).postDev 0x0A07 0 0
      (List.finRange 16).foldl (fun (s : State) (p : Pid) => (s.serveWaits p).noteReady (.vf p)) (t.noteReady .pf))) ∧
  -- CLK_RET_CTL_WRITE (R498)
  (∀ (s : State) (v : W32),
    s.pfOpen = true →
    exec (.clkRetCtlWrite v) s = .next (if v.getLsbD 0 then s.modPwr fun P => { P with retEn := true } else (s.modPwr fun P => { P with retEn := false }).exitRetention))

/-- Settings of a fabric port and its module; about the fabric ports. Where a rule leaves a point open, the operations named follow log entry 31 (the model's choices). -/
def Obligations.FabricPortSettings : Prop :=
  -- PORT_ENABLE (R391)
  (∀ (s : State) (a : PortNo),
    s.pfOpen = true →
    s.ports[a].en = false →
    exec (.portEnable a) s = .next (s.modPort a fun P => if P.modReady then { P.fresh with en := true }.detect s.pwr.clk false else { P.fresh with en := true }.enter .absent s.pwr.clk)) ∧
  -- PORT_DISABLE (R391)
  (∀ (s : State) (a : PortNo),
    s.pfOpen = true →
    s.ports[a].en = true →
    exec (.portDisable a) s = .next ((s.modPort a fun P => { P with en := false }).portOff a .disabled)) ∧
  -- LANE_MASK_WRITE (R405)
  (∀ (s : State) (a : PortNo) (b : BitVec 8),
    s.pfOpen = true →
    s.ports[a].striped = false →
    exec (.laneMaskWrite a b) s = .next (s.modPort a fun P => { P.mapLanes (fun l x => if b.getLsbD l.val then { x with st := .masked } else if x.st = .masked then { x with st := .out } else x) with mask := b })) ∧
  -- RETRAIN (R396)
  (∀ (s : State) (a : PortNo),
    s.pfOpen = true →
    s.ports[a].st = .active →
    exec (.retrain a) s = .next (s.portDown a 3)) ∧
  -- PORT_MODULE_READY (R391)
  (∀ (s : State) (a : PortNo),
    s.sled.cages[a].present = true →
    s.sled.cages[a].denied = false →
    s.sled.cages[a].off = false →
    s.ports[a].modReady = false →
    exec (.portModuleReady a) s = .next ({ s with sled := { s.sled with cages := vmod s.sled.cages a fun c => { c with ready := true } } }.moduleReady a)) ∧
  -- FAB_LCLR (R401)
  (∀ (s : State) (a : PortNo) (b : BitVec 8),
    s.pfOpen = true →
    exec (.fabLclr a b) s = .next (s.modPort a fun P => P.mapLanes fun l x => if b.getLsbD l.val && x.st = .lockedOut then { x with st := if x.locked then .probation else .out, since := s.pwr.clk, rejoins := [] } else x)) ∧
  -- FAB_LANE_UE_MAX_WRITE (R405)
  (∀ (s : State) (a : PortNo) (v : W32),
    s.pfOpen = true →
    exec (.fabLaneUeMaxWrite a v) s = .next (s.modPort a fun P => { P with ueMaxNext := v.truncate 16 }))

/-- Training of a fabric port; about the fabric ports. Where a rule leaves a point open, the operations named follow log entry 31 (the model's choices). -/
def Obligations.FabricPortTraining : Prop :=
  -- TRAINING_TIMER_EXPIRE (R392)
  (∀ (s : State) (a : PortNo) (n : Nat),
    trainNs s.ports[a].st = some n →
    n ≤ s.since s.ports[a].since ∨ s.ports[a].lockLost s.pwr.clk = true →
    exec (.trainingTimerExpire a) s = .next (s.attemptFails a 0)) ∧
  -- BACKOFF_END (R393)
  (∀ (s : State) (a : PortNo),
    s.ports[a].st = .backoff →
    backoffNs s.ports[a].failN.toNat ≤ s.since s.ports[a].since →
    exec (.backoffEnd a) s = .next (s.modPort a fun P => P.detect s.pwr.clk false)) ∧
  -- PARTNER_SIGNAL_SEEN (R394)
  (∀ (s : State) (a : PortNo),
    s.ports[a].st = .backoff →
    6 ≤ s.ports[a].count Lane.trainable →
    exec (.partnerSignalSeen a) s = .next (s.modPort a fun P => P.detect s.pwr.clk true)) ∧
  -- DETECT_LOCK (R391)
  (∀ (s : State) (a : PortNo) (b : BitVec 8),
    s.ports[a].st = .detect →
    6 ≤ s.ports[a].among b →
    exec (.detectLock a b) s = .next (s.modPort a fun P => { P.lock b s.pwr.clk with seen := P.seen || b != 0 }.enter .tune s.pwr.clk)) ∧
  -- DETECT_LOCK (R391)
  (∀ (s : State) (a : PortNo) (b : BitVec 8),
    s.ports[a].st = .detect →
    s.ports[a].among b < 6 →
    exec (.detectLock a b) s = .next (s.modPort a fun P => { P.lock b s.pwr.clk with seen := P.seen || b != 0 })) ∧
  -- TUNE_COMPLETE (R391)
  (∀ (s : State) (a : PortNo) (b : BitVec 8),
    s.ports[a].st = .tune →
    6 ≤ s.ports[a].among b →
    exec (.tuneComplete a b) s = .next (s.modPort a fun P => ((P.lock b s.pwr.clk).mapLanes fun l x => if x.trainable && !b.getLsbD l.val then { x with st := .out } else x).enter .align s.pwr.clk)) ∧
  -- ALIGN_COMPLETE (R391)
  (∀ (s : State) (a : PortNo) (b : BitVec 8),
    s.ports[a].st = .align →
    6 ≤ s.ports[a].among b →
    exec (.alignComplete a b) s = .next (s.modPort a fun P => (P.lock b s.pwr.clk).enter .exchange s.pwr.clk))

/-- Lanes, restripes and the replay buffer; about the lanes and the replay buffer. Where a rule leaves a point open, the operations named follow log entry 31 (the model's choices). -/
def Obligations.FabricLanesAndReplay : Prop :=
  -- LANE_LOCK_LOSS (R398)
  (∀ (s : State) (a : PortNo) (l : LaneNo),
    (s.ports[a].lanes[l]).st = .active →
    s.ports[a].striped = true →
    exec (.laneLockLoss a l) s = .next ((s.modPort a fun P => P.modLane l fun x => { x with locked := false }).markLanes a [l] 0)) ∧
  -- LANE_LOCK_LOSS (R398)
  (∀ (s : State) (a : PortNo) (l : LaneNo),
    (s.ports[a].lanes[l]).st ≠ .active ∨ s.ports[a].striped = false →
    exec (.laneLockLoss a l) s = .next (s.modPort a fun P => P.modLane l fun x => x.unlock s.pwr.clk)) ∧
  -- PARTNER_LANE_NOTICE (R398)
  (∀ (s : State) (a : PortNo) (l : LaneNo),
    (s.ports[a].lanes[l]).st = .active →
    s.ports[a].striped = true →
    exec (.partnerLaneNotice a l) s = .next (s.markLanes a [l] 1)) ∧
  -- FEC_WINDOW_END (R398)
  (∀ (s : State) (a : PortNo) (u : Vector Nat 8) (n : Nat),
    s.ports[a].ueMax = 0 →
    exec (.fecWindowEnd a u n) s = .next (((s.modPort a fun P => { P.mapLanes (fun l x => { x with ue := satAdd x.ue u[l] }) with ueMax := P.ueMaxNext }).portPerf a (·.ce) (fun P v => { P with ce := v }) n).markLanes a [] 2)) ∧
  -- FEC_WINDOW_END (R398)
  (∀ (s : State) (a : PortNo) (u : Vector Nat 8) (n : Nat),
    s.ports[a].ueMax ≠ 0 →
    exec (.fecWindowEnd a u n) s = .next (((s.modPort a fun P => { P.mapLanes (fun l x => { x with ue := satAdd x.ue u[l], st := if s.ports[a].ueMax.toNat < u[l] && x.st = .probation then .out else x.st }) with ueMax := P.ueMaxNext }).portPerf a (·.ce) (fun P v => { P with ce := v }) n).markLanes a ((List.finRange 8).filter fun l => s.ports[a].ueMax.toNat < u[l]) 2)) ∧
  -- RESTRIPE_AGREED (R399)
  (∀ (s : State) (a : PortNo),
    s.ports[a].st = .restripe →
    exec (.restripeAgreed a) s = .next ((s.modPort a fun P => { P.enter .active s.pwr.clk with width := P.active }).replay a)) ∧
  -- RESTRIPE_TIMEOUT (R392)
  (∀ (s : State) (a : PortNo),
    s.ports[a].st = .restripe →
    1500 ≤ s.since s.ports[a].since →
    exec (.restripeTimeout a) s = .next (s.portDown a 2)) ∧
  -- LANE_LOCK_REGAINED (R400)
  (∀ (s : State) (a : PortNo) (l : LaneNo),
    (s.ports[a].lanes[l]).st = .out →
    exec (.laneLockRegained a l) s = .next (s.modPort a fun P => P.modLane l fun x => { x with st := .probation, locked := true, since := s.pwr.clk })) ∧
  -- LANE_PROBATION_END (R401)
  (∀ (s : State) (a : PortNo) (l : LaneNo),
    (s.ports[a].lanes[l]).st = .probation →
    s.ports[a].st = .active →
    10000000000 ≤ s.since (s.ports[a].lanes[l]).since →
    3 ≤ ((s.ports[a].lanes[l]).recent s.pwr.time.toNat).length →
    exec (.laneProbationEnd a l) s = .next ((s.modPort a fun P => P.modLane l fun x => { x with st := .lockedOut }).postDev 0x0707 (a.val + 256 * l.val) 0)) ∧
  -- LANE_PROBATION_END (R401)
  (∀ (s : State) (a : PortNo) (l : LaneNo),
    (s.ports[a].lanes[l]).st = .probation →
    s.ports[a].st = .active →
    10000000000 ≤ s.since (s.ports[a].lanes[l]).since →
    ((s.ports[a].lanes[l]).recent s.pwr.time.toNat).length < 3 →
    exec (.laneProbationEnd a l) s = .next (
      let past := (s.ports[a].lanes[l]).recent s.pwr.time.toNat
      let t := s.modPort a fun P => { P.modLane l (fun x => { x with st := .active, rejoins := s.pwr.time.toNat :: past }) with rejoin := satAdd P.rejoin 1 }
      (t.postDev 0x0706 (a.val + 256 * l.val + 65536 * t.ports[a].active) (past.length + 1)).restripe a)) ∧
  -- REPLAY_REQUEST (R397)
  (∀ (s : State) (a : PortNo) (n : Nat),
    s.ports[a].st = .active →
    exec (.replayRequest a n) s = .next ((s.acked a n).replay a)) ∧
  -- ACK_TIMEOUT (R397)
  (∀ (s : State) (a : PortNo),
    s.ports[a].st = .active →
    s.ports[a].retry ≠ [] →
    10000 ≤ s.since s.ports[a].ackAt →
    exec (.ackTimeout a) s = .next (s.replay a))

/-- Descriptors, the manager role, remote access and lost nodes; about the network state. Where a rule leaves a point open, the operations named follow log entry 31 (the model's choices). -/
def Obligations.FabricNeighboursAndManager : Prop :=
  -- DESCRIPTOR_RECEIVED (R410)
  (∀ (s : State) (a : PortNo) (d : Bytes),
    s.ports[a].st = .active →
    s.refusal d = none →
    exec (.descriptorReceived a d) s = .next ((((s.setNbr a (s.nbrOf a d)).elect).renewRoutes).sweepNodes)) ∧
  -- DESCRIPTOR_RECEIVED (R410)
  (∀ (s : State) (a : PortNo) (d : Bytes),
    s.ports[a].st = .exchange →
    6 ≤ s.ports[a].held →
    s.refusal d = none →
    exec (.descriptorReceived a d) s = .next (((((s.portUp a (s.nbrOf a d).node).setNbr a (s.nbrOf a d)).elect).renewRoutes).sweepNodes)) ∧
  -- DESCRIPTOR_RECEIVED (R410)
  (∀ (s : State) (a : PortNo) (d : Bytes) (b : BitVec 4),
    s.ports[a].st = .exchange →
    s.refusal d = some b →
    exec (.descriptorReceived a d) s = .next (s.attemptFails a b)) ∧
  -- DESCRIPTOR_SEND (R409)
  (∀ (s : State) (a : PortNo),
    s.ports[a].st = .exchange ∨ s.ports[a].st = .active →
    exec (.descriptorSend a) s = .next (s.sendDescriptor a)) ∧
  -- CANDIDATE_FORGET (R412)
  (∀ (s : State) (a : PortNo),
    s.ports[a].nbr.cand.isSome = true →
    300000000 ≤ s.since s.ports[a].nbr.candAt →
    exec (.candidateForget a) s = .next ((s.modPort a fun P => { P with nbr := { P.nbr with cand := none } }).elect)) ∧
  -- FM_STABLE (R412)
  (∀ (s : State),
    s.net.best.isSome = true →
    s.net.stable = false →
    200000000 ≤ s.since s.net.bestAt →
    exec .fmStable s = .next (s.modNet fun N => { N with stable := true })) ∧
  -- FAB_FM_CTL_WRITE (R412)
  (∀ (s : State) (v : W32),
    s.pfOpen = true →
    exec (.fabFmCtlWrite v) s = .next ((s.modNet fun N => { N with eligible := v.getLsbD 31, hostFm := v.getLsbD 30, remoteEn := v.getLsbD 29, priority := v.truncate 8 }).elect)) ∧
  -- REMOTE_ACCESS (R413)
  (∀ (s : State) (a : W64) (off : Nat) (v : W32) (b : Bytes),
    s.boot.hostReady = true →
    s.boot.form = .normal →
    s.net.remoteEn = true →
    a ≠ 0 →
    a = s.net.fmSerial →
    0x308000 ≤ off →
    off < 0x320000 →
    off % 4 = 0 →
    exec (.remoteAccess a true off v b) s = .next (s.netWrite off v true b)) ∧
  -- REMOTE_ACCESS (R413)
  (∀ (s : State) (a : W64) (off : Nat) (v : W32) (b : Bytes),
    s.boot.hostReady = true →
    s.boot.form = .normal →
    s.net.remoteEn = true →
    a ≠ 0 →
    a = s.net.fmSerial →
    0x308000 ≤ off →
    off < 0x320000 →
    off % 4 = 0 →
    exec (.remoteAccess a false off v b) s = .next (s.remoteRead off)) ∧
  -- FAB_APPLY (R414)
  (∀ (s : State) (v : W32),
    s.pfOpen = true →
    v = s.net.gen + 1 →
    s.net.staged.valid = true →
    exec (.fabApply v) s = .next (s.applyNow)) ∧
  -- FAB_APPLY (R414)
  (∀ (s : State) (v : W32),
    s.pfOpen = true →
    v ≠ s.net.gen + 1 ∨ s.net.staged.valid = false →
    exec (.fabApply v) s = .next (s.modNet fun N => { N with cfgErr := true })) ∧
  -- NODE_LOST_DECLARE (R429)
  (∀ (s : State) (n : W16) (x : (W16 × Nat × Nat)) (i : Fin 64),
    s.net.unreach.find? (·.1 = n) = some x →
    (List.finRange 64).find? (fun i => !s.net.staged.lostValid.getLsbD i.val) = some i →
    s.net.isFm = true →
    s.net.hostFm = false →
    (if s.net.lostHold = 0 then 100 else s.net.lostHold.toNat) * 1000000 ≤ s.since x.2.2 →
    s.net.staged.lostList.contains n = false →
    exec (.nodeLostDeclare n) s = .next (((s.modNet fun N => { N with staged := { N.staged with lostValid := N.staged.lostValid ||| BitVec.ofNat 64 (2 ^ i.val), lost := vmod N.staged.lost i fun _ => n } }).fabApply (s.net.gen + 1)).emit (.fabric none 5 [n.toNat])))

/-- Packets, end-to-end resends and group records; about the network state and the installed groups. Where a rule leaves a point open, the operations named follow log entry 31 (the model's choices). -/
def Obligations.FabricPacketsAndGroups : Prop :=
  -- FABRIC_PACKET_RECEIVE (R397)
  (∀ (s : State) (a : PortNo) (n : Nat) (h : PacketHdr),
    s.ports[a].st = .active →
    exec (.fabricPacketReceive a false n h) s = .next ((s.modPort a fun P => { P with crc := satAdd P.crc 1 }).emit (.fabric (some a) 1 [s.ports[a].rxNext]))) ∧
  -- FABRIC_PACKET_RECEIVE (R397)
  (∀ (s : State) (a : PortNo) (n : Nat) (h : PacketHdr),
    s.ports[a].st = .active →
    n = s.ports[a].rxNext →
    exec (.fabricPacketReceive a true n h) s = .next (
      let t := (s.acked a h.acks).modPort a fun P => { P with rxNext := n + 1 }
      let t := t.portPerf a (·.rxBytes) (fun P v => { P with rxBytes := v }) h.bytes
      let t := t.portPerf a (·.rxPkt) (fun P v => { P with rxPkt := v }) 1
      (t.deliverPacket a h).emit (.fabric (some a) 2 [n + 1]))) ∧
  -- FABRIC_PACKET_RECEIVE (R397)
  (∀ (s : State) (a : PortNo) (n : Nat) (h : PacketHdr),
    s.ports[a].st = .active →
    n < s.ports[a].rxNext →
    exec (.fabricPacketReceive a true n h) s = .next ((s.acked a h.acks).emit (.fabric (some a) 2 [s.ports[a].rxNext]))) ∧
  -- FABRIC_PACKET_RECEIVE (R397)
  (∀ (s : State) (a : PortNo) (n : Nat) (h : PacketHdr),
    s.ports[a].st = .active →
    s.ports[a].rxNext < n →
    exec (.fabricPacketReceive a true n h) s = .next ((s.acked a h.acks).emit (.fabric (some a) 1 [s.ports[a].rxNext]))) ∧
  -- E2E_RESEND (R420)
  (∀ (s : State) (k : Nat) (e : E2E),
    s.net.e2e[k]? = some e →
    1000000 ≤ s.since e.sentAt →
    s.net.resend ≠ onesOf 32 →
    exec (.e2eResend k) s = .next (((s.modNet fun N => { N with resend := N.resend + 1, e2e := N.e2e.map fun x => if x.seq = e.seq then { x with sentAt := s.pwr.clk } else x }).forward (Packet.mk e.dest e.slice e.tc e.count e.bytes 0 e.op)).sweepNodes)) ∧
  -- E2E_TIMEOUT (R420)
  (∀ (s : State) (k : Nat) (e : E2E),
    s.net.e2e[k]? = some e →
    s.net.tmoMs * 1000000 ≤ s.since e.firstAt →
    exec (.e2eTimeout k) s = .next (s.loseNode e.dest 3)) ∧
  -- FAB_GRP_LOAD (R425)
  (∀ (s : State) (v : W32) (p : Pid) (b : Bytes),
    s.pfOpen = true →
    bitsOf v.toNat 30 2 = 1 →
    s.net.grpBusy = false →
    v.getLsbD 24 = false →
    s.lost .pf = false →
    32 ≤ b.length →
    s.recordOk b = true →
    leAt b 8 1 = p.val →
    (s.life p).st.holds = true →
    leAt b 14 2 = (s.life p).slice.toNat →
    (s.prt p).gx.groups.toList.all Option.isSome = false →
    s.groupOf p (BitVec.ofNat 16 (leAt b 6 2)) = none →
    exec (.fabGrpLoad v b) s = .next ((s.addGroup p (Machine.Group.mk (BitVec.ofNat 16 (leAt b 6 2)) (leAt b 10 2) (leAt b 12 2) (recNodes b) 0)).grpResult 0)) ∧
  -- FAB_GRP_REMOVE (R425)
  (∀ (s : State) (v : W32) (g : Group) (p : Pid),
    s.pfOpen = true →
    bitsOf v.toNat 30 2 = 2 →
    s.net.grpBusy = false →
    bitsOf v.toNat 16 4 = p.val →
    s.groupOf p (v.truncate 16) = some g →
    exec (.fabGrpRemove v) s = .next ((s.modNet fun N => { N with grpBusy := true, grpWait := N.grpWait ++ [GrpWait.mk p (v.truncate 16) (((s.prt p).gx.runs.filter (·.group = v.truncate 16)).map (·.op))] }).grpSettle))

/-- Supplies, power failure, thermal trip and PLLs; about the supplies and PLL bits. Where a rule leaves a point open, the operations named follow log entries 5, 32 (the model's choices). -/
def Obligations.SuppliesAndPowerFailure : Prop :=
  -- PLL_UNLOCK (R489)
  (∀ (s : State) (a : Fin 48),
    s.pllLock a.val = true →
    a.val < 28 →
    exec (.pllUnlock a) s = .next ((s.postLater 0x0A06 a.val 0).supplyFault)) ∧
  -- PLL_UNLOCK (R489)
  (∀ (s : State),
    s.pllLock 28 = true →
    exec (.pllUnlock 28) s = .next ((s.postLater 0x0A06 28 0).resetLink.train)) ∧
  -- PLL_UNLOCK (R489)
  (∀ (s : State) (a : Fin 48),
    s.pllLock a.val = true →
    32 ≤ a.val →
    exec (.pllUnlock a) s = .next ((s.postLater 0x0A06 a.val 0).lockLoss ⟨(a.val - 32) / 2, by omega⟩ ((List.finRange 8).filter fun l => l.val / 4 = (a.val - 32) % 2))) ∧
  -- THERMTRIP (R505)
  (∀ (s : State),
    s.pwr.pkgUp = true →
    exec .thermtrip s = .next ({ s.powerDown with sled := { s.powerDown.sled with therm := true, faultN := true } })) ∧
  -- SUPPLY_FAULT (R506)
  (∀ (s : State) (a : Fin 14),
    s.sled.stby = true →
    a.val < s.sled.railsUp →
    s.sled.faultBoot = false →
    exec (.supplyFault a) s = .next ((s.postLater 0x0A05 a.val 0).supplyFault)) ∧
  -- POWER_FAIL_WARN (R507)
  (∀ (s : State) (a : W16),
    s.pwr.pkgUp = true →
    s.pwr.pfail = false →
    exec (.powerFailWarn a) s = .next ((s.modPwr fun P => { P with pfail := true, pfailAt := P.clk, volts := a }).postDev 0x0A04 1 a.toNat)) ∧
  -- POWER_FAIL_RECOVER (R507)
  (∀ (s : State),
    s.pwr.pkgUp = true →
    s.pwr.pfail = true →
    s.since s.pwr.pfailAt < 4000000 →
    exec .powerFailRecover s = .next ((s.took.modPwr fun P => { P with pfail := false, volts := s.free 16 }).postDev 0x0A04 0 (s.free 16).toNat)) ∧
  -- POWER_FAIL_SHUTDOWN (R507)
  (∀ (s : State),
    s.pwr.pkgUp = true →
    s.pwr.pfail = true →
    4000000 ≤ s.since s.pwr.pfailAt →
    exec .powerFailShutdown s = .next ({ s.powerDown with sled := { s.powerDown.sled with inputGood := false } })) ∧
  -- PB_PRSNT_DEASSERT (R550)
  (∀ (s : State),
    exec .pbPrsntDeassert s = .next ({ s.powerDown with sled := { s.powerDown.sled with prsnt := false, inputGood := false } })) ∧
  -- INPUT_GOOD (R550)
  (∀ (s t : State),
    s.sled.stby = true →
    s.sled.inputGood = false →
    s.sled.therm = false →
    t = { s with sled := { s.sled with inputGood := true, prsnt := true } }.powerUp →
    exec .inputGood s = .next (if 2 ≤ s.boot.milestone.toNat then { t with sled := { t.sled with railsUp := 14 } }.warmReset 0x0A true else { t with sled := { t.sled with railsUp := 14 } })) ∧
  -- STANDBY_LOSS (R443)
  (∀ (s : State),
    s.sled.stby = true →
    exec .standbyLoss s = .next (
      let t := (s.powerDown.modSec fun S => { S with keyValid := 0, keys := Vector.replicate 17 0 }).modPwr fun P => { P with stbyOk := false }
      { t with sled := { t.sled with stby := false, inputGood := false, railsUp := 0, faultN := false, therm := false } })) ∧
  -- STANDBY_APPLY (R516)
  (∀ (s : State),
    s.sled.stby = false →
    exec .standbyApply s = .next ({ s with sled := { s.sled with inputGood := false } }.coldReset 0x01))

/-- Core, partition, warm and cold resets; about what each reset scope reaches. Where a rule leaves a point open, the operations named follow log entry 32 (the model's choices). -/
def Obligations.ResetScopesAct : Prop :=
  -- TNT_CORE_RST (R512)
  (∀ (s : State) (p : Pid) (v : W32) (a : Core),
    s.vfFull p = true →
    v.toNat / 64 = 0xC3 * 2 ^ 18 →
    s.absCore p (v.toNat % 64) = some a →
    exec (.tntCoreRst p v) s = .next (s.coreReset p ⟨v.toNat % 64, Nat.mod_lt _ (by omega)⟩ false)) ∧
  -- SYS_RST_CORE (R512)
  (∀ (s : State) (p : Pid) (k : Core) (c : RelCore),
    s.quads[quadOf k].owner = some p →
    (List.finRange 64).find? (fun r => s.absCore p r.val = some k) = some c →
    s.pfServes 0x100 = true →
    exec (.sysRstCore k) s = .next (s.coreReset p c true)) ∧
  -- SYS_RST_PARTITION (R513)
  (∀ (s : State) (p : Pid),
    s.pfServes 0x100 = true →
    exec (.sysRstPartition p) s = .next (s.partReset p false)) ∧
  -- PWD_RESET (R513)
  (∀ (s : State) (p : Pid) (v : W32),
    s.vfFull p = true →
    v.toNat % 65536 = 0xD1E5 →
    exec (.pwdReset p v) s = .next (s.partReset p false)) ∧
  -- SYS_RST_WARM (R514)
  (∀ (s : State),
    s.pfServes 0x100 = true →
    exec .sysRstWarm s = .next (s.warmReset 0x07 false)) ∧
  -- SYS_RST_COLD (R516)
  (∀ (s : State),
    s.pfServes 0x100 = true →
    exec .sysRstCold s = .next (s.coldReset 0x04))

/-- Watchdogs: service, warnings, expiry, enable and lock; about the watchdogs. Where a rule leaves a point open, the operations named follow log entry 32 (the model's choices). -/
def Obligations.WatchdogsServeAndExpire : Prop :=
  -- WATCHDOG_WARNING (R520)
  (∀ (s : State),
    s.dogAwake .pf = true →
    s.wdg.st = .running →
    s.wdg.warnMs ≠ 0 →
    s.wdg.periodMs - s.wdg.warnMs ≤ s.dogMs .pf →
    exec (.watchdogWarning .pf) s = .next (({ s with wdg := { s.wdg with st := .warning } }).postDev 0x0B01 (s.wdg.limitMs - s.dogMs .pf) 0)) ∧
  -- WATCHDOG_WARNING (R520)
  (∀ (s : State) (p : Pid),
    s.dogAwake (.vf p) = true →
    (s.prt p).pwd.st = .running →
    (s.prt p).pwd.warnMs ≠ 0 →
    (s.prt p).pwd.periodMs - (s.prt p).pwd.warnMs ≤ s.dogMs (.vf p) →
    exec (.watchdogWarning (.vf p)) s = .next (((s.modPwd p fun w => { w with st := .warning }).postPart p 0x0B01 ((s.prt p).pwd.limitMs - s.dogMs (.vf p)) 0).postOper p 0x0B01 ((s.prt p).pwd.limitMs - s.dogMs (.vf p)) 0)) ∧
  -- DEVICE_WATCHDOG_EXPIRE (R520)
  (∀ (s : State),
    s.dogExpires .pf = true →
    exec .deviceWatchdogExpire s = .next (s.warmReset 0x05 false)) ∧
  -- PARTITION_WATCHDOG_EXPIRE (R520)
  (∀ (s : State) (p : Pid),
    s.dogExpires (.vf p) = true →
    exec (.partitionWatchdogExpire p) s = .next (s.partReset p true)) ∧
  -- MC_WATCHDOG_EXPIRE (R510)
  (∀ (s : State),
    s.pwr.pkgUp = true →
    3 ≤ s.boot.milestone.toNat →
    exec .mcWatchdogExpire s = .next (s.warmReset 0x06 false)) ∧
  -- WATCHDOG_SERVE (R521)
  (∀ (s : State) (fn : Fn) (v : W32),
    s.dogOpen fn = true →
    (s.dog fn).st = .running ∨ (s.dog fn).st = .warning →
    s.armLapsed fn = false →
    v.toNat % 65536 = 0xA5E1 →
    exec (.watchdogServe fn v) s = .next (s.modDog fn fun w => { w with armedAt := some s.pwr.clk })) ∧
  -- WATCHDOG_SERVE (R521)
  (∀ (s : State) (fn : Fn) (v : W32) (t : Nat),
    s.dogOpen fn = true →
    (s.dog fn).st = .running ∨ (s.dog fn).st = .warning →
    s.armLapsed fn = false →
    v.toNat % 65536 = 0x1E5A →
    (s.dog fn).armedAt = some t →
    exec (.watchdogServe fn v) s = .next (s.modDog fn fun w => { w with st := .running, armedAt := none, since := s.pwr.time.toNat, first := false })) ∧
  -- WATCHDOG_SERVE (R521)
  (∀ (s : State) (fn : Fn) (v : W32),
    s.dogOpen fn = true →
    (s.dog fn).st = .running ∨ (s.dog fn).st = .warning →
    s.armLapsed fn = false →
    v.toNat % 65536 ≠ 0xA5E1 →
    v.toNat % 65536 ≠ 0x1E5A ∨ (s.dog fn).armedAt = none →
    exec (.watchdogServe fn v) s = .next (s.modDog fn Watchdog.misserved)) ∧
  -- SERVE_ARM_TIMEOUT (R521)
  (∀ (s : State) (fn : Fn),
    s.armLapsed fn = true →
    exec (.serveArmTimeout fn) s = .next (s.modDog fn Watchdog.misserved)) ∧
  -- WATCHDOG_ENABLE_WRITE (R520)
  (∀ (s : State) (fn : Fn) (v : W32),
    s.dogOpen fn = true →
    (s.dog fn).lock = false →
    v.getLsbD 31 = false →
    exec (.watchdogEnableWrite fn v) s = .next (s.modDog fn Watchdog.disabled)) ∧
  -- WATCHDOG_ENABLE_WRITE (R520)
  (∀ (s : State) (fn : Fn) (v : W32),
    s.dogOpen fn = true →
    (s.dog fn).lock = false →
    v.getLsbD 31 = true →
    (s.dog fn).st = .disabled →
    exec (.watchdogEnableWrite fn v) s = .next (s.modDog fn fun w => { w with st := if s.lost fn then .paused else .running, since := s.pwr.time.toNat, held := 0, first := false })) ∧
  -- WDG_LOCK (R522)
  (∀ (s : State),
    s.pfServes 0x30000 = true →
    exec .wdgLock s = .next ({ s with wdg := { s.wdg with lock := true } }))

/-- Loss of a function, heartbeats and attaches; about the loss registers and the attach state. Where a rule leaves a point open, the operations named follow log entry 39 (the model's choices). -/
def Obligations.HostLossAndReattach : Prop :=
  -- TNT_ATTACH_GO (R380)
  (∀ (s : State) (p : Pid),
    s.vfAttach p = true →
    s.exitRetention.attachResult p = 1 →
    exec (.tntAttachGo p) s = .next ((s.exitRetention.modPrt p fun P => { P with tok := P.tok.counted 1 s.exitRetention.pwr.clk }).attachPart p)) ∧
  -- LNK_OP_ATTACH (R384)
  (∀ (s : State) (v : W32) (t : State),
    s.pfOpen = true →
    v.getLsbD 0 = true →
    s.lost .pf = true →
    v.getLsbD 1 = true ∨ s.exitRetention.op.fn.loss.keepOk = false →
    t = { s.exitRetention with link := { s.exitRetention.link with attachSts := 5, opStopAt := none }, wdg := s.exitRetention.wdg.resume s.exitRetention.pwr.time.toNat }.attachFn .pf true →
    exec (.lnkOpAttach v) s = .next (((t.post .pf ⟨0x0602, 16, 1, BitVec.ofNat 64 t.op.fn.loss.result⟩).flushRecords).noteReady .pf)) ∧
  -- LNK_OP_ATTACH (R384)
  (∀ (s : State) (v : W32) (t : State),
    s.pfOpen = true →
    v.getLsbD 0 = true →
    s.lost .pf = true →
    v.getLsbD 1 = false →
    s.exitRetention.op.fn.loss.keepOk = true →
    t = ({ s.exitRetention with link := { s.exitRetention.link with attachSts := 1, opStopAt := none }, wdg := s.exitRetention.wdg.resume s.exitRetention.pwr.time.toNat }.modLoss .pf fun l => { l with lost := false, rebased := false, mvDropped := 0, cmdDropped := 0 }).post .pf ⟨0x0602, 16, 0, 0⟩ →
    exec (.lnkOpAttach v) s = .next (((t.keepWrites .pf).attachFn .pf false).noteReady .pf)) ∧
  -- LNK_OP_ATTACH (R384)
  (∀ (s : State) (v : W32),
    s.pfOpen = true →
    v.getLsbD 0 = true →
    s.lost .pf = false →
    exec (.lnkOpAttach v) s = .next ({ s with link := { s.link with attachSts := 2 } })) ∧
  -- PF_HEARTBEAT_TIMEOUT (R370)
  (∀ (s : State),
    s.hbOver .pf = true →
    exec .pfHeartbeatTimeout s = .next (s.loseHost 2)) ∧
  -- VF_HEARTBEAT_TIMEOUT (R370)
  (∀ (s : State) (p : Pid),
    s.hbOver (.vf p) = true →
    (s.life p).st = .running ∨ (s.life p).st = .napping ∨ (s.life p).st = .suspended →
    exec (.vfHeartbeatTimeout p) s = .next (s.losePart p 3 false)) ∧
  -- HEARTBEAT_TMO_WRITE (R370)
  (∀ (s : State) (fn : Fn) (v : W32),
    s.pfOpen = true →
    exec (.heartbeatTmoWrite fn v) s = .next (s.modLoss fn fun l => { l with hbTmo := v.truncate 16, hbFrom := s.pwr.clk })) ∧
  -- VF_FLR (R593)
  (∀ (s : State) (p : Pid),
    s.vfPresent p = true →
    exec (.vfFlr p) s = .next (((s.modFn (.vf p) FnState.msixReset).cacheDrop (.vf p)).losePart p 4 false)) ∧
  -- VF_BUS_MASTER_DISABLE (R593)
  (∀ (s : State) (p : Pid),
    s.vfPresent p = true →
    exec (.vfBusMasterDisable p) s = .next (s.losePart p 4 false)) ∧
  -- VF_D3HOT (R593)
  (∀ (s : State) (p : Pid),
    s.vfPresent p = true →
    exec (.vfD3hot p) s = .next (s.losePart p 4 false)) ∧
  -- VF_REMOVED (R593)
  (∀ (s : State) (p : Pid),
    s.vfPresent p = true →
    exec (.vfRemoved p) s = .next (s.removeVfs p.val)) ∧
  -- VF_ENABLE (R362)
  (∀ (s : State) (i : Nat),
    s.pfOpen = true →
    i ≤ 16 →
    s.link.vfEnable = false →
    exec (.vfEnable i) s = .next ({ s with link := { s.link with vfEnable := true, numVfs := i } })) ∧
  -- PF_FLR (R593)
  (∀ (s : State),
    s.pfOpen = true →
    exec .pfFlr s = .next (
      let t := ((s.endSession 3).modFn .pf FnState.msixReset).cacheDrop .pf
      let t := ((List.finRange 16).foldl (fun s p => s.modFn (.vf p) FnState.msixReset) t).loseHost 5
      { t with link := { t.link with vfEnable := false, numVfs := 0 } })) ∧
  -- PF_BUS_MASTER_DISABLE (R593)
  (∀ (s : State),
    s.pfOpen = true →
    exec .pfBusMasterDisable s = .next (s.loseHost 5)) ∧
  -- PF_D3HOT (R593)
  (∀ (s : State),
    s.pfOpen = true →
    exec .pfD3hot s = .next (s.loseHost 5)) ∧
  -- OPERATOR_STOP_TIMEOUT (R377)
  (∀ (s : State) (t : Nat),
    s.link.opStopAt = some t →
    s.lost .pf = true →
    100000000 ≤ s.since t →
    exec .operatorStopTimeout s = .next ({ s.stopWork .pf .cancelled with link := { (s.stopWork .pf .cancelled).link with opStopAt := none } }))

/-- The host link: training, changes, IDE, cache lines and HDM ranges; about the host link. Where a rule leaves a point open, the operations named follow log entries 10, 39 (the model's choices). -/
def Obligations.HostLinkEvents : Prop :=
  -- PERST_N_ASSERT (R368)
  (∀ (s : State),
    exec .perstNAssert s = .next ({ s.resetLink with link := { s.resetLink.link with perst := true }, sled := { s.resetLink.sled with perstA := true } })) ∧
  -- PERST_N_DEASSERT (R518)
  (∀ (s : State) (b : Bool),
    s.link.perst = true →
    exec (.perstNDeassert b) s = .next ({ s with link := { s.link with perst := false }, sled := { s.sled with perstA := false, refclkA := b, sris := !b } }.train)) ∧
  -- HOT_RESET (R368)
  (∀ (s : State),
    s.link.up = true →
    exec .hotReset s = .next (s.resetLink.train)) ∧
  -- LINK_DISABLE (R368)
  (∀ (s : State),
    s.link.up = true →
    exec .linkDisable s = .next (s.resetLink)) ∧
  -- SURPRISE_LINK_DOWN (R368)
  (∀ (s : State),
    s.link.up = true →
    exec .surpriseLinkDown s = .next (s.resetLink.train)) ∧
  -- LINK_UP (R359)
  (∀ (s : State) (i j : Nat) (b : Bool),
    s.link.training = true →
    linkForm i j = true →
    exec (.linkUp i j b) s = .next ({ s with link := { s.link with up := true, training := false, width := i, rate := j, cxl := b && cxlForm i j } })) ∧
  -- LINK_CHANGED (R359)
  (∀ (s : State) (i j : Nat),
    s.link.up = true →
    linkForm i j = true →
    i ≠ s.link.width ∨ j ≠ s.link.rate →
    exec (.linkChanged i j) s = .next (
      let t := { s with link := { s.link with width := i, rate := j, cxl := s.link.cxl && cxlForm i j } }
      t.postDev 0x0603 t.lnkSts 0)) ∧
  -- IDE_INSECURE (R367)
  (∀ (s : State) (a b : Bool),
    s.sec.ide = true →
    a = true ∨ b = true →
    s.link.ideReq = true →
    exec (.ideInsecure a b) s = .next (
      let t := ((s.modSec fun S => { S with ide := false }).postDev 0x0604 (bnat a + 2 * bnat b) 0).loseHost 6
      { t with link := { t.link with ideShut := true } })) ∧
  -- HOST_LINE_INVALIDATE (R364)
  (∀ (s : State) (fn : Fn) (a : W64),
    exec (.hostLineInvalidate fn a) s = .next ({ s with link := { s.link with cache := s.link.cache.filter fun x => x != (fn, BitVec.ofNat 64 (a.toNat / 64 * 64)) } })) ∧
  -- HDM_DECODER_COMMIT (R366)
  (∀ (s : State) (a : W64),
    s.pfOpen = true →
    s.link.cxl = true →
    a.toNat % 2 ^ 28 = 0 →
    exec (.hdmDecoderCommit a (5 * 2 ^ 30)) s = .next ({ s with link := { s.link with hdm := some (a, 5 * 2 ^ 30) } }))

/-- The boot milestones, one step each; about the boot state. Where a rule leaves a point open, the operations named follow log entry 33 (the model's choices). -/
def Obligations.BootMilestonesInOrder : Prop :=
  -- BOOT_MILESTONE (R517)
  (∀ (s : State) (b : BootInput),
    s.sled.stby = true →
    s.boot.hostReady = false →
    b.supplyOk = false →
    exec (.bootMilestone b) s = .next ((s.took.postLater 0x0A05 (s.free 8).toNat 0).supplyFault)) ∧
  -- BOOT_MILESTONE (R517)
  (∀ (s : State) (b : BootInput),
    s.sled.stby = true →
    s.boot.hostReady = false →
    b.supplyOk = true →
    s.boot.milestone.toNat = 0 →
    exec (.bootMilestone b) s = .next ({ s with sled := { s.sled with smbAddr := 0x60 + s.sled.straps.zeroExtend 7 } }.reach 1)) ∧
  -- BOOT_MILESTONE (R517)
  (∀ (s : State) (b : BootInput),
    s.sled.stby = true →
    s.boot.hostReady = false →
    b.supplyOk = true →
    s.boot.milestone.toNat = 1 →
    s.pwr.pkgUp = true →
    s.sled.inputGood = true →
    s.sled.railsUp = 14 →
    s.sled.therm = false →
    exec (.bootMilestone b) s = .next ({ s with sled := { s.sled with faultN := s.sled.faultBoot } }.reach 2)) ∧
  -- BOOT_MILESTONE (R517)
  (∀ (s : State) (b : BootInput),
    s.sled.stby = true →
    s.boot.hostReady = false →
    b.supplyOk = true →
    s.boot.milestone.toNat = 2 →
    exec (.bootMilestone b) s = .next (s.reach 3)) ∧
  -- BOOT_MILESTONE (R517)
  (∀ (s : State) (b : BootInput),
    s.sled.stby = true →
    s.boot.hostReady = false →
    b.supplyOk = true →
    s.boot.milestone.toNat = 3 →
    exec (.bootMilestone b) s = .next (s.selectStore.selectImage b.flashOk)) ∧
  -- BOOT_MILESTONE (R517)
  (∀ (s : State) (b : BootInput),
    s.sled.stby = true →
    s.boot.hostReady = false →
    b.supplyOk = true →
    s.boot.milestone.toNat = 4 →
    exec (.bootMilestone b) s = .next (((s.modPwr fun P => { P with pllLo := bootLocks }).applyClock.reach 5).train)) ∧
  -- BOOT_MILESTONE (R517)
  (∀ (s : State) (b : BootInput),
    s.sled.stby = true →
    s.boot.hostReady = false →
    b.supplyOk = true →
    s.boot.milestone.toNat = 5 →
    exec (.bootMilestone b) s = .next (s.trainStacks b.stkFail)) ∧
  -- BOOT_MILESTONE (R517)
  (∀ (s : State) (b : BootInput),
    s.sled.stby = true →
    s.boot.hostReady = false →
    b.supplyOk = true →
    s.boot.milestone.toNat = 6 →
    exec (.bootMilestone b) s = .next (s.trainBoard b.ddrFail)) ∧
  -- BOOT_MILESTONE (R517)
  (∀ (s : State) (b : BootInput),
    s.sled.stby = true →
    s.boot.hostReady = false →
    b.supplyOk = true →
    s.boot.milestone.toNat = 7 →
    exec (.bootMilestone b) s = .next (s.makeKeys b.entropyOk)) ∧
  -- BOOT_MILESTONE (R517)
  (∀ (s : State) (b : BootInput),
    s.sled.stby = true →
    s.boot.hostReady = false →
    b.supplyOk = true →
    s.boot.milestone.toNat = 8 →
    exec (.bootMilestone b) s = .next (s.applyFabric.reach 9)) ∧
  -- BOOT_MILESTONE (R517)
  (∀ (s : State) (b : BootInput),
    s.sled.stby = true →
    s.boot.hostReady = false →
    b.supplyOk = true →
    s.boot.milestone.toNat = 9 →
    exec (.bootMilestone b) s = .next (s.hostUp))

/-- Flash commands: DL_BEGIN to ROLLBACK, the trial timer and sealing; about the flash, its journal and the fuses. Where a rule leaves a point open, the operations named follow log entry 34 (the model's choices). -/
def Obligations.FlashUpdateCommands : Prop :=
  -- DL_BEGIN (R536)
  (∀ (s : State) (i : Fin 3) (m : FlashIo) (t : State),
    s.pfServes 0x40000 = true →
    s.flash.pldm = .idle →
    s.pwr.pfail = false →
    i ≠ slotRegion s.flash.js.active →
    s.flash.runSlot ≠ some i →
    s.flash.js.pending = none →
    s.append (.slotEmpty i) m = (t, true) →
    exec (.dlBegin (BitVec.ofNat 2 i.val) m) s = .next (((t.modFls fun F => { F with images := vmod F.images i fun _ => [], dl := some ⟨i, 0, false, false⟩, fillReg := 0 }).stageEvent 1 i 0).modFls fun F => { F with res := 0, lastCmd := 1 })) ∧
  -- DL_WRITE (R537)
  (∀ (s : State) (i : Fin 3) (m : FlashIo) (d : Bytes) (x : Download),
    s.pfServes 0x40000 = true →
    s.flash.pldm = .idle →
    s.pwr.pfail = false →
    s.flash.loading i = some x →
    x.verified = false →
    badChunk s.flash.dlLen.toNat (512 ≤ x.fill && x.fill + s.flash.dlLen.toNat = 512 + bodyLen s.flash.images[i]) = false →
    (512 ≤ x.fill && 512 + bodyLen s.flash.images[i] < x.fill + s.flash.dlLen.toNat) = false →
    x.fill + s.flash.dlLen.toNat ≤ regionSize i →
    s.lost .pf = false →
    d.length = s.flash.dlLen.toNat →
    m ≠ .fails →
    exec (.dlWrite (BitVec.ofNat 2 i.val) d m) s = .next ((s.modFls fun F => { F with images := vmod F.images i fun b => b.take x.fill ++ d, dl := some { x with fill := x.fill + s.flash.dlLen.toNat }, fillReg := BitVec.ofNat 26 (x.fill + s.flash.dlLen.toNat) }).modFls fun F => { F with res := 0, lastCmd := 2 })) ∧
  -- VERIFY (R528)
  (∀ (s : State) (i : Fin 3) (m : FlashIo) (x : Download),
    s.pfServes 0x40000 = true →
    s.flash.pldm = .idle →
    s.pwr.pfail = false →
    s.flash.loading i = some x →
    x.verified = false →
    x.fill = 512 + bodyLen s.flash.images[i] →
    exec (.verify (BitVec.ofNat 2 i.val) m) s = .next (
      if (s.verify i (m != .fails)).2 = 0 then
      (((s.verify i (m != .fails)).1.modFls fun F => { F with dl := some { x with verified := true } }).flashEvent 0x0C01 (2 + 16 * i.val) ((imageVer s.flash.images[i]).toNat + 2 ^ 32 * (imageEpoch s.flash.images[i]).toNat)).modFls fun F => { F with res := 0, lastCmd := 3 }
      else (s.verify i (m != .fails)).1.modFls fun F => { F with res := 7, lastCmd := 3 })) ∧
  -- ACTIVATE (R536)
  (∀ (s : State) (i : Fin 3) (m : FlashIo) (x : Download) (t : State),
    s.pfServes 0x40000 = true →
    s.flash.pldm = .idle →
    s.pwr.pfail = false →
    s.flash.loading i = some x →
    x.verified = true →
    i ≠ 2 →
    s.append (.activate i (imageEpoch s.flash.images[i]) (imageVer s.flash.images[i]) (s.flash.trialCtl &&& 0x8000FFFF) 0 (imageDigest s.flash.images[i])) m = (t, true) →
    exec (.activate (BitVec.ofNat 2 i.val) m) s = .next (((t.modFls fun F => { F with dl := none }).stageEvent 3 i 0).modFls fun F => { F with res := 0, lastCmd := 4 })) ∧
  -- ACTIVATE (R536)
  (∀ (s : State) (m : FlashIo) (x : Download) (t : State),
    s.pfServes 0x40000 = true →
    s.flash.pldm = .idle →
    s.pwr.pfail = false →
    s.flash.loading 2 = some x →
    x.verified = true →
    s.append (.activate 2 (imageEpoch s.flash.images[(2 : Fin 3)]) (imageVer s.flash.images[(2 : Fin 3)]) 0 (min (s.flash.js.slots[slotRegion s.flash.js.active]).epoch.toNat (imageEpoch s.flash.images[(2 : Fin 3)]).toNat) (imageDigest s.flash.images[(2 : Fin 3)])) m = (t, true) →
    exec (.activate 2 m) s = .next ((((t.modFls fun F => { F with dl := none }).stageEvent 3 2 0).blow).modFls fun F => { F with res := 0, lastCmd := 4 })) ∧
  -- RESTART (R536)
  (∀ (s : State) (a : BitVec 2),
    s.pfServes 0x40000 = true →
    s.flash.pldm = .idle →
    s.pwr.pfail = false →
    exec (.restart a) s = .next ((s.warmReset 0x08 false).modFls fun F => { F with res := 0, lastCmd := 5 })) ∧
  -- CONFIRM (R529)
  (∀ (s : State) (a : BitVec 2) (m : FlashIo) (b : Fin 2) (t : State),
    s.pfServes 0x40000 = true →
    s.flash.pldm = .idle →
    s.pwr.pfail = false →
    s.flash.booted = 3 →
    s.flash.js.pending = some b →
    s.append (.confirm b (s.flash.js.target b)) m = (t, true) →
    exec (.confirm a m) s = .next ((((t.modFls fun F => { F with booted := 0, trialAt := none }).stageEvent 5 (slotRegion b) 0).blow).modFls fun F => { F with res := 0, lastCmd := 6 })) ∧
  -- ROLLBACK (R536)
  (∀ (s : State) (a : BitVec 2) (m : FlashIo) (b : Fin 2) (t : State),
    s.pfServes 0x40000 = true →
    s.flash.pldm = .idle →
    s.pwr.pfail = false →
    s.flash.js.pending = some b →
    s.append (.rollback b 4) m = (t, true) →
    exec (.rollback a m) s = .next ((if (t.stageEvent 6 (slotRegion b) 4).flash.booted = 3 then (t.stageEvent 6 (slotRegion b) 4).warmReset 0x08 false else t.stageEvent 6 (slotRegion b) 4).modFls fun F => { F with res := 0, lastCmd := 7 })) ∧
  -- ABORT (R536)
  (∀ (s : State) (i : Fin 3) (x : Download),
    s.pfServes 0x40000 = true →
    s.flash.pldm = .idle →
    s.pwr.pfail = false →
    s.flash.loading i = some x →
    exec (.abort (BitVec.ofNat 2 i.val)) s = .next ((s.modFls fun F => { F with dl := none }).modFls fun F => { F with res := 0, lastCmd := 8 })) ∧
  -- TRIAL_TIMER_EXPIRE (R538)
  (∀ (s : State) (m : FlashIo) (t : Nat),
    s.flash.trialAt = some t →
    s.flash.js.trial.toNat % 65536 ≠ 0 →
    (s.flash.js.trial.toNat % 65536) * 1000000000 ≤ s.since t →
    s.pwr.pfail = false →
    exec (.trialTimerExpire m) s = .next (if s.flash.js.trial.getLsbD 31 then (s.confirm m).1 else (s.rollback 3 m).1)) ∧
  -- FLS_SEAL (R530)
  (∀ (s : State) (v : W32) (t : Nat),
    s.pfServes 0x40000 = true →
    v.toNat % 65536 = 0x5EA1 →
    s.flash.js.pending = none →
    s.pwr.pfail = false →
    s.flash.sealAt = some t →
    s.since t ≤ 10000000 →
    exec (.flsSeal v) s = .next ((s.modFls fun F => { F with sealAt := none }).blowTo 64)) ∧
  -- FLS_SEAL (R530)
  (∀ (s : State) (v : W32),
    s.pfServes 0x40000 = true →
    v.toNat % 65536 = 0x5EA1 →
    s.flash.js.pending = none →
    s.pwr.pfail = false →
    s.flash.sealAt = none →
    exec (.flsSeal v) s = .next (s.modFls fun F => { F with sealAt := some s.pwr.clk }))

/-- PUT, DEL and READ of the configuration store; about the configuration store. Where a rule leaves a point open, the operations named follow log entry 34 (the model's choices). -/
def Obligations.ConfigurationStoreEdits : Prop :=
  -- FLS_CFG_PUT (R545)
  (∀ (s : State) (a : W16) (m : FlashIo) (t : State),
    s.pfServes 0x40000 = true →
    s.pwr.pfail = false →
    cfgWritable a.toNat = true →
    0 < s.flash.cfgLen.toNat →
    s.flash.cfgLen.toNat ≤ 1024 →
    (CfgRec.mk a (s.flash.cfgBuf.toList.take s.flash.cfgLen.toNat)).wrongLen = false →
    storeLen (s.flash.store.filter (fun x => !(x.typ = a && x.key = (CfgRec.mk a (s.flash.cfgBuf.toList.take s.flash.cfgLen.toNat)).key)) ++ [CfgRec.mk a (s.flash.cfgBuf.toList.take s.flash.cfgLen.toNat)]) ≤ 4 * 2 ^ 20 - 64 →
    s.rewrite (s.flash.store.filter (fun x => !(x.typ = a && x.key = (CfgRec.mk a (s.flash.cfgBuf.toList.take s.flash.cfgLen.toNat)).key)) ++ [CfgRec.mk a (s.flash.cfgBuf.toList.take s.flash.cfgLen.toNat)]) m = (t, true) →
    exec (.flsCfgPut a m) s = .next (t.modFls fun F => { F with cfgRes := 0 })) ∧
  -- FLS_CFG_DEL (R545)
  (∀ (s : State) (a : W16) (m : FlashIo) (t : State),
    s.pfServes 0x40000 = true →
    s.pwr.pfail = false →
    cfgWritable a.toNat = true →
    s.flash.store.any (fun x => x.typ = a && (x.key = none || x.key = some (s.flash.cfgKey.toNat % 16))) = true →
    storeLen (s.flash.store.filter fun x => !(x.typ = a && (x.key = none || x.key = some (s.flash.cfgKey.toNat % 16)))) ≤ 4 * 2 ^ 20 - 64 →
    s.rewrite (s.flash.store.filter fun x => !(x.typ = a && (x.key = none || x.key = some (s.flash.cfgKey.toNat % 16)))) m = (t, true) →
    exec (.flsCfgDel a m) s = .next (t.modFls fun F => { F with cfgRes := 0 })) ∧
  -- FLS_CFG_READ (R545)
  (∀ (s : State) (i : W16),
    s.pfServes 0x40000 = true →
    s.flash.store[i.toNat]? = none →
    exec (.flsCfgRead i) s = .next (s.modFls fun F => { F with cfgRes := 5 })) ∧
  -- FLS_CFG_READ (R545)
  (∀ (s : State) (i : W16) (r : CfgRec),
    s.pfServes 0x40000 = true →
    s.flash.store[i.toNat]? = some r →
    exec (.flsCfgRead i) s = .next (s.modFls fun F => { F with cfgRes := 0, cfgLen := BitVec.ofNat 16 r.val.length, cfgBuf := Vector.ofFn fun k : Fin 1024 => if k.val < (if r.typ = 0x10 || r.typ = 0x11 then [] else r.val).length then byteAt (if r.typ = 0x10 || r.typ = 0x11 then [] else r.val) k.val else F.cfgBuf[k] }))

/-- PLDM requests and the firmware-update agent; about the PLDM state. Where a rule leaves a point open, the operations named follow log entry 34 (the model's choices). -/
def Obligations.PldmFirmwareUpdate : Prop :=
  -- QUERY_DEVICE_IDENTIFIERS (R540)
  (∀ (s : State),
    s.pldmUp = true →
    exec .queryDeviceIdentifiers s = .next (s.emit (.reply 33 0 [0x5E03, Config.serial.toNat]))) ∧
  -- GET_FIRMWARE_PARAMETERS (R540)
  (∀ (s : State),
    s.pldmUp = true →
    exec .getFirmwareParameters s = .next (s.emit (.reply 33 0 [(s.flash.js.slots[slotRegion s.flash.js.active]).ver.toNat, (s.flash.js.pending.map fun x => (s.flash.js.slots[slotRegion x]).ver.toNat).getD 0, (s.flash.js.slots[(2 : Fin 3)]).ver.toNat]))) ∧
  -- GET_STATUS (R540)
  (∀ (s : State),
    s.pldmUp = true →
    exec .getStatus s = .next (s.emit (.reply 33 0 [s.flash.pldm.code, s.flash.fillReg.toNat]))) ∧
  -- REQUEST_UPDATE (R540)
  (∀ (s : State),
    s.pldmUp = true →
    s.flash.pldm = .idle →
    s.flash.dl = none →
    s.pwr.pfail = false →
    exec .requestUpdate s = .next ((s.modFls fun F => { F with pldm := .requested }).emit (.reply 33 0 []))) ∧
  -- PASS_COMPONENT_TABLE (R540)
  (∀ (s : State),
    s.pldmUp = true →
    s.flash.pldm = .requested →
    exec .passComponentTable s = .next ((s.modFls fun F => { F with pldm := .table }).emit (.reply 33 0 []))) ∧
  -- UPDATE_COMPONENT (R540)
  (∀ (s : State) (a : W16) (m : FlashIo) (i : Fin 3) (t : State),
    s.pldmUp = true →
    s.flash.pldm = .table →
    s.flash.component a = some i →
    s.pwr.pfail = false →
    s.dlBegin i true m = (t, 0) →
    exec (.updateComponent a m) s = .next ((t.modFls fun F => { F with pldm := .component }).emit (.reply 33 0 [0]))) ∧
  -- FIRMWARE_DATA_RECEIVED (R540)
  (∀ (s : State) (d : Bytes) (m : FlashIo) (x : Download) (t : State) (y : Download),
    s.pldmUp = true →
    s.flash.pldm = .component →
    s.pwr.pfail = false →
    s.flash.dl = some x →
    x.verified = false →
    s.dlWrite x.target d.length d false m = (t, 0) →
    t.flash.loading x.target = some y →
    y.fill < 512 ∨ y.fill ≠ 512 + bodyLen t.flash.images[x.target] →
    exec (.firmwareDataReceived d m) s = .next (t.emit (.reply 33 0 [0, t.flash.fillReg.toNat]))) ∧
  -- ACTIVATE_FIRMWARE (R540)
  (∀ (s : State),
    s.pldmUp = true →
    s.flash.pldm = .component →
    s.flash.dl = none →
    s.pwr.pfail = false →
    exec .activateFirmware s = .next ((s.emit (.reply 33 0 [])).warmReset 0x08 false)) ∧
  -- CANCEL_UPDATE_COMPONENT (R540)
  (∀ (s : State),
    s.pldmUp = true →
    s.flash.pldm = .component →
    exec .cancelUpdateComponent s = .next ((s.modFls fun F => { F with pldm := .table, dl := none }).emit (.reply 33 0 []))) ∧
  -- CANCEL_UPDATE (R540)
  (∀ (s : State),
    s.pldmUp = true →
    s.flash.pldm ≠ .idle →
    exec .cancelUpdate s = .next ((s.modFls fun F => { F with pldm := .idle, dl := none }).emit (.reply 33 0 [])))

/-- Cages, buttons and the SMBus alert; about the cages and the board inputs. Where a rule leaves a point open, the operations named follow log entry 35 (the model's choices). -/
def Obligations.CagesButtonsAndAlerts : Prop :=
  -- COLD_RST_N (R560)
  (∀ (s : State) (n : Nat),
    s.sled.stby = true →
    1000000 ≤ n →
    exec (.coldRstN n) s = .next (s.coldReset 0x03)) ∧
  -- SERVICE_BUTTON_PRESS (R564)
  (∀ (s : State),
    s.sled.stby = true →
    exec .serviceButtonPress s = .next ({ s with sled := { s.sled with press := true } })) ∧
  -- SERVICE_BUTTON_HOLD (R564)
  (∀ (s : State),
    s.sled.stby = true →
    exec .serviceButtonHold s = .next (s.coldReset 0x02)) ∧
  -- CAGE_MODULE_INSERT (R570)
  (∀ (s : State) (a : PortNo) (n : Nat) (b : BitVec 8),
    (s.sled.cages[a]).present = false →
    exec (.cageModuleInsert a true n b) s = .next ((s.modCage a fun _ => { Cage.reset with present := true, passive := true, ready := true, cls := 0, temp := b }).moduleReady a)) ∧
  -- CAGE_MODULE_INSERT (R570)
  (∀ (s : State) (a : PortNo) (n : Nat) (b : BitVec 8) (t : State),
    (s.sled.cages[a]).present = false →
    t = ((s.modCage a (fun _ => { Cage.reset with present := true, passive := false, ready := false, cls := n, temp := b })).modPort a (fun P => { P with modPres := true })).grantAll →
    exec (.cageModuleInsert a false n b) s = .next (if (t.sled.cages[a]).denied then t.cageDenies a else t)) ∧
  -- CAGE_MODULE_REMOVE (R570)
  (∀ (s : State) (a : PortNo),
    (s.sled.cages[a]).present = true →
    exec (.cageModuleRemove a) s = .next (((s.modCage a fun _ => Cage.reset).moduleGone a false).grantAll)) ∧
  -- CAGE_OVERPOWER (R571)
  (∀ (s : State) (a : PortNo),
    (s.sled.cages[a]).present = true →
    (s.sled.cages[a]).off = false →
    exec (.cageOverpower a) s = .next (((s.modCage a fun c => { c with off := true, denied := true, granted := false }).cageDenies a).grantAll)) ∧
  -- MODULE_ADVERTISEMENT_CHANGE (R570)
  (∀ (s : State) (a : PortNo) (n : Nat) (t : State),
    (s.sled.cages[a]).present = true →
    (s.sled.cages[a]).passive = false →
    (s.sled.cages[a]).off = false →
    t = (s.modCage a (fun c => { c with cls := n, granted := false })).grantAll →
    exec (.moduleAdvertisementChange a n) s = .next (if (t.sled.cages[a]).denied && !(s.sled.cages[a]).denied then t.cageDenies a else t)) ∧
  -- SMBUS_ALERT_RESPONSE (R557)
  (∀ (s : State),
    s.sled.stby = true →
    s.sled.alert = true →
    exec .smbusAlertResponse s = .next ({ s with sled := { s.sled with alert := false } }.emit (.reply 34 0 [s.sled.smbAddr.toNat])))

/-- Register writes without a row of their own, and reads that clear or latch; about plain registers, counters and latches. Where a rule leaves a point open, the operations named follow log entry 36 (the model's choices). -/
def Obligations.RegisterReadsAndWrites : Prop :=
  -- REGISTER_WRITE (R576)
  (∀ (s : State) (n : Nat) (v : W32),
    n % 4 = 0 →
    n < 0x10000000 →
    exec (.registerWrite .pf n v) s = .next (s.pfWrite n v)) ∧
  -- REGISTER_WRITE (R576)
  (∀ (s : State) (p : Pid) (n : Nat) (v : W32),
    n % 4 = 0 →
    n < 0x10000000 →
    exec (.registerWrite (.vf p) n v) s = .next (s.vfWrite p n v)) ∧
  -- REGISTER_WRITE (R576)
  (∀ (s : State) (fn : Fn) (n : Nat) (v : W32),
    n % 4 = 0 →
    0x10000000 ≤ n →
    s.present fn = true →
    exec (.registerWrite fn n v) s = .next (s.msixWrite fn (n - 0x10000000) v)) ∧
  -- RC_COUNTER_READ (R479)
  (∀ (s t : State) (fn : Fn) (n : Nat) (v : W32),
    n % 4 = 0 →
    s.serves fn n = true →
    s.counter fn n = some (v, t) →
    exec (.rcCounterRead fn n) s = .next (t.emit (.regValue fn n v))) ∧
  -- LOW_WORD_READ (R480)
  (∀ (s : State) (fn : Fn) (n : Nat) (a : W64),
    n % 4 = 0 →
    s.serves fn n = true →
    meterAt fn n = none →
    s.pair64 fn n = some a →
    ¬ (fn = .pf ∧ n = 0x20000) →
    exec (.lowWordRead fn n) s = .next ((s.modFn fn fun f => { f with latches := latch f.latches (n + 4) (halfOf a true) }).emit (.regValue fn n (halfOf a false)))) ∧
  -- LOW_WORD_READ (R480)
  (∀ (s : State),
    s.pfServes 0x20000 = true →
    exec (.lowWordRead .pf 0x20000) s = .next ((s.stamped.modFn .pf fun f => { f with latches := latch f.latches 0x20004 (halfOf (BitVec.ofNat 64 s.stamp) true) }).emit (.regValue .pf 0x20000 (halfOf (BitVec.ofNat 64 s.stamp) false)))) ∧
  -- LOW_WORD_READ (R480)
  (∀ (s : State) (fn : Fn) (n : Nat),
    n % 4 = 0 →
    s.serves fn n = true →
    s.counter fn n = none →
    tokenAt fn n = false →
    meterAt fn n = none →
    n < 4 ∨ meterAt fn (n - 4) = none →
    s.pair64 fn n = none →
    n < 4 ∨ s.pair64 fn (n - 4) = none →
    exec (.lowWordRead fn n) s = .next (s.took.emit (.regValue fn n (s.word fn n)))) ∧
  -- METER_LATCH_READ (R480)
  (∀ (s : State) (p : Pid),
    s.pfServes 0x60100 = true →
    exec (.meterLatchRead .pf p) s = .next ((s.modMtr p fun m => { m with latchPf := some (s.prt p).mtr.values }).emit (.regValue .pf (0x60100 + 0x40 * p.val) (((s.prt p).mtr.values[0]).truncate 32)))) ∧
  -- METER_LATCH_READ (R480)
  (∀ (s : State) (p : Pid),
    s.vfFull p = true →
    exec (.meterLatchRead (.vf p) p) s = .next ((s.modMtr p fun m => { m with latchVf := some (s.prt p).mtr.values }).emit (.regValue (.vf p) 0x60000 (((s.prt p).mtr.values[0]).truncate 32))))

/-- Meter records, measurements, entropy faults and FENCED slots; about the meters and the security registers. Where a rule leaves a point open, the operations named follow log entries 2, 29 (the model's choices). -/
def Obligations.MetersMeasurementsAndSlots : Prop :=
  -- METER_INTERVAL_BOUNDARY (R473)
  (∀ (s : State) (p : Pid),
    exec (.meterIntervalBoundary p) s = .next (((List.finRange 16).filter fun q => q ≤ p).foldl (fun s q => match s.owedBoundary q with | some t => s.formRecord q t false | none => s) s)) ∧
  -- METER_RECORD_SIGNED (R475)
  (∀ (s : State) (f : FormedRec) (l : List FormedRec),
    s.mtr.forming = f :: l →
    f.unsigned = false →
    s.sec.rngFail = false →
    exec .meterRecordSigned s = .next (
      let b := f.signed false (Config.drbg 384 s.nfree)
      let t := ({ s.took with mtr := { s.took.mtr with forming := l, unsigned := s.took.mtr.unsigned } }).recordOut f.pid f.seq b
      if t.sameLife f.pid b then t.tenantRecord f.pid b else t)) ∧
  -- METER_RECORD_SIGNED (R475)
  (∀ (s : State) (f : FormedRec) (l : List FormedRec),
    s.mtr.forming = f :: l →
    f.unsigned = true →
    exec .meterRecordSigned s = .next (
      let b := f.signed true (Config.drbg 384 s.nfree)
      let t := ({ s with mtr := { s.mtr with forming := l, unsigned := s.mtr.unsigned } }).recordOut f.pid f.seq b
      if t.sameLife f.pid b then t.tenantRecord f.pid b else t)) ∧
  -- MTR_IVL_WRITE (R473)
  (∀ (s : State) (p : Pid) (v : W32),
    s.pfServes 0x60040 = true →
    exec (.mtrIvlWrite p v) s = .next ((s.intervalBoundary p).modMtr p fun m => { m with ivl := BitVec.ofNat 6 v.toNat, mark := max m.mark s.pwr.time.toNat })) ∧
  -- ENTROPY_FAULT (R441)
  (∀ (s : State),
    s.sec.rngFail = false →
    exec (.entropyFault false) s = .next ((s.modSec fun S => { S with rngFail := true }).postDev 0x0801 2 0)) ∧
  -- ENTROPY_FAULT (R441)
  (∀ (s : State),
    s.sec.rngFail = false →
    s.boot.afterCold = true →
    s.boot.hostReady = false →
    exec (.entropyFault true) s = .next ((s.modSec fun S => { S with rngFail := true }).postDev 0x0801 1 0)) ∧
  -- TNT_MEAS_GO (R460)
  (∀ (s : State) (p : Pid) (v : W32),
    s.vfFull p = true →
    v.getLsbD 0 = true →
    exec (.tntMeasGo p v) s = .next (s.modPrt p fun P => { P with meas := P.meas.extend })) ∧
  -- SEC_FSLOTS_WRITE (R448)
  (∀ (s : State) (p : Pid) (v : W32),
    s.pfServes 0x50040 = true →
    (s.life p).st = .empty ∨ (s.life p).st = .configuring ∨ ((s.life p).st = .ready ∧ (s.life p).timingAct = false) →
    exec (.secFslotsWrite p v) s = .next (s.modSec fun S => { S with fslots := S.fslots.set p.val (BitVec.ofNat 6 (min 48 (v.toNat % 64))) p.isLt }))

/-- SPDM requests in the states that answer them; about the SPDM responders and the session. Where a rule leaves a point open, the operations named follow log entry 29 (the model's choices). -/
def Obligations.SpdmRequestsAreAnswered : Prop :=
  -- SPDM_GET_VERSION (R457)
  (∀ (s : State) (r : Responder),
    s.answers r = true →
    exec (.spdmGetVersion r) s = .next ((s.setConn r .version).spdmSay r 0x04 [0x1300])) ∧
  -- SPDM_GET_CAPABILITIES (R457)
  (∀ (s : State) (r : Responder),
    s.answers r = true →
    s.conn r = .version →
    exec (.spdmGetCapabilities r) s = .next ((s.setConn r .capabilities).spdmSay r 0x61 [16])) ∧
  -- SPDM_NEGOTIATE_ALGORITHMS (R457)
  (∀ (s : State) (r : Responder),
    s.answers r = true →
    s.conn r = .capabilities →
    exec (.spdmNegotiateAlgorithms r) s = .next ((s.setConn r .negotiated).spdmSay r 0x63 [])) ∧
  -- SPDM_GET_DIGESTS (R457)
  (∀ (s : State) (r : Responder),
    s.answers r = true →
    s.conn r = .negotiated →
    exec (.spdmGetDigests r) s = .next (s.spdmSay r 0x01 ((sha384 Config.certChain).map (·.toNat)))) ∧
  -- SPDM_GET_CERTIFICATE (R454)
  (∀ (s : State) (r : Responder) (i j : Nat),
    s.answers r = true →
    s.conn r = .negotiated →
    exec (.spdmGetCertificate r 0 i j) s = .next (
      if Config.certChain.length ≤ i then s.spdmError r 0x01
      else s.spdmSay r 0x02 ([((Config.certChain.drop i).take j).length, Config.certChain.length - i - ((Config.certChain.drop i).take j).length] ++ ((Config.certChain.drop i).take j).map (·.toNat)))) ∧
  -- SPDM_GET_CERTIFICATE (R454)
  (∀ (s : State) (r : Responder) (n i j : Nat),
    s.answers r = true →
    s.conn r = .negotiated →
    n ≠ 0 →
    exec (.spdmGetCertificate r n i j) s = .next (s.spdmError r 0x01)) ∧
  -- SPDM_CHALLENGE (R455)
  (∀ (s : State) (r : Responder),
    s.answers r = true →
    s.conn r = .negotiated →
    s.sec.rngFail = false →
    exec (.spdmChallenge r 0) s = .next (s.took.took.spdmSay r 0x03 [(Config.ecdsaSign (leVec 48 (s.free 384)) (Config.drbg 384 (s.nfree + 1))).1.toNat, (Config.ecdsaSign (leVec 48 (s.free 384)) (Config.drbg 384 (s.nfree + 1))).2.toNat])) ∧
  -- SPDM_GET_MEASUREMENTS (R459)
  (∀ (s : State) (r : Responder) (i : Nat) (b : Bool),
    s.answers r = true →
    s.conn r = .negotiated →
    i ∈ measScope r →
    i ≠ 0 →
    i ≠ 0xFF →
    exec (.spdmGetMeasurements r i b) s = .next (
      let l := ((measScope r).filter (· = i)).flatMap fun i => i :: (s.measBlock i).map (·.toNat)
      if b then s.spdmSigned r 0x60 l else s.spdmSay r 0x60 l)) ∧
  -- SPDM_KEY_EXCHANGE (R458)
  (∀ (s : State),
    s.answers .pf = true →
    s.conn .pf = .negotiated →
    s.sec.rngFail = false →
    exec (.spdmKeyExchange .pf) s = .next (
      let t := s.endSession 1
      ((t.took.modSec fun S => { S with session := some ⟨t.free 32, false, 0⟩ }).postSession true 0 (t.free 32)).spdmSigned .pf 0x64 [(t.free 32).toNat])) ∧
  -- SPDM_FINISH (R457)
  (∀ (s : State) (x : SpdmSession),
    s.answers .pf = true →
    s.conn .pf = .negotiated →
    s.sec.session = some x →
    x.established = false →
    exec (.spdmFinish .pf) s = .next ((s.modSession fun x => { x with established := true }).spdmSay .pf 0x65 [])) ∧
  -- SPDM_HEARTBEAT (R457)
  (∀ (s : State) (x : SpdmSession),
    s.answers .pf = true →
    s.conn .pf = .negotiated →
    s.sec.session = some x →
    x.established = true →
    exec (.spdmHeartbeat .pf) s = .next (s.spdmSay .pf 0x68 [])) ∧
  -- SPDM_KEY_UPDATE (R457)
  (∀ (s : State) (x : SpdmSession),
    s.answers .pf = true →
    s.conn .pf = .negotiated →
    s.sec.session = some x →
    x.established = true →
    exec (.spdmKeyUpdate .pf) s = .next ((s.modSession fun x => { x with keyUpdates := x.keyUpdates + 1 }).spdmSay .pf 0x69 [])) ∧
  -- SPDM_END_SESSION (R458)
  (∀ (s : State) (x : SpdmSession),
    s.answers .pf = true →
    s.conn .pf = .negotiated →
    s.sec.session = some x →
    x.established = true →
    exec (.spdmEndSession .pf) s = .next ((s.spdmSay .pf 0x6C []).endSession 0)) ∧
  -- SPDM_VENDOR_DEFINED_REQUEST (R367)
  (∀ (s : State) (x : SpdmSession),
    s.answers .pf = true →
    s.conn .pf = .negotiated →
    s.sec.session = some x →
    x.established = true →
    exec (.spdmVendorDefinedRequest .pf true) s = .next ((s.modSec fun S => { S with ide := true }).spdmSay .pf 0x7E []))

/-- JTAG instructions; about the JTAG instruction register. Where a rule leaves a point open, the operations named follow log entry 29 (the model's choices). -/
def Obligations.JtagInstructionsLoad : Prop :=
  -- JTAG_BYPASS (R446)
  (∀ (s : State),
    exec .jtagBypass s = .next (s.modSec fun S => { S with jtag := .bypass })) ∧
  -- JTAG_IDCODE (R446)
  (∀ (s : State),
    exec .jtagIdcode s = .next ((s.took.modSec fun S => { S with jtag := .idcode }).emit (.reply 32 0 [(s.free 32).toNat]))) ∧
  -- JTAG_SAMPLE_PRELOAD (R446)
  (∀ (s : State),
    exec .jtagSamplePreload s = .next (s.modSec fun S => { S with jtag := .sample })) ∧
  -- JTAG_EXTEST (R446)
  (∀ (s : State) (a : BitVec 8),
    s.sec.tenantKeys = false →
    exec (.jtagExtest a) s = .next (s.modSec fun S => { S with jtag := .extest })) ∧
  -- JTAG_EXTEST (R446)
  (∀ (s : State) (a : BitVec 8),
    s.sec.tenantKeys = true →
    exec (.jtagExtest a) s = .next ((s.modSec fun S => { S with jtag := .bypass }).postDev 0x0805 a.toNat 0)) ∧
  -- JTAG_CLAMP (R446)
  (∀ (s : State) (a : BitVec 8),
    s.sec.tenantKeys = false →
    exec (.jtagClamp a) s = .next (s.modSec fun S => { S with jtag := .clamp })) ∧
  -- JTAG_CLAMP (R446)
  (∀ (s : State) (a : BitVec 8),
    s.sec.tenantKeys = true →
    exec (.jtagClamp a) s = .next ((s.modSec fun S => { S with jtag := .bypass }).postDev 0x0805 a.toNat 0)) ∧
  -- JTAG_HIGHZ (R446)
  (∀ (s : State) (a : BitVec 8),
    s.sec.tenantKeys = false →
    exec (.jtagHighz a) s = .next (s.modSec fun S => { S with jtag := .highz })) ∧
  -- JTAG_HIGHZ (R446)
  (∀ (s : State) (a : BitVec 8),
    s.sec.tenantKeys = true →
    exec (.jtagHighz a) s = .next ((s.modSec fun S => { S with jtag := .bypass }).postDev 0x0805 a.toNat 0))

/-- Commands turned away: what is discarded and what is refused with a code; about the state a refusal leaves. Where a rule leaves a point open, the operations named follow log entries 30, 32 (the model's choices). -/
def Obligations.CommandsTurnedAway : Prop :=
  -- START (R21)
  (∀ (s : State) (p : Pid),
    s.pfOpen = true →
    (s.exitRetention.life p).exec ≠ none →
    exec (.start p) s = .next (s.exitRetention.prtResult p 4 1)) ∧
  -- START (R21)
  (∀ (s : State) (p : Pid),
    s.pfOpen = true →
    (s.exitRetention.life p).exec = none →
    (s.exitRetention.life p).st ≠ .ready →
    exec (.start p) s = .next (s.exitRetention.prtResult p 4 2)) ∧
  -- PRT_CMD_RESERVED (R18)
  (∀ (s : State) (p : Pid),
    exec (.prtCmdReserved p 0) s = .next (s)) ∧
  -- SYS_RST_PARTITION (R513)
  (∀ (s : State) (p : Pid),
    (s.life p).st ≠ .running →
    (s.life p).st ≠ .napping →
    (s.life p).st ≠ .suspended →
    exec (.sysRstPartition p) s = .next (s)) ∧
  -- PWD_RESET (R513)
  (∀ (s : State) (p : Pid) (v : W32),
    (s.life p).st ≠ .running →
    (s.life p).st ≠ .napping →
    (s.life p).st ≠ .suspended →
    exec (.pwdReset p v) s = .next (s)) ∧
  -- WATCHDOG_SERVE (R521)
  (∀ (s : State) (fn : Fn) (v : W32),
    (s.dog fn).st = .disabled ∨ (s.dog fn).st = .paused →
    exec (.watchdogServe fn v) s = .next (s)) ∧
  -- MOV_CH_KILL (R347)
  (∀ (s : State) (m : MovNo),
    (s.chans[m]).bound = false →
    exec (.movChKill m) s = .next (s)) ∧
  -- LNK_OP_ATTACH (R384)
  (∀ (s : State) (v : W32),
    s.pfOpen = true →
    v.getLsbD 0 = true →
    s.lost .pf = false →
    exec (.lnkOpAttach v) s = .next ({ s with link := { s.link with attachSts := 2 } })) ∧
  -- PARTITION_WINDOW_READ (R63)
  (∀ (s : State) (p : Pid) (off : Nat),
    s.windowsUp = true →
    off < 2 ^ 28 →
    (s.prt p).win.en = false ∨ ((s.life p).st ≠ .ready ∧ (s.life p).st ≠ .running ∧ (s.life p).st ≠ .napping ∧ (s.life p).st ≠ .suspended) ∨ (s.prt p).mem.windowReach ((s.prt p).win.base.toNat * 2 ^ 28 + off / 64 * 64) = false →
    exec (.partitionWindowRead p off) s = .next (((s.hostBytes (.vf p) 64).windowFault p ((s.prt p).win.base.toNat * 2 ^ 28 + off / 64 * 64)).emit (.line false (List.replicate 64 0)))) ∧
  -- PARTITION_WINDOW_WRITE (R63)
  (∀ (s : State) (p : Pid) (off : Nat) (data : Bytes) (en : W64),
    s.windowsUp = true →
    off < 2 ^ 28 →
    (s.prt p).win.en = false ∨ ((s.life p).st ≠ .ready ∧ (s.life p).st ≠ .running ∧ (s.life p).st ≠ .napping ∧ (s.life p).st ≠ .suspended) ∨ (s.prt p).mem.windowReach ((s.prt p).win.base.toNat * 2 ^ 28 + off / 64 * 64) = false →
    exec (.partitionWindowWrite p off data en) s = .next ((s.hostBytes (.vf p) ((List.range 64).filter fun i => en.getLsbD i).length).windowFault p ((s.prt p).win.base.toNat * 2 ^ 28 + off / 64 * 64))) ∧
  -- TNT_EPOCH_WRITE (R125)
  (∀ (s : State) (p : Pid) (v : W32),
    (s.life p).st ≠ .ready →
    exec (.tntEpochWrite p v) s = .next (s)) ∧
  -- DOORBELL_WRITE (R87)
  (∀ (s : State) (r : RingId) (v : W32),
    (s.ring r).state ≠ .active →
    exec (.doorbellWrite r v) s = .next (s)) ∧
  -- OBJ_DEFINE (R52)
  (∀ (s : State) (c : CmdRef) (p : Pid) (n : Fin 64) (k : Cmd) (d : W32),
    s.inline_ c 4 0x40 = some k →
    c.ring = .vf p n →
    s.defineBad p k.operands = some d →
    exec (.objDefine c) s = .next (s.complete c false .malformed d)) ∧
  -- PORT_ENABLE (R391)
  (∀ (s : State) (a : PortNo),
    (s.ports[a]).en = true →
    exec (.portEnable a) s = .next (s)) ∧
  -- SU_START (R159)
  (∀ (s : State) (u : UnitRef) (b : Bool),
    s.suOpen u = true →
    ((s.unit u).st ≠ .loaded ∧ (s.unit u).st ≠ .done) ∨ (b = true ∧ (s.prt u.pid).rt.en = false) →
    exec (.suStart u b) s = .next (s.suReject u))
end

