-- ==== Sys2Proof/Laws/Memory.lean ====
section
/-! SUPPORT. Laws/Memory.lean: every write of tile bytes keeps the canonical form, a byte that is written reads as written, and
every other byte reads as before. -/

namespace Sys2Proof.Machine

/-- The canonical form, said of the list as a whole. -/
theorem wf_iff (m : List Host.Cell) :
    Memory.wf m = true ↔ (∀ c ∈ m, c.2 ≠ 0) ∧ m.Pairwise fun c d => c.1 < d.1 := by
  induction m with
  | nil => simp [Memory.wf]
  | cons c r ih =>
    cases r with
    | nil => simp [Memory.wf]
    | cons d r =>
      rw [Memory.wf, Bool.and_eq_true, Bool.and_eq_true, ih]
      simp only [bne_iff_ne, decide_eq_true_eq, List.mem_cons, List.pairwise_cons, forall_eq_or_imp]
      constructor
      · rintro ⟨⟨a, b⟩, ⟨c1, c2⟩, e, f⟩
        exact ⟨⟨a, c1, c2⟩, ⟨b, fun x hx => Nat.lt_trans b (e x hx)⟩, e, f⟩
      · rintro ⟨⟨a, c1, c2⟩, ⟨b, _⟩, e, f⟩
        exact ⟨⟨a, b⟩, ⟨c1, c2⟩, e, f⟩

theorem readByte_of_lt {m : List Host.Cell} {a : Nat} (h : ∀ c ∈ m, a < c.1) : readByte m a = 0 := by
  induction m with
  | nil => rfl
  | cons c r ih =>
    have := h c (by simp)
    rw [readByte, if_neg (by omega)]
    exact ih fun d hd => h d (by simp [hd])

/-- Every address listed after a write is the written one or was listed. -/
theorem mem_writeByte {m : List Host.Cell} {a : Nat} {v : Byte} {c : Host.Cell} (h : c ∈ writeByte m a v) :
    c ∈ m ∨ (c = (a, v) ∧ v ≠ 0) := by
  induction m with
  | nil =>
    rw [writeByte] at h
    split at h <;> simp_all
  | cons d r ih =>
    rw [writeByte] at h
    repeat' split at h
    all_goals simp only [List.mem_cons] at h ⊢
    · exact .inl h
    · rcases h with h | h | h <;> simp_all
    · exact .inl (.inr h)
    · rcases h with h | h <;> simp_all
    · rcases h with h | h
      · exact .inl (.inl h)
      · rcases ih h with h | h
        · exact .inl (.inr h)
        · exact .inr h

/-- A write keeps the canonical form. -/
theorem writeByte_wf {m : List Host.Cell} {a : Nat} {v : Byte} (h : Memory.wf m = true) :
    Memory.wf (writeByte m a v) = true := by
  rw [wf_iff] at *
  refine ⟨fun c hc => ?_, ?_⟩
  · rcases mem_writeByte hc with hc | ⟨rfl, hv⟩
    · exact h.1 c hc
    · exact hv
  · have h2 := h.2
    clear h
    induction m with
    | nil =>
      rw [writeByte]
      split <;> simp
    | cons d r ih =>
      have hr := List.pairwise_cons.1 h2
      rw [writeByte]
      repeat' split
      · exact h2
      · refine List.pairwise_cons.2 ⟨fun x hx => ?_, h2⟩
        rcases List.mem_cons.1 hx with rfl | hx
        · assumption
        · exact Nat.lt_trans ‹_› (hr.1 x hx)
      · exact hr.2
      · refine List.pairwise_cons.2 ⟨fun x hx => ?_, hr.2⟩
        have := hr.1 x hx
        simp_all
      · refine List.pairwise_cons.2 ⟨fun x hx => ?_, ih hr.2⟩
        rcases mem_writeByte hx with hx | ⟨rfl, _⟩
        · exact hr.1 x hx
        · show d.1 < a
          omega

/-- A byte written reads as written, and every other byte as before. -/
theorem readByte_writeByte {m : List Host.Cell} {a : Nat} {v : Byte} (h : Memory.wf m = true) (b : Nat) :
    readByte (writeByte m a v) b = if b = a then v else readByte m b := by
  have h2 := ((wf_iff m).1 h).2
  clear h
  induction m with
  | nil =>
    rw [writeByte]
    split
    · split <;> simp_all [readByte]
    · simp only [readByte]
      split <;> split <;> simp_all
  | cons d r ih =>
    have hr := List.pairwise_cons.1 h2
    rw [writeByte]
    have low : a ≤ d.1 → readByte r a = 0 := fun hd => readByte_of_lt fun c hc => Nat.lt_of_le_of_lt hd (hr.1 c hc)
    repeat' split
    · subst_vars
      rw [readByte, if_neg (by omega)]
      exact low (by omega)
    · rfl
    · subst_vars
      rw [readByte, if_pos rfl]
    · rw [readByte, if_neg (by omega)]
    · subst_vars
      exact low (by omega)
    · rw [readByte.eq_2 b d.1 d.2 r, if_neg (by omega)]
    · subst_vars
      rw [readByte, if_pos rfl]
    · rw [readByte, readByte.eq_2 b d.1 d.2 r, if_neg (by omega), if_neg (by omega)]
    · subst_vars
      rw [readByte, if_neg (by omega), ih hr.2, if_pos rfl]
    · rw [readByte, readByte.eq_2 b d.1 d.2 r, ih hr.2, if_neg (c := b = a) ‹_›]

theorem writeBytes_wf {m : List Host.Cell} {a : Nat} {b : Bytes} (h : Memory.wf m = true) :
    Memory.wf (writeBytes m a b) = true := by
  induction b generalizing m a with
  | nil => exact h
  | cons v r ih => exact ih (writeByte_wf h)

/-- Bytes written read as written, and every other byte as before. -/
theorem readByte_writeBytes {m : List Host.Cell} {a : Nat} {b : Bytes} (h : Memory.wf m = true) (k : Nat) :
    readByte (writeBytes m a b) k = if a ≤ k ∧ k < a + b.length then b.getD (k - a) 0 else readByte m k := by
  induction b generalizing m a with
  | nil => simp only [writeBytes, List.length_nil]; rw [if_neg (by omega)]
  | cons v r ih =>
    rw [writeBytes, ih (writeByte_wf h), readByte_writeByte h]
    simp only [List.length_cons]
    by_cases h1 : k = a
    · subst h1
      rw [if_neg (by omega), if_pos rfl, if_pos (by omega)]
      simp
    · rw [if_neg h1]
      by_cases h2 : a + 1 ≤ k ∧ k < a + 1 + r.length
      · rw [if_pos h2, if_pos (by omega)]
        have : k - a = (k - (a + 1)) + 1 := by omega
        rw [this, List.getD_cons_succ]
      · rw [if_neg h2, if_neg (by omega)]

theorem storeAll_wf {m : List Host.Cell} {ws : List (Nat × Bytes)} (h : Memory.wf m = true) :
    Memory.wf (ws.foldl (fun b w => writeBytes b w.1 w.2) m) = true := by
  induction ws generalizing m with
  | nil => exact h
  | cons w r ih => exact ih (writeBytes_wf h)

theorem clearBytes_wf {m : List Host.Cell} {lo hi : Nat} (h : Memory.wf m = true) :
    Memory.wf (clearBytes m lo hi) = true := by
  rw [wf_iff] at *
  exact ⟨fun c hc => h.1 c (List.mem_filter.1 hc).1, h.2.filter _⟩

/-- A cleared range reads 0, and every other byte as before. -/
theorem readByte_clearBytes (m : List Host.Cell) (lo hi a : Nat) :
    readByte (clearBytes m lo hi) a = if lo ≤ a ∧ a < hi then 0 else readByte m a := by
  induction m with
  | nil => simp [clearBytes, readByte]
  | cons c r ih =>
    unfold clearBytes at *
    rw [List.filter_cons]
    split
    · rename_i hc
      rw [readByte, readByte.eq_2 a c.1 c.2 r, ih]
      simp only [Bool.or_eq_true, decide_eq_true_eq] at hc
      by_cases h1 : c.1 = a
      · rw [if_pos h1, if_neg (by omega), if_pos h1]
      · rw [if_neg h1, if_neg h1]
    · rename_i hc
      rw [ih, readByte.eq_2 a c.1 c.2 r]
      simp only [Bool.or_eq_true, decide_eq_true_eq] at hc
      by_cases h1 : c.1 = a
      · rw [if_pos (by omega), if_pos (by omega)]
      · rw [if_neg h1]

theorem swapBytes_wf {m : List Host.Cell} {a n : Nat} (h : Memory.wf m = true) : Memory.wf (swapBytes m a n) = true := by
  rw [wf_iff] at *
  obtain ⟨h1, h2⟩ := h
  unfold swapBytes
  refine ⟨fun c hc => ?_, ?_⟩
  · simp only [List.mem_append, List.mem_map, List.mem_filter] at hc
    rcases hc with ((hc | ⟨d, hd, rfl⟩) | ⟨d, hd, rfl⟩) | hc
    · exact h1 c hc.1
    · exact h1 d hd.1
    · exact h1 d hd.1
    · exact h1 c hc.1
  · refine List.pairwise_append.2 ⟨List.pairwise_append.2 ⟨List.pairwise_append.2 ⟨h2.filter _, ?_, ?_⟩, ?_, ?_⟩, h2.filter _, ?_⟩
    · rw [List.pairwise_map]
      refine List.Pairwise.imp_of_mem ?_ (h2.filter _)
      intro x y hx hy hxy
      simp only [List.mem_filter, Bool.and_eq_true, decide_eq_true_eq] at hx hy
      show x.1 - n < y.1 - n
      omega
    · intro x hx y hy
      simp only [List.mem_filter, List.mem_map, Bool.and_eq_true, decide_eq_true_eq] at hx hy
      obtain ⟨z, hz, rfl⟩ := hy
      show x.1 < z.1 - n
      omega
    · rw [List.pairwise_map]
      exact (h2.filter _).imp fun hxy => Nat.add_lt_add_right hxy n
    · intro x hx y hy
      simp only [List.mem_append, List.mem_filter, List.mem_map, Bool.and_eq_true, decide_eq_true_eq] at hx hy
      obtain ⟨z, hz, rfl⟩ := hy
      show x.1 < z.1 + n
      rcases hx with hx | ⟨w, hw, rfl⟩
      · omega
      · show w.1 - n < z.1 + n
        omega
    · intro x hx y hy
      simp only [List.mem_append, List.mem_filter, List.mem_map, Bool.and_eq_true, decide_eq_true_eq] at hx hy
      rcases hx with (hx | ⟨w, hw, rfl⟩) | ⟨w, hw, rfl⟩
      · omega
      · show w.1 - n < y.1
        omega
      · show w.1 + n < y.1
        omega

end Sys2Proof.Machine
end

