-- ==== Sys2Proof/Laws/Keeps.lean ====
section
/-! SUPPORT. Laws/Keeps.lean: what one state keeps of another, and the lemmas for the plain updates of a state. -/

namespace Sys2Proof.Machine

/-- What every function of the state keeps: the queue of commands, the free values taken so far, what the sled has put out,
the canonical form of memory and the fuses that are blown. -/
structure Keeps (s t : State) : Prop where
  queue : t.pending = s.pending
  frees : s.nfree ≤ t.nfree
  outs  : s.out <+: t.out
  mem   : s.memOk → t.memOk
  fuse  : s.flash.fuses ≤ 64 → s.flash.fuses ≤ t.flash.fuses ∧ t.flash.fuses ≤ 64

theorem Keeps.refl {s : State} : Keeps s s := ⟨rfl, Nat.le_refl _, List.prefix_rfl, id, fun h => ⟨Nat.le_refl _, h⟩⟩

theorem Keeps.same {s0 s t : State} (h : Keeps s0 s) (a : t.pending = s.pending) (b : t.nfree = s.nfree) (c : t.out = s.out)
    (d : t.prts = s.prts) (e : t.flash = s.flash) : Keeps s0 t :=
  ⟨a.trans h.queue, b ▸ h.frees, c ▸ h.outs, fun m p => by
    have := h.mem m p
    unfold State.prt at *
    rwa [d], e ▸ h.fuse⟩

theorem Keeps.foldl {α : Type} {s0 s : State} {l : List α} {f : State → α → State} (h : Keeps s0 s)
    (hf : ∀ s x, Keeps s0 s → Keeps s0 (f s x)) : Keeps s0 (l.foldl f s) := by
  induction l generalizing s with
  | nil => exact h
  | cons x r ih => exact ih (hf s x h)

theorem vmod_get {α : Type} {n : Nat} (v : Vector α n) (i j : Fin n) (f : α → α) :
    (vmod v i f)[j] = if i = j then f v[i] else v[j] := by
  unfold vmod
  simp only [Fin.getElem_fin, Vector.getElem_set, Fin.ext_iff]

theorem Keeps.modPrt {s0 s : State} {p : Pid} {f : Prt → Prt} (h : Keeps s0 s)
    (hf : ∀ P, Memory.wf P.mem.bytes = true → Memory.wf (f P).mem.bytes = true) : Keeps s0 (s.modPrt p f) :=
  ⟨h.queue, h.frees, h.outs, fun m q => by
    have := h.mem m q
    unfold State.modPrt State.prt at *
    simp only [vmod_get]
    split
    · subst_vars; exact hf _ this
    · exact this, h.fuse⟩

theorem Keeps.modMem {s0 s : State} {p : Pid} {f : Memory → Memory} (h : Keeps s0 s)
    (hf : ∀ m, Memory.wf m.bytes = true → Memory.wf (f m).bytes = true) : Keeps s0 (s.modMem p f) :=
  Keeps.modPrt h fun P => hf P.mem

theorem Keeps.modLife {s0 s : State} {p : Pid} {f : Life → Life} (h : Keeps s0 s) : Keeps s0 (s.modLife p f) :=
  Keeps.modPrt h fun _ h => h

theorem Keeps.modFn {s0 s : State} {fn : Fn} {f : FnState → FnState} (h : Keeps s0 s) : Keeps s0 (s.modFn fn f) := by
  cases fn
  · exact Keeps.same h rfl rfl rfl rfl rfl
  · exact Keeps.modPrt h fun _ h => h

theorem Keeps.modRing {s0 s : State} {r : RingId} {f : Ring → Ring} (h : Keeps s0 s) : Keeps s0 (s.modRing r f) := by
  cases r
  · exact Keeps.same h rfl rfl rfl rfl rfl
  · exact Keeps.modPrt h fun _ h => h

/-- An update that leaves the partitions, the outputs, the free values and the queue. -/
theorem Keeps.update {s0 s : State} {op tier sqBacklog quads coreErr tigers chans movQuota reds jobs ports net sec mtr pwr link boot wdg sled fwVer scratch} (h : Keeps s0 s) :
    Keeps s0 (State.mk s.prts op tier sqBacklog quads coreErr tigers chans movQuota reds jobs ports net sec mtr pwr link boot wdg s.flash sled fwVer scratch s.nfree s.out s.pending) :=
  Keeps.same h rfl rfl rfl rfl rfl

/-- A change of the flash that blows fuses at most. -/
theorem Keeps.modFls {s0 s : State} {f : Flash → Flash} (h : Keeps s0 s)
    (hf : ∀ F, F.fuses ≤ 64 → F.fuses ≤ (f F).fuses ∧ (f F).fuses ≤ 64) : Keeps s0 (s.modFls f) :=
  ⟨h.queue, h.frees, h.outs, h.mem, fun w =>
    have a := h.fuse w
    have b := hf s.flash a.2
    ⟨Nat.le_trans a.1 b.1, b.2⟩⟩

/-- An update that leaves the partitions, the outputs, the free values, the queue and the fuses. -/
theorem Keeps.updateFls {s0 s : State} {op tier sqBacklog quads coreErr tigers chans movQuota reds jobs ports net sec mtr pwr link boot wdg flash sled fwVer scratch} (h : Keeps s0 s)
    (hf : flash.fuses = s.flash.fuses) :
    Keeps s0 (State.mk s.prts op tier sqBacklog quads coreErr tigers chans movQuota reds jobs ports net sec mtr pwr link boot wdg flash sled fwVer scratch s.nfree s.out s.pending) :=
  ⟨h.queue, h.frees, h.outs, h.mem, hf ▸ h.fuse⟩

/-- Events that wait for the operator event ring. -/
theorem Keeps.updateOwed {s0 s : State} {l : List Event} (h : Keeps s0 s) : Keeps s0 { s with flash := { s.flash with owed := l } } :=
  Keeps.updateFls h rfl

theorem Keeps.emit {s0 s : State} {o : HostOut} (h : Keeps s0 s) : Keeps s0 (s.emit o) :=
  ⟨h.queue, h.frees, h.outs.trans (List.prefix_append _ _), h.mem, h.fuse⟩

theorem Keeps.took {s0 s : State} (h : Keeps s0 s) : Keeps s0 s.took :=
  ⟨h.queue, Nat.le_succ_of_le h.frees, h.outs, h.mem, h.fuse⟩

theorem Keeps.stamped {s0 s : State} (h : Keeps s0 s) : Keeps s0 s.stamped :=
  ⟨h.queue, Nat.le_succ_of_le h.frees, h.outs, h.mem, h.fuse⟩

theorem Keeps.ite {s0 s t : State} {c : Prop} [Decidable c] (hs : Keeps s0 s) (ht : Keeps s0 t) : Keeps s0 (if c then s else t) := by
  split <;> assumption

/-- A fold that carries a state beside something else. -/
theorem Keeps.foldlFst {α β : Type} {s0 : State} {l : List α} {a : State × β} {f : State × β → α → State × β} (h : Keeps s0 a.1)
    (hf : ∀ a x, Keeps s0 a.1 → Keeps s0 (f a x).1) : Keeps s0 (l.foldl f a).1 := by
  induction l generalizing a with
  | nil => exact h
  | cons x r ih => exact ih (hf a x h)

theorem Keeps.foldlSnd {α β : Type} {s0 : State} {l : List α} {a : β × State} {f : β × State → α → β × State} (h : Keeps s0 a.2)
    (hf : ∀ a x, Keeps s0 a.2 → Keeps s0 (f a x).2) : Keeps s0 (l.foldl f a).2 := by
  induction l generalizing a with
  | nil => exact h
  | cons x r ih => exact ih (hf a x h)

/-- Free values taken beside an update. -/
theorem Keeps.more {s0 s : State} {n : Nat} (h : Keeps s0 s) : Keeps s0 { s with nfree := s.nfree + n } :=
  ⟨h.queue, Nat.le_trans h.frees (Nat.le_add_right _ _), h.outs, h.mem, h.fuse⟩

/-- Every partition changes. -/
theorem Keeps.mapPrts {s0 s : State} {f : Prt → Prt} (h : Keeps s0 s)
    (hf : ∀ P, Memory.wf P.mem.bytes = true → Memory.wf (f P).mem.bytes = true) : Keeps s0 { s with prts := s.prts.map f } :=
  ⟨h.queue, h.frees, h.outs, fun m p => by
    have := h.mem m p
    unfold State.prt at *
    simp only [Fin.getElem_fin, Vector.getElem_map]
    exact hf _ this, h.fuse⟩

/-- A value with a state beside it, where there is one. -/
def CounterKeeps (s0 : State) (o : Option (W32 × State)) : Prop := ∀ x, o = some x → Keeps s0 x.2

theorem CounterKeeps.some {s0 s : State} {v : W32} (h : Keeps s0 s) : CounterKeeps s0 (some (v, s)) := by
  rintro x ⟨⟩
  exact h

theorem CounterKeeps.none {s0 : State} : CounterKeeps s0 none := by
  rintro x ⟨⟩

theorem CounterKeeps.map {α : Type} {s0 : State} {o : Option α} {f : α → W32 × State} (h : ∀ x, o = Option.some x → Keeps s0 (f x).2) :
    CounterKeeps s0 (o.map f) := by
  cases o with
  | none => exact CounterKeeps.none
  | some a => rintro x ⟨⟩; exact h a rfl

theorem CounterKeeps.ite {s0 : State} {a b : Option (W32 × State)} {c : Prop} [Decidable c] (ha : CounterKeeps s0 a)
    (hb : CounterKeeps s0 b) : CounterKeeps s0 (if c then a else b) := by
  split <;> assumption

end Sys2Proof.Machine
end

