-- ==== Sys2Proof/Laws/KeepsShared.lean ====
section
/-! SUPPORT. Laws/KeepsShared.lean: what the shared operations keep (`Keeps`), one lemma for each function that changes a state;
for a command, that it answers a next state that keeps what the state had. -/

namespace Sys2Proof.Machine

variable {s0 s s' : State}

/-! ### Machine/Ops.lean -/

theorem Keeps.modPwr {f} (hk : Keeps s0 s) : Keeps s0 (State.modPwr s f) := by
  unfold State.modPwr
  with_reducible repeat' (first | assumption | exact Keeps.refl | split | dsimp only | apply Keeps.update)

theorem Keeps.modPort {p f} (hk : Keeps s0 s) : Keeps s0 (State.modPort s p f) := by
  unfold State.modPort
  with_reducible repeat' (first | assumption | exact Keeps.refl | split | dsimp only | apply Keeps.update)

theorem Keeps.modQuad {q f} (hk : Keeps s0 s) : Keeps s0 (State.modQuad s q f) := by
  unfold State.modQuad
  with_reducible repeat' (first | assumption | exact Keeps.refl | split | dsimp only | apply Keeps.update)

theorem Keeps.modChan {m f} (hk : Keeps s0 s) : Keeps s0 (State.modChan s m f) := by
  unfold State.modChan
  with_reducible repeat' (first | assumption | exact Keeps.refl | split | dsimp only | apply Keeps.update)

theorem Keeps.accrue {p k n} (hk : Keeps s0 s) : Keeps s0 (State.accrue s p k n) := by
  unfold State.accrue
  with_reducible repeat' (first
    | assumption | exact Keeps.refl | exact fun _ h => h | apply Keeps.modPrt | intro _ _ _ | intro _ _ | apply Keeps.ite | split
    | dsimp only | apply Keeps.update)

theorem Keeps.energy {p pj} (hk : Keeps s0 s) : Keeps s0 (State.energy s p pj) := by
  unfold State.energy
  with_reducible repeat' (first | assumption | exact Keeps.refl | apply Keeps.accrue | apply Keeps.ite | split | dsimp only)

theorem Keeps.sharedEnergy {p pj} (hk : Keeps s0 s) : Keeps s0 (State.sharedEnergy s p pj) := by
  unfold State.sharedEnergy
  with_reducible repeat' (first
    | assumption | exact Keeps.refl | exact fun _ h => h | apply Keeps.modPrt | apply Keeps.energy | intro _ _ _ | intro _ _
    | apply Keeps.ite | split | dsimp only | apply Keeps.update)

theorem Keeps.hostBytes {fn n} (hk : Keeps s0 s) : Keeps s0 (State.hostBytes s fn n) := by
  unfold State.hostBytes
  with_reducible repeat' (first
    | assumption | exact Keeps.refl | apply Keeps.sharedEnergy | apply Keeps.accrue | split | dsimp only | apply Keeps.update)

theorem Keeps.hostWrite {fn iova b} (hk : Keeps s0 s) : Keeps s0 (State.hostWrite s fn iova b) := by
  unfold State.hostWrite
  with_reducible repeat' (first | assumption | exact Keeps.refl | apply Keeps.emit | apply Keeps.hostBytes | split | dsimp only)

theorem Keeps.dataWrite {r iova b} (hk : Keeps s0 s) : Keeps s0 (State.dataWrite s r iova b) := by
  unfold State.dataWrite
  with_reducible repeat' (first
    | assumption | exact Keeps.refl | apply Keeps.modRing | apply Keeps.hostWrite | intro _ _ _ | intro _ _ | split | dsimp only
    | apply Keeps.update)

theorem Keeps.msix {fn v} (hk : Keeps s0 s) : Keeps s0 (State.msix s fn v) := by
  unfold State.msix
  with_reducible repeat' (first
    | assumption | exact Keeps.refl | apply Keeps.modFn | apply Keeps.emit | intro _ _ _ | intro _ _ | apply Keeps.ite | split
    | dsimp only | apply Keeps.update)

theorem Keeps.noteEntry {r force} (hk : Keeps s0 s) : Keeps s0 (State.noteEntry s r force) := by
  unfold State.noteEntry
  with_reducible repeat' (first
    | assumption | exact Keeps.refl | apply Keeps.modRing | apply Keeps.msix | intro _ _ _ | intro _ _ | apply Keeps.ite | split
    | dsimp only | apply Keeps.update)

theorem Keeps.writeEntry {r force mk} (hk : Keeps s0 s) : Keeps s0 (State.writeEntry s r force mk) := by
  unfold State.writeEntry
  with_reducible repeat' (first
    | assumption | exact Keeps.refl | apply Keeps.hostWrite | apply Keeps.noteEntry | apply Keeps.modRing | intro _ _ _ | intro _ _
    | split | dsimp only | apply Keeps.update)

theorem Keeps.putEvent {r e} (hk : Keeps s0 s) : Keeps s0 (State.putEvent s r e) := by
  unfold State.putEvent
  with_reducible repeat' (first
    | assumption | exact Keeps.refl | apply Keeps.modRing | apply Keeps.writeEntry | apply Keeps.stamped | intro _ _ _ | intro _ _
    | split | dsimp only | apply Keeps.update)

theorem Keeps.dropEvent {fn owed} (hk : Keeps s0 s) : Keeps s0 (State.dropEvent s fn owed) := by
  unfold State.dropEvent
  with_reducible repeat' (first
    | assumption | exact Keeps.refl | apply Keeps.modFn | intro _ _ _ | intro _ _ | split | dsimp only | apply Keeps.update)

theorem Keeps.payOwed {fn r} (hk : Keeps s0 s) : Keeps s0 (State.payOwed s fn r) := by
  unfold State.payOwed
  with_reducible repeat' (first
    | assumption | exact Keeps.refl | apply Keeps.modFn | apply Keeps.putEvent | intro _ _ _ | intro _ _ | apply Keeps.ite | split
    | dsimp only | apply Keeps.update)

theorem Keeps.post {fn e} (hk : Keeps s0 s) : Keeps s0 (State.post s fn e) := by
  unfold State.post
  with_reducible repeat' (first
    | assumption | exact Keeps.refl | apply Keeps.dropEvent | apply Keeps.payOwed | apply Keeps.putEvent | apply Keeps.ite | split
    | dsimp only | apply Keeps.update)

theorem Keeps.postDev {code arg0 arg1} (hk : Keeps s0 s) : Keeps s0 (State.postDev s code arg0 arg1) := by
  unfold State.postDev
  with_reducible repeat' (first | assumption | exact Keeps.refl | apply Keeps.post | split | dsimp only)

theorem Keeps.postOper {p code arg0 arg1} (hk : Keeps s0 s) : Keeps s0 (State.postOper s p code arg0 arg1) := by
  unfold State.postOper
  with_reducible repeat' (first | assumption | exact Keeps.refl | apply Keeps.post | split | dsimp only)

theorem Keeps.postPart {p code arg0 arg1} (hk : Keeps s0 s) : Keeps s0 (State.postPart s p code arg0 arg1) := by
  unfold State.postPart
  with_reducible repeat' (first | assumption | exact Keeps.refl | apply Keeps.post | split | dsimp only)

theorem Keeps.setPState {p st cause} (hk : Keeps s0 s) : Keeps s0 (State.setPState s p st cause) := by
  unfold State.setPState
  with_reducible repeat' (first
    | assumption | exact Keeps.refl | apply Keeps.modLife | apply Keeps.postPart | apply Keeps.postOper | intro _ _ _ | intro _ _
    | apply Keeps.ite | split | dsimp only | apply Keeps.update)

theorem Keeps.prtResult {p cmd sts} (hk : Keeps s0 s) : Keeps s0 (State.prtResult s p cmd sts) := by
  unfold State.prtResult
  with_reducible repeat' (first
    | assumption | exact Keeps.refl | apply Keeps.modLife | intro _ _ _ | intro _ _ | split | dsimp only | apply Keeps.update)

theorem Keeps.putCompletion {q c} (hk : Keeps s0 s) : Keeps s0 (State.putCompletion s q c) := by
  unfold State.putCompletion
  with_reducible repeat' (first
    | assumption | exact Keeps.refl | apply Keeps.writeEntry | apply Keeps.stamped | apply Keeps.post | intro _ _ _ | intro _ _
    | apply Keeps.ite | split | dsimp only)

theorem Keeps.hold {fn e} (hk : Keeps s0 s) : Keeps s0 (State.hold s fn e) := by
  unfold State.hold
  with_reducible repeat' (first
    | assumption | exact Keeps.refl | apply Keeps.modFn | intro _ _ _ | intro _ _ | split | dsimp only | apply Keeps.update)

theorem Keeps.postCompletion {r c} (hk : Keeps s0 s) : Keeps s0 (State.postCompletion s r c) := by
  unfold State.postCompletion
  with_reducible repeat' (first
    | assumption | exact Keeps.refl | apply Keeps.hold | apply Keeps.putCompletion | apply Keeps.ite | split | dsimp only
    | apply Keeps.update)

theorem Keeps.releaseHeld {q e} (hk : Keeps s0 s) : Keeps s0 (releaseHeld q s e) := by
  unfold Machine.releaseHeld
  with_reducible repeat' (first
    | assumption | exact Keeps.refl | apply Keeps.putCompletion | apply Keeps.hold | apply Keeps.ite | split | dsimp only
    | apply Keeps.update)

theorem Keeps.drainHeld {q} (hk : Keeps s0 s) : Keeps s0 (State.drainHeld s q) := by
  unfold State.drainHeld
  with_reducible repeat' (first
    | assumption | exact Keeps.refl | apply Keeps.releaseHeld | apply Keeps.modFn | intro _ _ _ | intro _ _ | apply Keeps.foldl
    | apply Keeps.foldlFst | apply Keeps.foldlSnd | split | dsimp only | apply Keeps.update)

theorem Keeps.modCmd {c f} (hk : Keeps s0 s) : Keeps s0 (State.modCmd s c f) := by
  unfold State.modCmd
  with_reducible repeat' (first
    | assumption | exact Keeps.refl | apply Keeps.modRing | intro _ _ _ | intro _ _ | apply Keeps.ite | split | dsimp only
    | apply Keeps.update)

theorem Keeps.stopIfDone {r} (hk : Keeps s0 s) : Keeps s0 (State.stopIfDone s r) := by
  unfold State.stopIfDone
  with_reducible repeat' (first
    | assumption | exact Keeps.refl | apply Keeps.modRing | intro _ _ _ | intro _ _ | apply Keeps.ite | split | dsimp only
    | apply Keeps.update)

theorem Keeps.complete {c started st detail} (hk : Keeps s0 s) : Keeps s0 (State.complete s c started st detail) := by
  unfold State.complete
  with_reducible repeat' (first
    | assumption | exact Keeps.refl | apply Keeps.modRing | apply Keeps.postCompletion | apply Keeps.stopIfDone | intro _ _ _
    | intro _ _ | apply Keeps.ite | split | dsimp only | apply Keeps.update)

theorem Keeps.miss {p arg1} (hk : Keeps s0 s) : Keeps s0 (State.miss s p arg1) := by
  unfold State.miss
  with_reducible repeat' (first
    | assumption | exact Keeps.refl | exact fun _ h => h | apply Keeps.accrue | apply Keeps.postPart | apply Keeps.modPrt
    | intro _ _ _ | intro _ _ | apply Keeps.ite | split | dsimp only | apply Keeps.update)

theorem Keeps.cmdMiss {c} (hk : Keeps s0 s) : Keeps s0 (State.cmdMiss s c) := by
  unfold State.cmdMiss
  with_reducible repeat' (first
    | assumption | exact Keeps.refl | apply Keeps.modCmd | apply Keeps.miss | intro _ _ _ | intro _ _ | apply Keeps.ite | split
    | dsimp only | apply Keeps.update)

theorem Keeps.conclude {c st detail} (hk : Keeps s0 s) : Keeps s0 (State.conclude s c st detail) := by
  unfold State.conclude
  with_reducible repeat' (first
    | assumption | exact Keeps.refl | apply Keeps.cmdMiss | apply Keeps.complete | apply Keeps.ite | split | dsimp only
    | apply Keeps.update)

theorem Keeps.flushOwn {c k st detail} (hk : Keeps s0 s) : Keeps s0 (State.flushOwn s c k st detail) := by
  unfold State.flushOwn
  with_reducible repeat' (first
    | assumption | exact Keeps.refl | apply Keeps.modCmd | apply Keeps.conclude | intro _ _ _ | intro _ _ | apply Keeps.ite | split
    | dsimp only | apply Keeps.update)

theorem Keeps.finish {c st detail} (hk : Keeps s0 s) : Keeps s0 (State.finish s c st detail) := by
  unfold State.finish
  with_reducible repeat' (first
    | assumption | exact Keeps.refl | apply Keeps.modCmd | apply Keeps.flushOwn | intro _ _ _ | intro _ _ | apply Keeps.ite | split
    | dsimp only | apply Keeps.update)

theorem Keeps.refuse {c detail} (hk : Keeps s0 s) : Keeps s0 (State.refuse s c detail) := by
  unfold State.refuse
  with_reducible repeat' (first | assumption | exact Keeps.refl | apply Keeps.complete | split | dsimp only)

theorem Keeps.failRing {r code iova} (hk : Keeps s0 s) : Keeps s0 (State.failRing s r code iova) := by
  unfold State.failRing
  with_reducible repeat' (first
    | assumption | exact Keeps.refl | apply Keeps.post | apply Keeps.modRing | intro _ _ _ | intro _ _ | apply Keeps.ite | split
    | dsimp only | apply Keeps.update)

theorem Keeps.ringError {r code iova} (hk : Keeps s0 s) : Keeps s0 (State.ringError s r code iova) := by
  unfold State.ringError
  with_reducible repeat' (first
    | assumption | exact Keeps.refl | apply Keeps.failRing | intro _ _ _ | intro _ _ | apply Keeps.foldl | apply Keeps.foldlFst
    | apply Keeps.foldlSnd | apply Keeps.ite | split | dsimp only)

theorem Keeps.freeInSlot {fn i} (hk : Keeps s0 s) : Keeps s0 (State.freeInSlot s fn i) := by
  unfold State.freeInSlot
  with_reducible repeat' (first
    | assumption | exact Keeps.refl | apply Keeps.modFn | apply Keeps.msix | intro _ _ _ | intro _ _ | apply Keeps.ite | split
    | dsimp only | apply Keeps.update)

theorem Keeps.placeMsg {fn m} (hk : Keeps s0 s) : Keeps s0 (State.placeMsg s fn m) := by
  unfold State.placeMsg
  with_reducible repeat' (first
    | assumption | exact Keeps.refl | apply Keeps.modFn | apply Keeps.msix | apply Keeps.writeEntry | intro _ _ _ | intro _ _
    | apply Keeps.ite | split | dsimp only | apply Keeps.update)

/-! ### Machine/Tiers.lean -/

theorem Keeps.modTile {p t f} (hk : Keeps s0 s) : Keeps s0 (State.modTile s p t f) :=
  Keeps.modMem hk fun _ h => h

theorem Keeps.settle {p t a3 raw} (hk : Keeps s0 s) : Keeps s0 (State.settle s p t a3 raw) := by
  unfold State.settle
  with_reducible repeat' (first
    | assumption | exact Keeps.refl | exact fun _ h => h | apply Keeps.modTile | intro _ _ _ | intro _ _ | apply Keeps.ite | split
    | dsimp only | apply Keeps.update)

theorem Keeps.startMove {p t dst cause} (hk : Keeps s0 s) : Keeps s0 (State.startMove s p t dst cause) := by
  unfold State.startMove
  with_reducible repeat' (first
    | assumption | exact Keeps.refl | apply Keeps.modTile | intro _ _ _ | intro _ _ | split | dsimp only | apply Keeps.update)

theorem Keeps.perfWrap {fn bit} (hk : Keeps s0 s) : Keeps s0 (State.perfWrap s fn bit) := by
  unfold State.perfWrap
  with_reducible repeat' (first
    | assumption | exact Keeps.refl | apply Keeps.modFn | apply Keeps.msix | intro _ _ _ | intro _ _ | apply Keeps.ite | split
    | dsimp only | apply Keeps.update)

theorem Keeps.modScb {p f} (hk : Keeps s0 s) : Keeps s0 (State.modScb s p f) := by
  unfold State.modScb
  with_reducible repeat' (first
    | assumption | exact Keeps.refl | exact fun _ h => h | apply Keeps.modPrt | intro _ _ _ | intro _ _ | split | dsimp only
    | apply Keeps.update)

theorem Keeps.modInst {p rec_ mb f} (hk : Keeps s0 s) : Keeps s0 (State.modInst s p rec_ mb f) := by
  unfold State.modInst
  with_reducible repeat' (first
    | assumption | exact Keeps.refl | apply Keeps.modScb | intro _ _ _ | intro _ _ | apply Keeps.ite | split | dsimp only
    | apply Keeps.update)

theorem Keeps.countDemotion {p} (hk : Keeps s0 s) : Keeps s0 (State.countDemotion s p) := by
  unfold State.countDemotion
  with_reducible repeat' (first
    | assumption | exact Keeps.refl | apply Keeps.modScb | apply Keeps.perfWrap | intro _ _ _ | intro _ _ | apply Keeps.ite | split
    | dsimp only | apply Keeps.update)

theorem Keeps.evictedInst {p t} (hk : Keeps s0 s) : Keeps s0 (State.evictedInst s p t) := by
  unfold State.evictedInst
  with_reducible repeat' (first
    | assumption | exact Keeps.refl | apply Keeps.countDemotion | apply Keeps.modInst | intro _ _ _ | intro _ _ | apply Keeps.ite
    | split | dsimp only | apply Keeps.update)

theorem Keeps.evict {v} (hk : Keeps s0 s) : Keeps s0 (State.evict s v) := by
  unfold State.evict
  with_reducible repeat' (first
    | assumption | exact Keeps.refl | exact fun _ h => h | apply Keeps.evictedInst | apply Keeps.startMove | apply Keeps.modMem
    | apply Keeps.perfWrap | intro _ _ _ | intro _ _ | apply Keeps.ite | split | dsimp only | apply Keeps.update)

theorem Keeps.moveTo {p t pl cause} (hk : Keeps s0 s) : Keeps s0 (State.moveTo s p t pl cause) := by
  unfold State.moveTo
  with_reducible repeat' (first
    | assumption | exact Keeps.refl | apply Keeps.evict | apply Keeps.startMove | split | dsimp only | apply Keeps.update)

theorem Keeps.countWaits {p ts} (hk : Keeps s0 s) : Keeps s0 (State.countWaits s p ts) := by
  unfold State.countWaits
  with_reducible repeat' (first
    | assumption | exact Keeps.refl | exact fun _ h => h | apply Keeps.modMem | apply Keeps.perfWrap | intro _ _ _ | intro _ _
    | apply Keeps.ite | split | dsimp only | apply Keeps.update)

theorem Keeps.touchQuad {a1} (hk : Keeps s0 s) : Keeps s0 (State.touchQuad s a1) := by
  unfold State.touchQuad
  with_reducible repeat' (first
    | assumption | exact Keeps.refl | apply Keeps.modQuad | intro _ _ _ | intro _ _ | split | dsimp only | apply Keeps.update)

theorem Keeps.touch {p t n write} (hk : Keeps s0 s) : Keeps s0 (State.touch s p t n write) := by
  unfold State.touch
  with_reducible repeat' (first
    | assumption | exact Keeps.refl | exact fun _ h => h | apply Keeps.touchQuad | apply Keeps.modTile | apply Keeps.modMem
    | apply Keeps.sharedEnergy | intro _ _ _ | intro _ _ | apply Keeps.ite | split | dsimp only | apply Keeps.update)

theorem Keeps.resize {p t} (hk : Keeps s0 s) : Keeps s0 (State.resize s p t) := by
  unfold State.resize
  with_reducible repeat' (first
    | assumption | exact Keeps.refl | exact fun _ h => h | apply Keeps.modTile | intro _ _ _ | intro _ _ | apply Keeps.ite | split
    | dsimp only | apply Keeps.update)

theorem Keeps.store {p ta b tag} (hk : Keeps s0 s) : Keeps s0 (State.store s p ta b tag) := by
  unfold State.store
  with_reducible repeat' (first
    | assumption | exact Keeps.refl | exact fun _ h => h | apply Keeps.modMem | apply Keeps.touch | apply Keeps.modTile
    | apply Keeps.resize | intro _ _ _ | intro _ _ | apply writeBytes_wf | apply Keeps.foldl | apply Keeps.foldlFst
    | apply Keeps.foldlSnd | split | dsimp only | apply Keeps.update)

theorem Keeps.loaded {p ta n} (hk : Keeps s0 s) : Keeps s0 (State.loaded s p ta n) := by
  unfold State.loaded
  with_reducible repeat' (first
    | assumption | exact Keeps.refl | apply Keeps.touch | intro _ _ _ | intro _ _ | apply Keeps.foldl | apply Keeps.foldlFst
    | apply Keeps.foldlSnd | split | dsimp only)

theorem countError_wf {m : Memory} {t : TileNo} (h : Memory.wf m.bytes = true) : Memory.wf (m.countError t).bytes = true := h

theorem Keeps.poison {p t cause unit_ moving} (hk : Keeps s0 s) : Keeps s0 (State.poison s p t cause unit_ moving) :=
  Keeps.postPart (Keeps.modMem (Keeps.modTile (Keeps.modMem hk fun _ h => clearBytes_wf h)) fun _ h => countError_wf h)

theorem Keeps.zeroTile {p t} (hk : Keeps s0 s) : Keeps s0 (State.zeroTile s p t) := by
  unfold State.zeroTile
  with_reducible repeat' (first
    | assumption | exact Keeps.refl | exact fun _ h => h | apply Keeps.modMem | apply Keeps.modTile | intro _ _ _ | intro _ _
    | apply clearBytes_wf | split | dsimp only | apply Keeps.update)

theorem Keeps.storeAll {p ws tag dead} (hk : Keeps s0 s) : Keeps s0 (State.storeAll s p ws tag dead) := by
  unfold State.storeAll
  with_reducible repeat' (first
    | assumption | exact Keeps.refl | exact fun _ h => h | apply Keeps.zeroTile | apply Keeps.modMem | apply Keeps.resize
    | apply Keeps.touch | apply Keeps.modTile | intro _ _ _ | intro _ _ | apply writeBytes_wf | apply storeAll_wf
    | apply Keeps.foldl | apply Keeps.foldlFst | apply Keeps.foldlSnd | apply Keeps.ite | split | dsimp only | apply Keeps.update)

theorem Keeps.spoil {p ws tag dead} (hk : Keeps s0 s) : Keeps s0 (State.spoil s p ws tag dead) := by
  unfold State.spoil
  with_reducible repeat' (first
    | assumption | exact Keeps.refl | apply Keeps.took | apply Keeps.storeAll | intro _ _ _ | intro _ _ | apply storeAll_wf
    | apply Keeps.foldl | apply Keeps.foldlFst | apply Keeps.foldlSnd | apply Keeps.ite | split | dsimp only)

theorem Keeps.spoilTiles {p ts} (hk : Keeps s0 s) : Keeps s0 (State.spoilTiles s p ts) := by
  unfold State.spoilTiles
  with_reducible repeat' (first | assumption | exact Keeps.refl | apply Keeps.spoil | split | dsimp only)

/-! ### Machine/Quads.lean -/

theorem Keeps.wakeQuads {p} (hk : Keeps s0 s) : Keeps s0 (State.wakeQuads s p) := by
  unfold State.wakeQuads
  with_reducible repeat' (first
    | assumption | exact Keeps.refl | apply Keeps.modQuad | intro _ _ _ | intro _ _ | apply Keeps.foldl | apply Keeps.foldlFst
    | apply Keeps.foldlSnd | split | dsimp only)

theorem Keeps.sleepQuad {p q} (hk : Keeps s0 s) : Keeps s0 (State.sleepQuad s p q) := by
  unfold State.sleepQuad
  with_reducible repeat' (first
    | assumption | exact Keeps.refl | apply Keeps.modQuad | intro _ _ _ | intro _ _ | apply Keeps.ite | split | dsimp only
    | apply Keeps.update)

theorem Keeps.sleepQuads {p} (hk : Keeps s0 s) : Keeps s0 (State.sleepQuads s p) := by
  unfold State.sleepQuads
  with_reducible repeat' (first
    | assumption | exact Keeps.refl | apply Keeps.sleepQuad | intro _ _ _ | intro _ _ | apply Keeps.foldl | apply Keeps.foldlFst
    | apply Keeps.foldlSnd | split | dsimp only)

theorem Keeps.wakePartition {p} (hk : Keeps s0 s) : Keeps s0 (State.wakePartition s p) := by
  unfold State.wakePartition
  with_reducible repeat' (first
    | assumption | exact Keeps.refl | apply Keeps.wakeQuads | apply Keeps.setPState | split | dsimp only | apply Keeps.update)

theorem Keeps.busyNow {p} (hk : Keeps s0 s) : Keeps s0 (State.busyNow s p) := by
  unfold State.busyNow
  with_reducible repeat' (first
    | assumption | exact Keeps.refl | apply Keeps.modLife | intro _ _ _ | intro _ _ | split | dsimp only | apply Keeps.update)

theorem Keeps.busyFn {a1} (hk : Keeps s0 s) : Keeps s0 (State.busyFn s a1) := by
  unfold State.busyFn
  with_reducible repeat' (first | assumption | exact Keeps.refl | apply Keeps.busyNow | split | dsimp only)

theorem Keeps.noteIdle {p} (hk : Keeps s0 s) : Keeps s0 (State.noteIdle s p) := by
  unfold State.noteIdle
  with_reducible repeat' (first
    | assumption | exact Keeps.refl | apply Keeps.modLife | intro _ _ _ | intro _ _ | apply Keeps.ite | split | dsimp only
    | apply Keeps.update)

/-! ### Machine/Channels.lean -/

theorem Keeps.bindChan {r} (hk : Keeps s0 s) : Keeps s0 (State.bindChan s r) := by
  unfold State.bindChan
  with_reducible repeat' (first
    | assumption | exact Keeps.refl | apply Keeps.modRing | apply Keeps.modChan | intro _ _ _ | intro _ _ | split | dsimp only
    | apply Keeps.update)

theorem Keeps.postHalted {r m cause} (hk : Keeps s0 s) : Keeps s0 (State.postHalted s r m cause) := by
  unfold State.postHalted
  with_reducible repeat' (first | assumption | exact Keeps.refl | apply Keeps.post | split | dsimp only)

theorem Keeps.haltChan {m cause} (hk : Keeps s0 s) : Keeps s0 (State.haltChan s m cause) := by
  unfold State.haltChan
  with_reducible repeat' (first
    | assumption | exact Keeps.refl | apply Keeps.took | apply Keeps.modChan | apply Keeps.modRing | apply Keeps.postHalted
    | intro _ _ _ | intro _ _ | split | dsimp only | apply Keeps.update)

theorem Keeps.freeChan {m} (hk : Keeps s0 s) : Keeps s0 (State.freeChan s m) := by
  unfold State.freeChan
  with_reducible repeat' (first
    | assumption | exact Keeps.refl | apply Keeps.modRing | apply Keeps.modChan | intro _ _ _ | intro _ _ | split | dsimp only
    | apply Keeps.update)

theorem Keeps.dropChans {p} (hk : Keeps s0 s) : Keeps s0 (State.dropChans s p) := by
  unfold State.dropChans
  with_reducible repeat' (first
    | assumption | exact Keeps.refl | apply Keeps.freeChan | apply Keeps.haltChan | intro _ _ _ | intro _ _ | apply Keeps.foldl
    | apply Keeps.foldlFst | apply Keeps.foldlSnd | apply Keeps.ite | split | dsimp only | apply Keeps.update)

theorem Keeps.countBad {fn st} (hk : Keeps s0 s) : Keeps s0 (State.countBad s fn st) := by
  unfold State.countBad
  with_reducible repeat' (first
    | assumption | exact Keeps.refl | exact fun _ h => h | apply Keeps.modPrt | intro _ _ _ | intro _ _ | apply Keeps.ite | split
    | dsimp only | apply Keeps.update)

theorem Keeps.countBytes {r st done} (hk : Keeps s0 s) : Keeps s0 (State.countBytes s r st done) := by
  unfold State.countBytes
  with_reducible repeat' (first
    | assumption | exact Keeps.refl | apply Keeps.modRing | apply Keeps.perfWrap | intro _ _ _ | intro _ _ | apply Keeps.ite
    | split | dsimp only | apply Keeps.update)

theorem Keeps.writeback {m r d st done csum detail} (hk : Keeps s0 s) : Keeps s0 (State.writeback s m r d st done csum detail) := by
  unfold State.writeback
  with_reducible repeat' (first
    | assumption | exact Keeps.refl | apply Keeps.countBytes | apply Keeps.countBad | apply Keeps.hold | apply Keeps.hostWrite
    | apply Keeps.modRing | apply Keeps.noteEntry | apply Keeps.modChan | apply Keeps.busyFn | intro _ _ _ | intro _ _
    | apply Keeps.ite | split | dsimp only | apply Keeps.update)

theorem Keeps.tenantRecord {p b} (hk : Keeps s0 s) : Keeps s0 (State.tenantRecord s p b) := by
  unfold State.tenantRecord
  with_reducible repeat' (first
    | assumption | exact Keeps.refl | exact fun _ h => h | apply Keeps.modPrt | apply Keeps.writeEntry | intro _ _ _ | intro _ _
    | split | dsimp only | apply Keeps.update)

theorem Keeps.modMtrHold {r} (hk : Keeps s0 s) : Keeps s0 (State.modMtrHold s r) := by
  unfold State.modMtrHold
  with_reducible repeat' (first | assumption | exact Keeps.refl | split | dsimp only | apply Keeps.update)

theorem Keeps.flushHeldRecs {l : List HeldRec} (hk : Keeps s0 s) : Keeps s0 (Machine.flushHeldRecs l s) := by
  induction l generalizing s with
  | nil => exact hk
  | cons h r ih =>
    unfold Machine.flushHeldRecs
    with_reducible repeat' (first
      | assumption | exact Keeps.refl | exact fun _ h => h | exact fun _ h => ⟨Nat.le_refl _, h⟩ | exact ⟨Nat.le_refl _, ‹_›⟩
      | apply ih | apply Keeps.writeEntry | apply Keeps.modMtrHold | intro _ _ _ | intro _ _ | apply writeBytes_wf
      | apply clearBytes_wf | apply storeAll_wf | apply swapBytes_wf | apply Keeps.foldl | apply Keeps.foldlFst
      | apply Keeps.foldlSnd | apply Keeps.ite | split | dsimp only | apply Keeps.update)

theorem Keeps.flushRecords (hk : Keeps s0 s) : Keeps s0 (State.flushRecords s) := by
  unfold State.flushRecords
  with_reducible repeat' (first | assumption | exact Keeps.refl | apply Keeps.flushHeldRecs | split | dsimp only)

/-! ### Machine/Access.lean -/

theorem Keeps.exitRetention (hk : Keeps s0 s) : Keeps s0 (State.exitRetention s) := by
  unfold State.exitRetention
  with_reducible repeat' (first
    | assumption | exact Keeps.refl | apply Keeps.modPwr | intro _ _ _ | intro _ _ | apply Keeps.ite | split | dsimp only
    | apply Keeps.update)

theorem Keeps.cacheIn {fn new} (hk : Keeps s0 s) : Keeps s0 (State.cacheIn s fn new) := by
  unfold State.cacheIn
  with_reducible repeat' (first | assumption | exact Keeps.refl | intro _ _ _ | intro _ _ | split | dsimp only | apply Keeps.update)

theorem Keeps.fetchLines {fn iova n} (hk : Keeps s0 s) : Keeps s0 (State.fetchLines s fn iova n) := by
  unfold State.fetchLines
  with_reducible repeat' (first
    | assumption | exact Keeps.refl | apply Keeps.cacheIn | apply Keeps.hostBytes | apply Keeps.ite | split | dsimp only)

/-! ### Machine/Rings.lean -/

theorem Keeps.execRingConfigWrite {r off v} : ∃ s', execRingConfigWrite r off v s = .next s' ∧ Keeps s s' := by
  unfold Machine.execRingConfigWrite
  refine ⟨_, rfl, ?_⟩
  with_reducible repeat' (first | assumption | exact Keeps.refl | apply Keeps.modRing | apply Keeps.ite | split | dsimp only)

theorem Keeps.discardHeld {fn n} (hk : Keeps s0 s) : Keeps s0 (State.discardHeld s fn n) := by
  unfold State.discardHeld
  with_reducible repeat' (first
    | assumption | exact Keeps.refl | apply Keeps.modFn | intro _ _ _ | intro _ _ | split | dsimp only | apply Keeps.update)

theorem Keeps.postKept (hk : Keeps s0 s) : Keeps s0 (State.postKept s) :=
  Keeps.foldl (Keeps.updateOwed hk) fun _ _ h => Keeps.post h

theorem Keeps.ringOpened {r} (hk : Keeps s0 s) : Keeps s0 (State.ringOpened s r) := by
  unfold State.ringOpened
  with_reducible repeat' (first
    | assumption | exact Keeps.refl | apply Keeps.drainHeld | apply Keeps.discardHeld | apply Keeps.bindChan
    | apply Keeps.flushRecords | apply Keeps.postKept | apply Keeps.payOwed | apply Keeps.ite | split | dsimp only
    | apply Keeps.update)

theorem Keeps.ringEnable {r} (hk : Keeps s0 s) : Keeps s0 (State.ringEnable s r) := by
  unfold State.ringEnable
  with_reducible repeat' (first
    | assumption | exact Keeps.refl | apply Keeps.modRing | apply Keeps.ringOpened | intro _ _ _ | intro _ _ | apply Keeps.ite
    | split | dsimp only | apply Keeps.update)

theorem Keeps.execRingEnable {r} : ∃ s', execRingEnable r s = .next s' ∧ Keeps s s' := by
  unfold Machine.execRingEnable
  refine ⟨_, rfl, ?_⟩
  with_reducible repeat' (first | assumption | exact Keeps.refl | apply Keeps.ringEnable | split | dsimp only)

theorem Keeps.cancelAll {r ks} (hk : Keeps s0 s) : Keeps s0 (State.cancelAll s r ks) := by
  unfold State.cancelAll
  with_reducible repeat' (first
    | assumption | exact Keeps.refl | apply Keeps.complete | intro _ _ _ | intro _ _ | apply Keeps.foldl | apply Keeps.foldlFst
    | apply Keeps.foldlSnd | split | dsimp only)

theorem Keeps.ringDisable {r} (hk : Keeps s0 s) : Keeps s0 (State.ringDisable s r) := by
  unfold State.ringDisable
  with_reducible repeat' (first
    | assumption | exact Keeps.refl | apply Keeps.modRing | apply Keeps.haltChan | apply Keeps.stopIfDone | apply Keeps.cancelAll
    | intro _ _ _ | intro _ _ | apply Keeps.ite | split | dsimp only | apply Keeps.update)

theorem Keeps.execRingDisable {r} : ∃ s', execRingDisable r s = .next s' ∧ Keeps s s' := by
  unfold Machine.execRingDisable
  refine ⟨_, rfl, ?_⟩
  with_reducible repeat' (first | assumption | exact Keeps.refl | apply Keeps.ringDisable | apply Keeps.ite | split | dsimp only)

theorem Keeps.ringAccessFail {r what} (hk : Keeps s0 s) : Keeps s0 (State.ringAccessFail s r what) := by
  unfold State.ringAccessFail
  with_reducible repeat' (first
    | assumption | exact Keeps.refl | apply Keeps.ringError | apply Keeps.modRing | intro _ _ _ | intro _ _ | apply Keeps.ite
    | split | dsimp only | apply Keeps.update)

theorem Keeps.execRingEntryAccessFail {r what} : ∃ s', execRingEntryAccessFail r what s = .next s' ∧ Keeps s s' := by
  unfold Machine.execRingEntryAccessFail
  refine ⟨_, rfl, ?_⟩
  with_reducible repeat' (first | assumption | exact Keeps.refl | apply Keeps.ringAccessFail | split | dsimp only)

theorem Keeps.badDoorbell {r v range} (hk : Keeps s0 s) : Keeps s0 (State.badDoorbell s r v range) := by
  unfold State.badDoorbell
  with_reducible repeat' (first
    | assumption | exact Keeps.refl | apply Keeps.post | apply Keeps.modRing | intro _ _ _ | intro _ _ | apply Keeps.ite | split
    | dsimp only | apply Keeps.update)

theorem Keeps.doorbellEffect {r was} (hk : Keeps s0 s) : Keeps s0 (State.doorbellEffect s r was) := by
  unfold State.doorbellEffect
  with_reducible repeat' (first
    | assumption | exact Keeps.refl | exact fun _ h => h | apply Keeps.busyFn | apply Keeps.exitRetention
    | apply Keeps.wakePartition | apply Keeps.modPrt | apply Keeps.drainHeld | apply Keeps.flushRecords | apply Keeps.payOwed
    | intro _ _ _ | intro _ _ | apply Keeps.ite | split | dsimp only | apply Keeps.update)

theorem Keeps.doorbell {r v} (hk : Keeps s0 s) : Keeps s0 (State.doorbell s r v) := by
  unfold State.doorbell
  with_reducible repeat' (first
    | assumption | exact Keeps.refl | apply Keeps.badDoorbell | apply Keeps.doorbellEffect | apply Keeps.modRing | intro _ _ _
    | intro _ _ | apply Keeps.ite | split | dsimp only | apply Keeps.update)

theorem Keeps.execDoorbellWrite {r v} : ∃ s', execDoorbellWrite r v s = .next s' ∧ Keeps s s' := by
  unfold Machine.execDoorbellWrite
  refine ⟨_, rfl, ?_⟩
  with_reducible repeat' (first | assumption | exact Keeps.refl | apply Keeps.doorbell | split | dsimp only)

theorem Keeps.bellDone {r} (hk : Keeps s0 s) : Keeps s0 (State.bellDone s r) := by
  unfold State.bellDone
  with_reducible repeat' (first
    | assumption | exact Keeps.refl | exact fun _ h => h | apply Keeps.modPrt | intro _ _ _ | intro _ _ | split | dsimp only
    | apply Keeps.update)

theorem Keeps.spend {r cls k} (hk : Keeps s0 s) : Keeps s0 (State.spend s r cls k) := by
  unfold State.spend
  with_reducible repeat' (first
    | assumption | exact Keeps.refl | apply Keeps.modFn | intro _ _ _ | intro _ _ | apply Keeps.ite | split | dsimp only
    | apply Keeps.update)

theorem Keeps.noteReady {fn} (hk : Keeps s0 s) : Keeps s0 (State.noteReady s fn) := by
  unfold State.noteReady
  with_reducible repeat' (first
    | assumption | exact Keeps.refl | apply Keeps.modCmd | intro _ _ _ | intro _ _ | apply Keeps.foldl | apply Keeps.foldlFst
    | apply Keeps.foldlSnd | apply Keeps.ite | split | dsimp only | apply Keeps.update)

theorem Keeps.consume {r e} (hk : Keeps s0 s) : Keeps s0 (State.consume s r e) := by
  unfold State.consume
  with_reducible repeat' (first
    | assumption | exact Keeps.refl | apply Keeps.fetchLines | apply Keeps.bellDone | apply Keeps.modRing | apply Keeps.complete
    | apply Keeps.noteReady | apply Keeps.busyFn | intro _ _ _ | intro _ _ | apply Keeps.ite | split | dsimp only
    | apply Keeps.update)

theorem Keeps.execCommandConsume {r entry} : ∃ s', execCommandConsume r entry s = .next s' ∧ Keeps s s' := by
  unfold Machine.execCommandConsume
  refine ⟨_, rfl, ?_⟩
  with_reducible repeat' (first | assumption | exact Keeps.refl | apply Keeps.consume | split | dsimp only)

theorem Keeps.takeTiger {c} (hk : Keeps s0 s) : Keeps s0 (State.takeTiger s c) := by
  unfold State.takeTiger
  with_reducible repeat' (first | assumption | exact Keeps.refl | intro _ _ _ | intro _ _ | split | dsimp only | apply Keeps.update)

theorem Keeps.readyStart {r} (hk : Keeps s0 s) : Keeps s0 (State.readyStart s r) := by
  unfold State.readyStart
  with_reducible repeat' (first
    | assumption | exact Keeps.refl | apply Keeps.modCmd | apply Keeps.noteReady | apply Keeps.spend | apply Keeps.takeTiger
    | intro _ _ _ | intro _ _ | apply Keeps.ite | split | dsimp only | apply Keeps.update)

theorem Keeps.execCommandReadyStart {r} : ∃ s', execCommandReadyStart r s = .next s' ∧ Keeps s s' := by
  unfold Machine.execCommandReadyStart
  refine ⟨_, rfl, ?_⟩
  with_reducible repeat' (first | assumption | exact Keeps.refl | apply Keeps.readyStart | split | dsimp only)

theorem Keeps.promote {c} (hk : Keeps s0 s) : Keeps s0 (State.promote s c) := by
  unfold State.promote
  with_reducible repeat' (first
    | assumption | exact Keeps.refl | apply Keeps.modCmd | intro _ _ _ | intro _ _ | apply Keeps.ite | split | dsimp only
    | apply Keeps.update)

theorem Keeps.execCommandPromotion {c} : ∃ s', execCommandPromotion c s = .next s' ∧ Keeps s s' := by
  unfold Machine.execCommandPromotion
  refine ⟨_, rfl, ?_⟩
  with_reducible repeat' (first | assumption | exact Keeps.refl | apply Keeps.promote | split | dsimp only)

theorem Keeps.indexWriteback {r} (hk : Keeps s0 s) : Keeps s0 (State.indexWriteback s r) := by
  unfold State.indexWriteback
  with_reducible repeat' (first
    | assumption | exact Keeps.refl | apply Keeps.modRing | apply Keeps.hostWrite | intro _ _ _ | intro _ _ | apply Keeps.ite
    | split | dsimp only | apply Keeps.update)

theorem Keeps.execIndexWriteback {r} : ∃ s', execIndexWriteback r s = .next s' ∧ Keeps s s' := by
  unfold Machine.execIndexWriteback
  refine ⟨_, rfl, ?_⟩
  with_reducible repeat' (first | assumption | exact Keeps.refl | apply Keeps.indexWriteback | split | dsimp only)

theorem Keeps.irqTimeout {r} (hk : Keeps s0 s) : Keeps s0 (State.irqTimeout s r) := by
  unfold State.irqTimeout
  with_reducible repeat' (first
    | assumption | exact Keeps.refl | apply Keeps.msix | apply Keeps.modRing | intro _ _ _ | intro _ _ | apply Keeps.ite | split
    | dsimp only | apply Keeps.update)

theorem Keeps.execIrqModerationTimeout {r} : ∃ s', execIrqModerationTimeout r s = .next s' ∧ Keeps s s' := by
  unfold Machine.execIrqModerationTimeout
  refine ⟨_, rfl, ?_⟩
  with_reducible repeat' (first | assumption | exact Keeps.refl | apply Keeps.irqTimeout | split | dsimp only)

theorem Keeps.msixUnmask {fn v addr data} (hk : Keeps s0 s) : Keeps s0 (State.msixUnmask s fn v addr data) := by
  unfold State.msixUnmask
  with_reducible repeat' (first
    | assumption | exact Keeps.refl | apply Keeps.modFn | apply Keeps.msix | intro _ _ _ | intro _ _ | apply Keeps.ite | split
    | dsimp only | apply Keeps.update)

theorem Keeps.execMsixUnmask {fn vec addr data} : ∃ s', execMsixUnmask fn vec addr data s = .next s' ∧ Keeps s s' := by
  unfold Machine.execMsixUnmask
  refine ⟨_, rfl, ?_⟩
  with_reducible repeat' (first | assumption | exact Keeps.refl | apply Keeps.msixUnmask | split | dsimp only)

theorem Keeps.dbCancel {r v} (hk : Keeps s0 s) : Keeps s0 (State.dbCancel s r v) := by
  unfold State.dbCancel
  with_reducible repeat' (first
    | assumption | exact Keeps.refl | apply Keeps.modRing | intro _ _ _ | intro _ _ | apply Keeps.ite | split | dsimp only
    | apply Keeps.update)

theorem Keeps.execDbCancel {r v} : ∃ s', execDbCancel r v s = .next s' ∧ Keeps s s' := by
  unfold Machine.execDbCancel
  refine ⟨_, rfl, ?_⟩
  with_reducible repeat' (first | assumption | exact Keeps.refl | apply Keeps.dbCancel | split | dsimp only)

theorem Keeps.cancelDone {r} (hk : Keeps s0 s) : Keeps s0 (State.cancelDone s r) := by
  unfold State.cancelDone
  with_reducible repeat' (first
    | assumption | exact Keeps.refl | apply Keeps.noteReady | apply Keeps.cancelAll | apply Keeps.modRing | intro _ _ _ | intro _ _
    | apply Keeps.ite | split | dsimp only | apply Keeps.update)

theorem Keeps.execCancelMatchingDone {r} : ∃ s', execCancelMatchingDone r s = .next s' ∧ Keeps s s' := by
  unfold Machine.execCancelMatchingDone
  refine ⟨_, rfl, ?_⟩
  with_reducible repeat' (first | assumption | exact Keeps.refl | apply Keeps.cancelDone | split | dsimp only)

theorem Keeps.modMail {fn f} (hk : Keeps s0 s) : Keeps s0 (State.modMail s fn f) := by
  unfold State.modMail
  with_reducible repeat' (first
    | assumption | exact Keeps.refl | apply Keeps.modFn | intro _ _ _ | intro _ _ | split | dsimp only | apply Keeps.update)

theorem Keeps.mailError {fn bits slot} (hk : Keeps s0 s) : Keeps s0 (State.mailError s fn bits slot) := by
  unfold State.mailError
  with_reducible repeat' (first
    | assumption | exact Keeps.refl | apply Keeps.post | apply Keeps.modMail | intro _ _ _ | intro _ _ | split | dsimp only
    | apply Keeps.update)

theorem Keeps.mailPost {fn v} (hk : Keeps s0 s) : Keeps s0 (State.mailPost s fn v) := by
  unfold State.mailPost
  with_reducible repeat' (first
    | assumption | exact Keeps.refl | apply Keeps.mailError | apply Keeps.freeInSlot | apply Keeps.modMail
    | apply Keeps.wakePartition | intro _ _ _ | intro _ _ | apply Keeps.ite | split | dsimp only | apply Keeps.update)

theorem Keeps.execMbInPost {fn v} : ∃ s', execMbInPost fn v s = .next s' ∧ Keeps s s' := by
  unfold Machine.execMbInPost
  refine ⟨_, rfl, ?_⟩
  with_reducible repeat' (first | assumption | exact Keeps.refl | apply Keeps.mailPost | split | dsimp only)

theorem Keeps.execMbOutRelease {fn v} : ∃ s', execMbOutRelease fn v s = .next s' ∧ Keeps s s' := by
  unfold Machine.execMbOutRelease
  refine ⟨_, rfl, ?_⟩
  with_reducible repeat' (first
    | assumption | exact Keeps.refl | apply Keeps.modMail | intro _ _ _ | intro _ _ | apply Keeps.ite | split | dsimp only
    | apply Keeps.update)

theorem Keeps.reply {fn i typ payload} (hk : Keeps s0 s) : Keeps s0 (State.reply s fn i typ payload) := by
  unfold State.reply
  with_reducible repeat' (first
    | assumption | exact Keeps.refl | apply Keeps.freeInSlot | apply Keeps.placeMsg | apply Keeps.modMail | intro _ _ _ | intro _ _
    | apply Keeps.ite | split | dsimp only | apply Keeps.update)

theorem Keeps.execServicePing {fn} : ∃ s', execServicePing fn s = .next s' ∧ Keeps s s' := by
  unfold Machine.execServicePing
  refine ⟨_, rfl, ?_⟩
  with_reducible repeat' (first
    | assumption | exact Keeps.refl | apply Keeps.reply | apply Keeps.ite | split | dsimp only | apply Keeps.update)

theorem Keeps.execServiceHeartbeat {fn} : ∃ s', execServiceHeartbeat fn s = .next s' ∧ Keeps s s' := by
  unfold Machine.execServiceHeartbeat
  refine ⟨_, rfl, ?_⟩
  with_reducible repeat' (first
    | assumption | exact Keeps.refl | apply Keeps.freeInSlot | apply Keeps.modFn | intro _ _ _ | intro _ _ | apply Keeps.ite
    | split | dsimp only | apply Keeps.update)

theorem Keeps.execServiceTime {fn} : ∃ s', execServiceTime fn s = .next s' ∧ Keeps s s' := by
  unfold Machine.execServiceTime
  refine ⟨_, rfl, ?_⟩
  with_reducible repeat' (first
    | assumption | exact Keeps.refl | apply Keeps.reply | apply Keeps.stamped | apply Keeps.ite | split | dsimp only
    | apply Keeps.update)

theorem Keeps.execServiceUnknown {fn} : ∃ s', execServiceUnknown fn s = .next s' ∧ Keeps s s' := by
  unfold Machine.execServiceUnknown
  refine ⟨_, rfl, ?_⟩
  with_reducible repeat' (first
    | assumption | exact Keeps.refl | apply Keeps.reply | apply Keeps.ite | split | dsimp only | apply Keeps.update)

/-! ### Machine/Fabric.lean -/

theorem Keeps.modNet {f} (hk : Keeps s0 s) : Keeps s0 (State.modNet s f) := by
  unfold State.modNet
  with_reducible repeat' (first | assumption | exact Keeps.refl | split | dsimp only | apply Keeps.update)

theorem Keeps.markUnreach {n reason} (hk : Keeps s0 s) : Keeps s0 (State.markUnreach s n reason) := by
  unfold State.markUnreach
  with_reducible repeat' (first
    | assumption | exact Keeps.refl | apply Keeps.postDev | apply Keeps.modNet | intro _ _ _ | intro _ _ | apply Keeps.ite | split
    | dsimp only | apply Keeps.update)

theorem Keeps.portSend {pt x} (hk : Keeps s0 s) : Keeps s0 (State.portSend s pt x) := by
  unfold State.portSend
  with_reducible repeat' (first
    | assumption | exact Keeps.refl | apply Keeps.modPort | apply Keeps.perfWrap | apply Keeps.emit | intro _ _ _ | intro _ _
    | apply Keeps.ite | split | dsimp only | apply Keeps.update)

theorem Keeps.fabBytes {p n} (hk : Keeps s0 s) : Keeps s0 (State.fabBytes s p n) := by
  unfold State.fabBytes
  with_reducible repeat' (first
    | assumption | exact Keeps.refl | apply Keeps.sharedEnergy | apply Keeps.accrue | split | dsimp only)

theorem Keeps.forward {x} (hk : Keeps s0 s) : Keeps s0 (State.forward s x) := by
  unfold State.forward
  with_reducible repeat' (first
    | assumption | exact Keeps.refl | apply Keeps.portSend | apply Keeps.markUnreach | apply Keeps.modNet | intro _ _ _ | intro _ _
    | split | dsimp only | apply Keeps.update)

theorem Keeps.fabSend {p dest tc n op} (hk : Keeps s0 s) : Keeps s0 (State.fabSend s p dest tc n op) := by
  unfold State.fabSend
  with_reducible repeat' (first
    | assumption | exact Keeps.refl | apply Keeps.took | apply Keeps.forward | apply Keeps.modNet | apply Keeps.fabBytes
    | intro _ _ _ | intro _ _ | apply Keeps.ite | split | dsimp only | apply Keeps.update)

theorem Keeps.fabSendUnit {p g tc n op} (hk : Keeps s0 s) : Keeps s0 (State.fabSendUnit s p g tc n op) := by
  unfold State.fabSendUnit
  with_reducible repeat' (first
    | assumption | exact Keeps.refl | exact fun _ h => h | apply Keeps.fabSend | apply Keeps.took | split | dsimp only)

theorem Keeps.dropE2e {o} (hk : Keeps s0 s) : Keeps s0 (State.dropE2e s o) := by
  unfold State.dropE2e
  with_reducible repeat' (first
    | assumption | exact Keeps.refl | apply Keeps.modNet | intro _ _ _ | intro _ _ | split | dsimp only | apply Keeps.update)

theorem Keeps.setGroup {p g x} (hk : Keeps s0 s) : Keeps s0 (State.setGroup s p g x) := by
  unfold State.setGroup
  with_reducible repeat' (first
    | assumption | exact Keeps.refl | exact fun _ h => h | apply Keeps.modPrt | intro _ _ _ | intro _ _ | apply Keeps.ite | split
    | dsimp only | apply Keeps.update)

theorem Keeps.addGroup {p x} (hk : Keeps s0 s) : Keeps s0 (State.addGroup s p x) := by
  unfold State.addGroup
  with_reducible repeat' (first
    | assumption | exact Keeps.refl | exact fun _ h => h | apply Keeps.modPrt | intro _ _ _ | intro _ _ | split | dsimp only
    | apply Keeps.update)

theorem Keeps.grpSettle (hk : Keeps s0 s) : Keeps s0 (State.grpSettle s) := by
  unfold State.grpSettle
  with_reducible repeat' (first
    | assumption | exact Keeps.refl | apply Keeps.modNet | apply Keeps.setGroup | intro _ _ _ | intro _ _ | apply Keeps.foldl
    | apply Keeps.foldlFst | apply Keeps.foldlSnd | apply Keeps.ite | split | dsimp only | apply Keeps.update)

theorem Keeps.dropRun {p o} (hk : Keeps s0 s) : Keeps s0 (State.dropRun s p o) := by
  unfold State.dropRun
  with_reducible repeat' (first
    | assumption | exact Keeps.refl | exact fun _ h => h | apply Keeps.grpSettle | apply Keeps.dropE2e | apply Keeps.modPrt
    | intro _ _ _ | intro _ _ | split | dsimp only | apply Keeps.update)

/-! ### Machine/Reach.lean -/

theorem Keeps.countLate {p x} (hk : Keeps s0 s) : Keeps s0 (State.countLate s p x) := by
  unfold State.countLate
  with_reducible repeat' (first
    | assumption | exact Keeps.refl | apply Keeps.modScb | apply Keeps.modInst | apply Keeps.perfWrap | apply Keeps.postPart
    | intro _ _ _ | intro _ _ | apply Keeps.ite | split | dsimp only | apply Keeps.update)

theorem Keeps.demandFetch {p t} (hk : Keeps s0 s) : Keeps s0 (State.demandFetch s p t) := by
  unfold State.demandFetch
  with_reducible repeat' (first
    | assumption | exact Keeps.refl | apply Keeps.countLate | apply Keeps.modInst | intro _ _ _ | intro _ _ | apply Keeps.ite
    | split | dsimp only | apply Keeps.update)

theorem Keeps.noteBlocked {c p ts tag} (hk : Keeps s0 s) : Keeps s0 (State.noteBlocked s c p ts tag) := by
  unfold State.noteBlocked
  with_reducible repeat' (first
    | assumption | exact Keeps.refl | apply Keeps.countWaits | apply Keeps.demandFetch | apply Keeps.modCmd | intro _ _ _
    | intro _ _ | apply Keeps.foldl | apply Keeps.foldlFst | apply Keeps.foldlSnd | apply Keeps.ite | split | dsimp only
    | apply Keeps.update)

theorem Keeps.noteServed {c} (hk : Keeps s0 s) : Keeps s0 (State.noteServed s c) := by
  unfold State.noteServed
  with_reducible repeat' (first
    | assumption | exact Keeps.refl | apply Keeps.modCmd | intro _ _ _ | intro _ _ | split | dsimp only | apply Keeps.update)

/-! ### Machine/Units.lean -/

theorem Keeps.modCore {p c f} (hk : Keeps s0 s) : Keeps s0 (State.modCore s p c f) := by
  unfold State.modCore
  with_reducible repeat' (first
    | assumption | exact Keeps.refl | exact fun _ h => h | apply Keeps.modPrt | intro _ _ _ | intro _ _ | split | dsimp only
    | apply Keeps.update)

theorem Keeps.modUnit {u f} (hk : Keeps s0 s) : Keeps s0 (State.modUnit s u f) := by
  unfold State.modUnit
  with_reducible repeat' (first
    | assumption | exact Keeps.refl | apply Keeps.modCore | intro _ _ _ | intro _ _ | split | dsimp only | apply Keeps.update)

theorem Keeps.modPair {b f} (hk : Keeps s0 s) : Keeps s0 (State.modPair s b f) := by
  unfold State.modPair
  with_reducible repeat' (first
    | assumption | exact Keeps.refl | apply Keeps.modCore | intro _ _ _ | intro _ _ | split | dsimp only | apply Keeps.update)

theorem Keeps.streamFault {p c} (hk : Keeps s0 s) : Keeps s0 (State.streamFault s p c) := by
  unfold State.streamFault
  with_reducible repeat' (first
    | assumption | exact Keeps.refl | exact fun _ h => h | apply Keeps.modPrt | apply Keeps.msix | intro _ _ _ | intro _ _
    | apply Keeps.ite | split | dsimp only | apply Keeps.update)

theorem Keeps.breakPair {b} (hk : Keeps s0 s) : Keeps s0 (State.breakPair s b) := by
  unfold State.breakPair
  with_reducible repeat' (first
    | assumption | exact Keeps.refl | apply Keeps.streamFault | apply Keeps.modPair | intro _ _ _ | intro _ _ | apply Keeps.ite
    | split | dsimp only | apply Keeps.update)

theorem Keeps.breakPairsOf {u} (hk : Keeps s0 s) : Keeps s0 (State.breakPairsOf s u) := by
  unfold State.breakPairsOf
  with_reducible repeat' (first
    | assumption | exact Keeps.refl | apply Keeps.breakPair | intro _ _ _ | intro _ _ | apply Keeps.foldl | apply Keeps.foldlFst
    | apply Keeps.foldlSnd | split | dsimp only)

theorem Keeps.suFault {u f} (hk : Keeps s0 s) : Keeps s0 (State.suFault s u f) := by
  unfold State.suFault
  with_reducible repeat' (first
    | assumption | exact Keeps.refl | apply Keeps.breakPairsOf | apply Keeps.streamFault | apply Keeps.modUnit | intro _ _ _
    | intro _ _ | split | dsimp only | apply Keeps.update)

theorem Keeps.suGo {u pc} (hk : Keeps s0 s) : Keeps s0 (State.suGo s u pc) := by
  unfold State.suGo
  with_reducible repeat' (first
    | assumption | exact Keeps.refl | apply Keeps.modUnit | apply Keeps.suFault | intro _ _ _ | intro _ _ | apply Keeps.ite | split
    | dsimp only | apply Keeps.update)

theorem Keeps.suNext {u} (hk : Keeps s0 s) : Keeps s0 (State.suNext s u) := by
  unfold State.suNext
  with_reducible repeat' (first | assumption | exact Keeps.refl | apply Keeps.suGo | split | dsimp only)

theorem Keeps.modBar {p b f} (hk : Keeps s0 s) : Keeps s0 (State.modBar s p b f) := by
  unfold State.modBar
  with_reducible repeat' (first
    | assumption | exact Keeps.refl | exact fun _ h => h | apply Keeps.modPrt | intro _ _ _ | intro _ _ | split | dsimp only
    | apply Keeps.update)

theorem Keeps.countArrival {p b} (hk : Keeps s0 s) : Keeps s0 (State.countArrival s p b) := by
  unfold State.countArrival
  with_reducible repeat' (first
    | assumption | exact Keeps.refl | apply Keeps.modBar | apply Keeps.fabSendUnit | intro _ _ _ | intro _ _ | apply Keeps.ite
    | split | dsimp only | apply Keeps.update)

/-! ### Machine/Lists.lean -/

theorem Keeps.modRun {c f} (hk : Keeps s0 s) : Keeps s0 (State.modRun s c f) := by
  unfold State.modRun
  with_reducible repeat' (first
    | assumption | exact Keeps.refl | apply Keeps.modCmd | intro _ _ _ | intro _ _ | split | dsimp only | apply Keeps.update)

theorem Keeps.faultOp {c k r} (hk : Keeps s0 s) : Keeps s0 (State.faultOp s c k r) := by
  unfold State.faultOp
  with_reducible repeat' (first
    | assumption | exact Keeps.refl | apply Keeps.modRing | intro _ _ _ | intro _ _ | split | dsimp only | apply Keeps.update)

theorem Keeps.advance {c} (hk : Keeps s0 s) : Keeps s0 (State.advance s c) := by
  unfold State.advance
  with_reducible repeat' (first
    | assumption | exact Keeps.refl | apply Keeps.modRun | apply Keeps.faultOp | apply Keeps.refuse | apply Keeps.finish
    | intro _ _ _ | intro _ _ | apply Keeps.ite | split | dsimp only | apply Keeps.update)

theorem Keeps.opBegin {o a} (hk : Keeps s0 s) : Keeps s0 (State.opBegin s o a) := by
  unfold State.opBegin
  with_reducible repeat' (first
    | assumption | exact Keeps.refl | apply Keeps.modCmd | apply Keeps.noteServed | apply Keeps.modRun | apply Keeps.advance
    | intro _ _ _ | intro _ _ | apply Keeps.ite | split | dsimp only | apply Keeps.update)

theorem Keeps.modOp {o f} (hk : Keeps s0 s) : Keeps s0 (State.modOp s o f) := by
  unfold State.modOp
  with_reducible repeat' (first
    | assumption | exact Keeps.refl | apply Keeps.modRun | intro _ _ _ | intro _ _ | apply Keeps.ite | split | dsimp only
    | apply Keeps.update)

theorem Keeps.opEnd {o st d} (hk : Keeps s0 s) : Keeps s0 (State.opEnd s o st d) := by
  unfold State.opEnd
  with_reducible repeat' (first
    | assumption | exact Keeps.refl | apply Keeps.advance | apply Keeps.modRun | intro _ _ _ | intro _ _ | split | dsimp only
    | apply Keeps.update)

theorem Keeps.opInstant {o st d} (hk : Keeps s0 s) : Keeps s0 (State.opInstant s o st d) := by
  unfold State.opInstant
  with_reducible repeat' (first
    | assumption | exact Keeps.refl | apply Keeps.modCmd | apply Keeps.noteServed | apply Keeps.advance | apply Keeps.modRun
    | intro _ _ _ | intro _ _ | apply Keeps.ite | split | dsimp only | apply Keeps.update)

theorem Keeps.execList {c list} (hk : Keeps s0 s) : Keeps s0 (State.execList s c list) := by
  unfold State.execList
  with_reducible repeat' (first
    | assumption | exact Keeps.refl | apply Keeps.modCmd | apply Keeps.refuse | apply Keeps.fetchLines | apply Keeps.advance
    | intro _ _ _ | intro _ _ | apply Keeps.ite | split | dsimp only | apply Keeps.update)

theorem Keeps.execExecList {c list} : ∃ s', execExecList c list s = .next s' ∧ Keeps s s' := by
  unfold Machine.execExecList
  refine ⟨_, rfl, ?_⟩
  with_reducible repeat' (first | assumption | exact Keeps.refl | apply Keeps.execList | split | dsimp only)

theorem Keeps.execControlNop {c} : ∃ s', execControlNop c s = .next s' ∧ Keeps s s' := by
  unfold Machine.execControlNop
  refine ⟨_, rfl, ?_⟩
  with_reducible repeat' (first
    | assumption | exact Keeps.refl | apply Keeps.finish | apply Keeps.refuse | apply Keeps.ite | split | dsimp only
    | apply Keeps.update)

theorem Keeps.execControlFence {c} : ∃ s', execControlFence c s = .next s' ∧ Keeps s s' := by
  unfold Machine.execControlFence
  refine ⟨_, rfl, ?_⟩
  with_reducible repeat' (first
    | assumption | exact Keeps.refl | apply Keeps.refuse | apply Keeps.modCmd | apply Keeps.conclude | intro _ _ _ | intro _ _
    | apply Keeps.ite | split | dsimp only | apply Keeps.update)

theorem Keeps.confirmed {c} (hk : Keeps s0 s) : Keeps s0 (State.confirmed s c) := by
  unfold State.confirmed
  with_reducible repeat' (first
    | assumption | exact Keeps.refl | apply Keeps.modRing | intro _ _ _ | intro _ _ | apply Keeps.ite | split | dsimp only
    | apply Keeps.update)

theorem Keeps.flushDone {c} (hk : Keeps s0 s) : Keeps s0 (State.flushDone s c) := by
  unfold State.flushDone
  with_reducible repeat' (first
    | assumption | exact Keeps.refl | apply Keeps.noteReady | apply Keeps.modCmd | apply Keeps.confirmed | apply Keeps.conclude
    | intro _ _ _ | intro _ _ | apply Keeps.ite | split | dsimp only | apply Keeps.update)

theorem Keeps.execFlushReadDone {w} : ∃ s', execFlushReadDone w s = .next s' ∧ Keeps s s' := by
  unfold Machine.execFlushReadDone
  refine ⟨_, rfl, ?_⟩
  with_reducible repeat' (first
    | assumption | exact Keeps.refl | apply Keeps.flushDone | apply Keeps.modOp | apply Keeps.modChan | intro _ _ _ | intro _ _
    | apply Keeps.ite | split | dsimp only | apply Keeps.update)

theorem Keeps.execFenceTimeout {c} : ∃ s', execFenceTimeout c s = .next s' ∧ Keeps s s' := by
  unfold Machine.execFenceTimeout
  refine ⟨_, rfl, ?_⟩
  with_reducible repeat' (first
    | assumption | exact Keeps.refl | apply Keeps.noteReady | apply Keeps.complete | apply Keeps.conclude | apply Keeps.ite | split
    | dsimp only | apply Keeps.update)

theorem Keeps.barCfg {c p k} (hk : Keeps s0 s) : Keeps s0 (State.barCfg s c p k) := by
  unfold State.barCfg
  with_reducible repeat' (first
    | assumption | exact Keeps.refl | apply Keeps.refuse | apply Keeps.finish | apply Keeps.modBar | intro _ _ _ | intro _ _
    | apply Keeps.ite | split | dsimp only | apply Keeps.update)

theorem Keeps.execBarCfg {c} : ∃ s', execBarCfg c s = .next s' ∧ Keeps s s' := by
  unfold Machine.execBarCfg
  refine ⟨_, rfl, ?_⟩
  with_reducible repeat' (first | assumption | exact Keeps.refl | apply Keeps.barCfg | split | dsimp only | apply Keeps.update)

theorem Keeps.leaveBarrier {c fail} (hk : Keeps s0 s) : Keeps s0 (State.leaveBarrier s c fail) := by
  unfold State.leaveBarrier
  with_reducible repeat' (first
    | assumption | exact Keeps.refl | apply Keeps.flushOwn | apply Keeps.ite | split | dsimp only | apply Keeps.update)

theorem Keeps.unitLeaves {u fail} (hk : Keeps s0 s) : Keeps s0 (State.unitLeaves s u fail) := by
  unfold State.unitLeaves
  with_reducible repeat' (first
    | assumption | exact Keeps.refl | apply Keeps.suFault | apply Keeps.modUnit | apply Keeps.suNext | intro _ _ _ | intro _ _
    | apply Keeps.ite | split | dsimp only | apply Keeps.update)

theorem Keeps.letGo {p b gen fail} (hk : Keeps s0 s) : Keeps s0 (State.letGo s p b gen fail) := by
  unfold State.letGo
  with_reducible repeat' (first
    | assumption | exact Keeps.refl | apply Keeps.unitLeaves | apply Keeps.leaveBarrier | apply Keeps.opEnd | intro _ _ _
    | intro _ _ | apply Keeps.foldl | apply Keeps.foldlFst | apply Keeps.foldlSnd | split | dsimp only | apply Keeps.update)

theorem Keeps.releaseBarrier {p b} (hk : Keeps s0 s) : Keeps s0 (State.releaseBarrier s p b) := by
  unfold State.releaseBarrier
  with_reducible repeat' (first
    | assumption | exact Keeps.refl | apply Keeps.letGo | apply Keeps.modBar | intro _ _ _ | intro _ _ | apply Keeps.ite | split
    | dsimp only | apply Keeps.update)

theorem Keeps.releaseIfFull {p b} (hk : Keeps s0 s) : Keeps s0 (State.releaseIfFull s p b) := by
  unfold State.releaseIfFull
  with_reducible repeat' (first | assumption | exact Keeps.refl | apply Keeps.releaseBarrier | apply Keeps.ite | split | dsimp only)

theorem Keeps.breakBarrier {p b st d} (hk : Keeps s0 s) : Keeps s0 (State.breakBarrier s p b st d) := by
  unfold State.breakBarrier
  with_reducible repeat' (first
    | assumption | exact Keeps.refl | apply Keeps.letGo | apply Keeps.modBar | intro _ _ _ | intro _ _ | split | dsimp only
    | apply Keeps.update)

theorem Keeps.barrierArrival {c} (hk : Keeps s0 s) : Keeps s0 (State.barrierArrival s c) := by
  unfold State.barrierArrival
  with_reducible repeat' (first
    | assumption | exact Keeps.refl | apply Keeps.releaseIfFull | apply Keeps.countArrival | apply Keeps.modCmd
    | apply Keeps.leaveBarrier | intro _ _ _ | intro _ _ | split | dsimp only | apply Keeps.update)

theorem Keeps.execBarrierArrival {c} : ∃ s', execBarrierArrival c s = .next s' ∧ Keeps s s' := by
  unfold Machine.execBarrierArrival
  refine ⟨_, rfl, ?_⟩
  with_reducible repeat' (first | assumption | exact Keeps.refl | apply Keeps.barrierArrival | split | dsimp only)

theorem Keeps.execFabricBarrierRelease {p b} : ∃ s', execFabricBarrierRelease p b s = .next s' ∧ Keeps s s' := by
  unfold Machine.execFabricBarrierRelease
  refine ⟨_, rfl, ?_⟩
  with_reducible repeat' (first
    | assumption | exact Keeps.refl | apply Keeps.releaseBarrier | apply Keeps.wakePartition | apply Keeps.ite | split | dsimp only)

theorem Keeps.execBarrierTimeout {p b} : ∃ s', execBarrierTimeout p b s = .next s' ∧ Keeps s s' := by
  unfold Machine.execBarrierTimeout
  refine ⟨_, rfl, ?_⟩
  with_reducible repeat' (first
    | assumption | exact Keeps.refl | apply Keeps.breakBarrier | apply Keeps.ite | split | dsimp only | apply Keeps.update)

theorem Keeps.execListNop {o} : ∃ s', execListNop o s = .next s' ∧ Keeps s s' := by
  unfold Machine.execListNop
  refine ⟨_, rfl, ?_⟩
  with_reducible repeat' (first | assumption | exact Keeps.refl | apply Keeps.opInstant | split | dsimp only | apply Keeps.update)

theorem Keeps.recvNow {o p op k started} (hk : Keeps s0 s) : Keeps s0 (State.recvNow s o p op k started) := by
  unfold State.recvNow
  with_reducible repeat' (first
    | assumption | exact Keeps.refl | exact fun _ h => h | apply Keeps.opEnd | apply Keeps.opInstant | apply Keeps.opBegin
    | apply Keeps.noteBlocked | apply Keeps.freeInSlot | apply Keeps.store | apply Keeps.ite | split | dsimp only
    | apply Keeps.update)

theorem Keeps.mbRecv {o} (hk : Keeps s0 s) : Keeps s0 (State.mbRecv s o) := by
  unfold State.mbRecv
  with_reducible repeat' (first
    | assumption | exact Keeps.refl | apply Keeps.opInstant | apply Keeps.recvNow | apply Keeps.ite | split | dsimp only
    | apply Keeps.update)

theorem Keeps.execMbRecv {o} : ∃ s', execMbRecv o s = .next s' ∧ Keeps s s' := by
  unfold Machine.execMbRecv
  refine ⟨_, rfl, ?_⟩
  with_reducible repeat' (first | assumption | exact Keeps.refl | apply Keeps.mbRecv | split | dsimp only)

theorem Keeps.execMbRecvTimeout {o} : ∃ s', execMbRecvTimeout o s = .next s' ∧ Keeps s s' := by
  unfold Machine.execMbRecvTimeout
  refine ⟨_, rfl, ?_⟩
  with_reducible repeat' (first
    | assumption | exact Keeps.refl | apply Keeps.opEnd | apply Keeps.ite | split | dsimp only | apply Keeps.update)

theorem Keeps.mbSend {o} (hk : Keeps s0 s) : Keeps s0 (State.mbSend s o) := by
  unfold State.mbSend
  with_reducible repeat' (first
    | assumption | exact Keeps.refl | apply Keeps.opInstant | apply Keeps.noteBlocked | apply Keeps.loaded | apply Keeps.placeMsg
    | apply Keeps.opBegin | apply Keeps.modMail | intro _ _ _ | intro _ _ | apply Keeps.ite | split | dsimp only
    | apply Keeps.update)

theorem Keeps.execMbSend {o} : ∃ s', execMbSend o s = .next s' ∧ Keeps s s' := by
  unfold Machine.execMbSend
  refine ⟨_, rfl, ?_⟩
  with_reducible repeat' (first | assumption | exact Keeps.refl | apply Keeps.mbSend | split | dsimp only)

theorem Keeps.outboundPlace {fn} (hk : Keeps s0 s) : Keeps s0 (State.outboundPlace s fn) := by
  unfold State.outboundPlace
  with_reducible repeat' (first
    | assumption | exact Keeps.refl | apply Keeps.placeMsg | apply Keeps.modMail | apply Keeps.freeInSlot | apply Keeps.opEnd
    | intro _ _ _ | intro _ _ | apply Keeps.ite | split | dsimp only | apply Keeps.update)

theorem Keeps.execMailboxOutboundPlace {fn} : ∃ s', execMailboxOutboundPlace fn s = .next s' ∧ Keeps s s' := by
  unfold Machine.execMailboxOutboundPlace
  refine ⟨_, rfl, ?_⟩
  with_reducible repeat' (first | assumption | exact Keeps.refl | apply Keeps.outboundPlace | split | dsimp only)

theorem Keeps.barArrive {o} (hk : Keeps s0 s) : Keeps s0 (State.barArrive s o) := by
  unfold State.barArrive
  with_reducible repeat' (first
    | assumption | exact Keeps.refl | apply Keeps.opInstant | apply Keeps.releaseIfFull | apply Keeps.countArrival
    | apply Keeps.opBegin | apply Keeps.ite | split | dsimp only | apply Keeps.update)

theorem Keeps.execBarArrive {o} : ∃ s', execBarArrive o s = .next s' ∧ Keeps s s' := by
  unfold Machine.execBarArrive
  refine ⟨_, rfl, ?_⟩
  with_reducible repeat' (first | assumption | exact Keeps.refl | apply Keeps.barArrive | split | dsimp only)

theorem Keeps.hostOpWrite {o op} (hk : Keeps s0 s) : Keeps s0 (State.hostOpWrite s o op) := by
  unfold State.hostOpWrite
  with_reducible repeat' (first
    | assumption | exact Keeps.refl | apply Keeps.stamped | apply Keeps.dataWrite | apply Keeps.ite | split | dsimp only)

theorem Keeps.hostOp {o lop} (hk : Keeps s0 s) : Keeps s0 (State.hostOp s o lop) := by
  unfold State.hostOp
  with_reducible repeat' (first
    | assumption | exact Keeps.refl | apply Keeps.opInstant | apply Keeps.opBegin | apply Keeps.hostOpWrite | apply Keeps.ite
    | split | dsimp only | apply Keeps.update)

theorem Keeps.execTimestamp {o} : ∃ s', execTimestamp o s = .next s' ∧ Keeps s s' := by
  unfold Machine.execTimestamp
  refine ⟨_, rfl, ?_⟩
  with_reducible repeat' (first | assumption | exact Keeps.refl | apply Keeps.hostOp | split | dsimp only)

theorem Keeps.execWriteValue {o} : ∃ s', execWriteValue o s = .next s' ∧ Keeps s s' := by
  unfold Machine.execWriteValue
  refine ⟨_, rfl, ?_⟩
  with_reducible repeat' (first | assumption | exact Keeps.refl | apply Keeps.hostOp | split | dsimp only)

/-! ### Machine/Epochs.lean -/

theorem Keeps.freeRange {p b n} (hk : Keeps s0 s) : Keeps s0 (State.freeRange s p b n) := by
  unfold State.freeRange
  with_reducible repeat' (first
    | assumption | exact Keeps.refl | exact fun _ h => h | apply Keeps.modMem | apply Keeps.modScb | intro _ _ _ | intro _ _
    | apply clearBytes_wf | split | dsimp only | apply Keeps.update)

theorem Keeps.closeEnd {p rec_ mb} (hk : Keeps s0 s) : Keeps s0 (State.closeEnd s p rec_ mb) := by
  unfold State.closeEnd
  with_reducible repeat' (first
    | assumption | exact Keeps.refl | apply Keeps.modScb | apply Keeps.freeRange | intro _ _ _ | intro _ _ | apply Keeps.ite
    | split | dsimp only | apply Keeps.update)

theorem Keeps.closeInst {p x} (hk : Keeps s0 s) : Keeps s0 (State.closeInst s p x) := by
  unfold State.closeInst
  with_reducible repeat' (first
    | assumption | exact Keeps.refl | exact fun _ h => h | apply Keeps.modScb | apply Keeps.modMem | apply Keeps.closeEnd
    | intro _ _ _ | intro _ _ | apply Keeps.ite | split | dsimp only | apply Keeps.update)

theorem Keeps.closeInsts {p f} (hk : Keeps s0 s) : Keeps s0 (State.closeInsts s p f) := by
  unfold State.closeInsts
  with_reducible repeat' (first
    | assumption | exact Keeps.refl | apply Keeps.closeInst | intro _ _ _ | intro _ _ | apply Keeps.foldl | apply Keeps.foldlFst
    | apply Keeps.foldlSnd | split | dsimp only)

theorem Keeps.closeRun {p} (hk : Keeps s0 s) : Keeps s0 (State.closeRun s p) := by
  unfold State.closeRun
  with_reducible repeat' (first
    | assumption | exact Keeps.refl | apply Keeps.modScb | apply Keeps.closeInsts | intro _ _ _ | intro _ _ | split | dsimp only
    | apply Keeps.update)

theorem Keeps.mapPairs {p f} (hk : Keeps s0 s) : Keeps s0 (State.mapPairs s p f) := by
  unfold State.mapPairs
  with_reducible repeat' (first
    | assumption | exact Keeps.refl | exact fun _ h => h | apply Keeps.modPrt | intro _ _ _ | intro _ _ | split | dsimp only
    | apply Keeps.update)

theorem Keeps.commitEpoch {p e} (hk : Keeps s0 s) : Keeps s0 (State.commitEpoch s p e) := by
  unfold State.commitEpoch
  with_reducible repeat' (first
    | assumption | exact Keeps.refl | exact fun _ h => h | apply Keeps.modPrt | apply Keeps.mapPairs | intro _ _ _ | intro _ _
    | apply Keeps.ite | split | dsimp only | apply Keeps.update)

theorem Keeps.revokeTile {p t} (hk : Keeps s0 s) : Keeps s0 (State.revokeTile s p t) := by
  unfold State.revokeTile
  with_reducible repeat' (first
    | assumption | exact Keeps.refl | exact fun _ h => h | apply Keeps.modMem | apply Keeps.modTile | apply Keeps.zeroTile
    | intro _ _ _ | intro _ _ | apply clearBytes_wf | apply Keeps.ite | split | dsimp only | apply Keeps.update)

theorem Keeps.revokeCmds {p e} (hk : Keeps s0 s) : Keeps s0 (State.revokeCmds s p e) := by
  unfold State.revokeCmds
  with_reducible repeat' (first
    | assumption | exact Keeps.refl | apply Keeps.modRing | apply Keeps.complete | intro _ _ _ | intro _ _ | apply Keeps.foldl
    | apply Keeps.foldlFst | apply Keeps.foldlSnd | apply Keeps.ite | split | dsimp only | apply Keeps.update)

theorem Keeps.revokeRuns {p e} (hk : Keeps s0 s) : Keeps s0 (State.revokeRuns s p e) := by
  unfold State.revokeRuns
  with_reducible repeat' (first
    | assumption | exact Keeps.refl | apply Keeps.opEnd | apply Keeps.dropRun | intro _ _ _ | intro _ _ | apply Keeps.foldl
    | apply Keeps.foldlFst | apply Keeps.foldlSnd | split | dsimp only)

theorem Keeps.revokeEpoch {p e} (hk : Keeps s0 s) : Keeps s0 (State.revokeEpoch s p e) := by
  unfold State.revokeEpoch
  with_reducible repeat' (first
    | assumption | exact Keeps.refl | exact fun _ h => h | apply Keeps.modPrt | apply Keeps.revokeCmds | apply Keeps.spoilTiles
    | apply Keeps.revokeTile | apply Keeps.mapPairs | apply Keeps.closeRun | apply Keeps.noteReady | apply Keeps.revokeRuns
    | intro _ _ _ | intro _ _ | apply Keeps.foldl | apply Keeps.foldlFst | apply Keeps.foldlSnd | apply Keeps.ite | split
    | dsimp only | apply Keeps.update)

theorem Keeps.put {p ta b tag dead} (hk : Keeps s0 s) : Keeps s0 (State.put s p ta b tag dead) := by
  unfold State.put
  with_reducible repeat' (first
    | assumption | exact Keeps.refl | apply Keeps.zeroTile | apply Keeps.store | intro _ _ _ | intro _ _ | apply Keeps.foldl
    | apply Keeps.foldlFst | apply Keeps.foldlSnd | apply Keeps.ite | split | dsimp only)

theorem Keeps.revokeBy {c p e} (hk : Keeps s0 s) : Keeps s0 (State.revokeBy s c p e) := by
  unfold State.revokeBy
  with_reducible repeat' (first
    | assumption | exact Keeps.refl | apply Keeps.refuse | apply Keeps.finish | apply Keeps.revokeEpoch | split | dsimp only
    | apply Keeps.update)

theorem Keeps.commitBy {c p e} (hk : Keeps s0 s) : Keeps s0 (State.commitBy s c p e) := by
  unfold State.commitBy
  with_reducible repeat' (first
    | assumption | exact Keeps.refl | apply Keeps.finish | apply Keeps.noteReady | apply Keeps.commitEpoch | apply Keeps.ite
    | split | dsimp only)

theorem Keeps.epochCommand {c commit} (hk : Keeps s0 s) : Keeps s0 (State.epochCommand s c commit) := by
  unfold State.epochCommand
  with_reducible repeat' (first
    | assumption | exact Keeps.refl | apply Keeps.commitBy | apply Keeps.revokeBy | apply Keeps.refuse | apply Keeps.finish
    | apply Keeps.modCmd | apply Keeps.fabSend | intro _ _ _ | intro _ _ | apply Keeps.ite | split | dsimp only
    | apply Keeps.update)

theorem Keeps.execEpochCommit {c} : ∃ s', execEpochCommit c s = .next s' ∧ Keeps s s' := by
  unfold Machine.execEpochCommit
  refine ⟨_, rfl, ?_⟩
  with_reducible repeat' (first | assumption | exact Keeps.refl | apply Keeps.epochCommand | split | dsimp only)

theorem Keeps.execEpochRevoke {c} : ∃ s', execEpochRevoke c s = .next s' ∧ Keeps s s' := by
  unfold Machine.execEpochRevoke
  refine ⟨_, rfl, ?_⟩
  with_reducible repeat' (first | assumption | exact Keeps.refl | apply Keeps.epochCommand | split | dsimp only)

theorem Keeps.governs_fst {p e commit} (hk : Keeps s0 s) : Keeps s0 (State.governs s p e commit).2 := by
  unfold State.governs
  with_reducible repeat' (first
    | assumption | exact Keeps.refl | intro _ _ _ | intro _ _ | apply Keeps.ite | split | dsimp only | apply Keeps.update)

theorem Keeps.governs {p e commit} {x} (he : State.governs s p e commit = (x, s')) (hk : Keeps s0 s) : Keeps s0 s' := by
  have h := Keeps.governs_fst (p := p) (e := e) (commit := commit) hk
  rw [he] at h
  exact h

theorem Keeps.decideJob {p e commit} (hk : Keeps s0 s) : Keeps s0 (State.decideJob s p e commit) := by
  unfold State.decideJob
  with_reducible repeat' (first
    | assumption | exact Keeps.refl | apply Keeps.commitEpoch | apply Keeps.revokeEpoch | apply Keeps.finish | apply Keeps.refuse
    | apply Keeps.noteReady | apply Keeps.governs_fst | intro _ _ _ | intro _ _ | apply Keeps.foldl | apply Keeps.foldlFst
    | apply Keeps.foldlSnd | apply Keeps.ite | split | refine Keeps.governs ‹_› ?_ | dsimp only)

theorem Keeps.jobDecision {p e commit} (hk : Keeps s0 s) : Keeps s0 (State.jobDecision s p e commit) := by
  unfold State.jobDecision
  with_reducible repeat' (first | assumption | exact Keeps.refl | apply Keeps.decideJob | apply Keeps.ite | split | dsimp only)

theorem Keeps.execJobEpochDecision {p e commit} : ∃ s', execJobEpochDecision p e commit s = .next s' ∧ Keeps s s' := by
  unfold Machine.execJobEpochDecision
  refine ⟨_, rfl, ?_⟩
  with_reducible repeat' (first | assumption | exact Keeps.refl | apply Keeps.jobDecision | split | dsimp only)

theorem Keeps.execTntEpochWrite {p v} : ∃ s', execTntEpochWrite p v s = .next s' ∧ Keeps s s' := by
  unfold Machine.execTntEpochWrite
  refine ⟨_, rfl, ?_⟩
  with_reducible repeat' (first
    | assumption | exact Keeps.refl | exact fun _ h => h | apply Keeps.modPrt | intro _ _ _ | intro _ _ | apply Keeps.ite | split
    | dsimp only | apply Keeps.update)

end Sys2Proof.Machine
end

