-- ==== Sys2Proof/Laws/KeepsEngines.lean ====
section
/-! SUPPORT. Laws/KeepsEngines.lean: what the engines, the update unit, collectives, security, meters and the Scarab's steward keep (`Keeps`), one lemma for each function that changes a state;
for a command, that it answers a next state that keeps what the state had. -/

namespace Sys2Proof.Machine

variable {s0 s s' : State}

/-! ### Machine/Pairs.lean -/

theorem Keeps.swapPair {b tag dead} (hk : Keeps s0 s) : Keeps s0 (State.swapPair s b tag dead) :=
  Keeps.modPair (Keeps.modMem hk fun _ h => swapBytes_wf h)

theorem Keeps.holdPairs {o bs} (hk : Keeps s0 s) : Keeps s0 (State.holdPairs s o bs) := by
  unfold State.holdPairs
  with_reducible repeat' (first
    | assumption | exact Keeps.refl | apply Keeps.modPair | intro _ _ _ | intro _ _ | apply Keeps.foldl | apply Keeps.foldlFst
    | apply Keeps.foldlSnd | apply Keeps.ite | split | dsimp only | apply Keeps.update)

theorem Keeps.letPairsGo {p sel} (hk : Keeps s0 s) : Keeps s0 (State.letPairsGo s p sel) := by
  unfold State.letPairsGo
  with_reducible repeat' (first
    | assumption | exact Keeps.refl | apply Keeps.mapPairs | intro _ _ _ | intro _ _ | split | dsimp only | apply Keeps.update)

theorem Keeps.countProducer {p ts} (hk : Keeps s0 s) : Keeps s0 (State.countProducer s p ts) := by
  unfold State.countProducer
  with_reducible repeat' (first
    | assumption | exact Keeps.refl | apply Keeps.mapPairs | intro _ _ _ | intro _ _ | apply Keeps.ite | split | dsimp only
    | apply Keeps.update)

theorem readBy_bytes (m : Memory) (r : Reader) (t : TileNo) (n : Nat) : (m.readBy r t n).bytes = m.bytes := by
  unfold Memory.readBy
  dsimp only
  repeat' split
  all_goals rfl

theorem Keeps.readBy {p r ts} (hk : Keeps s0 s) : Keeps s0 (State.readBy s p r ts) := by
  unfold State.readBy
  refine Keeps.foldl hk fun s t h => Keeps.modMem h fun m w => ?_
  rw [readBy_bytes]
  exact w

theorem Keeps.execReadAheadExpire {p i} : ∃ s', execReadAheadExpire p i s = .next s' ∧ Keeps s s' := by
  unfold Machine.execReadAheadExpire
  refine ⟨_, rfl, ?_⟩
  with_reducible repeat' (first
    | assumption | exact Keeps.refl | exact fun _ h => h | apply Keeps.modMem | intro _ _ _ | intro _ _ | apply Keeps.ite | split
    | dsimp only | apply Keeps.update)

/-! ### Machine/Compute.lean -/

theorem Keeps.runCompute {p C tag dead} (hk : Keeps s0 s) : Keeps s0 (State.runCompute s p C tag dead) := by
  unfold State.runCompute
  with_reducible repeat' (first
    | assumption | exact Keeps.refl | exact fun _ h => h | apply Keeps.touch | apply Keeps.storeAll | intro _ _ _ | intro _ _
    | apply storeAll_wf | apply Keeps.foldl | apply Keeps.foldlFst | apply Keeps.foldlSnd | split | dsimp only)

theorem Keeps.computeOp {o lop} (hk : Keeps s0 s) : Keeps s0 (State.computeOp s o lop) := by
  unfold State.computeOp
  with_reducible repeat' (first
    | assumption | exact Keeps.refl | apply Keeps.opInstant | apply Keeps.letPairsGo | apply Keeps.holdPairs | apply Keeps.modCmd
    | apply Keeps.spoil | apply Keeps.noteBlocked | apply Keeps.opBegin | apply Keeps.runCompute | intro _ _ _ | intro _ _
    | apply Keeps.ite | split | dsimp only | apply Keeps.update)

theorem Keeps.execMatmul {o} : ∃ s', execMatmul o s = .next s' ∧ Keeps s s' := by
  unfold Machine.execMatmul
  refine ⟨_, rfl, ?_⟩
  with_reducible repeat' (first | assumption | exact Keeps.refl | apply Keeps.computeOp | split | dsimp only)

theorem Keeps.execConvert {o} : ∃ s', execConvert o s = .next s' ∧ Keeps s s' := by
  unfold Machine.execConvert
  refine ⟨_, rfl, ?_⟩
  with_reducible repeat' (first | assumption | exact Keeps.refl | apply Keeps.computeOp | split | dsimp only)

theorem Keeps.execVecEw {o} : ∃ s', execVecEw o s = .next s' ∧ Keeps s s' := by
  unfold Machine.execVecEw
  refine ⟨_, rfl, ?_⟩
  with_reducible repeat' (first | assumption | exact Keeps.refl | apply Keeps.computeOp | split | dsimp only)

theorem Keeps.execVecRed {o} : ∃ s', execVecRed o s = .next s' ∧ Keeps s s' := by
  unfold Machine.execVecRed
  refine ⟨_, rfl, ?_⟩
  with_reducible repeat' (first | assumption | exact Keeps.refl | apply Keeps.computeOp | split | dsimp only)

theorem Keeps.endLost {o p r} (hk : Keeps s0 s) : Keeps s0 (State.endLost s o p r) := by
  unfold State.endLost
  with_reducible repeat' (first | assumption | exact Keeps.refl | apply Keeps.opEnd | apply Keeps.letPairsGo | split | dsimp only)

theorem Keeps.computeEnd {o} (hk : Keeps s0 s) : Keeps s0 (State.computeEnd s o) := by
  unfold State.computeEnd
  with_reducible repeat' (first
    | assumption | exact Keeps.refl | apply Keeps.energy | apply Keeps.endLost | apply Keeps.letPairsGo | apply Keeps.countProducer
    | apply Keeps.opEnd | apply Keeps.ite | split | dsimp only | apply Keeps.update)

theorem Keeps.execComputeOpEnd {o} : ∃ s', execComputeOpEnd o s = .next s' ∧ Keeps s s' := by
  unfold Machine.execComputeOpEnd
  refine ⟨_, rfl, ?_⟩
  with_reducible repeat' (first | assumption | exact Keeps.refl | apply Keeps.computeEnd | split | dsimp only)

/-! ### Machine/Weevil.lean -/

theorem Keeps.modWvl {p f} (hk : Keeps s0 s) : Keeps s0 (State.modWvl s p f) := by
  unfold State.modWvl
  with_reducible repeat' (first
    | assumption | exact Keeps.refl | exact fun _ h => h | apply Keeps.modPrt | intro _ _ _ | intro _ _ | split | dsimp only
    | apply Keeps.update)

theorem Keeps.modUpd {p f} (hk : Keeps s0 s) : Keeps s0 (State.modUpd s p f) := by
  unfold State.modUpd
  with_reducible repeat' (first
    | assumption | exact Keeps.refl | apply Keeps.modWvl | intro _ _ _ | intro _ _ | split | dsimp only | apply Keeps.update)

theorem Keeps.updWaits {p u ts} (he : State.updWaits s p u ts = some s') (hk : Keeps s0 s) : Keeps s0 s' := by
  unfold State.updWaits at he
  dsimp only at he
  repeat' split at he
  all_goals first | cases he | skip
  all_goals with_reducible repeat' (first
    | assumption | exact Keeps.refl | apply Keeps.modCmd | apply Keeps.noteBlocked | intro _ _ _ | intro _ _ | apply Keeps.ite
    | split | dsimp only | apply Keeps.update)

theorem Keeps.updServed {p u xs} (hk : Keeps s0 s) : Keeps s0 (State.updServed s p u xs) := by
  unfold State.updServed
  with_reducible repeat' (first
    | assumption | exact Keeps.refl | apply Keeps.modCmd | apply Keeps.touch | intro _ _ _ | intro _ _ | apply Keeps.foldl
    | apply Keeps.foldlFst | apply Keeps.foldlSnd | split | dsimp only | apply Keeps.update)

theorem Keeps.endUpdate {p} (hk : Keeps s0 s) : Keeps s0 (State.endUpdate s p) := by
  unfold State.endUpdate
  with_reducible repeat' (first
    | assumption | exact Keeps.refl | apply Keeps.modCmd | apply Keeps.dataWrite | apply Keeps.finish | apply Keeps.modWvl
    | intro _ _ _ | intro _ _ | apply Keeps.ite | split | dsimp only | apply Keeps.update)

theorem Keeps.updEnds {p st d} (hk : Keeps s0 s) : Keeps s0 (State.updEnds s p st d) := by
  unfold State.updEnds
  with_reducible repeat' (first
    | assumption | exact Keeps.refl | apply Keeps.endUpdate | apply Keeps.modUpd | intro _ _ _ | intro _ _ | split | dsimp only
    | apply Keeps.update)

theorem Keeps.orphan {p u d} (hk : Keeps s0 s) : Keeps s0 (State.orphan s p u d) := by
  unfold State.orphan
  with_reducible repeat' (first
    | assumption | exact Keeps.refl | apply Keeps.updEnds | apply Keeps.postPart | apply Keeps.modWvl | intro _ _ _ | intro _ _
    | split | dsimp only | apply Keeps.update)

theorem Keeps.updateCommand {c list} (hk : Keeps s0 s) : Keeps s0 (State.updateCommand s c list) := by
  unfold State.updateCommand
  with_reducible repeat' (first
    | assumption | exact Keeps.refl | exact fun _ h => h | apply Keeps.modCmd | apply Keeps.refuse | apply Keeps.fetchLines
    | apply Keeps.modWvl | apply Keeps.updEnds | intro _ _ _ | intro _ _ | apply Keeps.ite | split | dsimp only
    | apply Keeps.update)

theorem Keeps.execUpdateCommand {c list} : ∃ s', execUpdateCommand c list s = .next s' ∧ Keeps s s' := by
  unfold Machine.execUpdateCommand
  refine ⟨_, rfl, ?_⟩
  with_reducible repeat' (first | assumption | exact Keeps.refl | apply Keeps.updateCommand | split | dsimp only)

theorem Keeps.setRed {r} (hk : Keeps s0 s) : Keeps s0 (State.setRed s r) := by
  unfold State.setRed
  with_reducible repeat' (first
    | assumption | exact Keeps.refl | intro _ _ _ | intro _ _ | apply Keeps.ite | split | dsimp only | apply Keeps.update)

theorem Keeps.decideRed {r missing} (hk : Keeps s0 s) : Keeps s0 (State.decideRed s r missing) := by
  unfold State.decideRed
  with_reducible repeat' (first
    | assumption | exact Keeps.refl | apply Keeps.setRed | apply Keeps.emit | apply Keeps.ite | split | dsimp only
    | apply Keeps.update)

theorem Keeps.contribute {sl e members tmoMs x} (hk : Keeps s0 s) : Keeps s0 (State.contribute s sl e members tmoMs x) := by
  unfold State.contribute
  with_reducible repeat' (first
    | assumption | exact Keeps.refl | exact fun _ h => h | apply Keeps.decideRed | intro _ _ _ | intro _ _ | apply Keeps.ite
    | split | dsimp only | apply Keeps.update)

theorem Keeps.sendPart {p u x} (hk : Keeps s0 s) : Keeps s0 (State.sendPart s p u x) := by
  unfold State.sendPart
  with_reducible repeat' (first
    | assumption | exact Keeps.refl | exact fun _ h => h | apply Keeps.contribute | apply Keeps.emit | apply Keeps.fabSend
    | apply Keeps.ite | split | dsimp only | apply Keeps.update)

theorem Keeps.execDecisionContribution {slice e members tmoMs rank sum nonfinite opError stopped} : ∃ s', execDecisionContribution slice e members tmoMs rank sum nonfinite opError stopped s = .next s' ∧ Keeps s s' := by
  unfold Machine.execDecisionContribution
  refine ⟨_, rfl, ?_⟩
  with_reducible repeat' (first
    | assumption | exact Keeps.refl | exact fun _ h => h | apply Keeps.contribute | intro _ _ _ | intro _ _ | apply Keeps.ite
    | split | dsimp only)

theorem Keeps.execReductionTimeout {slice e} : ∃ s', execReductionTimeout slice e s = .next s' ∧ Keeps s s' := by
  unfold Machine.execReductionTimeout
  refine ⟨_, rfl, ?_⟩
  with_reducible repeat' (first
    | assumption | exact Keeps.refl | apply Keeps.decideRed | apply Keeps.ite | split | dsimp only | apply Keeps.update)

theorem Keeps.redsLose {n reason} (hk : Keeps s0 s) : Keeps s0 (State.redsLose s n reason) := by
  unfold State.redsLose
  with_reducible repeat' (first
    | assumption | exact Keeps.refl | exact fun _ h => h | apply Keeps.decideRed | apply Keeps.setRed | intro _ _ _ | intro _ _
    | apply Keeps.foldl | apply Keeps.foldlFst | apply Keeps.foldlSnd | apply Keeps.ite | split | dsimp only | apply Keeps.update)

theorem Keeps.normEnd {c} (hk : Keeps s0 s) : Keeps s0 (State.normEnd s c) := by
  unfold State.normEnd
  with_reducible repeat' (first
    | assumption | exact Keeps.refl | exact fun _ h => h | apply Keeps.modWvl | apply Keeps.updServed | apply Keeps.orphan
    | apply Keeps.sendPart | intro _ _ _ | intro _ _ | apply Keeps.foldl | apply Keeps.foldlFst | apply Keeps.foldlSnd
    | apply Keeps.ite | split | refine Keeps.updWaits ‹_› ?_ | dsimp only | apply Keeps.update)

theorem Keeps.execNormPassEnd {c} : ∃ s', execNormPassEnd c s = .next s' ∧ Keeps s s' := by
  unfold Machine.execNormPassEnd
  refine ⟨_, rfl, ?_⟩
  with_reducible repeat' (first | assumption | exact Keeps.refl | apply Keeps.normEnd | split | dsimp only)

theorem Keeps.takeVerdict {p u v} (hk : Keeps s0 s) : Keeps s0 (State.takeVerdict s p u v) := by
  unfold State.takeVerdict
  with_reducible repeat' (first
    | assumption | exact Keeps.refl | apply Keeps.decideJob | apply Keeps.modCmd | apply Keeps.modWvl | apply Keeps.took
    | apply Keeps.updEnds | apply Keeps.postPart | intro _ _ _ | intro _ _ | apply Keeps.ite | split | dsimp only
    | apply Keeps.update)

theorem Keeps.verdict {p cause sum bad} (hk : Keeps s0 s) : Keeps s0 (State.verdict s p cause sum bad) := by
  unfold State.verdict
  with_reducible repeat' (first
    | assumption | exact Keeps.refl | apply Keeps.takeVerdict | apply Keeps.ite | split | dsimp only | apply Keeps.update)

theorem Keeps.execVerdict {p cause sum bad} : ∃ s', execVerdict p cause sum bad s = .next s' ∧ Keeps s s' := by
  unfold Machine.execVerdict
  refine ⟨_, rfl, ?_⟩
  with_reducible repeat' (first | assumption | exact Keeps.refl | apply Keeps.verdict | split | dsimp only)

theorem Keeps.execDecisionPointUnreachable {p} : ∃ s', execDecisionPointUnreachable p s = .next s' ∧ Keeps s s' := by
  unfold Machine.execDecisionPointUnreachable
  refine ⟨_, rfl, ?_⟩
  with_reducible repeat' (first
    | assumption | exact Keeps.refl | apply Keeps.orphan | apply Keeps.ite | split | dsimp only | apply Keeps.update)

theorem Keeps.trustEnd {c} (hk : Keeps s0 s) : Keeps s0 (State.trustEnd s c) := by
  unfold State.trustEnd
  with_reducible repeat' (first
    | assumption | exact Keeps.refl | exact fun _ h => h | exact fun _ h => ⟨Nat.le_refl _, h⟩ | exact ⟨Nat.le_refl _, ‹_›⟩
    | apply Keeps.updServed | apply Keeps.modWvl | apply Keeps.took | intro _ _ _ | intro _ _ | apply writeBytes_wf
    | apply clearBytes_wf | apply storeAll_wf | apply swapBytes_wf | apply Keeps.foldl | apply Keeps.foldlFst
    | apply Keeps.foldlSnd | apply Keeps.ite | split | refine Keeps.updWaits ‹_› ?_ | dsimp only | apply Keeps.update)

theorem Keeps.execTrustPassEnd {c} : ∃ s', execTrustPassEnd c s = .next s' ∧ Keeps s s' := by
  unfold Machine.execTrustPassEnd
  refine ⟨_, rfl, ?_⟩
  with_reducible repeat' (first | assumption | exact Keeps.refl | apply Keeps.trustEnd | split | dsimp only)

theorem Keeps.countElems {k n} (hk : Keeps s0 s) : Keeps s0 (State.countElems s k n) := by
  unfold State.countElems
  with_reducible repeat' (first
    | assumption | exact Keeps.refl | apply Keeps.perfWrap | apply Keeps.ite | split | dsimp only | apply Keeps.update)

theorem Keeps.applyAll {p u take} (hk : Keeps s0 s) : Keeps s0 (State.applyAll s p u take) := by
  unfold State.applyAll
  with_reducible repeat' (first
    | assumption | exact Keeps.refl | exact fun _ h => h | apply Keeps.countElems | apply Keeps.energy | apply Keeps.storeAll
    | apply Keeps.modWvl | intro _ _ _ | intro _ _ | apply storeAll_wf | apply Keeps.foldl | apply Keeps.foldlFst
    | apply Keeps.foldlSnd | split | dsimp only | apply Keeps.update)

theorem Keeps.applyEnd {c} (hk : Keeps s0 s) : Keeps s0 (State.applyEnd s c) := by
  unfold State.applyEnd
  with_reducible repeat' (first
    | assumption | exact Keeps.refl | apply Keeps.updServed | apply Keeps.applyAll | apply Keeps.updEnds | intro _ _ _ | intro _ _
    | split | refine Keeps.updWaits ‹_› ?_ | dsimp only | apply Keeps.update)

theorem Keeps.execApplyPassEnd {c} : ∃ s', execApplyPassEnd c s = .next s' ∧ Keeps s s' := by
  unfold Machine.execApplyPassEnd
  refine ⟨_, rfl, ?_⟩
  with_reducible repeat' (first | assumption | exact Keeps.refl | apply Keeps.applyEnd | split | dsimp only)

theorem Keeps.stopUpdate {p st d} (hk : Keeps s0 s) : Keeps s0 (State.stopUpdate s p st d) := by
  unfold State.stopUpdate
  with_reducible repeat' (first
    | assumption | exact Keeps.refl | exact fun _ h => h | exact fun _ h => ⟨Nat.le_refl _, h⟩ | exact ⟨Nat.le_refl _, ‹_›⟩
    | apply Keeps.modWvl | apply Keeps.postPart | apply Keeps.decideJob | apply Keeps.sendPart | apply Keeps.updEnds
    | apply Keeps.modCmd | apply Keeps.applyAll | apply Keeps.more | intro _ _ _ | intro _ _ | apply writeBytes_wf
    | apply clearBytes_wf | apply storeAll_wf | apply swapBytes_wf | apply Keeps.foldl | apply Keeps.foldlFst
    | apply Keeps.foldlSnd | apply Keeps.ite | split | dsimp only | apply Keeps.update)

/-! ### Machine/Exchange.lean -/

theorem Keeps.modGx {p f} (hk : Keeps s0 s) : Keeps s0 (State.modGx s p f) := by
  unfold State.modGx
  with_reducible repeat' (first
    | assumption | exact Keeps.refl | exact fun _ h => h | apply Keeps.modPrt | intro _ _ _ | intro _ _ | split | dsimp only
    | apply Keeps.update)

theorem Keeps.setRun {p r} (hk : Keeps s0 s) : Keeps s0 (State.setRun s p r) := by
  unfold State.setRun
  with_reducible repeat' (first
    | assumption | exact Keeps.refl | apply Keeps.modGx | intro _ _ _ | intro _ _ | apply Keeps.ite | split | dsimp only
    | apply Keeps.update)

theorem Keeps.fabEnd {p o st d} (hk : Keeps s0 s) : Keeps s0 (State.fabEnd s p o st d) := by
  unfold State.fabEnd
  with_reducible repeat' (first | assumption | exact Keeps.refl | apply Keeps.opEnd | apply Keeps.dropRun | split | dsimp only)

theorem Keeps.withTiles {p o ts tag} {f : State → State} (hk : Keeps s0 s) (hf : ∀ s, Keeps s0 s → Keeps s0 (f s)) : Keeps s0 (State.withTiles s p o ts tag f) := by
  unfold State.withTiles
  with_reducible repeat' (first
    | assumption | exact Keeps.refl | exact fun _ h => h | exact fun _ h => ⟨Nat.le_refl _, h⟩ | exact ⟨Nat.le_refl _, ‹_›⟩
    | apply hf | apply Keeps.fabEnd | apply Keeps.noteBlocked | apply Keeps.noteServed | intro _ _ _ | intro _ _
    | apply writeBytes_wf | apply clearBytes_wf | apply storeAll_wf | apply swapBytes_wf | apply Keeps.foldl | apply Keeps.foldlFst
    | apply Keeps.foldlSnd | apply Keeps.ite | split | dsimp only | apply Keeps.update)

theorem Keeps.fabBegin {p o op k g coll spans kind} (hk : Keeps s0 s) : Keeps s0 (State.fabBegin s p o op k g coll spans kind) := by
  unfold State.fabBegin
  with_reducible repeat' (first
    | assumption | exact Keeps.refl | exact fun _ h => h | apply Keeps.opBegin | apply Keeps.modGx | intro _ _ _ | intro _ _
    | apply Keeps.ite | split | dsimp only | apply Keeps.update)

theorem Keeps.gx {o} (hk : Keeps s0 s) : Keeps s0 (State.gx s o) := by
  unfold State.gx
  with_reducible repeat' (first
    | assumption | exact Keeps.refl | apply Keeps.opInstant | apply Keeps.fabBegin | apply Keeps.ite | split | dsimp only
    | apply Keeps.update)

theorem Keeps.execGx {o} : ∃ s', execGx o s = .next s' ∧ Keeps s s' := by
  unfold Machine.execGx
  refine ⟨_, rfl, ?_⟩
  with_reducible repeat' (first | assumption | exact Keeps.refl | apply Keeps.gx | split | dsimp only)

theorem Keeps.putResidual {p f e b r tag} (hk : Keeps s0 s) : Keeps s0 (State.putResidual s p f e b r tag) := by
  unfold State.putResidual
  with_reducible repeat' (first
    | assumption | exact Keeps.refl | apply Keeps.store | apply Keeps.modGx | intro _ _ _ | intro _ _ | split | dsimp only
    | apply Keeps.update)

theorem Keeps.straggler {p f e low} (hk : Keeps s0 s) : Keeps s0 (State.straggler s p f e low) := by
  unfold State.straggler
  with_reducible repeat' (first
    | assumption | exact Keeps.refl | apply Keeps.modGx | apply Keeps.perfWrap | apply Keeps.postPart | intro _ _ _ | intro _ _
    | apply Keeps.ite | split | dsimp only | apply Keeps.update)

theorem Keeps.gxDone {p r g f bs} (hk : Keeps s0 s) : Keeps s0 (State.gxDone s p r g f bs) := by
  unfold State.gxDone
  with_reducible repeat' (first
    | assumption | exact Keeps.refl | exact fun _ h => h | apply Keeps.fabEnd | intro _ _ _ | intro _ _ | apply Keeps.foldl
    | apply Keeps.foldlFst | apply Keeps.foldlSnd | apply Keeps.ite | split | dsimp only)

theorem Keeps.setBucket {p r f bs b x} (hk : Keeps s0 s) : Keeps s0 (State.setBucket s p r f bs b x) := by
  unfold State.setBucket
  with_reducible repeat' (first | assumption | exact Keeps.refl | apply Keeps.setRun | split | dsimp only | apply Keeps.update)

theorem Keeps.landBucket {o b} (hk : Keeps s0 s) : Keeps s0 (State.landBucket s o b) := by
  unfold State.landBucket
  with_reducible repeat' (first
    | assumption | exact Keeps.refl | exact fun _ h => h | apply Keeps.straggler | apply Keeps.setBucket | apply Keeps.gxDone
    | apply Keeps.fabEnd | apply Keeps.modScb | apply Keeps.withTiles | apply Keeps.store | intro _ _ _ | intro _ _
    | apply Keeps.ite | split | dsimp only | apply Keeps.update)

theorem Keeps.ownBucket {o b late} (hk : Keeps s0 s) : Keeps s0 (State.ownBucket s o b late) := by
  unfold State.ownBucket
  with_reducible repeat' (first
    | assumption | exact Keeps.refl | exact fun _ h => h | apply Keeps.fabEnd | apply Keeps.withTiles | apply Keeps.loaded
    | apply Keeps.putResidual | apply Keeps.fabSendUnit | apply Keeps.landBucket | apply Keeps.setBucket | intro _ _ _ | intro _ _
    | apply Keeps.ite | split | dsimp only | apply Keeps.update)

theorem Keeps.bucketContribution {o b rank sent} (hk : Keeps s0 s) : Keeps s0 (State.bucketContribution s o b rank sent) := by
  unfold State.bucketContribution
  with_reducible repeat' (first
    | assumption | exact Keeps.refl | exact fun _ h => h | apply Keeps.ownBucket | apply Keeps.fabEnd | apply Keeps.landBucket
    | apply Keeps.setBucket | apply Keeps.ite | split | dsimp only | apply Keeps.update)

theorem Keeps.execBucketContribution {o k rank sent} : ∃ s', execBucketContribution o k rank sent s = .next s' ∧ Keeps s s' := by
  unfold Machine.execBucketContribution
  refine ⟨_, rfl, ?_⟩
  with_reducible repeat' (first | assumption | exact Keeps.refl | apply Keeps.bucketContribution | split | dsimp only)

theorem Keeps.bucketDeadline {o b} (hk : Keeps s0 s) : Keeps s0 (State.bucketDeadline s o b) := by
  unfold State.bucketDeadline
  with_reducible repeat' (first
    | assumption | exact Keeps.refl | exact fun _ h => h | apply Keeps.landBucket | apply Keeps.setBucket | apply Keeps.ite | split
    | dsimp only | apply Keeps.update)

theorem Keeps.execBucketDeadline {o k} : ∃ s', execBucketDeadline o k s = .next s' ∧ Keeps s s' := by
  unfold Machine.execBucketDeadline
  refine ⟨_, rfl, ?_⟩
  with_reducible repeat' (first | assumption | exact Keeps.refl | apply Keeps.bucketDeadline | split | dsimp only)

theorem Keeps.execLateContribution {o k} : ∃ s', execLateContribution o k s = .next s' ∧ Keeps s s' := by
  unfold Machine.execLateContribution
  refine ⟨_, rfl, ?_⟩
  with_reducible repeat' (first
    | assumption | exact Keeps.refl | apply Keeps.ownBucket | apply Keeps.ite | split | dsimp only | apply Keeps.update)

theorem Keeps.gather {o bcast} (hk : Keeps s0 s) : Keeps s0 (State.gather s o bcast) := by
  unfold State.gather
  with_reducible repeat' (first
    | assumption | exact Keeps.refl | exact fun _ h => h | apply Keeps.opInstant | apply Keeps.fabBegin | apply Keeps.ite | split
    | dsimp only | apply Keeps.update)

theorem Keeps.execAllgather {o} : ∃ s', execAllgather o s = .next s' ∧ Keeps s s' := by
  unfold Machine.execAllgather
  refine ⟨_, rfl, ?_⟩
  with_reducible repeat' (first | assumption | exact Keeps.refl | apply Keeps.gather | split | dsimp only)

theorem Keeps.execBcast {o} : ∃ s', execBcast o s = .next s' ∧ Keeps s s' := by
  unfold Machine.execBcast
  refine ⟨_, rfl, ?_⟩
  with_reducible repeat' (first | assumption | exact Keeps.refl | apply Keeps.gather | split | dsimp only)

theorem Keeps.fabDone {o} (hk : Keeps s0 s) : Keeps s0 (State.fabDone s o) := by
  unfold State.fabDone
  with_reducible repeat' (first
    | assumption | exact Keeps.refl | exact fun _ h => h | apply Keeps.fabEnd | apply Keeps.ite | split | dsimp only
    | apply Keeps.update)

theorem Keeps.sendTiles {p o g ranks n tc} (hk : Keeps s0 s) : Keeps s0 (State.sendTiles s p o g ranks n tc) := by
  unfold State.sendTiles
  with_reducible repeat' (first
    | assumption | exact Keeps.refl | apply Keeps.fabSend | intro _ _ _ | intro _ _ | apply Keeps.foldl | apply Keeps.foldlFst
    | apply Keeps.foldlSnd | split | dsimp only)

theorem Keeps.gatherOwn {p r g root src dst n landed} (hk : Keeps s0 s) : Keeps s0 (State.gatherOwn s p r g root src dst n landed) := by
  unfold State.gatherOwn
  with_reducible repeat' (first
    | assumption | exact Keeps.refl | exact fun _ h => h | apply Keeps.fabEnd | apply Keeps.withTiles | apply Keeps.loaded
    | apply Keeps.store | apply Keeps.sendTiles | apply Keeps.fabDone | apply Keeps.setRun | intro _ _ _ | intro _ _
    | apply Keeps.ite | split | dsimp only | apply Keeps.update)

theorem Keeps.staleLanding {p o} (hk : Keeps s0 s) : Keeps s0 (State.staleLanding s p o) := by
  unfold State.staleLanding
  with_reducible repeat' (first
    | assumption | exact Keeps.refl | apply Keeps.fabEnd | apply Keeps.modScb | intro _ _ _ | intro _ _ | split | dsimp only
    | apply Keeps.update)

theorem Keeps.gatherLand {p r root src dst n landed sent rank data} (hk : Keeps s0 s) : Keeps s0 (State.gatherLand s p r root src dst n landed sent rank data) := by
  unfold State.gatherLand
  with_reducible repeat' (first
    | assumption | exact Keeps.refl | apply Keeps.fabEnd | apply Keeps.staleLanding | apply Keeps.withTiles | apply Keeps.fabDone
    | apply Keeps.setRun | apply Keeps.store | intro _ _ _ | intro _ _ | apply Keeps.ite | split | dsimp only | apply Keeps.update)

theorem Keeps.channelOp {o sends} (hk : Keeps s0 s) : Keeps s0 (State.channelOp s o sends) := by
  unfold State.channelOp
  with_reducible repeat' (first
    | assumption | exact Keeps.refl | exact fun _ h => h | apply Keeps.opInstant | apply Keeps.fabBegin | apply Keeps.ite | split
    | dsimp only | apply Keeps.update)

theorem Keeps.execSend {o} : ∃ s', execSend o s = .next s' ∧ Keeps s s' := by
  unfold Machine.execSend
  refine ⟨_, rfl, ?_⟩
  with_reducible repeat' (first | assumption | exact Keeps.refl | apply Keeps.channelOp | split | dsimp only)

theorem Keeps.execRecv {o} : ∃ s', execRecv o s = .next s' ∧ Keeps s s' := by
  unfold Machine.execRecv
  refine ⟨_, rfl, ?_⟩
  with_reducible repeat' (first | assumption | exact Keeps.refl | apply Keeps.channelOp | split | dsimp only)

theorem Keeps.sendNow {p r g chan mb peer tile n tmo} (hk : Keeps s0 s) : Keeps s0 (State.sendNow s p r g chan mb peer tile n tmo) := by
  unfold State.sendNow
  with_reducible repeat' (first
    | assumption | exact Keeps.refl | apply Keeps.withTiles | apply Keeps.loaded | apply Keeps.sendTiles | apply Keeps.fabEnd
    | apply Keeps.setRun | intro _ _ _ | intro _ _ | apply Keeps.ite | split | dsimp only | apply Keeps.update)

theorem Keeps.landInPair {p o b n data tag} (hk : Keeps s0 s) : Keeps s0 (State.landInPair s p o b n data tag) := by
  unfold State.landInPair
  with_reducible repeat' (first
    | assumption | exact Keeps.refl | apply Keeps.fabEnd | apply Keeps.withTiles | apply Keeps.swapPair | apply Keeps.store
    | intro _ _ _ | intro _ _ | apply Keeps.ite | split | dsimp only | apply Keeps.update)

theorem Keeps.recvLand {p r n tile pair e data} (hk : Keeps s0 s) : Keeps s0 (State.recvLand s p r n tile pair e data) := by
  unfold State.recvLand
  with_reducible repeat' (first
    | assumption | exact Keeps.refl | apply Keeps.fabEnd | apply Keeps.staleLanding | apply Keeps.landInPair
    | apply Keeps.withTiles | apply Keeps.store | intro _ _ _ | intro _ _ | apply Keeps.ite | split | dsimp only
    | apply Keeps.update)

theorem Keeps.fabricLanding {o rank tag data} (hk : Keeps s0 s) : Keeps s0 (State.fabricLanding s o rank tag data) := by
  unfold State.fabricLanding
  with_reducible repeat' (first
    | assumption | exact Keeps.refl | exact fun _ h => h | apply Keeps.exitRetention | apply Keeps.landBucket
    | apply Keeps.gatherOwn | apply Keeps.gatherLand | apply Keeps.fabEnd | apply Keeps.sendNow | apply Keeps.recvLand
    | apply Keeps.ite | split | dsimp only | apply Keeps.update)

theorem Keeps.execFabricLanding {o rank tag data} : ∃ s', execFabricLanding o rank tag data s = .next s' ∧ Keeps s s' := by
  unfold Machine.execFabricLanding
  refine ⟨_, rfl, ?_⟩
  with_reducible repeat' (first | assumption | exact Keeps.refl | apply Keeps.fabricLanding | split | dsimp only)

theorem Keeps.execSendRecvTimeout {o} : ∃ s', execSendRecvTimeout o s = .next s' ∧ Keeps s s' := by
  unfold Machine.execSendRecvTimeout
  refine ⟨_, rfl, ?_⟩
  with_reducible repeat' (first
    | assumption | exact Keeps.refl | apply Keeps.fabEnd | apply Keeps.ite | split | dsimp only | apply Keeps.update)

theorem Keeps.peerLost {o rank reason} (hk : Keeps s0 s) : Keeps s0 (State.peerLost s o rank reason) := by
  unfold State.peerLost
  with_reducible repeat' (first
    | assumption | exact Keeps.refl | apply Keeps.fabEnd | apply Keeps.ite | split | dsimp only | apply Keeps.update)

theorem Keeps.execCollectivePeerUnreachable {o rank reason} : ∃ s', execCollectivePeerUnreachable o rank reason s = .next s' ∧ Keeps s s' := by
  unfold Machine.execCollectivePeerUnreachable
  refine ⟨_, rfl, ?_⟩
  with_reducible repeat' (first
    | assumption | exact Keeps.refl | apply Keeps.peerLost | apply Keeps.ite | split | dsimp only | apply Keeps.update)

/-! ### Machine/Security.lean -/

theorem Keeps.modSec {f} (hk : Keeps s0 s) : Keeps s0 (State.modSec s f) := by
  unfold State.modSec
  with_reducible repeat' (first | assumption | exact Keeps.refl | split | dsimp only | apply Keeps.update)

theorem Keeps.execSecFslotsWrite {p v} : ∃ s', execSecFslotsWrite p v s = .next s' ∧ Keeps s s' := by
  unfold Machine.execSecFslotsWrite
  refine ⟨_, rfl, ?_⟩
  with_reducible repeat' (first
    | assumption | exact Keeps.refl | apply Keeps.modSec | intro _ _ _ | intro _ _ | apply Keeps.ite | split | dsimp only
    | apply Keeps.update)

theorem Keeps.newKey {k} (hk : Keeps s0 s) : Keeps s0 (State.newKey s k) := by
  unfold State.newKey
  with_reducible repeat' (first
    | assumption | exact Keeps.refl | apply Keeps.modSec | apply Keeps.took | intro _ _ _ | intro _ _ | split | dsimp only
    | apply Keeps.update)

theorem Keeps.retireKey {p} (hk : Keeps s0 s) : Keeps s0 (State.retireKey s p) := by
  unfold State.retireKey
  with_reducible repeat' (first
    | assumption | exact Keeps.refl | apply Keeps.postOper | apply Keeps.modSec | intro _ _ _ | intro _ _ | split | dsimp only
    | apply Keeps.update)

theorem Keeps.execEntropyFault {startup} : ∃ s', execEntropyFault startup s = .next s' ∧ Keeps s s' := by
  unfold Machine.execEntropyFault
  refine ⟨_, rfl, ?_⟩
  with_reducible repeat' (first
    | assumption | exact Keeps.refl | apply Keeps.postDev | apply Keeps.modSec | intro _ _ _ | intro _ _ | apply Keeps.ite | split
    | dsimp only | apply Keeps.update)

theorem Keeps.execTntMeasGo {p v} : ∃ s', execTntMeasGo p v s = .next s' ∧ Keeps s s' := by
  unfold Machine.execTntMeasGo
  refine ⟨_, rfl, ?_⟩
  with_reducible repeat' (first
    | assumption | exact Keeps.refl | exact fun _ h => h | apply Keeps.modPrt | intro _ _ _ | intro _ _ | apply Keeps.ite | split
    | dsimp only | apply Keeps.update)

theorem Keeps.spdmSay {r code fields} (hk : Keeps s0 s) : Keeps s0 (State.spdmSay s r code fields) := by
  unfold State.spdmSay
  with_reducible repeat' (first | assumption | exact Keeps.refl | apply Keeps.emit | split | dsimp only)

theorem Keeps.spdmError {r e} (hk : Keeps s0 s) : Keeps s0 (State.spdmError s r e) := by
  unfold State.spdmError
  with_reducible repeat' (first | assumption | exact Keeps.refl | apply Keeps.spdmSay | split | dsimp only)

theorem Keeps.setConn {r c} (hk : Keeps s0 s) : Keeps s0 (State.setConn s r c) := by
  unfold State.setConn
  with_reducible repeat' (first
    | assumption | exact Keeps.refl | apply Keeps.modSec | intro _ _ _ | intro _ _ | split | dsimp only | apply Keeps.update)

theorem Keeps.execSpdmGetVersion {r} : ∃ s', execSpdmGetVersion r s = .next s' ∧ Keeps s s' := by
  unfold Machine.execSpdmGetVersion
  refine ⟨_, rfl, ?_⟩
  with_reducible repeat' (first
    | assumption | exact Keeps.refl | apply Keeps.spdmSay | apply Keeps.setConn | apply Keeps.ite | split | dsimp only)

theorem Keeps.negotiate {r from_ goal code fields} (hk : Keeps s0 s) : Keeps s0 (State.negotiate s r from_ goal code fields) := by
  unfold State.negotiate
  with_reducible repeat' (first
    | assumption | exact Keeps.refl | apply Keeps.spdmSay | apply Keeps.setConn | apply Keeps.spdmError | apply Keeps.ite | split
    | dsimp only)

theorem Keeps.execSpdmGetCapabilities {r} : ∃ s', execSpdmGetCapabilities r s = .next s' ∧ Keeps s s' := by
  unfold Machine.execSpdmGetCapabilities
  refine ⟨_, rfl, ?_⟩
  with_reducible repeat' (first | assumption | exact Keeps.refl | apply Keeps.negotiate | split | dsimp only)

theorem Keeps.execSpdmNegotiateAlgorithms {r} : ∃ s', execSpdmNegotiateAlgorithms r s = .next s' ∧ Keeps s s' := by
  unfold Machine.execSpdmNegotiateAlgorithms
  refine ⟨_, rfl, ?_⟩
  with_reducible repeat' (first | assumption | exact Keeps.refl | apply Keeps.negotiate | split | dsimp only)

theorem Keeps.spdm {r} {f : State → State} (hk : Keeps s0 s) (hf : ∀ s, Keeps s0 s → Keeps s0 (f s)) : Keeps s0 (State.spdm s r f) := by
  unfold State.spdm
  with_reducible repeat' (first
    | assumption | exact Keeps.refl | exact fun _ h => h | exact fun _ h => ⟨Nat.le_refl _, h⟩ | exact ⟨Nat.le_refl _, ‹_›⟩
    | apply hf | apply Keeps.spdmError | intro _ _ _ | intro _ _ | apply writeBytes_wf | apply clearBytes_wf | apply storeAll_wf
    | apply swapBytes_wf | apply Keeps.foldl | apply Keeps.foldlFst | apply Keeps.foldlSnd | apply Keeps.ite | split | dsimp only
    | apply Keeps.update)

theorem Keeps.execSpdmGetDigests {r} : ∃ s', execSpdmGetDigests r s = .next s' ∧ Keeps s s' := by
  unfold Machine.execSpdmGetDigests
  refine ⟨_, rfl, ?_⟩
  with_reducible repeat' (first
    | assumption | exact Keeps.refl | apply Keeps.spdm | apply Keeps.spdmSay | intro _ _ _ | intro _ _ | split | dsimp only)

theorem Keeps.execSpdmGetCertificate {r slot off len} : ∃ s', execSpdmGetCertificate r slot off len s = .next s' ∧ Keeps s s' := by
  unfold Machine.execSpdmGetCertificate
  refine ⟨_, rfl, ?_⟩
  with_reducible repeat' (first
    | assumption | exact Keeps.refl | apply Keeps.spdm | apply Keeps.spdmError | apply Keeps.spdmSay | intro _ _ _ | intro _ _
    | apply Keeps.ite | split | dsimp only)

theorem Keeps.spdmSigned {r code fields} (hk : Keeps s0 s) : Keeps s0 (State.spdmSigned s r code fields) := by
  unfold State.spdmSigned
  with_reducible repeat' (first
    | assumption | exact Keeps.refl | apply Keeps.spdmError | apply Keeps.took | apply Keeps.spdmSay | apply Keeps.ite | split
    | dsimp only)

theorem Keeps.execSpdmChallenge {r slot} : ∃ s', execSpdmChallenge r slot s = .next s' ∧ Keeps s s' := by
  unfold Machine.execSpdmChallenge
  refine ⟨_, rfl, ?_⟩
  with_reducible repeat' (first
    | assumption | exact Keeps.refl | apply Keeps.spdm | apply Keeps.spdmError | apply Keeps.spdmSigned | intro _ _ _ | intro _ _
    | apply Keeps.ite | split | dsimp only)

theorem Keeps.execSpdmGetMeasurements {r index signed} : ∃ s', execSpdmGetMeasurements r index signed s = .next s' ∧ Keeps s s' := by
  unfold Machine.execSpdmGetMeasurements
  refine ⟨_, rfl, ?_⟩
  with_reducible repeat' (first
    | assumption | exact Keeps.refl | apply Keeps.spdm | apply Keeps.spdmError | apply Keeps.spdmSigned | apply Keeps.spdmSay
    | intro _ _ _ | intro _ _ | apply Keeps.ite | split | dsimp only)

theorem Keeps.postSession {started cause id} (hk : Keeps s0 s) : Keeps s0 (State.postSession s started cause id) := by
  unfold State.postSession
  with_reducible repeat' (first | assumption | exact Keeps.refl | apply Keeps.post | split | dsimp only)

theorem Keeps.endSession {cause} (hk : Keeps s0 s) : Keeps s0 (State.endSession s cause) := by
  unfold State.endSession
  with_reducible repeat' (first
    | assumption | exact Keeps.refl | apply Keeps.postSession | apply Keeps.modSec | intro _ _ _ | intro _ _ | split | dsimp only
    | apply Keeps.update)

theorem Keeps.sessionReq {r} {f : SpdmSession → State → State} (hk : Keeps s0 s) (hf : ∀ x s, Keeps s0 s → Keeps s0 (f x s)) : Keeps s0 (State.sessionReq s r f) := by
  unfold State.sessionReq
  with_reducible repeat' (first
    | assumption | exact Keeps.refl | exact fun _ h => h | exact fun _ h => ⟨Nat.le_refl _, h⟩ | exact ⟨Nat.le_refl _, ‹_›⟩
    | apply hf | apply Keeps.spdm | apply Keeps.spdmError | intro _ _ _ | intro _ _ | apply writeBytes_wf | apply clearBytes_wf
    | apply storeAll_wf | apply swapBytes_wf | apply Keeps.foldl | apply Keeps.foldlFst | apply Keeps.foldlSnd | apply Keeps.ite
    | split | dsimp only | apply Keeps.update)

theorem Keeps.modSession {f} (hk : Keeps s0 s) : Keeps s0 (State.modSession s f) := by
  unfold State.modSession
  with_reducible repeat' (first
    | assumption | exact Keeps.refl | apply Keeps.modSec | intro _ _ _ | intro _ _ | split | dsimp only | apply Keeps.update)

theorem Keeps.execSpdmKeyExchange {r} : ∃ s', execSpdmKeyExchange r s = .next s' ∧ Keeps s s' := by
  unfold Machine.execSpdmKeyExchange
  refine ⟨_, rfl, ?_⟩
  with_reducible repeat' (first
    | assumption | exact Keeps.refl | apply Keeps.spdm | apply Keeps.spdmError | apply Keeps.endSession | apply Keeps.spdmSigned
    | apply Keeps.postSession | apply Keeps.modSec | apply Keeps.took | intro _ _ _ | intro _ _ | apply Keeps.ite | split
    | dsimp only | apply Keeps.update)

theorem Keeps.execSpdmFinish {r} : ∃ s', execSpdmFinish r s = .next s' ∧ Keeps s s' := by
  unfold Machine.execSpdmFinish
  refine ⟨_, rfl, ?_⟩
  with_reducible repeat' (first
    | assumption | exact Keeps.refl | apply Keeps.sessionReq | apply Keeps.spdmError | apply Keeps.spdmSay | apply Keeps.modSession
    | intro _ _ _ | intro _ _ | apply Keeps.ite | split | dsimp only | apply Keeps.update)

theorem Keeps.insideSession {r} {f : State → State} (hk : Keeps s0 s) (hf : ∀ s, Keeps s0 s → Keeps s0 (f s)) : Keeps s0 (State.insideSession s r f) := by
  unfold State.insideSession
  with_reducible repeat' (first
    | assumption | exact Keeps.refl | exact fun _ h => h | exact fun _ h => ⟨Nat.le_refl _, h⟩ | exact ⟨Nat.le_refl _, ‹_›⟩
    | apply hf | apply Keeps.sessionReq | apply Keeps.spdmError | intro _ _ _ | intro _ _ | apply writeBytes_wf
    | apply clearBytes_wf | apply storeAll_wf | apply swapBytes_wf | apply Keeps.foldl | apply Keeps.foldlFst
    | apply Keeps.foldlSnd | apply Keeps.ite | split | dsimp only | apply Keeps.update)

theorem Keeps.execSpdmHeartbeat {r} : ∃ s', execSpdmHeartbeat r s = .next s' ∧ Keeps s s' := by
  unfold Machine.execSpdmHeartbeat
  refine ⟨_, rfl, ?_⟩
  with_reducible repeat' (first
    | assumption | exact Keeps.refl | apply Keeps.insideSession | apply Keeps.spdmSay | intro _ _ _ | intro _ _ | split
    | dsimp only)

theorem Keeps.execSpdmKeyUpdate {r} : ∃ s', execSpdmKeyUpdate r s = .next s' ∧ Keeps s s' := by
  unfold Machine.execSpdmKeyUpdate
  refine ⟨_, rfl, ?_⟩
  with_reducible repeat' (first
    | assumption | exact Keeps.refl | apply Keeps.insideSession | apply Keeps.spdmSay | apply Keeps.modSession | intro _ _ _
    | intro _ _ | split | dsimp only | apply Keeps.update)

theorem Keeps.execSpdmEndSession {r} : ∃ s', execSpdmEndSession r s = .next s' ∧ Keeps s s' := by
  unfold Machine.execSpdmEndSession
  refine ⟨_, rfl, ?_⟩
  with_reducible repeat' (first
    | assumption | exact Keeps.refl | apply Keeps.insideSession | apply Keeps.endSession | apply Keeps.spdmSay | intro _ _ _
    | intro _ _ | split | dsimp only)

theorem Keeps.execSpdmVendorDefinedRequest {r secure} : ∃ s', execSpdmVendorDefinedRequest r secure s = .next s' ∧ Keeps s s' := by
  unfold Machine.execSpdmVendorDefinedRequest
  refine ⟨_, rfl, ?_⟩
  with_reducible repeat' (first
    | assumption | exact Keeps.refl | apply Keeps.insideSession | apply Keeps.spdmSay | apply Keeps.modSec | apply Keeps.spdmError
    | intro _ _ _ | intro _ _ | apply Keeps.ite | split | dsimp only | apply Keeps.update)

theorem Keeps.execJtagBypass : ∃ s', execJtagBypass s = .next s' ∧ Keeps s s' := by
  unfold Machine.execJtagBypass
  refine ⟨_, rfl, ?_⟩
  with_reducible repeat' (first
    | assumption | exact Keeps.refl | apply Keeps.modSec | intro _ _ _ | intro _ _ | split | dsimp only | apply Keeps.update)

theorem Keeps.execJtagIdcode : ∃ s', execJtagIdcode s = .next s' ∧ Keeps s s' := by
  unfold Machine.execJtagIdcode
  refine ⟨_, rfl, ?_⟩
  with_reducible repeat' (first
    | assumption | exact Keeps.refl | apply Keeps.emit | apply Keeps.modSec | apply Keeps.took | intro _ _ _ | intro _ _ | split
    | dsimp only | apply Keeps.update)

theorem Keeps.execJtagSamplePreload : ∃ s', execJtagSamplePreload s = .next s' ∧ Keeps s s' := by
  unfold Machine.execJtagSamplePreload
  refine ⟨_, rfl, ?_⟩
  with_reducible repeat' (first
    | assumption | exact Keeps.refl | apply Keeps.modSec | intro _ _ _ | intro _ _ | split | dsimp only | apply Keeps.update)

theorem Keeps.jtagDrive {j code} (hk : Keeps s0 s) : Keeps s0 (State.jtagDrive s j code) := by
  unfold State.jtagDrive
  with_reducible repeat' (first
    | assumption | exact Keeps.refl | apply Keeps.postDev | apply Keeps.modSec | intro _ _ _ | intro _ _ | apply Keeps.ite | split
    | dsimp only | apply Keeps.update)

theorem Keeps.execJtagExtest {code} : ∃ s', execJtagExtest code s = .next s' ∧ Keeps s s' := by
  unfold Machine.execJtagExtest
  refine ⟨_, rfl, ?_⟩
  with_reducible repeat' (first | assumption | exact Keeps.refl | apply Keeps.jtagDrive | split | dsimp only)

theorem Keeps.execJtagClamp {code} : ∃ s', execJtagClamp code s = .next s' ∧ Keeps s s' := by
  unfold Machine.execJtagClamp
  refine ⟨_, rfl, ?_⟩
  with_reducible repeat' (first | assumption | exact Keeps.refl | apply Keeps.jtagDrive | split | dsimp only)

theorem Keeps.execJtagHighz {code} : ∃ s', execJtagHighz code s = .next s' ∧ Keeps s s' := by
  unfold Machine.execJtagHighz
  refine ⟨_, rfl, ?_⟩
  with_reducible repeat' (first | assumption | exact Keeps.refl | apply Keeps.jtagDrive | split | dsimp only)

/-! ### Machine/Meters.lean -/

theorem Keeps.modMtr {p f} (hk : Keeps s0 s) : Keeps s0 (State.modMtr s p f) := by
  unfold State.modMtr
  with_reducible repeat' (first
    | assumption | exact Keeps.refl | exact fun _ h => h | apply Keeps.modPrt | intro _ _ _ | intro _ _ | split | dsimp only
    | apply Keeps.update)

theorem Keeps.saturate {p k} (hk : Keeps s0 s) : Keeps s0 (State.saturate s p k) := by
  unfold State.saturate
  with_reducible repeat' (first
    | assumption | exact Keeps.refl | apply Keeps.modMtr | apply Keeps.postPart | apply Keeps.postOper | intro _ _ _ | intro _ _
    | apply Keeps.ite | split | dsimp only | apply Keeps.update)

theorem Keeps.saturateAll {p} (hk : Keeps s0 s) : Keeps s0 (State.saturateAll s p) := by
  unfold State.saturateAll
  with_reducible repeat' (first
    | assumption | exact Keeps.refl | apply Keeps.saturate | intro _ _ _ | intro _ _ | apply Keeps.foldl | apply Keeps.foldlFst
    | apply Keeps.foldlSnd | split | dsimp only)

theorem Keeps.meterMs {x total p} (hk : Keeps s0 s) : Keeps s0 (State.meterMs s x total p) := by
  unfold State.meterMs
  with_reducible repeat' (first
    | assumption | exact Keeps.refl | exact fun _ h => h | apply Keeps.saturateAll | apply Keeps.modMtr | intro _ _ _ | intro _ _
    | apply Keeps.ite | split | dsimp only)

theorem Keeps.metersMs {x} (hk : Keeps s0 s) : Keeps s0 (State.metersMs s x) := by
  unfold State.metersMs
  with_reducible repeat' (first
    | assumption | exact Keeps.refl | apply Keeps.meterMs | apply Keeps.modMtr | intro _ _ _ | intro _ _ | apply Keeps.foldl
    | apply Keeps.foldlFst | apply Keeps.foldlSnd | split | dsimp only | apply Keeps.update)

theorem Keeps.coreTime {ns p} (hk : Keeps s0 s) : Keeps s0 (State.coreTime s ns p) := by
  unfold State.coreTime
  with_reducible repeat' (first
    | assumption | exact Keeps.refl | apply Keeps.energy | apply Keeps.accrue | intro _ _ _ | intro _ _ | split | dsimp only)

theorem Keeps.formRecord {p tEnd final} (hk : Keeps s0 s) : Keeps s0 (State.formRecord s p tEnd final) := by
  unfold State.formRecord
  with_reducible repeat' (first
    | assumption | exact Keeps.refl | apply Keeps.saturateAll | apply Keeps.modMtr | intro _ _ _ | intro _ _ | apply Keeps.ite
    | split | dsimp only | apply Keeps.update)

theorem Keeps.intervalBoundary {p} (hk : Keeps s0 s) : Keeps s0 (State.intervalBoundary s p) := by
  unfold State.intervalBoundary
  with_reducible repeat' (first
    | assumption | exact Keeps.refl | apply Keeps.formRecord | intro _ _ _ | intro _ _ | apply Keeps.foldl | apply Keeps.foldlFst
    | apply Keeps.foldlSnd | split | dsimp only | apply Keeps.update)

theorem Keeps.execMeterIntervalBoundary {p} : ∃ s', execMeterIntervalBoundary p s = .next s' ∧ Keeps s s' := by
  unfold Machine.execMeterIntervalBoundary
  refine ⟨_, rfl, ?_⟩
  with_reducible repeat' (first | assumption | exact Keeps.refl | apply Keeps.intervalBoundary | split | dsimp only)

theorem Keeps.recordOut {p seq b} (hk : Keeps s0 s) : Keeps s0 (State.recordOut s p seq b) := by
  unfold State.recordOut
  with_reducible repeat' (first
    | assumption | exact Keeps.refl | apply Keeps.writeEntry | apply Keeps.modMtrHold | apply Keeps.postDev | apply Keeps.ite
    | split | dsimp only | apply Keeps.update)

theorem Keeps.recordSigned (hk : Keeps s0 s) : Keeps s0 (State.recordSigned s) := by
  unfold State.recordSigned
  with_reducible repeat' (first
    | assumption | exact Keeps.refl | apply Keeps.took | apply Keeps.recordOut | apply Keeps.tenantRecord | apply Keeps.ite | split
    | dsimp only | apply Keeps.update)

theorem Keeps.execMeterRecordSigned : ∃ s', execMeterRecordSigned s = .next s' ∧ Keeps s s' := by
  unfold Machine.execMeterRecordSigned
  refine ⟨_, rfl, ?_⟩
  with_reducible repeat' (first | assumption | exact Keeps.refl | apply Keeps.recordSigned | split | dsimp only)

theorem Keeps.execMtrIvlWrite {p v} : ∃ s', execMtrIvlWrite p v s = .next s' ∧ Keeps s s' := by
  unfold Machine.execMtrIvlWrite
  refine ⟨_, rfl, ?_⟩
  with_reducible repeat' (first
    | assumption | exact Keeps.refl | apply Keeps.modMtr | apply Keeps.intervalBoundary | intro _ _ _ | intro _ _ | apply Keeps.ite
    | split | dsimp only | apply Keeps.update)

theorem Keeps.meterLatch {fn p} (hk : Keeps s0 s) : Keeps s0 (State.meterLatch s fn p) := by
  unfold State.meterLatch
  with_reducible repeat' (first
    | assumption | exact Keeps.refl | apply Keeps.emit | apply Keeps.modMtr | intro _ _ _ | intro _ _ | apply Keeps.ite | split
    | dsimp only | apply Keeps.update)

theorem Keeps.execMeterLatchRead {fn p} : ∃ s', execMeterLatchRead fn p s = .next s' ∧ Keeps s s' := by
  unfold Machine.execMeterLatchRead
  refine ⟨_, rfl, ?_⟩
  with_reducible repeat' (first | assumption | exact Keeps.refl | apply Keeps.meterLatch | split | dsimp only)

/-! ### Machine/Steward.lean -/

theorem Keeps.stepDown {p x} (hk : Keeps s0 s) : Keeps s0 (State.stepDown s p x) := by
  unfold State.stepDown
  with_reducible repeat' (first
    | assumption | exact Keeps.refl | apply Keeps.countDemotion | apply Keeps.modInst | intro _ _ _ | intro _ _ | split
    | dsimp only | apply Keeps.update)

theorem Keeps.addTask {p k} (hk : Keeps s0 s) : Keeps s0 (State.addTask s p k) := by
  unfold State.addTask
  with_reducible repeat' (first
    | assumption | exact Keeps.refl | apply Keeps.modScb | intro _ _ _ | intro _ _ | split | dsimp only | apply Keeps.update)

theorem Keeps.disposeIn {p x d due} (hk : Keeps s0 s) : Keeps s0 (State.disposeIn s p x d due) := by
  unfold State.disposeIn
  with_reducible repeat' (first
    | assumption | exact Keeps.refl | apply Keeps.addTask | intro _ _ _ | intro _ _ | apply Keeps.foldl | apply Keeps.foldlFst
    | apply Keeps.foldlSnd | apply Keeps.ite | split | dsimp only | apply Keeps.update)

theorem Keeps.demote {p x d} (hk : Keeps s0 s) : Keeps s0 (State.demote s p x d) := by
  unfold State.demote
  with_reducible repeat' (first | assumption | exact Keeps.refl | apply Keeps.disposeIn | apply Keeps.stepDown | split | dsimp only)

theorem Keeps.yieldTo {p c} (hk : Keeps s0 s) : Keeps s0 (State.yieldTo s p c) := by
  unfold State.yieldTo
  with_reducible repeat' (first
    | assumption | exact Keeps.refl | apply Keeps.demote | intro _ _ _ | intro _ _ | split | dsimp only | apply Keeps.update)

theorem Keeps.dropTile {p t} (hk : Keeps s0 s) : Keeps s0 (State.dropTile s p t) := by
  unfold State.dropTile
  with_reducible repeat' (first
    | assumption | exact Keeps.refl | exact fun _ h => h | apply Keeps.modTile | apply Keeps.modMem | intro _ _ _ | intro _ _
    | apply clearBytes_wf | apply Keeps.ite | split | dsimp only | apply Keeps.update)

theorem Keeps.dropInst {p x} (hk : Keeps s0 s) : Keeps s0 (State.dropInst s p x) := by
  unfold State.dropInst
  with_reducible repeat' (first
    | assumption | exact Keeps.refl | apply Keeps.dropTile | intro _ _ _ | intro _ _ | apply Keeps.foldl | apply Keeps.foldlFst
    | apply Keeps.foldlSnd | split | dsimp only)

theorem Keeps.checkReady {p rec_ mb} (hk : Keeps s0 s) : Keeps s0 (State.checkReady s p rec_ mb) := by
  unfold State.checkReady
  with_reducible repeat' (first
    | assumption | exact Keeps.refl | exact fun _ h => h | apply Keeps.modInst | intro _ _ _ | intro _ _ | apply Keeps.ite | split
    | dsimp only | apply Keeps.update)

theorem Keeps.reserveTiles {p rec_ mb} (hk : Keeps s0 s) : Keeps s0 (State.reserveTiles s p rec_ mb) := by
  unfold State.reserveTiles
  with_reducible repeat' (first
    | assumption | exact Keeps.refl | apply Keeps.evict | apply Keeps.modTile | intro _ _ _ | intro _ _ | apply Keeps.foldl
    | apply Keeps.foldlFst | apply Keeps.foldlSnd | apply Keeps.ite | split | dsimp only | apply Keeps.update)

theorem Keeps.dropTask {p i} (hk : Keeps s0 s) : Keeps s0 (State.dropTask s p i) := by
  unfold State.dropTask
  with_reducible repeat' (first
    | assumption | exact Keeps.refl | apply Keeps.modScb | intro _ _ _ | intro _ _ | split | dsimp only | apply Keeps.update)

theorem Keeps.expand {p t} (hk : Keeps s0 s) : Keeps s0 (State.expand s p t) := by
  unfold State.expand
  with_reducible repeat' (first
    | assumption | exact Keeps.refl | apply Keeps.modScb | intro _ _ _ | intro _ _ | split | dsimp only | apply Keeps.update)

theorem Keeps.taskIssued {p k} (hk : Keeps s0 s) : Keeps s0 (State.taskIssued s p k) := by
  unfold State.taskIssued
  with_reducible repeat' (first
    | assumption | exact Keeps.refl | exact fun _ h => h | apply Keeps.checkReady | apply Keeps.expand | apply Keeps.ite | split
    | dsimp only)

/-- What a task leaves. -/

def IssueKeeps (s0 : State) : Issue → Prop
  | .done s => Keeps s0 s
  | .changed s => Keeps s0 s
  | .waits => True

theorem IssueKeeps.done (h : Keeps s0 s) : IssueKeeps s0 (.done s) := h

theorem IssueKeeps.changed (h : Keeps s0 s) : IssueKeeps s0 (.changed s) := h

theorem IssueKeeps.waits {s0 : State} : IssueKeeps s0 .waits := trivial

theorem IssueKeeps.disposeTile {p rec_ mb t n} (hk : Keeps s0 s) : IssueKeeps s0 (State.disposeTile s p rec_ mb t n) := by
  induction n generalizing s with
  | zero => exact hk
  | succ n ih =>
    unfold State.disposeTile
    with_reducible repeat' (first
      | assumption | exact Keeps.refl | exact fun _ h => h | exact fun _ h => ⟨Nat.le_refl _, h⟩ | exact ⟨Nat.le_refl _, ‹_›⟩
      | apply IssueKeeps.done | apply IssueKeeps.changed | apply IssueKeeps.waits | apply ih | apply Keeps.moveTo
      | apply Keeps.demote | apply Keeps.dropInst | apply Keeps.stepDown | intro _ _ _ | intro _ _ | apply writeBytes_wf
      | apply clearBytes_wf | apply storeAll_wf | apply swapBytes_wf | apply Keeps.foldl | apply Keeps.foldlFst
      | apply Keeps.foldlSnd | apply Keeps.ite | split | dsimp only | apply Keeps.update)

theorem IssueKeeps.fetchTile {p rec_ mb t} (hk : Keeps s0 s) : IssueKeeps s0 (State.fetchTile s p rec_ mb t) := by
  unfold State.fetchTile
  with_reducible repeat' (first
    | assumption | exact Keeps.refl | exact fun _ h => h | exact fun _ h => ⟨Nat.le_refl _, h⟩ | exact ⟨Nat.le_refl _, ‹_›⟩
    | apply IssueKeeps.done | apply IssueKeeps.changed | apply IssueKeeps.waits | apply Keeps.moveTo | apply Keeps.demote
    | intro _ _ _ | intro _ _ | apply writeBytes_wf | apply clearBytes_wf | apply storeAll_wf | apply swapBytes_wf
    | apply Keeps.foldl | apply Keeps.foldlFst | apply Keeps.foldlSnd | apply Keeps.ite | split | dsimp only | apply Keeps.update)

theorem IssueKeeps.produceTile {p rec_ mb t} (hk : Keeps s0 s) : IssueKeeps s0 (State.produceTile s p rec_ mb t) := by
  unfold State.produceTile
  with_reducible repeat' (first
    | assumption | exact Keeps.refl | exact fun _ h => h | exact fun _ h => ⟨Nat.le_refl _, h⟩ | exact ⟨Nat.le_refl _, ‹_›⟩
    | apply IssueKeeps.done | apply IssueKeeps.changed | apply IssueKeeps.waits | apply Keeps.moveTo | intro _ _ _ | intro _ _
    | apply writeBytes_wf | apply clearBytes_wf | apply storeAll_wf | apply swapBytes_wf | apply Keeps.foldl | apply Keeps.foldlFst
    | apply Keeps.foldlSnd | apply Keeps.ite | split | dsimp only | apply Keeps.update)

theorem IssueKeeps.injectInst {p rec_ mb} (hk : Keeps s0 s) : IssueKeeps s0 (State.injectInst s p rec_ mb) := by
  unfold State.injectInst
  with_reducible repeat' (first
    | assumption | exact Keeps.refl | exact fun _ h => h | exact fun _ h => ⟨Nat.le_refl _, h⟩ | exact ⟨Nat.le_refl _, ‹_›⟩
    | apply IssueKeeps.done | apply IssueKeeps.changed | apply IssueKeeps.waits | apply Keeps.reserveTiles | apply Keeps.modScb
    | apply Keeps.perfWrap | intro _ _ _ | intro _ _ | apply writeBytes_wf | apply clearBytes_wf | apply storeAll_wf
    | apply swapBytes_wf | apply Keeps.foldl | apply Keeps.foldlFst | apply Keeps.foldlSnd | apply Keeps.ite | split | dsimp only
    | apply Keeps.update)

theorem IssueKeeps.tryTask {p k} (hk : Keeps s0 s) : IssueKeeps s0 (State.tryTask s p k) := by
  unfold State.tryTask
  with_reducible repeat' (first
    | assumption | exact Keeps.refl | exact fun _ h => h | exact fun _ h => ⟨Nat.le_refl _, h⟩ | exact ⟨Nat.le_refl _, ‹_›⟩
    | apply IssueKeeps.waits | apply IssueKeeps.injectInst | apply IssueKeeps.fetchTile | apply IssueKeeps.disposeTile
    | apply IssueKeeps.produceTile | intro _ _ _ | intro _ _ | apply writeBytes_wf | apply clearBytes_wf | apply storeAll_wf
    | apply swapBytes_wf | apply Keeps.foldl | apply Keeps.foldlFst | apply Keeps.foldlSnd | apply Keeps.ite | split | dsimp only
    | apply Keeps.update)

theorem Keeps.issueFirst {l : List (Pid × Nat × Task)} (hk : Keeps s0 s) : Keeps s0 (State.issueFirst s l) := by
  induction l with
  | nil => exact hk
  | cons x r ih =>
    have h : IssueKeeps s0 ((s.dropTask x.1 x.2.1).tryTask x.1 x.2.2) := IssueKeeps.tryTask (Keeps.dropTask hk)
    unfold State.issueFirst
    generalize (s.dropTask x.1 x.2.1).tryTask x.1 x.2.2 = o at h ⊢
    cases o with
    | done s' => exact Keeps.taskIssued h
    | changed s' => exact Keeps.modScb h
    | waits => exact ih

/-! ### Machine/Scarab.lean -/

theorem Keeps.installPlan {p P} (hk : Keeps s0 s) : Keeps s0 (State.installPlan s p P) := by
  unfold State.installPlan
  with_reducible repeat' (first
    | assumption | exact Keeps.refl | exact fun _ h => h | apply Keeps.modScb | apply Keeps.modMem | intro _ _ _ | intro _ _
    | split | dsimp only | apply Keeps.update)

theorem Keeps.planLoad {c p k} (hk : Keeps s0 s) : Keeps s0 (State.planLoad s c p k) := by
  unfold State.planLoad
  with_reducible repeat' (first
    | assumption | exact Keeps.refl | exact fun _ h => h | apply Keeps.refuse | apply Keeps.finish | apply Keeps.noteBlocked
    | apply Keeps.noteServed | apply Keeps.loaded | apply Keeps.installPlan | apply Keeps.ite | split | dsimp only
    | apply Keeps.update)

theorem Keeps.execPlanLoad {c} : ∃ s', execPlanLoad c s = .next s' ∧ Keeps s s' := by
  unfold Machine.execPlanLoad
  refine ⟨_, rfl, ?_⟩
  with_reducible repeat' (first | assumption | exact Keeps.refl | apply Keeps.planLoad | split | dsimp only | apply Keeps.update)

theorem Keeps.dropPlan {p} (hk : Keeps s0 s) : Keeps s0 (State.dropPlan s p) := by
  unfold State.dropPlan
  with_reducible repeat' (first
    | assumption | exact Keeps.refl | exact fun _ h => h | apply Keeps.modScb | apply Keeps.modMem | intro _ _ _ | intro _ _
    | split | dsimp only | apply Keeps.update)

theorem Keeps.closesDone {p} (hk : Keeps s0 s) : Keeps s0 (State.closesDone s p) := by
  unfold State.closesDone
  with_reducible repeat' (first
    | assumption | exact Keeps.refl | apply Keeps.finish | apply Keeps.dropPlan | intro _ _ _ | intro _ _ | apply Keeps.foldl
    | apply Keeps.foldlFst | apply Keeps.foldlSnd | apply Keeps.ite | split | dsimp only)

theorem Keeps.execPlanUnload {c} : ∃ s', execPlanUnload c s = .next s' ∧ Keeps s s' := by
  unfold Machine.execPlanUnload
  refine ⟨_, rfl, ?_⟩
  with_reducible repeat' (first
    | assumption | exact Keeps.refl | apply Keeps.refuse | apply Keeps.finish | apply Keeps.closesDone | apply Keeps.modCmd
    | apply Keeps.closeRun | intro _ _ _ | intro _ _ | apply Keeps.ite | split | dsimp only | apply Keeps.update)

theorem Keeps.execRunBegin {c} : ∃ s', execRunBegin c s = .next s' ∧ Keeps s s' := by
  unfold Machine.execRunBegin
  refine ⟨_, rfl, ?_⟩
  with_reducible repeat' (first
    | assumption | exact Keeps.refl | apply Keeps.refuse | apply Keeps.finish | apply Keeps.modScb | intro _ _ _ | intro _ _
    | apply Keeps.ite | split | dsimp only | apply Keeps.update)

theorem Keeps.evaluate {p} (hk : Keeps s0 s) : Keeps s0 (State.evaluate s p) := by
  unfold State.evaluate
  with_reducible repeat' (first
    | assumption | exact Keeps.refl | apply Keeps.modScb | intro _ _ _ | intro _ _ | apply Keeps.ite | split | dsimp only
    | apply Keeps.update)

theorem Keeps.createTile {p t pl} (hk : Keeps s0 s) : Keeps s0 (State.createTile s p t pl) := by
  unfold State.createTile
  with_reducible repeat' (first
    | assumption | exact Keeps.refl | exact fun _ h => h | apply Keeps.evict | apply Keeps.modMem | intro _ _ _ | intro _ _ | split
    | dsimp only | apply Keeps.update)

theorem Keeps.openTile {p x r t i} (hk : Keeps s0 s) : Keeps s0 (State.openTile s p x r t i) := by
  unfold State.openTile
  with_reducible repeat' (first
    | assumption | exact Keeps.refl | apply Keeps.createTile | apply Keeps.addTask | apply Keeps.demote | apply Keeps.ite | split
    | dsimp only | apply Keeps.update)

theorem Keeps.openInst_fst {p rec_ mb} (hk : Keeps s0 s) : Keeps s0 (State.openInst s p rec_ mb).1 := by
  unfold State.openInst
  with_reducible repeat' (first
    | assumption | exact Keeps.refl | apply Keeps.postPart | apply Keeps.modScb | apply Keeps.openTile | intro _ _ _ | intro _ _
    | apply Keeps.foldl | apply Keeps.foldlFst | apply Keeps.foldlSnd | apply Keeps.ite | split | dsimp only | apply Keeps.update)

theorem Keeps.openInst {p rec_ mb} {x} (he : State.openInst s p rec_ mb = (s', x)) (hk : Keeps s0 s) : Keeps s0 s' := by
  have h := Keeps.openInst_fst (p := p) (rec_ := rec_) (mb := mb) hk
  rw [he] at h
  exact h

theorem Keeps.placeInst {p rec_ mb} (hk : Keeps s0 s) : Keeps s0 (State.placeInst s p rec_ mb) := by
  unfold State.placeInst
  with_reducible repeat' (first
    | assumption | exact Keeps.refl | apply Keeps.modScb | apply Keeps.dropInst | apply Keeps.disposeIn | intro _ _ _ | intro _ _
    | apply Keeps.ite | split | dsimp only | apply Keeps.update)

theorem Keeps.markEffects_fst {p P pos} (hk : Keeps s0 s) : Keeps s0 (State.markEffects s p P pos).1 := by
  unfold State.markEffects
  with_reducible repeat' (first
    | assumption | exact Keeps.refl | apply Keeps.modScb | apply Keeps.closeInsts | apply Keeps.placeInst | apply Keeps.evaluate
    | apply Keeps.countLate | apply Keeps.openInst_fst | intro _ _ _ | intro _ _ | apply Keeps.foldl | apply Keeps.foldlFst
    | apply Keeps.foldlSnd | split | refine Keeps.openInst ‹_› ?_ | dsimp only | apply Keeps.update)

theorem Keeps.markEffects {p P pos} {x} (he : State.markEffects s p P pos = (s', x)) (hk : Keeps s0 s) : Keeps s0 s' := by
  have h := Keeps.markEffects_fst (p := p) (P := P) (pos := pos) hk
  rw [he] at h
  exact h

theorem Keeps.execMark {c} : ∃ s', execMark c s = .next s' ∧ Keeps s s' := by
  unfold Machine.execMark
  refine ⟨_, rfl, ?_⟩
  with_reducible repeat' (first
    | assumption | exact Keeps.refl | apply Keeps.refuse | apply Keeps.finish | apply Keeps.markEffects_fst | apply Keeps.ite
    | split | refine Keeps.markEffects ‹_› ?_ | dsimp only | apply Keeps.update)

theorem Keeps.execRunEnd {c} : ∃ s', execRunEnd c s = .next s' ∧ Keeps s s' := by
  unfold Machine.execRunEnd
  refine ⟨_, rfl, ?_⟩
  with_reducible repeat' (first
    | assumption | exact Keeps.refl | apply Keeps.refuse | apply Keeps.closesDone | apply Keeps.modCmd | apply Keeps.closeRun
    | intro _ _ _ | intro _ _ | apply Keeps.ite | split | dsimp only | apply Keeps.update)

theorem Keeps.execInstanceCloseComplete {p rec_ mb} : ∃ s', execInstanceCloseComplete p rec_ mb s = .next s' ∧ Keeps s s' := by
  unfold Machine.execInstanceCloseComplete
  refine ⟨_, rfl, ?_⟩
  with_reducible repeat' (first
    | assumption | exact Keeps.refl | apply Keeps.closesDone | apply Keeps.closeEnd | apply Keeps.ite | split | dsimp only
    | apply Keeps.update)

theorem Keeps.execFetchbackEvaluate {p} : ∃ s', execFetchbackEvaluate p s = .next s' ∧ Keeps s s' := by
  unfold Machine.execFetchbackEvaluate
  refine ⟨_, rfl, ?_⟩
  with_reducible repeat' (first | assumption | exact Keeps.refl | apply Keeps.evaluate | split | dsimp only)

theorem Keeps.fetchIssue {p rec_ mb} (hk : Keeps s0 s) : Keeps s0 (State.fetchIssue s p rec_ mb) := by
  unfold State.fetchIssue
  with_reducible repeat' (first
    | assumption | exact Keeps.refl | apply Keeps.modScb | apply Keeps.modInst | apply Keeps.addTask | apply Keeps.checkReady
    | intro _ _ _ | intro _ _ | apply Keeps.foldl | apply Keeps.foldlFst | apply Keeps.foldlSnd | apply Keeps.ite | split
    | dsimp only | apply Keeps.update)

theorem Keeps.execFetchbackIssue {p rec_ mb} : ∃ s', execFetchbackIssue p rec_ mb s = .next s' ∧ Keeps s s' := by
  unfold Machine.execFetchbackIssue
  refine ⟨_, rfl, ?_⟩
  with_reducible repeat' (first | assumption | exact Keeps.refl | apply Keeps.fetchIssue | split | dsimp only)

theorem Keeps.execScarabTaskIssue : ∃ s', execScarabTaskIssue s = .next s' ∧ Keeps s s' := by
  unfold Machine.execScarabTaskIssue
  refine ⟨_, rfl, ?_⟩
  with_reducible repeat' (first | assumption | exact Keeps.refl | apply Keeps.issueFirst | apply Keeps.ite | split | dsimp only)

theorem Keeps.squeezeTile {p t fmt} (hk : Keeps s0 s) : Keeps s0 (State.squeezeTile s p t fmt) := by
  unfold State.squeezeTile
  with_reducible repeat' (first
    | assumption | exact Keeps.refl | exact fun _ h => h | apply Keeps.modScb | apply Keeps.perfWrap | apply Keeps.modMem
    | apply Keeps.modTile | intro _ _ _ | intro _ _ | apply writeBytes_wf | apply Keeps.ite | split | dsimp only
    | apply Keeps.update)

theorem Keeps.runSegment_fst {p tag dead} {l : List (Except W32 ComputeOp)} (hk : Keeps s0 s) :
    Keeps s0 (State.runSegment s p tag dead l).1 := by
  induction l generalizing s with
  | nil => exact hk
  | cons x r ih =>
    cases x with
    | error e => exact hk
    | ok C =>
      unfold State.runSegment
      with_reducible repeat' (first
        | assumption | exact Keeps.refl | exact fun _ h => h | exact fun _ h => ⟨Nat.le_refl _, h⟩ | exact ⟨Nat.le_refl _, ‹_›⟩
        | apply ih | apply Keeps.runCompute | apply Keeps.modPair | apply Keeps.countProducer | intro _ _ _ | intro _ _
        | apply writeBytes_wf | apply clearBytes_wf | apply storeAll_wf | apply swapBytes_wf | apply Keeps.foldl
        | apply Keeps.foldlFst | apply Keeps.foldlSnd | apply Keeps.ite | split | dsimp only | apply Keeps.update)

theorem Keeps.restDropped {p rec_ mb bad} (hk : Keeps s0 s) : Keeps s0 (State.restDropped s p rec_ mb bad) := by
  unfold State.restDropped
  with_reducible repeat' (first
    | assumption | exact Keeps.refl | apply Keeps.modTile | intro _ _ _ | intro _ _ | apply Keeps.foldl | apply Keeps.foldlFst
    | apply Keeps.foldlSnd | apply Keeps.ite | split | dsimp only | apply Keeps.update)

theorem Keeps.segmentEnd {p rec_ mb failed} (hk : Keeps s0 s) : Keeps s0 (State.segmentEnd s p rec_ mb failed) := by
  have hs : ∀ l, Keeps s0 (if failed = true then (s, Status.tierError) else
      s.runSegment p (s.aheadTag p true (s.prt p).scb.runEpoch) false l).1 := fun l => by
    split
    · exact hk
    · exact Keeps.runSegment_fst hk
  unfold State.segmentEnd
  dsimp only
  with_reducible repeat' (first
    | assumption | exact Keeps.refl | exact fun _ h => h | exact fun _ h => ⟨Nat.le_refl _, h⟩ | exact ⟨Nat.le_refl _, ‹_›⟩
    | apply hs | apply Keeps.modScb | apply Keeps.noteReady | apply Keeps.demandFetch | apply Keeps.restDropped
    | apply Keeps.postPart | apply Keeps.checkReady | intro _ _ _ | intro _ _ | apply writeBytes_wf | apply clearBytes_wf
    | apply storeAll_wf | apply swapBytes_wf | apply Keeps.foldl | apply Keeps.foldlFst | apply Keeps.foldlSnd | apply Keeps.ite
    | split | dsimp only | apply Keeps.update)

theorem Keeps.execInjectedSegmentEnd {p rec_ mb failed} : ∃ s', execInjectedSegmentEnd p rec_ mb failed s = .next s' ∧ Keeps s s' := by
  unfold Machine.execInjectedSegmentEnd
  refine ⟨_, rfl, ?_⟩
  with_reducible repeat' (first | assumption | exact Keeps.refl | apply Keeps.segmentEnd | split | dsimp only)

theorem Keeps.execScarabSettingWrite {fn v} : ∃ s', execScarabSettingWrite fn v s = .next s' ∧ Keeps s s' := by
  unfold Machine.execScarabSettingWrite
  refine ⟨_, rfl, ?_⟩
  with_reducible repeat' (first
    | assumption | exact Keeps.refl | apply Keeps.modScb | intro _ _ _ | intro _ _ | apply Keeps.ite | split | dsimp only
    | apply Keeps.update)

end Sys2Proof.Machine
end

