-- ==== Sys2Proof/Laws/KeepsData.lean ====
section
/-! SUPPORT. Laws/KeepsData.lean: what objects, streams, moves, the Mover, the solver and losses keep (`Keeps`), one lemma for each function that changes a state;
for a command, that it answers a next state that keeps what the state had. -/

namespace Sys2Proof.Machine

variable {s0 s s' : State}

/-! ### Machine/Objects.lean -/

theorem Keeps.makeRoom {p c} (hk : Keeps s0 s) : Keeps s0 (State.makeRoom s p c) := by
  unfold State.makeRoom
  with_reducible repeat' (first | assumption | exact Keeps.refl | apply Keeps.yieldTo | apply Keeps.ite | split | dsimp only)

theorem Keeps.objDefine {c p k} (hk : Keeps s0 s) : Keeps s0 (State.objDefine s c p k) := by
  unfold State.objDefine
  with_reducible repeat' (first
    | assumption | exact Keeps.refl | exact fun _ h => h | apply Keeps.refuse | apply Keeps.finish | apply Keeps.makeRoom
    | apply Keeps.modMem | apply Keeps.createTile | intro _ _ _ | intro _ _ | apply Keeps.foldl | apply Keeps.foldlFst
    | apply Keeps.foldlSnd | apply Keeps.ite | split | dsimp only | apply Keeps.update)

theorem Keeps.execObjDefine {c} : ∃ s', execObjDefine c s = .next s' ∧ Keeps s s' := by
  unfold Machine.execObjDefine
  refine ⟨_, rfl, ?_⟩
  with_reducible repeat' (first | assumption | exact Keeps.refl | apply Keeps.objDefine | split | dsimp only | apply Keeps.update)

theorem Keeps.hintMoves_fst {c p o hint core} (hk : Keeps s0 s) : Keeps s0 (State.hintMoves s c p o hint core).1 := by
  unfold State.hintMoves
  with_reducible repeat' (first
    | assumption | exact Keeps.refl | apply Keeps.moveTo | intro _ _ _ | intro _ _ | apply Keeps.foldl | apply Keeps.foldlFst
    | apply Keeps.foldlSnd | apply Keeps.ite | split | dsimp only | apply Keeps.update)

theorem Keeps.hintMoves {c p o hint core} {x} (he : State.hintMoves s c p o hint core = (s', x)) (hk : Keeps s0 s) : Keeps s0 s' := by
  have h := Keeps.hintMoves_fst (c := c) (p := p) (o := o) (hint := hint) (core := core) hk
  rw [he] at h
  exact h

theorem Keeps.applyHint {c p o hint core} (hk : Keeps s0 s) : Keeps s0 (State.applyHint s c p o hint core) := by
  unfold State.applyHint
  with_reducible repeat' (first
    | assumption | exact Keeps.refl | exact fun _ h => h | apply Keeps.modMem | apply Keeps.finish | apply Keeps.modCmd
    | apply Keeps.hintMoves_fst | intro _ _ _ | intro _ _ | apply Keeps.ite | split | refine Keeps.hintMoves ‹_› ?_ | dsimp only
    | apply Keeps.update)

theorem Keeps.objHint {c p k} (hk : Keeps s0 s) : Keeps s0 (State.objHint s c p k) := by
  unfold State.objHint
  with_reducible repeat' (first
    | assumption | exact Keeps.refl | exact fun _ h => h | apply Keeps.refuse | apply Keeps.finish | apply Keeps.makeRoom
    | apply Keeps.applyHint | apply Keeps.ite | split | dsimp only | apply Keeps.update)

theorem Keeps.execObjHint {c} : ∃ s', execObjHint c s = .next s' ∧ Keeps s s' := by
  unfold Machine.execObjHint
  refine ⟨_, rfl, ?_⟩
  with_reducible repeat' (first | assumption | exact Keeps.refl | apply Keeps.objHint | split | dsimp only | apply Keeps.update)

theorem Keeps.releaseEnd {c p} (hk : Keeps s0 s) : Keeps s0 (State.releaseEnd s c p) := by
  unfold State.releaseEnd
  with_reducible repeat' (first
    | assumption | exact Keeps.refl | exact fun _ h => h | apply Keeps.noteReady | apply Keeps.finish | apply Keeps.modMem
    | apply Keeps.freeRange | intro _ _ _ | intro _ _ | apply Keeps.ite | split | dsimp only | apply Keeps.update)

theorem Keeps.objRelease {c p k} (hk : Keeps s0 s) : Keeps s0 (State.objRelease s c p k) := by
  unfold State.objRelease
  with_reducible repeat' (first
    | assumption | exact Keeps.refl | exact fun _ h => h | apply Keeps.refuse | apply Keeps.modMem | apply Keeps.releaseEnd
    | apply Keeps.modCmd | intro _ _ _ | intro _ _ | apply Keeps.ite | split | dsimp only | apply Keeps.update)

theorem Keeps.execObjRelease {c} : ∃ s', execObjRelease c s = .next s' ∧ Keeps s s' := by
  unfold Machine.execObjRelease
  refine ⟨_, rfl, ?_⟩
  with_reducible repeat' (first | assumption | exact Keeps.refl | apply Keeps.objRelease | split | dsimp only | apply Keeps.update)

theorem Keeps.execObjReleaseDrained {c} : ∃ s', execObjReleaseDrained c s = .next s' ∧ Keeps s s' := by
  unfold Machine.execObjReleaseDrained
  refine ⟨_, rfl, ?_⟩
  with_reducible repeat' (first | assumption | exact Keeps.refl | apply Keeps.releaseEnd | split | dsimp only | apply Keeps.update)

theorem Keeps.objQuery {c p k} (hk : Keeps s0 s) : Keeps s0 (State.objQuery s c p k) := by
  unfold State.objQuery
  with_reducible repeat' (first
    | assumption | exact Keeps.refl | exact fun _ h => h | apply Keeps.refuse | apply Keeps.modCmd | apply Keeps.finish
    | apply Keeps.dataWrite | intro _ _ _ | intro _ _ | apply Keeps.ite | split | dsimp only | apply Keeps.update)

theorem Keeps.execObjQuery {c} : ∃ s', execObjQuery c s = .next s' ∧ Keeps s s' := by
  unfold Machine.execObjQuery
  refine ⟨_, rfl, ?_⟩
  with_reducible repeat' (first | assumption | exact Keeps.refl | apply Keeps.objQuery | split | dsimp only | apply Keeps.update)

theorem Keeps.clearTile {p t} (hk : Keeps s0 s) : Keeps s0 (State.clearTile s p t) := by
  unfold State.clearTile
  with_reducible repeat' (first
    | assumption | exact Keeps.refl | apply Keeps.modTile | apply Keeps.zeroTile | intro _ _ _ | intro _ _ | apply Keeps.ite
    | split | dsimp only | apply Keeps.update)

theorem Keeps.clearDone {c p} (hk : Keeps s0 s) : Keeps s0 (State.clearDone s c p) := by
  unfold State.clearDone
  with_reducible repeat' (first
    | assumption | exact Keeps.refl | exact fun _ h => h | apply Keeps.finish | intro _ _ _ | intro _ _ | apply Keeps.ite | split
    | dsimp only | apply Keeps.update)

theorem Keeps.tileClear {c p k} (hk : Keeps s0 s) : Keeps s0 (State.tileClear s c p k) := by
  unfold State.tileClear
  with_reducible repeat' (first
    | assumption | exact Keeps.refl | exact fun _ h => h | apply Keeps.refuse | apply Keeps.clearTile | apply Keeps.clearDone
    | apply Keeps.modCmd | intro _ _ _ | intro _ _ | apply Keeps.foldl | apply Keeps.foldlFst | apply Keeps.foldlSnd
    | apply Keeps.ite | split | dsimp only | apply Keeps.update)

theorem Keeps.execTileClear {c} : ∃ s', execTileClear c s = .next s' ∧ Keeps s s' := by
  unfold Machine.execTileClear
  refine ⟨_, rfl, ?_⟩
  with_reducible repeat' (first | assumption | exact Keeps.refl | apply Keeps.tileClear | split | dsimp only | apply Keeps.update)

theorem Keeps.modWin {p f} (hk : Keeps s0 s) : Keeps s0 (State.modWin s p f) := by
  unfold State.modWin
  with_reducible repeat' (first
    | assumption | exact Keeps.refl | exact fun _ h => h | apply Keeps.modPrt | intro _ _ _ | intro _ _ | split | dsimp only
    | apply Keeps.update)

theorem Keeps.modOpw {f} (hk : Keeps s0 s) : Keeps s0 (State.modOpw s f) := by
  unfold State.modOpw
  with_reducible repeat' (first | assumption | exact Keeps.refl | split | dsimp only | apply Keeps.update)

theorem Keeps.windowPoison {p oper} (hk : Keeps s0 s) : Keeps s0 (State.windowPoison s p oper) := by
  unfold State.windowPoison
  with_reducible repeat' (first
    | assumption | exact Keeps.refl | apply Keeps.modOpw | apply Keeps.modWin | intro _ _ _ | intro _ _ | apply Keeps.ite | split
    | dsimp only | apply Keeps.update)

theorem Keeps.serveWindow {p w} (hk : Keeps s0 s) : Keeps s0 (State.serveWindow s p w) := by
  unfold State.serveWindow
  with_reducible repeat' (first
    | assumption | exact Keeps.refl | apply Keeps.emit | apply Keeps.windowPoison | apply Keeps.loaded | apply Keeps.store
    | apply Keeps.ite | split | dsimp only | apply Keeps.update)

theorem Keeps.windowAccess {p w} (hk : Keeps s0 s) : Keeps s0 (State.windowAccess s p w) := by
  unfold State.windowAccess
  with_reducible repeat' (first
    | assumption | exact Keeps.refl | exact fun _ h => h | apply Keeps.serveWindow | apply Keeps.modMem | apply Keeps.countWaits
    | intro _ _ _ | intro _ _ | apply Keeps.ite | split | dsimp only | apply Keeps.update)

theorem Keeps.serveWaits {p} (hk : Keeps s0 s) : Keeps s0 (State.serveWaits s p) := by
  unfold State.serveWaits
  with_reducible repeat' (first
    | assumption | exact Keeps.refl | exact fun _ h => h | apply Keeps.serveWindow | apply Keeps.modMem | intro _ _ _ | intro _ _
    | apply Keeps.foldl | apply Keeps.foldlFst | apply Keeps.foldlSnd | apply Keeps.ite | split | dsimp only | apply Keeps.update)

theorem Keeps.windowFault {p ta} (hk : Keeps s0 s) : Keeps s0 (State.windowFault s p ta) := by
  unfold State.windowFault
  with_reducible repeat' (first
    | assumption | exact Keeps.refl | apply Keeps.modWin | apply Keeps.postPart | intro _ _ _ | intro _ _ | apply Keeps.ite | split
    | dsimp only | apply Keeps.update)

theorem Keeps.refusedRead {data} (hk : Keeps s0 s) : Keeps s0 (State.refusedRead s data) := by
  unfold State.refusedRead
  with_reducible repeat' (first | assumption | exact Keeps.refl | apply Keeps.emit | apply Keeps.ite | split | dsimp only)

theorem Keeps.partWindow {p off data} (hk : Keeps s0 s) : Keeps s0 (State.partWindow s p off data) := by
  unfold State.partWindow
  with_reducible repeat' (first
    | assumption | exact Keeps.refl | exact fun _ h => h | apply Keeps.hostBytes | apply Keeps.windowAccess
    | apply Keeps.refusedRead | apply Keeps.windowFault | intro _ _ _ | intro _ _ | apply Keeps.ite | split | dsimp only
    | apply Keeps.update)

theorem Keeps.execPartitionWindowRead {p off} : ∃ s', execPartitionWindowRead p off s = .next s' ∧ Keeps s s' := by
  unfold Machine.execPartitionWindowRead
  refine ⟨_, rfl, ?_⟩
  with_reducible repeat' (first | assumption | exact Keeps.refl | apply Keeps.partWindow | split | dsimp only)

theorem Keeps.execPartitionWindowWrite {p off data en} : ∃ s', execPartitionWindowWrite p off data en s = .next s' ∧ Keeps s s' := by
  unfold Machine.execPartitionWindowWrite
  refine ⟨_, rfl, ?_⟩
  with_reducible repeat' (first | assumption | exact Keeps.refl | apply Keeps.partWindow | split | dsimp only)

theorem Keeps.operWindow {off data} (hk : Keeps s0 s) : Keeps s0 (State.operWindow s off data) := by
  unfold State.operWindow
  with_reducible repeat' (first
    | assumption | exact Keeps.refl | exact fun _ h => h | apply Keeps.exitRetention | apply Keeps.refusedRead | apply Keeps.modOpw
    | apply Keeps.windowAccess | intro _ _ _ | intro _ _ | apply Keeps.ite | split | dsimp only | apply Keeps.update)

theorem Keeps.execOperatorWindowRead {off} : ∃ s', execOperatorWindowRead off s = .next s' ∧ Keeps s s' := by
  unfold Machine.execOperatorWindowRead
  refine ⟨_, rfl, ?_⟩
  with_reducible repeat' (first | assumption | exact Keeps.refl | apply Keeps.operWindow | split | dsimp only)

theorem Keeps.execOperatorWindowWrite {off data en} : ∃ s', execOperatorWindowWrite off data en s = .next s' ∧ Keeps s s' := by
  unfold Machine.execOperatorWindowWrite
  refine ⟨_, rfl, ?_⟩
  with_reducible repeat' (first | assumption | exact Keeps.refl | apply Keeps.operWindow | split | dsimp only)

theorem Keeps.execWindowControlWrite {fn off v} : ∃ s', execWindowControlWrite fn off v s = .next s' ∧ Keeps s s' := by
  unfold Machine.execWindowControlWrite
  refine ⟨_, rfl, ?_⟩
  with_reducible repeat' (first
    | assumption | exact Keeps.refl | apply Keeps.modWin | apply Keeps.modOpw | intro _ _ _ | intro _ _ | apply Keeps.ite | split
    | dsimp only | apply Keeps.update)

theorem Keeps.execBarWidthError {fn off read} : ∃ s', execBarWidthError fn off read s = .next s' ∧ Keeps s s' := by
  unfold Machine.execBarWidthError
  refine ⟨_, rfl, ?_⟩
  with_reducible repeat' (first
    | assumption | exact Keeps.refl | apply Keeps.emit | apply Keeps.modFn | intro _ _ _ | intro _ _ | apply Keeps.ite | split
    | dsimp only | apply Keeps.update)

theorem Keeps.execSysErrClear {fn v} : ∃ s', execSysErrClear fn v s = .next s' ∧ Keeps s s' := by
  unfold Machine.execSysErrClear
  refine ⟨_, rfl, ?_⟩
  with_reducible repeat' (first
    | assumption | exact Keeps.refl | apply Keeps.modFn | intro _ _ _ | intro _ _ | apply Keeps.ite | split | dsimp only
    | apply Keeps.update)

/-! ### Machine/Streams.lean -/

theorem Keeps.suReject {u} (hk : Keeps s0 s) : Keeps s0 (State.suReject s u) := by
  unfold State.suReject
  with_reducible repeat' (first
    | assumption | exact Keeps.refl | apply Keeps.modUnit | intro _ _ _ | intro _ _ | split | dsimp only | apply Keeps.update)

theorem Keeps.execSuLoad {u} : ∃ s', execSuLoad u s = .next s' ∧ Keeps s s' := by
  unfold Machine.execSuLoad
  refine ⟨_, rfl, ?_⟩
  with_reducible repeat' (first
    | assumption | exact Keeps.refl | apply Keeps.busyNow | apply Keeps.modCore | apply Keeps.modUnit | apply Keeps.suReject
    | intro _ _ _ | intro _ _ | apply Keeps.ite | split | dsimp only | apply Keeps.update)

theorem Keeps.loadEnd {u r} (hk : Keeps s0 s) : Keeps s0 (State.loadEnd s u r) := by
  unfold State.loadEnd
  with_reducible repeat' (first
    | assumption | exact Keeps.refl | apply Keeps.modUnit | apply Keeps.suFault | intro _ _ _ | intro _ _ | split | dsimp only
    | apply Keeps.update)

theorem Keeps.suLoadDone {u} (hk : Keeps s0 s) : Keeps s0 (State.suLoadDone s u) := by
  unfold State.suLoadDone
  with_reducible repeat' (first
    | assumption | exact Keeps.refl | exact fun _ h => h | apply Keeps.loadEnd | apply Keeps.demandFetch | apply Keeps.loaded
    | intro _ _ _ | intro _ _ | apply Keeps.foldl | apply Keeps.foldlFst | apply Keeps.foldlSnd | apply Keeps.ite | split
    | dsimp only | apply Keeps.update)

theorem Keeps.execSuLoadDone {u} : ∃ s', execSuLoadDone u s = .next s' ∧ Keeps s s' := by
  unfold Machine.execSuLoadDone
  refine ⟨_, rfl, ?_⟩
  with_reducible repeat' (first | assumption | exact Keeps.refl | apply Keeps.suLoadDone | split | dsimp only)

theorem Keeps.suStart {u rt} (hk : Keeps s0 s) : Keeps s0 (State.suStart s u rt) := by
  unfold State.suStart
  with_reducible repeat' (first
    | assumption | exact Keeps.refl | apply Keeps.suReject | apply Keeps.modUnit | apply Keeps.busyNow | apply Keeps.wakePartition
    | intro _ _ _ | intro _ _ | apply Keeps.ite | split | dsimp only | apply Keeps.update)

theorem Keeps.execSuStart {u rt} : ∃ s', execSuStart u rt s = .next s' ∧ Keeps s s' := by
  unfold Machine.execSuStart
  refine ⟨_, rfl, ?_⟩
  with_reducible repeat' (first | assumption | exact Keeps.refl | apply Keeps.suStart | split | dsimp only)

theorem Keeps.suStop {u} (hk : Keeps s0 s) : Keeps s0 (State.suStop s u) := by
  unfold State.suStop
  with_reducible repeat' (first
    | assumption | exact Keeps.refl | apply Keeps.breakPairsOf | apply Keeps.modUnit | apply Keeps.suReject | intro _ _ _
    | intro _ _ | apply Keeps.ite | split | dsimp only | apply Keeps.update)

theorem Keeps.execSuStop {u} : ∃ s', execSuStop u s = .next s' ∧ Keeps s s' := by
  unfold Machine.execSuStop
  refine ⟨_, rfl, ?_⟩
  with_reducible repeat' (first | assumption | exact Keeps.refl | apply Keeps.suStop | split | dsimp only)

theorem Keeps.modA {u i f} (hk : Keeps s0 s) : Keeps s0 (State.modA s u i f) := by
  unfold State.modA
  with_reducible repeat' (first
    | assumption | exact Keeps.refl | apply Keeps.modUnit | intro _ _ _ | intro _ _ | split | dsimp only | apply Keeps.update)

theorem Keeps.modL {u i f} (hk : Keeps s0 s) : Keeps s0 (State.modL s u i f) := by
  unfold State.modL
  with_reducible repeat' (first
    | assumption | exact Keeps.refl | apply Keeps.modUnit | intro _ _ _ | intro _ _ | split | dsimp only | apply Keeps.update)

theorem Keeps.suDo {u op} {f : Nat → State → State} (hk : Keeps s0 s) (hf : ∀ n s, Keeps s0 s → Keeps s0 (f n s)) : Keeps s0 (State.suDo s u op f) := by
  unfold State.suDo
  with_reducible repeat' (first
    | assumption | exact Keeps.refl | exact fun _ h => h | exact fun _ h => ⟨Nat.le_refl _, h⟩ | exact ⟨Nat.le_refl _, ‹_›⟩
    | apply hf | apply Keeps.modPrt | intro _ _ _ | intro _ _ | apply writeBytes_wf | apply clearBytes_wf | apply storeAll_wf
    | apply swapBytes_wf | apply Keeps.foldl | apply Keeps.foldlFst | apply Keeps.foldlSnd | apply Keeps.ite | split | dsimp only
    | apply Keeps.update)

theorem Keeps.execStreamNop {u} : ∃ s', execStreamNop u s = .next s' ∧ Keeps s s' := by
  unfold Machine.execStreamNop
  refine ⟨_, rfl, ?_⟩
  with_reducible repeat' (first
    | assumption | exact Keeps.refl | apply Keeps.suDo | apply Keeps.suNext | intro _ _ _ | intro _ _ | split | dsimp only)

theorem Keeps.seti {u w} (hk : Keeps s0 s) : Keeps s0 (State.seti s u w) := by
  unfold State.seti
  with_reducible repeat' (first
    | assumption | exact Keeps.refl | apply Keeps.modA | apply Keeps.modL | apply Keeps.modUnit | apply Keeps.suNext | intro _ _ _
    | intro _ _ | apply Keeps.ite | split | dsimp only | apply Keeps.update)

theorem Keeps.execSeti {u} : ∃ s', execSeti u s = .next s' ∧ Keeps s s' := by
  unfold Machine.execSeti
  refine ⟨_, rfl, ?_⟩
  with_reducible repeat' (first
    | assumption | exact Keeps.refl | apply Keeps.suDo | apply Keeps.seti | intro _ _ _ | intro _ _ | split | dsimp only)

theorem Keeps.execAdds {u} : ∃ s', execAdds u s = .next s' ∧ Keeps s s' := by
  unfold Machine.execAdds
  refine ⟨_, rfl, ?_⟩
  with_reducible repeat' (first
    | assumption | exact Keeps.refl | apply Keeps.suDo | apply Keeps.suNext | apply Keeps.modA | intro _ _ _ | intro _ _ | split
    | dsimp only)

theorem Keeps.execAddi {u} : ∃ s', execAddi u s = .next s' ∧ Keeps s s' := by
  unfold Machine.execAddi
  refine ⟨_, rfl, ?_⟩
  with_reducible repeat' (first
    | assumption | exact Keeps.refl | apply Keeps.suDo | apply Keeps.suNext | apply Keeps.modA | intro _ _ _ | intro _ _ | split
    | dsimp only)

theorem Keeps.execFadd {u} : ∃ s', execFadd u s = .next s' ∧ Keeps s s' := by
  unfold Machine.execFadd
  refine ⟨_, rfl, ?_⟩
  with_reducible repeat' (first
    | assumption | exact Keeps.refl | apply Keeps.suDo | apply Keeps.suNext | apply Keeps.modA | intro _ _ _ | intro _ _
    | apply Keeps.ite | split | dsimp only)

theorem Keeps.execLoop {u} : ∃ s', execLoop u s = .next s' ∧ Keeps s s' := by
  unfold Machine.execLoop
  refine ⟨_, rfl, ?_⟩
  with_reducible repeat' (first
    | assumption | exact Keeps.refl | apply Keeps.suDo | apply Keeps.modL | apply Keeps.suFault | apply Keeps.suNext | intro _ _ _
    | intro _ _ | apply Keeps.ite | split | dsimp only)

theorem Keeps.execEndl {u} : ∃ s', execEndl u s = .next s' ∧ Keeps s s' := by
  unfold Machine.execEndl
  refine ⟨_, rfl, ?_⟩
  with_reducible repeat' (first
    | assumption | exact Keeps.refl | apply Keeps.suDo | apply Keeps.suNext | apply Keeps.modL | apply Keeps.suFault
    | apply Keeps.suGo | intro _ _ _ | intro _ _ | apply Keeps.ite | split | dsimp only)

theorem Keeps.suWait {u w} (hk : Keeps s0 s) : Keeps s0 (State.suWait s u w) := by
  unfold State.suWait
  with_reducible repeat' (first
    | assumption | exact Keeps.refl | apply Keeps.modUnit | intro _ _ _ | intro _ _ | split | dsimp only | apply Keeps.update)

theorem Keeps.suWaitPair {u b} (hk : Keeps s0 s) : Keeps s0 (State.suWaitPair s u b) := by
  unfold State.suWaitPair
  with_reducible repeat' (first
    | assumption | exact Keeps.refl | apply Keeps.suFault | apply Keeps.suWait | apply Keeps.ite | split | dsimp only
    | apply Keeps.update)

theorem Keeps.suWaitTiles {u ts tag} (hk : Keeps s0 s) : Keeps s0 (State.suWaitTiles s u ts tag) := by
  unfold State.suWaitTiles
  with_reducible repeat' (first
    | assumption | exact Keeps.refl | apply Keeps.countWaits | apply Keeps.demandFetch | apply Keeps.suWait | intro _ _ _
    | intro _ _ | apply Keeps.foldl | apply Keeps.foldlFst | apply Keeps.foldlSnd | apply Keeps.ite | split | dsimp only
    | apply Keeps.update)

theorem Keeps.movIssue {u w src dst n} (hk : Keeps s0 s) : Keeps s0 (State.movIssue s u w src dst n) := by
  unfold State.movIssue
  with_reducible repeat' (first
    | assumption | exact Keeps.refl | apply Keeps.readBy | apply Keeps.loaded | apply Keeps.put | apply Keeps.modA
    | apply Keeps.modPair | apply Keeps.modUnit | intro _ _ _ | intro _ _ | apply Keeps.ite | split | dsimp only
    | apply Keeps.update)

theorem Keeps.movInstr {u w} (hk : Keeps s0 s) : Keeps s0 (State.movInstr s u w) := by
  unfold State.movInstr
  with_reducible repeat' (first
    | assumption | exact Keeps.refl | exact fun _ h => h | apply Keeps.suFault | apply Keeps.suWaitPair | apply Keeps.suWaitTiles
    | apply Keeps.movIssue | apply Keeps.ite | split | dsimp only | apply Keeps.update)

theorem Keeps.execMov {u} : ∃ s', execMov u s = .next s' ∧ Keeps s s' := by
  unfold Machine.execMov
  refine ⟨_, rfl, ?_⟩
  with_reducible repeat' (first
    | assumption | exact Keeps.refl | apply Keeps.suDo | apply Keeps.movInstr | intro _ _ _ | intro _ _ | split | dsimp only)

theorem Keeps.movEnd {u k} (hk : Keeps s0 s) : Keeps s0 (State.movEnd s u k) := by
  unfold State.movEnd
  with_reducible repeat' (first
    | assumption | exact Keeps.refl | apply Keeps.modUnit | apply Keeps.modPair | apply Keeps.suNext | intro _ _ _ | intro _ _
    | apply Keeps.ite | split | dsimp only | apply Keeps.update)

theorem Keeps.execMovEnd {u k} : ∃ s', execMovEnd u k s = .next s' ∧ Keeps s s' := by
  unfold Machine.execMovEnd
  refine ⟨_, rfl, ?_⟩
  with_reducible repeat' (first | assumption | exact Keeps.refl | apply Keeps.movEnd | split | dsimp only)

theorem Keeps.execSwap {u} : ∃ s', execSwap u s = .next s' ∧ Keeps s s' := by
  unfold Machine.execSwap
  refine ⟨_, rfl, ?_⟩
  with_reducible repeat' (first
    | assumption | exact Keeps.refl | apply Keeps.suDo | apply Keeps.suFault | apply Keeps.suNext | apply Keeps.swapPair
    | apply Keeps.suWaitPair | intro _ _ _ | intro _ _ | apply Keeps.ite | split | dsimp only)

theorem Keeps.execWaitf {u} : ∃ s', execWaitf u s = .next s' ∧ Keeps s s' := by
  unfold Machine.execWaitf
  refine ⟨_, rfl, ?_⟩
  with_reducible repeat' (first
    | assumption | exact Keeps.refl | apply Keeps.suDo | apply Keeps.suFault | apply Keeps.suNext | apply Keeps.suWaitPair
    | intro _ _ _ | intro _ _ | apply Keeps.ite | split | dsimp only)

theorem Keeps.execWaitv {u} : ∃ s', execWaitv u s = .next s' ∧ Keeps s s' := by
  unfold Machine.execWaitv
  refine ⟨_, rfl, ?_⟩
  with_reducible repeat' (first
    | assumption | exact Keeps.refl | apply Keeps.suDo | apply Keeps.suFault | apply Keeps.suNext | apply Keeps.suWaitPair
    | intro _ _ _ | intro _ _ | apply Keeps.ite | split | dsimp only)

theorem Keeps.execRel {u} : ∃ s', execRel u s = .next s' ∧ Keeps s s' := by
  unfold Machine.execRel
  refine ⟨_, rfl, ?_⟩
  with_reducible repeat' (first
    | assumption | exact Keeps.refl | apply Keeps.suDo | apply Keeps.suNext | apply Keeps.modPair | apply Keeps.suFault
    | intro _ _ _ | intro _ _ | apply Keeps.ite | split | dsimp only)

theorem Keeps.execSig {u} : ∃ s', execSig u s = .next s' ∧ Keeps s s' := by
  unfold Machine.execSig
  refine ⟨_, rfl, ?_⟩
  with_reducible repeat' (first
    | assumption | exact Keeps.refl | apply Keeps.suDo | apply Keeps.modCore | apply Keeps.suNext | intro _ _ _ | intro _ _
    | apply Keeps.foldl | apply Keeps.foldlFst | apply Keeps.foldlSnd | apply Keeps.ite | split | dsimp only | apply Keeps.update)

theorem Keeps.execWsig {u} : ∃ s', execWsig u s = .next s' ∧ Keeps s s' := by
  unfold Machine.execWsig
  refine ⟨_, rfl, ?_⟩
  with_reducible repeat' (first
    | assumption | exact Keeps.refl | apply Keeps.suDo | apply Keeps.suNext | apply Keeps.modCore | apply Keeps.suWait
    | intro _ _ _ | intro _ _ | apply Keeps.ite | split | dsimp only | apply Keeps.update)

theorem Keeps.suArrive {u w ending} (hk : Keeps s0 s) : Keeps s0 (State.suArrive s u w ending) := by
  unfold State.suArrive
  with_reducible repeat' (first
    | assumption | exact Keeps.refl | apply Keeps.suFault | apply Keeps.releaseIfFull | apply Keeps.countArrival
    | apply Keeps.suWait | split | dsimp only | apply Keeps.update)

theorem Keeps.execStreamBar {u} : ∃ s', execStreamBar u s = .next s' ∧ Keeps s s' := by
  unfold Machine.execStreamBar
  refine ⟨_, rfl, ?_⟩
  with_reducible repeat' (first
    | assumption | exact Keeps.refl | apply Keeps.suDo | apply Keeps.suArrive | intro _ _ _ | intro _ _ | split | dsimp only)

theorem Keeps.execStreamEnd {u} : ∃ s', execStreamEnd u s = .next s' ∧ Keeps s s' := by
  unfold Machine.execStreamEnd
  refine ⟨_, rfl, ?_⟩
  with_reducible repeat' (first
    | assumption | exact Keeps.refl | apply Keeps.suDo | apply Keeps.suArrive | apply Keeps.modUnit | intro _ _ _ | intro _ _
    | apply Keeps.ite | split | dsimp only | apply Keeps.update)

theorem Keeps.execStreamEpoch {u} : ∃ s', execStreamEpoch u s = .next s' ∧ Keeps s s' := by
  unfold Machine.execStreamEpoch
  refine ⟨_, rfl, ?_⟩
  with_reducible repeat' (first
    | assumption | exact Keeps.refl | apply Keeps.suDo | apply Keeps.suNext | apply Keeps.modUnit | intro _ _ _ | intro _ _ | split
    | dsimp only | apply Keeps.update)

theorem Keeps.execDline {u} : ∃ s', execDline u s = .next s' ∧ Keeps s s' := by
  unfold Machine.execDline
  refine ⟨_, rfl, ?_⟩
  with_reducible repeat' (first
    | assumption | exact Keeps.refl | apply Keeps.suDo | apply Keeps.suNext | apply Keeps.modUnit | apply Keeps.suFault
    | intro _ _ _ | intro _ _ | apply Keeps.ite | split | dsimp only | apply Keeps.update)

theorem Keeps.beginFrame {u} (hk : Keeps s0 s) : Keeps s0 (State.beginFrame s u) := by
  unfold State.beginFrame
  with_reducible repeat' (first
    | assumption | exact Keeps.refl | apply Keeps.modUnit | intro _ _ _ | intro _ _ | apply Keeps.ite | split | dsimp only
    | apply Keeps.update)

theorem Keeps.unitMiss {u} (hk : Keeps s0 s) : Keeps s0 (State.unitMiss s u) := by
  unfold State.unitMiss
  with_reducible repeat' (first
    | assumption | exact Keeps.refl | apply Keeps.modUnit | apply Keeps.miss | intro _ _ _ | intro _ _ | split | dsimp only
    | apply Keeps.update)

theorem Keeps.execFend {u} : ∃ s', execFend u s = .next s' ∧ Keeps s s' := by
  unfold Machine.execFend
  refine ⟨_, rfl, ?_⟩
  with_reducible repeat' (first
    | assumption | exact Keeps.refl | apply Keeps.suDo | apply Keeps.suFault | apply Keeps.unitMiss | apply Keeps.beginFrame
    | apply Keeps.modUnit | intro _ _ _ | intro _ _ | apply Keeps.ite | split | dsimp only | apply Keeps.update)

theorem Keeps.modRt {p f} (hk : Keeps s0 s) : Keeps s0 (State.modRt s p f) := by
  unfold State.modRt
  with_reducible repeat' (first
    | assumption | exact Keeps.refl | exact fun _ h => h | apply Keeps.modPrt | intro _ _ _ | intro _ _ | split | dsimp only
    | apply Keeps.update)

theorem Keeps.rtCtl {p v} (hk : Keeps s0 s) : Keeps s0 (State.rtCtl s p v) := by
  unfold State.rtCtl
  with_reducible repeat' (first
    | assumption | exact Keeps.refl | apply Keeps.modRt | intro _ _ _ | intro _ _ | apply Keeps.ite | split | dsimp only
    | apply Keeps.update)

theorem Keeps.execRtCtlWrite {p v} : ∃ s', execRtCtlWrite p v s = .next s' ∧ Keeps s s' := by
  unfold Machine.execRtCtlWrite
  refine ⟨_, rfl, ?_⟩
  with_reducible repeat' (first | assumption | exact Keeps.refl | apply Keeps.rtCtl | split | dsimp only)

theorem Keeps.frameStart {p} (hk : Keeps s0 s) : Keeps s0 (State.frameStart s p) := by
  unfold State.frameStart
  with_reducible repeat' (first
    | assumption | exact Keeps.refl | apply Keeps.wakePartition | apply Keeps.modRt | apply Keeps.busyNow | apply Keeps.beginFrame
    | intro _ _ _ | intro _ _ | apply Keeps.foldl | apply Keeps.foldlFst | apply Keeps.foldlSnd | apply Keeps.ite | split
    | dsimp only | apply Keeps.update)

theorem Keeps.execFrameStart {p} : ∃ s', execFrameStart p s = .next s' ∧ Keeps s s' := by
  unfold Machine.execFrameStart
  refine ⟨_, rfl, ?_⟩
  with_reducible repeat' (first | assumption | exact Keeps.refl | apply Keeps.frameStart | split | dsimp only)

theorem Keeps.earlyWake {p} (hk : Keeps s0 s) : Keeps s0 (State.earlyWake s p) := by
  unfold State.earlyWake
  with_reducible repeat' (first
    | assumption | exact Keeps.refl | apply Keeps.wakeQuads | intro _ _ _ | intro _ _ | apply Keeps.foldl | apply Keeps.foldlFst
    | apply Keeps.foldlSnd | apply Keeps.ite | split | dsimp only)

theorem Keeps.execFrameEarlyWake {p} : ∃ s', execFrameEarlyWake p s = .next s' ∧ Keeps s s' := by
  unfold Machine.execFrameEarlyWake
  refine ⟨_, rfl, ?_⟩
  with_reducible repeat' (first | assumption | exact Keeps.refl | apply Keeps.earlyWake | split | dsimp only)

theorem Keeps.missPolicy {u} (hk : Keeps s0 s) : Keeps s0 (State.missPolicy s u) := by
  unfold State.missPolicy
  with_reducible repeat' (first
    | assumption | exact Keeps.refl | apply Keeps.modUnit | apply Keeps.spoilTiles | apply Keeps.modPair | intro _ _ _ | intro _ _
    | apply Keeps.foldl | apply Keeps.foldlFst | apply Keeps.foldlSnd | split | dsimp only | apply Keeps.update)

theorem Keeps.unitDeadline {u} (hk : Keeps s0 s) : Keeps s0 (State.unitDeadline s u) := by
  unfold State.unitDeadline
  with_reducible repeat' (first
    | assumption | exact Keeps.refl | apply Keeps.missPolicy | apply Keeps.unitMiss | apply Keeps.ite | split | dsimp only)

theorem Keeps.cmdDeadline {c} (hk : Keeps s0 s) : Keeps s0 (State.cmdDeadline s c) := by
  unfold State.cmdDeadline
  with_reducible repeat' (first
    | assumption | exact Keeps.refl | apply Keeps.noteReady | apply Keeps.complete | apply Keeps.cmdMiss | apply Keeps.ite | split
    | dsimp only | apply Keeps.update)

theorem Keeps.execDeadlinePass {w} : ∃ s', execDeadlinePass w s = .next s' ∧ Keeps s s' := by
  unfold Machine.execDeadlinePass
  refine ⟨_, rfl, ?_⟩
  with_reducible repeat' (first
    | assumption | exact Keeps.refl | apply Keeps.unitDeadline | apply Keeps.cmdDeadline | split | dsimp only | apply Keeps.update)

theorem Keeps.pairResult {b r} (hk : Keeps s0 s) : Keeps s0 (State.pairResult s b r) := by
  unfold State.pairResult
  with_reducible repeat' (first
    | assumption | exact Keeps.refl | apply Keeps.modCore | intro _ _ _ | intro _ _ | split | dsimp only | apply Keeps.update)

theorem Keeps.pairBusy {b} (hk : Keeps s0 s) : Keeps s0 (State.pairBusy s b) := by
  unfold State.pairBusy
  with_reducible repeat' (first
    | assumption | exact Keeps.refl | apply Keeps.modCore | intro _ _ _ | intro _ _ | split | dsimp only | apply Keeps.update)

theorem Keeps.bindMoves {b} (hk : Keeps s0 s) : Keeps s0 (State.bindMoves s b) := by
  unfold State.bindMoves
  with_reducible repeat' (first
    | assumption | exact Keeps.refl | apply Keeps.startMove | intro _ _ _ | intro _ _ | apply Keeps.foldl | apply Keeps.foldlFst
    | apply Keeps.foldlSnd | apply Keeps.ite | split | dsimp only | apply Keeps.update)

theorem Keeps.pairBind {b} (hk : Keeps s0 s) : Keeps s0 (State.pairBind s b) := by
  unfold State.pairBind
  with_reducible repeat' (first
    | assumption | exact Keeps.refl | exact fun _ h => h | apply Keeps.pairBusy | apply Keeps.pairResult | apply Keeps.modPair
    | apply Keeps.modCore | apply Keeps.modMem | apply Keeps.busyNow | apply Keeps.bindMoves | intro _ _ _ | intro _ _
    | apply Keeps.ite | split | dsimp only | apply Keeps.update)

theorem Keeps.execPairBind {b} : ∃ s', execPairBind b s = .next s' ∧ Keeps s s' := by
  unfold Machine.execPairBind
  refine ⟨_, rfl, ?_⟩
  with_reducible repeat' (first | assumption | exact Keeps.refl | apply Keeps.pairBind | split | dsimp only)

theorem Keeps.unbindTiles {b} (hk : Keeps s0 s) : Keeps s0 (State.unbindTiles s b) := by
  unfold State.unbindTiles
  with_reducible repeat' (first
    | assumption | exact Keeps.refl | exact fun _ h => h | apply Keeps.modTile | apply Keeps.moveTo | intro _ _ _ | intro _ _
    | apply Keeps.foldl | apply Keeps.foldlFst | apply Keeps.foldlSnd | split | dsimp only | apply Keeps.update)

theorem Keeps.bindDone {b} (hk : Keeps s0 s) : Keeps s0 (State.bindDone s b) := by
  unfold State.bindDone
  with_reducible repeat' (first
    | assumption | exact Keeps.refl | exact fun _ h => h | apply Keeps.pairResult | apply Keeps.modPair | apply Keeps.bindMoves
    | apply Keeps.unbindTiles | intro _ _ _ | intro _ _ | apply Keeps.ite | split | dsimp only | apply Keeps.update)

theorem Keeps.execPairBindDone {b} : ∃ s', execPairBindDone b s = .next s' ∧ Keeps s s' := by
  unfold Machine.execPairBindDone
  refine ⟨_, rfl, ?_⟩
  with_reducible repeat' (first | assumption | exact Keeps.refl | apply Keeps.bindDone | split | dsimp only)

theorem Keeps.pairUnbind {b} (hk : Keeps s0 s) : Keeps s0 (State.pairUnbind s b) := by
  unfold State.pairUnbind
  with_reducible repeat' (first
    | assumption | exact Keeps.refl | apply Keeps.pairBusy | apply Keeps.pairResult | apply Keeps.modPair | apply Keeps.unbindTiles
    | intro _ _ _ | intro _ _ | apply Keeps.ite | split | dsimp only)

theorem Keeps.execPairUnbind {b} : ∃ s', execPairUnbind b s = .next s' ∧ Keeps s s' := by
  unfold Machine.execPairUnbind
  refine ⟨_, rfl, ?_⟩
  with_reducible repeat' (first | assumption | exact Keeps.refl | apply Keeps.pairUnbind | split | dsimp only)

theorem Keeps.pairReset {b} (hk : Keeps s0 s) : Keeps s0 (State.pairReset s b) := by
  unfold State.pairReset
  with_reducible repeat' (first
    | assumption | exact Keeps.refl | apply Keeps.pairBusy | apply Keeps.pairResult | apply Keeps.modPair | intro _ _ _ | intro _ _
    | apply Keeps.ite | split | dsimp only | apply Keeps.update)

theorem Keeps.execPairReset {b} : ∃ s', execPairReset b s = .next s' ∧ Keeps s s' := by
  unfold Machine.execPairReset
  refine ⟨_, rfl, ?_⟩
  with_reducible repeat' (first | assumption | exact Keeps.refl | apply Keeps.pairReset | split | dsimp only)

theorem Keeps.pairAutoSwap {b} (hk : Keeps s0 s) : Keeps s0 (State.pairAutoSwap s b) := by
  unfold State.pairAutoSwap
  with_reducible repeat' (first
    | assumption | exact Keeps.refl | apply Keeps.modPair | apply Keeps.swapPair | intro _ _ _ | intro _ _ | apply Keeps.ite
    | split | dsimp only | apply Keeps.update)

theorem Keeps.execPairAutoSwap {b} : ∃ s', execPairAutoSwap b s = .next s' ∧ Keeps s s' := by
  unfold Machine.execPairAutoSwap
  refine ⟨_, rfl, ?_⟩
  with_reducible repeat' (first | assumption | exact Keeps.refl | apply Keeps.pairAutoSwap | split | dsimp only)

theorem Keeps.execPairWaitTimeout {w} : ∃ s', execPairWaitTimeout w s = .next s' ∧ Keeps s s' := by
  unfold Machine.execPairWaitTimeout
  refine ⟨_, rfl, ?_⟩
  with_reducible repeat' (first
    | assumption | exact Keeps.refl | apply Keeps.suWaitPair | apply Keeps.opInstant | apply Keeps.letPairsGo | apply Keeps.ite
    | split | dsimp only | apply Keeps.update)

/-! ### Machine/Moves.lean -/

theorem Keeps.modDesc {w f} (hk : Keeps s0 s) : Keeps s0 (State.modDesc s w f) := by
  unfold State.modDesc
  with_reducible repeat' (first
    | assumption | exact Keeps.refl | apply Keeps.modOp | apply Keeps.modChan | intro _ _ _ | intro _ _ | split | dsimp only
    | apply Keeps.update)

theorem Keeps.copyBegin {p t} (hk : Keeps s0 s) : Keeps s0 (State.copyBegin s p t) := by
  unfold State.copyBegin
  with_reducible repeat' (first
    | assumption | exact Keeps.refl | apply Keeps.modTile | intro _ _ _ | intro _ _ | apply Keeps.ite | split | dsimp only
    | apply Keeps.update)

theorem Keeps.execMoveCopyBegin {p t} : ∃ s', execMoveCopyBegin p t s = .next s' ∧ Keeps s s' := by
  unfold Machine.execMoveCopyBegin
  refine ⟨_, rfl, ?_⟩
  with_reducible repeat' (first | assumption | exact Keeps.refl | apply Keeps.copyBegin | split | dsimp only)

theorem Keeps.clearsDone {p} (hk : Keeps s0 s) : Keeps s0 (State.clearsDone s p) := by
  unfold State.clearsDone
  with_reducible repeat' (first
    | assumption | exact Keeps.refl | apply Keeps.clearDone | intro _ _ _ | intro _ _ | apply Keeps.foldl | apply Keeps.foldlFst
    | apply Keeps.foldlSnd | split | dsimp only)

theorem Keeps.hintDone {c p t ok} (hk : Keeps s0 s) : Keeps s0 (State.hintDone s c p t ok) := by
  unfold State.hintDone
  with_reducible repeat' (first
    | assumption | exact Keeps.refl | exact fun _ h => h | apply Keeps.finish | apply Keeps.ite | split | dsimp only
    | apply Keeps.update)

theorem Keeps.scarabMoved {p rec_ mb t dst ok} (hk : Keeps s0 s) : Keeps s0 (State.scarabMoved s p rec_ mb t dst ok) := by
  unfold State.scarabMoved
  with_reducible repeat' (first
    | assumption | exact Keeps.refl | apply Keeps.checkReady | apply Keeps.expand | apply Keeps.dropTile | apply Keeps.squeezeTile
    | apply Keeps.ite | split | dsimp only | apply Keeps.update)

theorem Keeps.moveOver {p t m ok} (hk : Keeps s0 s) : Keeps s0 (State.moveOver s p t m ok) := by
  unfold State.moveOver
  with_reducible repeat' (first
    | assumption | exact Keeps.refl | apply Keeps.hintDone | apply Keeps.modDesc | apply Keeps.scarabMoved | apply Keeps.serveWaits
    | apply Keeps.clearsDone | intro _ _ _ | intro _ _ | split | dsimp only | apply Keeps.update)

theorem Keeps.moveComplete {p t} (hk : Keeps s0 s) : Keeps s0 (State.moveComplete s p t) := by
  unfold State.moveComplete
  with_reducible repeat' (first
    | assumption | exact Keeps.refl | apply Keeps.settle | apply Keeps.modTile | apply Keeps.zeroTile | apply Keeps.moveOver
    | intro _ _ _ | intro _ _ | apply Keeps.ite | split | dsimp only | apply Keeps.update)

theorem Keeps.execMoveComplete {p t} : ∃ s', execMoveComplete p t s = .next s' ∧ Keeps s s' := by
  unfold Machine.execMoveComplete
  refine ⟨_, rfl, ?_⟩
  with_reducible repeat' (first | assumption | exact Keeps.refl | apply Keeps.moveComplete | split | dsimp only)

theorem Keeps.destFail {p t} (hk : Keeps s0 s) : Keeps s0 (State.destFail s p t) := by
  unfold State.destFail
  with_reducible repeat' (first
    | assumption | exact Keeps.refl | apply Keeps.modTile | apply Keeps.moveOver | apply Keeps.zeroTile | apply Keeps.evict
    | intro _ _ _ | intro _ _ | apply Keeps.ite | split | dsimp only | apply Keeps.update)

theorem Keeps.execMoveDestinationFail {p t} : ∃ s', execMoveDestinationFail p t s = .next s' ∧ Keeps s s' := by
  unfold Machine.execMoveDestinationFail
  refine ⟨_, rfl, ?_⟩
  with_reducible repeat' (first | assumption | exact Keeps.refl | apply Keeps.destFail | split | dsimp only)

theorem Keeps.promoteTile {p t} (hk : Keeps s0 s) : Keeps s0 (State.promoteTile s p t) := by
  unfold State.promoteTile
  with_reducible repeat' (first
    | assumption | exact Keeps.refl | exact fun _ h => h | apply Keeps.startMove | intro _ _ _ | intro _ _ | apply Keeps.ite
    | split | dsimp only | apply Keeps.update)

theorem Keeps.execBackgroundPromotion {p t} : ∃ s', execBackgroundPromotion p t s = .next s' ∧ Keeps s s' := by
  unfold Machine.execBackgroundPromotion
  refine ⟨_, rfl, ?_⟩
  with_reducible repeat' (first | assumption | exact Keeps.refl | apply Keeps.promoteTile | split | dsimp only)

theorem Keeps.countCe {a1 d} (hk : Keeps s0 s) : Keeps s0 (State.countCe s a1 d) := by
  unfold State.countCe
  with_reducible repeat' (first | assumption | exact Keeps.refl | intro _ _ _ | intro _ _ | split | dsimp only | apply Keeps.update)

theorem Keeps.countUe {a1 d} (hk : Keeps s0 s) : Keeps s0 (State.countUe s a1 d) := by
  unfold State.countUe
  with_reducible repeat' (first | assumption | exact Keeps.refl | intro _ _ _ | intro _ _ | split | dsimp only | apply Keeps.update)

theorem Keeps.spoilOp {o p k op} (hk : Keeps s0 s) : Keeps s0 (State.spoilOp s o p k op) := by
  unfold State.spoilOp
  with_reducible repeat' (first
    | assumption | exact Keeps.refl | apply Keeps.spoil | apply Keeps.ite | split | dsimp only | apply Keeps.update)

theorem Keeps.failOp {o st d} (hk : Keeps s0 s) : Keeps s0 (State.failOp s o st d) := by
  unfold State.failOp
  with_reducible repeat' (first
    | assumption | exact Keeps.refl | apply Keeps.modDesc | apply Keeps.modOp | apply Keeps.letPairsGo | apply Keeps.spoilOp
    | apply Keeps.opEnd | apply Keeps.dropRun | apply Keeps.opInstant | intro _ _ _ | intro _ _ | apply Keeps.ite | split
    | dsimp only | apply Keeps.update)

theorem Keeps.failRequest {w p st d} (hk : Keeps s0 s) : Keeps s0 (State.failRequest s w p st d) := by
  unfold State.failRequest
  with_reducible repeat' (first
    | assumption | exact Keeps.refl | apply Keeps.modUpd | apply Keeps.stopUpdate | apply Keeps.finish | apply Keeps.noteServed
    | apply Keeps.failOp | apply Keeps.suFault | apply Keeps.modDesc | apply Keeps.emit | apply Keeps.windowPoison
    | apply Keeps.hostBytes | intro _ _ _ | intro _ _ | apply Keeps.ite | split | dsimp only | apply Keeps.update)

theorem Keeps.poisonBehind {p t ws} (hk : Keeps s0 s) : Keeps s0 (State.poisonBehind s p t ws) := by
  unfold State.poisonBehind
  exact Keeps.serveWaits (Keeps.foldl hk fun _ _ h => Keeps.failOp h)

theorem Keeps.tileFails {p t w d late check} (hk : Keeps s0 s) : Keeps s0 (State.tileFails s p t w d late check) := by
  unfold State.tileFails
  with_reducible repeat' (first
    | assumption | exact Keeps.refl | apply Keeps.poison | apply Keeps.countUe | apply Keeps.poisonBehind | apply Keeps.failRequest
    | apply Keeps.moveOver | apply Keeps.zeroTile | apply Keeps.ite | split | dsimp only | apply Keeps.update)

theorem Keeps.heldLost {fn i} (hk : Keeps s0 s) : Keeps s0 (State.heldLost s fn i) := by
  unfold State.heldLost
  with_reducible repeat' (first
    | assumption | exact Keeps.refl | apply Keeps.modFn | apply Keeps.countUe | intro _ _ _ | intro _ _ | split | dsimp only
    | apply Keeps.update)

theorem Keeps.accessFail {p t w k d} (hk : Keeps s0 s) : Keeps s0 (State.accessFail s p t w k d) := by
  unfold State.accessFail
  with_reducible repeat' (first
    | assumption | exact Keeps.refl | apply Keeps.countCe | apply Keeps.tileFails | apply Keeps.heldLost | apply Keeps.ite | split
    | dsimp only | apply Keeps.update)

theorem Keeps.execTierAccessFail {p t w k d} : ∃ s', execTierAccessFail p t w k d s = .next s' ∧ Keeps s s' := by
  unfold Machine.execTierAccessFail
  refine ⟨_, rfl, ?_⟩
  with_reducible repeat' (first | assumption | exact Keeps.refl | apply Keeps.accessFail | split | dsimp only)

theorem Keeps.execTierAccessLate {p t w d} : ∃ s', execTierAccessLate p t w d s = .next s' ∧ Keeps s s' := by
  unfold Machine.execTierAccessLate
  refine ⟨_, rfl, ?_⟩
  with_reducible repeat' (first
    | assumption | exact Keeps.refl | apply Keeps.tileFails | intro _ _ _ | intro _ _ | apply Keeps.ite | split | dsimp only)

theorem Keeps.unitFails {m} (hk : Keeps s0 s) : Keeps s0 (State.unitFails s m) := by
  unfold State.unitFails
  with_reducible repeat' (first
    | assumption | exact Keeps.refl | apply Keeps.postDev | intro _ _ _ | intro _ _ | apply Keeps.ite | split | dsimp only
    | apply Keeps.update)

theorem Keeps.execMemoryUnitDown {m} : ∃ s', execMemoryUnitDown m s = .next s' ∧ Keeps s s' := by
  unfold Machine.execMemoryUnitDown
  refine ⟨_, rfl, ?_⟩
  with_reducible repeat' (first | assumption | exact Keeps.refl | apply Keeps.unitFails | apply Keeps.ite | split | dsimp only)

theorem Keeps.execTierSettingWrite {off v} : ∃ s', execTierSettingWrite off v s = .next s' ∧ Keeps s s' := by
  unfold Machine.execTierSettingWrite
  refine ⟨_, rfl, ?_⟩
  with_reducible repeat' (first | assumption | exact Keeps.refl | apply Keeps.ite | split | dsimp only | apply Keeps.update)

theorem Keeps.execStagingQuotaWrite {p v} : ∃ s', execStagingQuotaWrite p v s = .next s' ∧ Keeps s s' := by
  unfold Machine.execStagingQuotaWrite
  refine ⟨_, rfl, ?_⟩
  with_reducible repeat' (first
    | assumption | exact Keeps.refl | intro _ _ _ | intro _ _ | apply Keeps.ite | split | dsimp only | apply Keeps.update)

theorem Keeps.quarTimeout {w} (hk : Keeps s0 s) : Keeps s0 (State.quarTimeout s w) := by
  unfold State.quarTimeout
  with_reducible repeat' (first
    | assumption | exact Keeps.refl | apply Keeps.failRequest | intro _ _ _ | intro _ _ | apply Keeps.ite | split | dsimp only
    | apply Keeps.update)

theorem Keeps.execQuarantineWaitTimeout {w} : ∃ s', execQuarantineWaitTimeout w s = .next s' ∧ Keeps s s' := by
  unfold Machine.execQuarantineWaitTimeout
  refine ⟨_, rfl, ?_⟩
  with_reducible repeat' (first | assumption | exact Keeps.refl | apply Keeps.quarTimeout | split | dsimp only)

/-! ### Machine/Mover.lean -/

theorem Keeps.opDenied (hk : Keeps s0 s) : Keeps s0 (State.opDenied s) := by
  unfold State.opDenied
  with_reducible repeat' (first
    | assumption | exact Keeps.refl | apply Keeps.modOpw | intro _ _ _ | intro _ _ | split | dsimp only | apply Keeps.update)

theorem Keeps.metered {r p} {f : State → State} (hk : Keeps s0 s) (hf : ∀ s, Keeps s0 s → Keeps s0 (f s)) : Keeps s0 (State.metered s r p f) := by
  unfold State.metered
  with_reducible repeat' (first
    | assumption | exact Keeps.refl | exact fun _ h => h | exact fun _ h => ⟨Nat.le_refl _, h⟩ | exact ⟨Nat.le_refl _, ‹_›⟩
    | apply hf | apply Keeps.modPrt | intro _ _ _ | intro _ _ | apply writeBytes_wf | apply clearBytes_wf | apply storeAll_wf
    | apply swapBytes_wf | apply Keeps.foldl | apply Keeps.foldlFst | apply Keeps.foldlSnd | apply Keeps.ite | split | dsimp only
    | apply Keeps.update)

theorem Keeps.transferWaits {w d p t tag} (hk : Keeps s0 s) : Keeps s0 (State.transferWaits s w d p t tag) := by
  unfold State.transferWaits
  with_reducible repeat' (first
    | assumption | exact Keeps.refl | apply Keeps.countWaits | apply Keeps.modDesc | apply Keeps.demandFetch | intro _ _ _
    | intro _ _ | apply Keeps.ite | split | dsimp only | apply Keeps.update)

theorem Keeps.transferAccess {w r d p t poisonOk} {act : State → State} (hk : Keeps s0 s) (hf : ∀ s, Keeps s0 s → Keeps s0 (act s)) : Keeps s0 (State.transferAccess s w r d p t poisonOk act) := by
  unfold State.transferAccess
  with_reducible repeat' (first
    | assumption | exact Keeps.refl | exact fun _ h => h | exact fun _ h => ⟨Nat.le_refl _, h⟩ | exact ⟨Nat.le_refl _, ‹_›⟩
    | apply hf | apply Keeps.opDenied | apply Keeps.modDesc | apply Keeps.transferWaits | intro _ _ _ | intro _ _
    | apply writeBytes_wf | apply clearBytes_wf | apply storeAll_wf | apply swapBytes_wf | apply Keeps.foldl | apply Keeps.foldlFst
    | apply Keeps.foldlSnd | apply Keeps.ite | split | dsimp only | apply Keeps.update)

theorem Keeps.transferDone {w} (hk : Keeps s0 s) : Keeps s0 (State.transferDone s w) := by
  unfold State.transferDone
  with_reducible repeat' (first
    | assumption | exact Keeps.refl | apply Keeps.modDesc | intro _ _ _ | intro _ _ | apply Keeps.ite | split | dsimp only
    | apply Keeps.update)

theorem Keeps.h2tPiece {w r d data} (hk : Keeps s0 s) : Keeps s0 (State.h2tPiece s w r d data) := by
  unfold State.h2tPiece
  with_reducible repeat' (first
    | assumption | exact Keeps.refl | apply Keeps.transferAccess | apply Keeps.hostBytes | apply Keeps.metered | apply Keeps.put
    | apply Keeps.transferDone | apply Keeps.modDesc | intro _ _ _ | intro _ _ | apply Keeps.ite | split | dsimp only
    | apply Keeps.update)

theorem Keeps.transferRead {w r p a n} (hk : Keeps s0 s) : Keeps s0 (State.transferRead s w r p a n) := by
  unfold State.transferRead
  with_reducible repeat' (first
    | assumption | exact Keeps.refl | apply Keeps.metered | apply Keeps.loaded | apply Keeps.readBy | intro _ _ _ | intro _ _
    | split | dsimp only | apply Keeps.update)

theorem Keeps.t2hPiece {w r d} (hk : Keeps s0 s) : Keeps s0 (State.t2hPiece s w r d) := by
  unfold State.t2hPiece
  with_reducible repeat' (first
    | assumption | exact Keeps.refl | apply Keeps.transferAccess | apply Keeps.transferRead | apply Keeps.dataWrite
    | apply Keeps.hostWrite | apply Keeps.transferDone | apply Keeps.modDesc | intro _ _ _ | intro _ _ | apply Keeps.ite | split
    | dsimp only | apply Keeps.update)

theorem Keeps.t2tPiece {w r d} (hk : Keeps s0 s) : Keeps s0 (State.t2tPiece s w r d) := by
  unfold State.t2tPiece
  with_reducible repeat' (first
    | assumption | exact Keeps.refl | apply Keeps.transferAccess | apply Keeps.metered | apply Keeps.put | apply Keeps.transferDone
    | apply Keeps.modDesc | apply Keeps.transferRead | intro _ _ _ | intro _ _ | apply Keeps.ite | split | dsimp only
    | apply Keeps.update)

theorem Keeps.placeTile {w r d} (hk : Keeps s0 s) : Keeps s0 (State.placeTile s w r d) := by
  unfold State.placeTile
  with_reducible repeat' (first
    | assumption | exact Keeps.refl | exact fun _ h => h | apply Keeps.transferAccess | apply Keeps.modDesc | apply Keeps.moveTo
    | intro _ _ _ | intro _ _ | apply Keeps.ite | split | dsimp only | apply Keeps.update)

theorem Keeps.transferStep {w kind data} (hk : Keeps s0 s) : Keeps s0 (State.transferStep s w kind data) := by
  unfold State.transferStep
  with_reducible repeat' (first
    | assumption | exact Keeps.refl | apply Keeps.h2tPiece | apply Keeps.t2hPiece | apply Keeps.t2tPiece | apply Keeps.modDesc
    | apply Keeps.placeTile | intro _ _ _ | intro _ _ | apply Keeps.ite | split | dsimp only | apply Keeps.update)

theorem Keeps.execH2t {m data} : ∃ s', execH2t m data s = .next s' ∧ Keeps s s' := by
  unfold Machine.execH2t
  refine ⟨_, rfl, ?_⟩
  with_reducible repeat' (first | assumption | exact Keeps.refl | apply Keeps.transferStep | split | dsimp only)

theorem Keeps.execT2h {m} : ∃ s', execT2h m s = .next s' ∧ Keeps s s' := by
  unfold Machine.execT2h
  refine ⟨_, rfl, ?_⟩
  with_reducible repeat' (first | assumption | exact Keeps.refl | apply Keeps.transferStep | split | dsimp only)

theorem Keeps.execT2t {m} : ∃ s', execT2t m s = .next s' ∧ Keeps s s' := by
  unfold Machine.execT2t
  refine ⟨_, rfl, ?_⟩
  with_reducible repeat' (first | assumption | exact Keeps.refl | apply Keeps.transferStep | split | dsimp only)

theorem Keeps.execPlace {m} : ∃ s', execPlace m s = .next s' ∧ Keeps s s' := by
  unfold Machine.execPlace
  refine ⟨_, rfl, ?_⟩
  with_reducible repeat' (first | assumption | exact Keeps.refl | apply Keeps.transferStep | split | dsimp only)

theorem Keeps.level_fst {m r} (hk : Keeps s0 s) : Keeps s0 (State.level s m r).2 := by
  unfold State.level
  with_reducible repeat' (first
    | assumption | exact Keeps.refl | exact fun _ h => h | apply Keeps.took | apply Keeps.modChan | apply Keeps.opDenied
    | apply Keeps.demandFetch | apply Keeps.transferRead | intro _ _ _ | intro _ _ | apply Keeps.ite | split | dsimp only
    | apply Keeps.update)

theorem Keeps.level {m r} {x} (he : State.level s m r = (x, s')) (hk : Keeps s0 s) : Keeps s0 s' := by
  have h := Keeps.level_fst (m := m) (r := r) hk
  rw [he] at h
  exact h

theorem Keeps.paceFault {m r st} (hk : Keeps s0 s) : Keeps s0 (State.paceFault s m r st) := by
  unfold State.paceFault
  with_reducible repeat' (first
    | assumption | exact Keeps.refl | apply Keeps.post | apply Keeps.modChan | intro _ _ _ | intro _ _ | apply Keeps.ite | split
    | dsimp only | apply Keeps.update)

theorem Keeps.pace {m} (hk : Keeps s0 s) : Keeps s0 (State.pace s m) := by
  unfold State.pace
  with_reducible repeat' (first
    | assumption | exact Keeps.refl | apply Keeps.modChan | intro _ _ _ | intro _ _ | split | dsimp only | apply Keeps.update)

theorem Keeps.pacePoll {m} (hk : Keeps s0 s) : Keeps s0 (State.pacePoll s m) := by
  unfold State.pacePoll
  with_reducible repeat' (first
    | assumption | exact Keeps.refl | apply Keeps.modChan | apply Keeps.paceFault | apply Keeps.level_fst | intro _ _ _ | intro _ _
    | apply Keeps.ite | split | refine Keeps.level ‹_› ?_ | dsimp only | apply Keeps.update)

theorem Keeps.execPaceLevelPoll {m} : ∃ s', execPaceLevelPoll m s = .next s' ∧ Keeps s s' := by
  unfold Machine.execPaceLevelPoll
  refine ⟨_, rfl, ?_⟩
  with_reducible repeat' (first | assumption | exact Keeps.refl | apply Keeps.pacePoll | split | dsimp only)

theorem Keeps.paceRelease {m} (hk : Keeps s0 s) : Keeps s0 (State.paceRelease s m) := by
  unfold State.paceRelease
  with_reducible repeat' (first
    | assumption | exact Keeps.refl | apply Keeps.modChan | apply Keeps.level_fst | intro _ _ _ | intro _ _ | apply Keeps.ite
    | split | refine Keeps.level ‹_› ?_ | dsimp only | apply Keeps.update)

theorem Keeps.execPaceRelease {m} : ∃ s', execPaceRelease m s = .next s' ∧ Keeps s s' := by
  unfold Machine.execPaceRelease
  refine ⟨_, rfl, ?_⟩
  with_reducible repeat' (first | assumption | exact Keeps.refl | apply Keeps.paceRelease | split | dsimp only)

theorem Keeps.paceWrite {r v} (hk : Keeps s0 s) : Keeps s0 (State.paceWrite s r v) := by
  unfold State.paceWrite
  with_reducible repeat' (first
    | assumption | exact Keeps.refl | apply Keeps.modRing | intro _ _ _ | intro _ _ | apply Keeps.ite | split | dsimp only
    | apply Keeps.update)

theorem Keeps.execMvPaceWrite {r v} : ∃ s', execMvPaceWrite r v s = .next s' ∧ Keeps s s' := by
  unfold Machine.execMvPaceWrite
  refine ⟨_, rfl, ?_⟩
  with_reducible repeat' (first | assumption | exact Keeps.refl | apply Keeps.paceWrite | split | dsimp only)

theorem Keeps.descRead {r at_} (hk : Keeps s0 s) : Keeps s0 (State.descRead s r at_) := by
  unfold State.descRead
  with_reducible repeat' (first
    | assumption | exact Keeps.refl | apply Keeps.cacheIn | apply Keeps.hostBytes | apply Keeps.ite | split | dsimp only)

theorem Keeps.descTake {m r at_ b} (hk : Keeps s0 s) : Keeps s0 (State.descTake s m r at_ b) := by
  unfold State.descTake
  with_reducible repeat' (first
    | assumption | exact Keeps.refl | apply Keeps.busyFn | apply Keeps.bellDone | apply Keeps.descRead | apply Keeps.opDenied
    | apply Keeps.modChan | intro _ _ _ | intro _ _ | apply Keeps.ite | split | dsimp only | apply Keeps.update)

theorem Keeps.descStart {r b} (hk : Keeps s0 s) : Keeps s0 (State.descStart s r b) := by
  unfold State.descStart
  with_reducible repeat' (first
    | assumption | exact Keeps.refl | apply Keeps.writeback | apply Keeps.descRead | apply Keeps.descTake | apply Keeps.bellDone
    | apply Keeps.pace | apply Keeps.paceFault | apply Keeps.level_fst | apply Keeps.ite | split | refine Keeps.level ‹_› ?_
    | dsimp only | apply Keeps.update)

theorem Keeps.execMoverDescriptorStart {r desc} : ∃ s', execMoverDescriptorStart r desc s = .next s' ∧ Keeps s s' := by
  unfold Machine.execMoverDescriptorStart
  refine ⟨_, rfl, ?_⟩
  with_reducible repeat' (first | assumption | exact Keeps.refl | apply Keeps.descStart | split | dsimp only)

theorem Keeps.descWriteback {m r d st detail} (hk : Keeps s0 s) : Keeps s0 (State.descWriteback s m r d st detail) := by
  unfold State.descWriteback
  with_reducible repeat' (first
    | assumption | exact Keeps.refl | apply Keeps.writeback | apply Keeps.modChan | intro _ _ _ | intro _ _ | split | dsimp only
    | apply Keeps.update)

theorem Keeps.descEnd {m} (hk : Keeps s0 s) : Keeps s0 (State.descEnd s m) := by
  unfold State.descEnd
  with_reducible repeat' (first
    | assumption | exact Keeps.refl | apply Keeps.descWriteback | apply Keeps.ite | split | dsimp only | apply Keeps.update)

theorem Keeps.execMoverDescriptorEnd {m} : ∃ s', execMoverDescriptorEnd m s = .next s' ∧ Keeps s s' := by
  unfold Machine.execMoverDescriptorEnd
  refine ⟨_, rfl, ?_⟩
  with_reducible repeat' (first | assumption | exact Keeps.refl | apply Keeps.descEnd | split | dsimp only)

theorem Keeps.descStop {m st} (hk : Keeps s0 s) : Keeps s0 (State.descStop s m st) := by
  unfold State.descStop
  with_reducible repeat' (first
    | assumption | exact Keeps.refl | apply Keeps.descWriteback | split | dsimp only | apply Keeps.update)

theorem Keeps.flushTimeout {w} (hk : Keeps s0 s) : Keeps s0 (State.flushTimeout s w) := by
  unfold State.flushTimeout
  with_reducible repeat' (first
    | assumption | exact Keeps.refl | apply Keeps.modDesc | intro _ _ _ | intro _ _ | apply Keeps.ite | split | dsimp only
    | apply Keeps.update)

theorem Keeps.execMoverFlushTimeout {w} : ∃ s', execMoverFlushTimeout w s = .next s' ∧ Keeps s s' := by
  unfold Machine.execMoverFlushTimeout
  refine ⟨_, rfl, ?_⟩
  with_reducible repeat' (first | assumption | exact Keeps.refl | apply Keeps.flushTimeout | split | dsimp only)

theorem Keeps.execMvCtlReset {r} : ∃ s', execMvCtlReset r s = .next s' ∧ Keeps s s' := by
  unfold Machine.execMvCtlReset
  refine ⟨_, rfl, ?_⟩
  with_reducible repeat' (first
    | assumption | exact Keeps.refl | apply Keeps.freeChan | apply Keeps.ite | split | dsimp only | apply Keeps.update)

theorem Keeps.execMovChKill {m} : ∃ s', execMovChKill m s = .next s' ∧ Keeps s s' := by
  unfold Machine.execMovChKill
  refine ⟨_, rfl, ?_⟩
  with_reducible repeat' (first | assumption | exact Keeps.refl | apply Keeps.haltChan | apply Keeps.ite | split | dsimp only)

theorem Keeps.quotaWrite {k v} (hk : Keeps s0 s) : Keeps s0 (State.quotaWrite s k v) := by
  unfold State.quotaWrite
  with_reducible repeat' (first | assumption | exact Keeps.refl | apply Keeps.ite | split | dsimp only | apply Keeps.update)

theorem Keeps.execMovQuotaWrite {k v} : ∃ s', execMovQuotaWrite k v s = .next s' ∧ Keeps s s' := by
  unfold Machine.execMovQuotaWrite
  refine ⟨_, rfl, ?_⟩
  with_reducible repeat' (first | assumption | exact Keeps.refl | apply Keeps.quotaWrite | split | dsimp only)

theorem Keeps.xferStart {o k op} (hk : Keeps s0 s) : Keeps s0 (State.xferStart s o k op) := by
  unfold State.xferStart
  with_reducible repeat' (first
    | assumption | exact Keeps.refl | apply Keeps.opDenied | apply Keeps.opBegin | apply Keeps.ite | split | dsimp only
    | apply Keeps.update)

theorem Keeps.xferEnd {o a d st detail} (hk : Keeps s0 s) : Keeps s0 (State.xferEnd s o a d st detail) := by
  unfold State.xferEnd
  with_reducible repeat' (first
    | assumption | exact Keeps.refl | apply Keeps.modOp | apply Keeps.countBad | apply Keeps.dataWrite | apply Keeps.opEnd
    | apply Keeps.modRun | intro _ _ _ | intro _ _ | apply Keeps.ite | split | dsimp only | apply Keeps.update)

theorem Keeps.xfer {o data} (hk : Keeps s0 s) : Keeps s0 (State.xfer s o data) := by
  unfold State.xfer
  with_reducible repeat' (first
    | assumption | exact Keeps.refl | apply Keeps.xferStart | apply Keeps.xferEnd | apply Keeps.transferStep | apply Keeps.ite
    | split | dsimp only | apply Keeps.update)

theorem Keeps.execXfer {o data} : ∃ s', execXfer o data s = .next s' ∧ Keeps s s' := by
  unfold Machine.execXfer
  refine ⟨_, rfl, ?_⟩
  with_reducible repeat' (first | assumption | exact Keeps.refl | apply Keeps.xfer | split | dsimp only)

theorem Keeps.transferError {w off} (hk : Keeps s0 s) : Keeps s0 (State.transferError s w off) := by
  unfold State.transferError
  with_reducible repeat' (first
    | assumption | exact Keeps.refl | apply Keeps.modDesc | apply Keeps.took | intro _ _ _ | intro _ _ | apply Keeps.ite | split
    | dsimp only | apply Keeps.update)

theorem Keeps.cmdRequestError {c} (hk : Keeps s0 s) : Keeps s0 (State.cmdRequestError s c) := by
  unfold State.cmdRequestError
  with_reducible repeat' (first
    | assumption | exact Keeps.refl | apply Keeps.noteReady | apply Keeps.complete | apply Keeps.conclude | apply Keeps.finish
    | apply Keeps.modUpd | intro _ _ _ | intro _ _ | apply Keeps.ite | split | dsimp only | apply Keeps.update)

theorem Keeps.opRequestError {o off} (hk : Keeps s0 s) : Keeps s0 (State.opRequestError s o off) := by
  unfold State.opRequestError
  with_reducible repeat' (first
    | assumption | exact Keeps.refl | apply Keeps.opInstant | apply Keeps.transferError | apply Keeps.ite | split | dsimp only
    | apply Keeps.update)

theorem Keeps.execHostRequestError {w off} : ∃ s', execHostRequestError w off s = .next s' ∧ Keeps s s' := by
  unfold Machine.execHostRequestError
  refine ⟨_, rfl, ?_⟩
  with_reducible repeat' (first
    | assumption | exact Keeps.refl | apply Keeps.cmdRequestError | apply Keeps.opRequestError | apply Keeps.transferError | split
    | dsimp only | apply Keeps.update)

/-! ### Machine/Tiger.lean -/

theorem Keeps.badFields {o} (hk : Keeps s0 s) : Keeps s0 (State.badFields s o) := by
  unfold State.badFields
  with_reducible repeat' (first | assumption | exact Keeps.refl | apply Keeps.opInstant | apply Keeps.took | split | dsimp only)

theorem Keeps.solverStart {o op p spans} (hk : Keeps s0 s) : Keeps s0 (State.solverStart s o op p spans) := by
  unfold State.solverStart
  with_reducible repeat' (first
    | assumption | exact Keeps.refl | exact fun _ h => h | apply Keeps.opInstant | apply Keeps.opBegin | intro _ _ _ | intro _ _
    | split | dsimp only | apply Keeps.update)

theorem Keeps.solverWaits {o p k a} (he : State.solverWaits s o p k a = some s') (hk : Keeps s0 s) : Keeps s0 s' := by
  unfold State.solverWaits at he
  dsimp only at he
  repeat' split at he
  all_goals first | cases he | skip
  all_goals with_reducible repeat' (first
    | assumption | exact Keeps.refl | apply Keeps.noteBlocked | intro _ _ _ | intro _ _ | apply Keeps.ite | split | dsimp only)

theorem Keeps.tigerEnergy {p a} (hk : Keeps s0 s) : Keeps s0 (State.tigerEnergy s p a) := by
  unfold State.tigerEnergy
  with_reducible repeat' (first | assumption | exact Keeps.refl | apply Keeps.energy | split | dsimp only)

theorem Keeps.dense {o} (hk : Keeps s0 s) : Keeps s0 (State.dense s o) := by
  unfold State.dense
  with_reducible repeat' (first
    | assumption | exact Keeps.refl | apply Keeps.badFields | apply Keeps.opInstant | apply Keeps.solverStart | intro _ _ _
    | intro _ _ | apply Keeps.ite | split | dsimp only | apply Keeps.update)

theorem Keeps.execDense {o} : ∃ s', execDense o s = .next s' ∧ Keeps s s' := by
  unfold Machine.execDense
  refine ⟨_, rfl, ?_⟩
  with_reducible repeat' (first | assumption | exact Keeps.refl | apply Keeps.dense | split | dsimp only)

theorem Keeps.denseEnd1_fst {p D a tag dead j} (hk : Keeps s0 s) : Keeps s0 (State.denseEnd1 s p D a tag dead j).2 := by
  unfold State.denseEnd1
  with_reducible repeat' (first
    | assumption | exact Keeps.refl | exact fun _ h => h | apply Keeps.took | apply Keeps.storeAll | apply Keeps.spoil
    | intro _ _ _ | intro _ _ | apply storeAll_wf | apply Keeps.ite | split | dsimp only | apply Keeps.update)

theorem Keeps.denseEnd1 {p D a tag dead j} {x} (he : State.denseEnd1 s p D a tag dead j = (x, s')) (hk : Keeps s0 s) : Keeps s0 s' := by
  have h := Keeps.denseEnd1_fst (p := p) (D := D) (a := a) (tag := tag) (dead := dead) (j := j) hk
  rw [he] at h
  exact h

theorem Keeps.countSolve {p st} (hk : Keeps s0 s) : Keeps s0 (State.countSolve s p st) := by
  unfold State.countSolve
  with_reducible repeat' (first
    | assumption | exact Keeps.refl | exact fun _ h => h | apply Keeps.modPrt | apply Keeps.perfWrap | intro _ _ _ | intro _ _
    | apply Keeps.ite | split | dsimp only | apply Keeps.update)

theorem Keeps.runBatch_fst {p n} {one : State → Nat → Status × State} (hk : Keeps s0 s)
    (hf : ∀ s j, Keeps s0 s → Keeps s0 (one s j).2) : Keeps s0 (State.runBatch s p n one).2 :=
  Keeps.foldlSnd hk fun _ _ h => Keeps.countSolve (hf _ _ h)

theorem Keeps.denseEnd {o p k a} (hk : Keeps s0 s) : Keeps s0 (State.denseEnd s o p k a) := by
  unfold State.denseEnd
  with_reducible repeat' (first
    | assumption | exact Keeps.refl | apply Keeps.touch | apply Keeps.noteServed | apply Keeps.tigerEnergy | apply Keeps.opEnd
    | apply Keeps.runBatch_fst | apply Keeps.denseEnd1_fst | intro _ _ _ | intro _ _ | apply Keeps.foldl | apply Keeps.foldlFst
    | apply Keeps.foldlSnd | split | refine Keeps.solverWaits ‹_› ?_ | refine Keeps.runBatch ‹_› ?_ | refine Keeps.denseEnd1 ‹_› ?_
    | dsimp only | apply Keeps.update)

theorem Keeps.schedReg {o} (hk : Keeps s0 s) : Keeps s0 (State.schedReg s o) := by
  unfold State.schedReg
  with_reducible repeat' (first
    | assumption | exact Keeps.refl | apply Keeps.badFields | apply Keeps.solverStart | apply Keeps.ite | split | dsimp only
    | apply Keeps.update)

theorem Keeps.execSchedReg {o} : ∃ s', execSchedReg o s = .next s' ∧ Keeps s s' := by
  unfold Machine.execSchedReg
  refine ⟨_, rfl, ?_⟩
  with_reducible repeat' (first | assumption | exact Keeps.refl | apply Keeps.schedReg | split | dsimp only)

theorem Keeps.schedRegEnd {o p k a} (hk : Keeps s0 s) : Keeps s0 (State.schedRegEnd s o p k a) := by
  unfold State.schedRegEnd
  with_reducible repeat' (first
    | assumption | exact Keeps.refl | exact fun _ h => h | apply Keeps.opEnd | apply Keeps.took | apply Keeps.noteBlocked
    | apply Keeps.tigerEnergy | apply Keeps.loaded | apply Keeps.noteServed | apply Keeps.modPrt | intro _ _ _ | intro _ _
    | apply Keeps.ite | split | dsimp only | apply Keeps.update)

theorem Keeps.dropSched {p a2} (hk : Keeps s0 s) : Keeps s0 (State.dropSched s p a2) := by
  unfold State.dropSched
  with_reducible repeat' (first
    | assumption | exact Keeps.refl | exact fun _ h => h | apply Keeps.modPrt | intro _ _ _ | intro _ _ | split | dsimp only
    | apply Keeps.update)

theorem Keeps.schedDrop {o} (hk : Keeps s0 s) : Keeps s0 (State.schedDrop s o) := by
  unfold State.schedDrop
  with_reducible repeat' (first
    | assumption | exact Keeps.refl | exact fun _ h => h | apply Keeps.badFields | apply Keeps.opInstant | apply Keeps.dropSched
    | apply Keeps.modPrt | apply Keeps.opBegin | intro _ _ _ | intro _ _ | apply Keeps.ite | split | dsimp only
    | apply Keeps.update)

theorem Keeps.execSchedDrop {o} : ∃ s', execSchedDrop o s = .next s' ∧ Keeps s s' := by
  unfold Machine.execSchedDrop
  refine ⟨_, rfl, ?_⟩
  with_reducible repeat' (first | assumption | exact Keeps.refl | apply Keeps.schedDrop | split | dsimp only)

theorem Keeps.dropRelease {o} (hk : Keeps s0 s) : Keeps s0 (State.dropRelease s o) := by
  unfold State.dropRelease
  with_reducible repeat' (first
    | assumption | exact Keeps.refl | exact fun _ h => h | apply Keeps.opEnd | apply Keeps.modPrt | apply Keeps.dropSched
    | intro _ _ _ | intro _ _ | apply Keeps.ite | split | dsimp only | apply Keeps.update)

theorem Keeps.execSchedDropRelease {o} : ∃ s', execSchedDropRelease o s = .next s' ∧ Keeps s s' := by
  unfold Machine.execSchedDropRelease
  refine ⟨_, rfl, ?_⟩
  with_reducible repeat' (first | assumption | exact Keeps.refl | apply Keeps.dropRelease | split | dsimp only)

theorem Keeps.sparse {o} (hk : Keeps s0 s) : Keeps s0 (State.sparse s o) := by
  unfold State.sparse
  with_reducible repeat' (first
    | assumption | exact Keeps.refl | apply Keeps.badFields | apply Keeps.opInstant | apply Keeps.solverStart | intro _ _ _
    | intro _ _ | apply Keeps.ite | split | dsimp only | apply Keeps.update)

theorem Keeps.execSparse {o} : ∃ s', execSparse o s = .next s' ∧ Keeps s s' := by
  unfold Machine.execSparse
  refine ⟨_, rfl, ?_⟩
  with_reducible repeat' (first | assumption | exact Keeps.refl | apply Keeps.sparse | split | dsimp only)

theorem Keeps.sparseEnd1_fst {p K a3 a tag dead j} (hk : Keeps s0 s) : Keeps s0 (State.sparseEnd1 s p K a3 a tag dead j).2 := by
  unfold State.sparseEnd1
  with_reducible repeat' (first
    | assumption | exact Keeps.refl | exact fun _ h => h | apply Keeps.storeAll | apply Keeps.spoil | apply Keeps.took
    | intro _ _ _ | intro _ _ | apply storeAll_wf | apply Keeps.ite | split | dsimp only | apply Keeps.update)

theorem Keeps.sparseEnd1 {p K a3 a tag dead j} {x} (he : State.sparseEnd1 s p K a3 a tag dead j = (x, s')) (hk : Keeps s0 s) : Keeps s0 s' := by
  have h := Keeps.sparseEnd1_fst (p := p) (K := K) (a3 := a3) (a := a) (tag := tag) (dead := dead) (j := j) hk
  rw [he] at h
  exact h

theorem Keeps.sparseEnd {o p k a} (hk : Keeps s0 s) : Keeps s0 (State.sparseEnd s o p k a) := by
  unfold State.sparseEnd
  with_reducible repeat' (first
    | assumption | exact Keeps.refl | apply Keeps.opEnd | apply Keeps.touch | apply Keeps.noteServed | apply Keeps.tigerEnergy
    | apply Keeps.runBatch_fst | apply Keeps.sparseEnd1_fst | intro _ _ _ | intro _ _ | apply Keeps.foldl | apply Keeps.foldlFst
    | apply Keeps.foldlSnd | apply Keeps.ite | split | refine Keeps.solverWaits ‹_› ?_ | refine Keeps.runBatch ‹_› ?_
    | refine Keeps.sparseEnd1 ‹_› ?_ | dsimp only | apply Keeps.update)

theorem Keeps.execSolverOpEnd {o} : ∃ s', execSolverOpEnd o s = .next s' ∧ Keeps s s' := by
  unfold Machine.execSolverOpEnd
  refine ⟨_, rfl, ?_⟩
  with_reducible repeat' (first
    | assumption | exact Keeps.refl | apply Keeps.denseEnd | apply Keeps.schedRegEnd | apply Keeps.sparseEnd | split | dsimp only
    | apply Keeps.update)

/-! ### Machine/Stops.lean -/

theorem Keeps.stopOp {p k o a} (hk : Keeps s0 s) : Keeps s0 (State.stopOp s p k o a) := by
  unfold State.stopOp
  with_reducible repeat' (first | assumption | exact Keeps.refl | apply Keeps.dropRun | apply Keeps.spoil | split | dsimp only)

theorem Keeps.forget {p c} (hk : Keeps s0 s) : Keeps s0 (State.forget s p c) := by
  unfold State.forget
  with_reducible repeat' (first
    | assumption | exact Keeps.refl | exact fun _ h => h | apply Keeps.modMem | apply Keeps.modPrt | intro _ _ _ | intro _ _
    | apply Keeps.ite | split | dsimp only | apply Keeps.update)

theorem Keeps.stopCmd {st c} (hk : Keeps s0 s) : Keeps s0 (State.stopCmd s st c) := by
  unfold State.stopCmd
  with_reducible repeat' (first
    | assumption | exact Keeps.refl | apply Keeps.complete | apply Keeps.stopOp | apply Keeps.forget | apply Keeps.letPairsGo
    | apply Keeps.modWvl | apply Keeps.stopUpdate | intro _ _ _ | intro _ _ | apply Keeps.foldl | apply Keeps.foldlFst
    | apply Keeps.foldlSnd | apply Keeps.ite | split | dsimp only | apply Keeps.update)

theorem Keeps.stopSegment {p st j} (hk : Keeps s0 s) : Keeps s0 (State.stopSegment p st s j) := by
  unfold State.stopSegment
  with_reducible repeat' (first
    | assumption | exact Keeps.refl | apply Keeps.modScb | apply Keeps.postPart | apply Keeps.restDropped | apply Keeps.checkReady
    | intro _ _ _ | intro _ _ | apply Keeps.ite | split | dsimp only | apply Keeps.update)

theorem Keeps.stopInjected {p st} (hk : Keeps s0 s) : Keeps s0 (State.stopInjected s p st) := by
  unfold State.stopInjected
  with_reducible repeat' (first
    | assumption | exact Keeps.refl | apply Keeps.stopSegment | intro _ _ _ | intro _ _ | apply Keeps.foldl | apply Keeps.foldlFst
    | apply Keeps.foldlSnd | split | dsimp only)

theorem Keeps.stopWork {fn st} (hk : Keeps s0 s) : Keeps s0 (State.stopWork s fn st) := by
  unfold State.stopWork
  with_reducible repeat' (first
    | assumption | exact Keeps.refl | apply Keeps.stopCmd | apply Keeps.descStop | apply Keeps.stopInjected | intro _ _ _
    | intro _ _ | apply Keeps.foldl | apply Keeps.foldlFst | apply Keeps.foldlSnd | split | dsimp only | apply Keeps.update)

theorem Keeps.cancelUnstarted {p} (hk : Keeps s0 s) : Keeps s0 (State.cancelUnstarted s p) := by
  unfold State.cancelUnstarted
  with_reducible repeat' (first
    | assumption | exact Keeps.refl | apply Keeps.cancelAll | intro _ _ _ | intro _ _ | apply Keeps.foldl | apply Keeps.foldlFst
    | apply Keeps.foldlSnd | split | dsimp only)

theorem Keeps.startDrain {p} (hk : Keeps s0 s) : Keeps s0 (State.startDrain s p) := by
  unfold State.startDrain
  with_reducible repeat' (first
    | assumption | exact Keeps.refl | apply Keeps.modLife | intro _ _ _ | intro _ _ | apply Keeps.ite | split | dsimp only
    | apply Keeps.update)

theorem Keeps.unpause {p} (hk : Keeps s0 s) : Keeps s0 (State.unpause s p) := by
  unfold State.unpause
  with_reducible repeat' (first
    | assumption | exact Keeps.refl | exact fun _ h => h | apply Keeps.modPrt | intro _ _ _ | intro _ _ | split | dsimp only
    | apply Keeps.update)

theorem Keeps.pause {p} (hk : Keeps s0 s) : Keeps s0 (State.pause s p) := by
  unfold State.pause
  with_reducible repeat' (first
    | assumption | exact Keeps.refl | apply Keeps.modLife | intro _ _ _ | intro _ _ | split | dsimp only | apply Keeps.update)

theorem Keeps.dropTags {p} (hk : Keeps s0 s) : Keeps s0 (State.dropTags s p) := by
  unfold State.dropTags
  with_reducible repeat' (first
    | assumption | exact Keeps.refl | exact fun _ h => h | apply Keeps.spoilTiles | apply Keeps.revokeTile | apply Keeps.modPrt
    | intro _ _ _ | intro _ _ | apply Keeps.foldl | apply Keeps.foldlFst | apply Keeps.foldlSnd | apply Keeps.ite | split
    | dsimp only | apply Keeps.update)

theorem Keeps.clearPlan {p} (hk : Keeps s0 s) : Keeps s0 (State.clearPlan s p) := by
  unfold State.clearPlan
  with_reducible repeat' (first
    | assumption | exact Keeps.refl | exact fun _ h => h | apply Keeps.freeRange | apply Keeps.modScb | apply Keeps.dropPlan
    | intro _ _ _ | intro _ _ | apply Keeps.foldl | apply Keeps.foldlFst | apply Keeps.foldlSnd | split | dsimp only
    | apply Keeps.update)

theorem Keeps.unbindAll {p} (hk : Keeps s0 s) : Keeps s0 (State.unbindAll s p) := by
  unfold State.unbindAll
  with_reducible repeat' (first
    | assumption | exact Keeps.refl | apply Keeps.unbindTiles | intro _ _ _ | intro _ _ | apply Keeps.foldl | apply Keeps.foldlFst
    | apply Keeps.foldlSnd | apply Keeps.ite | split | dsimp only)

theorem Keeps.dropRuns {p} (hk : Keeps s0 s) : Keeps s0 (State.dropRuns s p) := by
  unfold State.dropRuns
  with_reducible repeat' (first
    | assumption | exact Keeps.refl | apply Keeps.dropRun | intro _ _ _ | intro _ _ | apply Keeps.foldl | apply Keeps.foldlFst
    | apply Keeps.foldlSnd | split | dsimp only)

theorem Keeps.clearEngines {p} (hk : Keeps s0 s) : Keeps s0 (State.clearEngines s p) := by
  unfold State.clearEngines
  with_reducible repeat' (first
    | assumption | exact Keeps.refl | exact fun _ h => h | apply Keeps.dropRuns | apply Keeps.unbindAll | apply Keeps.clearPlan
    | apply Keeps.dropTags | apply Keeps.modPrt | intro _ _ _ | intro _ _ | split | dsimp only | apply Keeps.update)

theorem Keeps.endAll {p} (hk : Keeps s0 s) : Keeps s0 (State.endAll s p) := by
  unfold State.endAll
  with_reducible repeat' (first
    | assumption | exact Keeps.refl | apply Keeps.stopCmd | apply Keeps.modScb | apply Keeps.complete | apply Keeps.dropChans
    | intro _ _ _ | intro _ _ | apply Keeps.foldl | apply Keeps.foldlFst | apply Keeps.foldlSnd | split | dsimp only
    | apply Keeps.update)

theorem Keeps.dropHeld {fn} (hk : Keeps s0 s) : Keeps s0 (State.dropHeld s fn) := by
  unfold State.dropHeld
  with_reducible repeat' (first
    | assumption | exact Keeps.refl | apply Keeps.modFn | intro _ _ _ | intro _ _ | split | dsimp only | apply Keeps.update)

theorem Keeps.resetRings {p} (hk : Keeps s0 s) : Keeps s0 (State.resetRings s p) := by
  unfold State.resetRings
  with_reducible repeat' (first
    | assumption | exact Keeps.refl | exact fun _ h => h | apply Keeps.modPrt | intro _ _ _ | intro _ _ | split | dsimp only
    | apply Keeps.update)

/-! ### Machine/Loss.lean -/

theorem Keeps.modPwd {p f} (hk : Keeps s0 s) : Keeps s0 (State.modPwd s p f) := by
  unfold State.modPwd
  with_reducible repeat' (first
    | assumption | exact Keeps.refl | exact fun _ h => h | apply Keeps.modPrt | intro _ _ _ | intro _ _ | split | dsimp only
    | apply Keeps.update)

theorem Keeps.endDrain {p} (hk : Keeps s0 s) : Keeps s0 (State.endDrain s p) := by
  unfold State.endDrain
  with_reducible repeat' (first
    | assumption | exact Keeps.refl | apply Keeps.modLife | intro _ _ _ | intro _ _ | split | dsimp only | apply Keeps.update)

theorem Keeps.retainDone {p} (hk : Keeps s0 s) : Keeps s0 (State.retainDone s p) := by
  unfold State.retainDone
  with_reducible repeat' (first
    | assumption | exact Keeps.refl | apply Keeps.modLife | apply Keeps.endDrain | apply Keeps.pause | apply Keeps.setPState
    | apply Keeps.modPwd | intro _ _ _ | intro _ _ | apply Keeps.ite | split | dsimp only | apply Keeps.update)

theorem Keeps.modLoss {fn f} (hk : Keeps s0 s) : Keeps s0 (State.modLoss s fn f) := by
  unfold State.modLoss
  with_reducible repeat' (first
    | assumption | exact Keeps.refl | apply Keeps.modFn | intro _ _ _ | intro _ _ | split | dsimp only | apply Keeps.update)

theorem Keeps.shutRings {p} (hk : Keeps s0 s) : Keeps s0 (State.shutRings s p) := by
  unfold State.shutRings
  with_reducible repeat' (first
    | assumption | exact Keeps.refl | exact fun _ h => h | apply Keeps.haltChan | apply Keeps.modRing | apply Keeps.modPrt
    | intro _ _ _ | intro _ _ | apply Keeps.foldl | apply Keeps.foldlFst | apply Keeps.foldlSnd | split | dsimp only
    | apply Keeps.update)

theorem Keeps.applyLoss {p} (hk : Keeps s0 s) : Keeps s0 (State.applyLoss s p) := by
  unfold State.applyLoss
  with_reducible repeat' (first
    | assumption | exact Keeps.refl | apply Keeps.setPState | apply Keeps.shutRings | apply Keeps.modLife | apply Keeps.modPwd
    | apply Keeps.retainDone | apply Keeps.startDrain | intro _ _ _ | intro _ _ | apply Keeps.ite | split | dsimp only
    | apply Keeps.update)

theorem Keeps.losePart {p cause whole} (hk : Keeps s0 s) : Keeps s0 (State.losePart s p cause whole) := by
  unfold State.losePart
  with_reducible repeat' (first
    | assumption | exact Keeps.refl | exact fun _ h => h | apply Keeps.modPrt | apply Keeps.modLoss | apply Keeps.dropHeld
    | apply Keeps.modLife | apply Keeps.applyLoss | apply Keeps.postOper | intro _ _ _ | intro _ _ | apply Keeps.ite | split
    | dsimp only | apply Keeps.update)

theorem Keeps.loseOper {cause} (hk : Keeps s0 s) : Keeps s0 (State.loseOper s cause) := by
  unfold State.loseOper
  with_reducible repeat' (first
    | assumption | exact Keeps.refl | apply Keeps.modLoss | apply Keeps.perfWrap | intro _ _ _ | intro _ _ | apply Keeps.ite
    | split | dsimp only | apply Keeps.update)

theorem Keeps.loseHost {cause} (hk : Keeps s0 s) : Keeps s0 (State.loseHost s cause) := by
  unfold State.loseHost
  with_reducible repeat' (first
    | assumption | exact Keeps.refl | apply Keeps.losePart | apply Keeps.loseOper | intro _ _ _ | intro _ _ | apply Keeps.foldl
    | apply Keeps.foldlFst | apply Keeps.foldlSnd | split | dsimp only)

theorem Keeps.endPrt {p cmd sts} (hk : Keeps s0 s) : Keeps s0 (State.endPrt s p cmd sts) := by
  unfold State.endPrt
  with_reducible repeat' (first
    | assumption | exact Keeps.refl | apply Keeps.modLife | apply Keeps.prtResult | apply Keeps.applyLoss | intro _ _ _ | intro _ _
    | apply Keeps.ite | split | dsimp only | apply Keeps.update)

theorem Keeps.dropLost {p} (hk : Keeps s0 s) : Keeps s0 (State.dropLost s p) := by
  unfold State.dropLost
  with_reducible repeat' (first
    | assumption | exact Keeps.refl | apply Keeps.stopCmd | apply Keeps.modCmd | apply Keeps.descStop | apply Keeps.dropHeld
    | intro _ _ _ | intro _ _ | apply Keeps.foldl | apply Keeps.foldlFst | apply Keeps.foldlSnd | apply Keeps.ite | split
    | dsimp only | apply Keeps.update)

theorem Keeps.cacheDrop {fn} (hk : Keeps s0 s) : Keeps s0 (State.cacheDrop s fn) := by
  unfold State.cacheDrop
  with_reducible repeat' (first | assumption | exact Keeps.refl | split | dsimp only | apply Keeps.update)

end Sys2Proof.Machine
end

