-- ==== Sys2Proof/Laws/KeepsPlatform.lean ====
section
/-! SUPPORT. Laws/KeepsPlatform.lean: what partitions, the host link, clocks, the fabric, resets, boot, update and registers keep (`Keeps`), one lemma for each function that changes a state;
for a command, that it answers a next state that keeps what the state had. -/

namespace Sys2Proof.Machine

variable {s0 s s' : State}

/-! ### Machine/Partition.lean -/

theorem Keeps.prtCmd {p code accepts} {f : State → State} (hk : Keeps s0 s) (hf : ∀ s, Keeps s0 s → Keeps s0 (f s)) : Keeps s0 (State.prtCmd s p code accepts f) := by
  unfold State.prtCmd
  with_reducible repeat' (first
    | assumption | exact Keeps.refl | exact fun _ h => h | exact fun _ h => ⟨Nat.le_refl _, h⟩ | exact ⟨Nat.le_refl _, ‹_›⟩
    | apply hf | apply Keeps.exitRetention | apply Keeps.prtResult | apply Keeps.modLife | intro _ _ _ | intro _ _
    | apply writeBytes_wf | apply clearBytes_wf | apply storeAll_wf | apply swapBytes_wf | apply Keeps.foldl | apply Keeps.foldlFst
    | apply Keeps.foldlSnd | apply Keeps.ite | split | dsimp only | apply Keeps.update)

theorem Keeps.execPrtCmdReserved {p code} : ∃ s', execPrtCmdReserved p code s = .next s' ∧ Keeps s s' := by
  unfold Machine.execPrtCmdReserved
  refine ⟨_, rfl, ?_⟩
  with_reducible repeat' (first
    | assumption | exact Keeps.refl | apply Keeps.prtResult | apply Keeps.exitRetention | apply Keeps.ite | split | dsimp only)

theorem Keeps.execCreate {p} : ∃ s', execCreate p s = .next s' ∧ Keeps s s' := by
  unfold Machine.execCreate
  refine ⟨_, rfl, ?_⟩
  with_reducible repeat' (first
    | assumption | exact Keeps.refl | exact fun _ h => h | apply Keeps.prtCmd | apply Keeps.modPrt | apply Keeps.endPrt
    | apply Keeps.setPState | intro _ _ _ | intro _ _ | split | dsimp only | apply Keeps.update)

theorem Keeps.execAbandon {p} : ∃ s', execAbandon p s = .next s' ∧ Keeps s s' := by
  unfold Machine.execAbandon
  refine ⟨_, rfl, ?_⟩
  with_reducible repeat' (first
    | assumption | exact Keeps.refl | apply Keeps.prtCmd | apply Keeps.endPrt | apply Keeps.setPState | intro _ _ _ | intro _ _
    | split | dsimp only)

theorem Keeps.claimQuads {p mask} (hk : Keeps s0 s) : Keeps s0 (State.claimQuads s p mask) := by
  unfold State.claimQuads
  with_reducible repeat' (first
    | assumption | exact Keeps.refl | intro _ _ _ | intro _ _ | apply Keeps.ite | split | dsimp only | apply Keeps.update)

theorem Keeps.clearSlice {slice} (hk : Keeps s0 s) : Keeps s0 (State.clearSlice s slice) := by
  unfold State.clearSlice
  with_reducible repeat' (first | assumption | exact Keeps.refl | split | dsimp only | apply Keeps.update)

theorem Keeps.commitDone {p} (hk : Keeps s0 s) : Keeps s0 (State.commitDone s p) := by
  have hc : ∀ P : Prt, ∀ now token, Memory.wf P.mem.bytes = true → Memory.wf (P.committed now token).mem.bytes = true :=
    fun _ _ _ _ => rfl
  unfold State.commitDone
  with_reducible repeat' (first
    | assumption | exact Keeps.refl | exact fun _ h => h | exact fun _ h => ⟨Nat.le_refl _, h⟩ | exact ⟨Nat.le_refl _, ‹_›⟩
    | apply hc | apply Keeps.newKey | apply Keeps.clearSlice | apply Keeps.dropChans | apply Keeps.claimQuads | apply Keeps.modPrt
    | apply Keeps.took | apply Keeps.modSec | apply Keeps.modPwr | apply Keeps.cacheDrop | apply Keeps.setPState | intro _ _ _
    | intro _ _ | apply writeBytes_wf | apply clearBytes_wf | apply storeAll_wf | apply swapBytes_wf | apply Keeps.foldl
    | apply Keeps.foldlFst | apply Keeps.foldlSnd | apply Keeps.ite | split | dsimp only | apply Keeps.update)

theorem Keeps.execCommit {p} : ∃ s', execCommit p s = .next s' ∧ Keeps s s' := by
  unfold Machine.execCommit
  refine ⟨_, rfl, ?_⟩
  with_reducible repeat' (first
    | assumption | exact Keeps.refl | apply Keeps.prtCmd | apply Keeps.endPrt | apply Keeps.commitDone | intro _ _ _ | intro _ _
    | split | dsimp only | apply Keeps.update)

theorem Keeps.goes {p} (hk : Keeps s0 s) : Keeps s0 (State.goes s p) := by
  unfold State.goes
  with_reducible repeat' (first | assumption | exact Keeps.refl | apply Keeps.noteReady | apply Keeps.busyNow | split | dsimp only)

theorem Keeps.execStart {p} : ∃ s', execStart p s = .next s' ∧ Keeps s s' := by
  unfold Machine.execStart
  refine ⟨_, rfl, ?_⟩
  with_reducible repeat' (first
    | assumption | exact Keeps.refl | apply Keeps.prtCmd | apply Keeps.modLoss | apply Keeps.modPwd | apply Keeps.endPrt
    | apply Keeps.goes | apply Keeps.unpause | apply Keeps.wakeQuads | apply Keeps.setPState | intro _ _ _ | intro _ _ | split
    | dsimp only | apply Keeps.update)

theorem Keeps.execSuspend {p} : ∃ s', execSuspend p s = .next s' ∧ Keeps s s' := by
  unfold Machine.execSuspend
  refine ⟨_, rfl, ?_⟩
  with_reducible repeat' (first
    | assumption | exact Keeps.refl | apply Keeps.prtCmd | apply Keeps.startDrain | apply Keeps.modLife | intro _ _ _ | intro _ _
    | split | dsimp only | apply Keeps.update)

theorem Keeps.suspended {p} (hk : Keeps s0 s) : Keeps s0 (State.suspended s p) := by
  unfold State.suspended
  with_reducible repeat' (first
    | assumption | exact Keeps.refl | apply Keeps.pause | apply Keeps.setPState | apply Keeps.endDrain | apply Keeps.endPrt
    | apply Keeps.sleepQuads | apply Keeps.ite | split | dsimp only)

theorem Keeps.execSuspendHaltComplete {p} : ∃ s', execSuspendHaltComplete p s = .next s' ∧ Keeps s s' := by
  unfold Machine.execSuspendHaltComplete
  refine ⟨_, rfl, ?_⟩
  with_reducible repeat' (first | assumption | exact Keeps.refl | apply Keeps.suspended | split | dsimp only)

theorem Keeps.execResume {p} : ∃ s', execResume p s = .next s' ∧ Keeps s s' := by
  unfold Machine.execResume
  refine ⟨_, rfl, ?_⟩
  with_reducible repeat' (first
    | assumption | exact Keeps.refl | apply Keeps.prtCmd | apply Keeps.endPrt | apply Keeps.goes | apply Keeps.unpause
    | apply Keeps.wakeQuads | apply Keeps.setPState | intro _ _ _ | intro _ _ | split | dsimp only)

theorem Keeps.forceConsent {p} (hk : Keeps s0 s) : Keeps s0 (State.forceConsent s p) := by
  unfold State.forceConsent
  with_reducible repeat' (first
    | assumption | exact Keeps.refl | exact fun _ h => h | apply Keeps.postOper | apply Keeps.modPrt | intro _ _ _ | intro _ _
    | apply Keeps.ite | split | dsimp only | apply Keeps.update)

theorem Keeps.freeClaims {p} (hk : Keeps s0 s) : Keeps s0 (State.freeClaims s p) := by
  unfold State.freeClaims
  with_reducible repeat' (first
    | assumption | exact Keeps.refl | intro _ _ _ | intro _ _ | apply Keeps.ite | split | dsimp only | apply Keeps.update)

theorem Keeps.execDestroy {p} : ∃ s', execDestroy p s = .next s' ∧ Keeps s s' := by
  unfold Machine.execDestroy
  refine ⟨_, rfl, ?_⟩
  with_reducible repeat' (first
    | assumption | exact Keeps.refl | apply Keeps.prtCmd | apply Keeps.freeClaims | apply Keeps.modLife | apply Keeps.forceConsent
    | apply Keeps.setPState | apply Keeps.unpause | apply Keeps.dropLost | apply Keeps.modPwd | apply Keeps.startDrain
    | apply Keeps.cancelUnstarted | intro _ _ _ | intro _ _ | split | dsimp only | apply Keeps.update)

theorem Keeps.enterScrub {p} (hk : Keeps s0 s) : Keeps s0 (State.enterScrub s p) := by
  unfold State.enterScrub
  with_reducible repeat' (first
    | assumption | exact Keeps.refl | apply Keeps.formRecord | apply Keeps.setPState | apply Keeps.endDrain | apply Keeps.cacheDrop
    | apply Keeps.dropChans | apply Keeps.dropHeld | apply Keeps.endPrt | apply Keeps.modMtr | intro _ _ _ | intro _ _
    | apply Keeps.ite | split | dsimp only | apply Keeps.update)

theorem Keeps.execDrainTimeout {p} : ∃ s', execDrainTimeout p s = .next s' ∧ Keeps s s' := by
  unfold Machine.execDrainTimeout
  refine ⟨_, rfl, ?_⟩
  with_reducible repeat' (first
    | assumption | exact Keeps.refl | apply Keeps.enterScrub | apply Keeps.cancelUnstarted | apply Keeps.stopWork
    | apply Keeps.endDrain | apply Keeps.retainDone | apply Keeps.suspended | apply Keeps.ite | split | dsimp only)

theorem Keeps.execDrainComplete {p} : ∃ s', execDrainComplete p s = .next s' ∧ Keeps s s' := by
  unfold Machine.execDrainComplete
  refine ⟨_, rfl, ?_⟩
  with_reducible repeat' (first
    | assumption | exact Keeps.refl | apply Keeps.enterScrub | intro _ _ _ | intro _ _ | apply Keeps.ite | split | dsimp only)

theorem Keeps.execKeyRetire {p} : ∃ s', execKeyRetire p s = .next s' ∧ Keeps s s' := by
  unfold Machine.execKeyRetire
  refine ⟨_, rfl, ?_⟩
  with_reducible repeat' (first
    | assumption | exact Keeps.refl | apply Keeps.modLife | apply Keeps.retireKey | intro _ _ _ | intro _ _ | apply Keeps.ite
    | split | dsimp only | apply Keeps.update)

theorem Keeps.releaseQuads {p} (hk : Keeps s0 s) : Keeps s0 (State.releaseQuads s p) := by
  unfold State.releaseQuads
  with_reducible repeat' (first
    | assumption | exact Keeps.refl | intro _ _ _ | intro _ _ | apply Keeps.ite | split | dsimp only | apply Keeps.update)

theorem Keeps.execScrubComplete {p} : ∃ s', execScrubComplete p s = .next s' ∧ Keeps s s' := by
  have hc : ∀ P : Prt, Memory.wf P.mem.bytes = true → Memory.wf P.scrubbed.mem.bytes = true := fun _ _ => rfl
  have hk : Keeps s s := Keeps.refl
  unfold Machine.execScrubComplete
  refine ⟨_, rfl, ?_⟩
  with_reducible repeat' (first
    | assumption | exact Keeps.refl | exact fun _ h => h | exact fun _ h => ⟨Nat.le_refl _, h⟩ | exact ⟨Nat.le_refl _, ‹_›⟩
    | apply hc | apply Keeps.releaseQuads | apply Keeps.modPrt | apply Keeps.dropRuns | apply Keeps.setPState | apply Keeps.modSec
    | intro _ _ _ | intro _ _ | apply writeBytes_wf | apply clearBytes_wf | apply storeAll_wf | apply swapBytes_wf
    | apply Keeps.foldl | apply Keeps.foldlFst | apply Keeps.foldlSnd | apply Keeps.ite | split | dsimp only | apply Keeps.update)

theorem Keeps.execIdleTimeout {p} : ∃ s', execIdleTimeout p s = .next s' ∧ Keeps s s' := by
  unfold Machine.execIdleTimeout
  refine ⟨_, rfl, ?_⟩
  with_reducible repeat' (first
    | assumption | exact Keeps.refl | apply Keeps.sleepQuads | apply Keeps.setPState | apply Keeps.ite | split | dsimp only
    | apply Keeps.update)

theorem Keeps.execTntNap {p} : ∃ s', execTntNap p s = .next s' ∧ Keeps s s' := by
  unfold Machine.execTntNap
  refine ⟨_, rfl, ?_⟩
  with_reducible repeat' (first
    | assumption | exact Keeps.refl | apply Keeps.sleepQuads | apply Keeps.setPState | apply Keeps.ite | split | dsimp only)

theorem Keeps.execPrtStagedWrite {p reg v} : ∃ s', execPrtStagedWrite p reg v s = .next s' ∧ Keeps s s' := by
  unfold Machine.execPrtStagedWrite
  refine ⟨_, rfl, ?_⟩
  with_reducible repeat' (first
    | assumption | exact Keeps.refl | apply Keeps.modLife | intro _ _ _ | intro _ _ | apply Keeps.ite | split | dsimp only
    | apply Keeps.update)

theorem Keeps.execPrtModeWrite {p reg v} : ∃ s', execPrtModeWrite p reg v s = .next s' ∧ Keeps s s' := by
  unfold Machine.execPrtModeWrite
  refine ⟨_, rfl, ?_⟩
  with_reducible repeat' (first
    | assumption | exact Keeps.refl | apply Keeps.modLife | intro _ _ _ | intro _ _ | apply Keeps.ite | split | dsimp only
    | apply Keeps.update)

theorem Keeps.execPrtTokenRead {p k} : ∃ s', execPrtTokenRead p k s = .next s' ∧ Keeps s s' := by
  unfold Machine.execPrtTokenRead
  refine ⟨_, rfl, ?_⟩
  with_reducible repeat' (first
    | assumption | exact Keeps.refl | exact fun _ h => h | apply Keeps.emit | apply Keeps.modPrt | intro _ _ _ | intro _ _
    | apply Keeps.ite | split | dsimp only | apply Keeps.update)

theorem Keeps.execTntTokenRead {p k} : ∃ s', execTntTokenRead p k s = .next s' ∧ Keeps s s' := by
  unfold Machine.execTntTokenRead
  refine ⟨_, rfl, ?_⟩
  with_reducible repeat' (first
    | assumption | exact Keeps.refl | exact fun _ h => h | apply Keeps.emit | apply Keeps.modPrt | intro _ _ _ | intro _ _
    | apply Keeps.ite | split | dsimp only | apply Keeps.update)

theorem Keeps.execTntTokenRotate {p} : ∃ s', execTntTokenRotate p s = .next s' ∧ Keeps s s' := by
  unfold Machine.execTntTokenRotate
  refine ⟨_, rfl, ?_⟩
  with_reducible repeat' (first
    | assumption | exact Keeps.refl | exact fun _ h => h | apply Keeps.modPrt | apply Keeps.took | intro _ _ _ | intro _ _
    | apply Keeps.ite | split | dsimp only | apply Keeps.update)

theorem Keeps.execTntConsentWrite {p v} : ∃ s', execTntConsentWrite p v s = .next s' ∧ Keeps s s' := by
  unfold Machine.execTntConsentWrite
  refine ⟨_, rfl, ?_⟩
  with_reducible repeat' (first
    | assumption | exact Keeps.refl | exact fun _ h => h | apply Keeps.postOper | apply Keeps.modPrt | intro _ _ _ | intro _ _
    | apply Keeps.ite | split | dsimp only | apply Keeps.update)

theorem Keeps.execAttachLockoutEnd {p} : ∃ s', execAttachLockoutEnd p s = .next s' ∧ Keeps s s' := by
  unfold Machine.execAttachLockoutEnd
  refine ⟨_, rfl, ?_⟩
  with_reducible repeat' (first
    | assumption | exact Keeps.refl | exact fun _ h => h | apply Keeps.modPrt | intro _ _ _ | intro _ _ | apply Keeps.ite | split
    | dsimp only | apply Keeps.update)

/-! ### Machine/Resize.lean -/

theorem Keeps.rehome {p t a3} (hk : Keeps s0 s) : Keeps s0 (State.rehome s p t a3) := by
  unfold State.rehome
  with_reducible repeat' (first
    | assumption | exact Keeps.refl | apply Keeps.modTile | apply Keeps.startMove | intro _ _ _ | intro _ _ | apply Keeps.ite
    | split | dsimp only | apply Keeps.update)

theorem Keeps.stackedInst {p t} (hk : Keeps s0 s) : Keeps s0 (State.stackedInst s p t) := by
  unfold State.stackedInst
  with_reducible repeat' (first
    | assumption | exact Keeps.refl | apply Keeps.countDemotion | apply Keeps.modInst | intro _ _ _ | intro _ _ | apply Keeps.ite
    | split | dsimp only | apply Keeps.update)

theorem Keeps.leaveQuad {p floor t} (hk : Keeps s0 s) : Keeps s0 (State.leaveQuad s p floor t) := by
  unfold State.leaveQuad
  with_reducible repeat' (first
    | assumption | exact Keeps.refl | exact fun _ h => h | apply Keeps.stackedInst | apply Keeps.evict | apply Keeps.rehome
    | apply Keeps.ite | split | dsimp only | apply Keeps.update)

theorem Keeps.growthEvicts {p n} (hk : Keeps s0 s) : Keeps s0 (State.growthEvicts s p n) := by
  induction n generalizing s with
  | zero => exact hk
  | succ n ih =>
    unfold State.growthEvicts
    with_reducible repeat' (first
      | assumption | exact Keeps.refl | exact fun _ h => h | exact fun _ h => ⟨Nat.le_refl _, h⟩ | exact ⟨Nat.le_refl _, ‹_›⟩
      | apply ih | apply Keeps.evict | intro _ _ _ | intro _ _ | apply writeBytes_wf | apply clearBytes_wf | apply storeAll_wf
      | apply swapBytes_wf | apply Keeps.foldl | apply Keeps.foldlFst | apply Keeps.foldlSnd | apply Keeps.ite | split | dsimp only
      | apply Keeps.update)

theorem Keeps.resizeMoves {p n} (hk : Keeps s0 s) : Keeps s0 (State.resizeMoves s p n) := by
  unfold State.resizeMoves
  with_reducible repeat' (first
    | assumption | exact Keeps.refl | exact fun _ h => h | apply Keeps.leaveQuad | apply Keeps.rehome | apply Keeps.growthEvicts
    | intro _ _ _ | intro _ _ | apply Keeps.foldl | apply Keeps.foldlFst | apply Keeps.foldlSnd | apply Keeps.ite | split
    | dsimp only)

theorem Keeps.leavePairs {p was now} (hk : Keeps s0 s) : Keeps s0 (State.leavePairs s p was now) := by
  unfold State.leavePairs
  with_reducible repeat' (first
    | assumption | exact Keeps.refl | apply Keeps.breakPair | apply Keeps.modTile | intro _ _ _ | intro _ _ | apply Keeps.foldl
    | apply Keeps.foldlFst | apply Keeps.foldlSnd | apply Keeps.ite | split | dsimp only | apply Keeps.update)

theorem Keeps.newQuads {p now} (hk : Keeps s0 s) : Keeps s0 (State.newQuads s p now) := by
  unfold State.newQuads
  with_reducible repeat' (first
    | assumption | exact Keeps.refl | exact fun _ h => h | apply Keeps.leavePairs | apply Keeps.modPrt | apply Keeps.freeClaims
    | intro _ _ _ | intro _ _ | apply Keeps.ite | split | dsimp only | apply Keeps.update)

theorem Keeps.releaseFloor {p floor} (hk : Keeps s0 s) : Keeps s0 (State.releaseFloor s p floor) := by
  unfold State.releaseFloor
  with_reducible repeat' (first
    | assumption | exact Keeps.refl | exact fun _ h => h | apply Keeps.modTile | intro _ _ _ | intro _ _ | apply Keeps.foldl
    | apply Keeps.foldlFst | apply Keeps.foldlSnd | split | dsimp only | apply Keeps.update)

theorem Keeps.resizeDone {p n slots} (hk : Keeps s0 s) : Keeps s0 (State.resizeDone s p n slots) := by
  unfold State.resizeDone
  with_reducible repeat' (first
    | assumption | exact Keeps.refl | apply Keeps.newQuads | apply Keeps.releaseFloor | apply Keeps.modLife | apply Keeps.modSec
    | apply Keeps.endPrt | intro _ _ _ | intro _ _ | apply Keeps.ite | split | dsimp only | apply Keeps.update)

theorem Keeps.execResizeComplete {p} : ∃ s', execResizeComplete p s = .next s' ∧ Keeps s s' := by
  unfold Machine.execResizeComplete
  refine ⟨_, rfl, ?_⟩
  with_reducible repeat' (first
    | assumption | exact Keeps.refl | apply Keeps.resizeMoves | apply Keeps.resizeDone | apply Keeps.ite | split | dsimp only
    | apply Keeps.update)

theorem Keeps.addQuads {p mask} (hk : Keeps s0 s) : Keeps s0 (State.addQuads s p mask) := by
  unfold State.addQuads
  with_reducible repeat' (first
    | assumption | exact Keeps.refl | intro _ _ _ | intro _ _ | apply Keeps.ite | split | dsimp only | apply Keeps.update)

theorem Keeps.execResize {p} : ∃ s', execResize p s = .next s' ∧ Keeps s s' := by
  unfold Machine.execResize
  refine ⟨_, rfl, ?_⟩
  with_reducible repeat' (first
    | assumption | exact Keeps.refl | apply Keeps.prtCmd | apply Keeps.endPrt | apply Keeps.resizeMoves | apply Keeps.modLife
    | apply Keeps.addQuads | intro _ _ _ | intro _ _ | apply Keeps.ite | split | dsimp only | apply Keeps.update)

/-! ### Machine/HostLink.lean -/

theorem Keeps.deliver {fn e} (hk : Keeps s0 s) : Keeps s0 (State.deliver fn s e) := by
  unfold State.deliver
  with_reducible repeat' (first
    | assumption | exact Keeps.refl | apply Keeps.releaseHeld | apply Keeps.hold | apply Keeps.noteEntry | apply Keeps.hostWrite
    | apply Keeps.ite | split | dsimp only | apply Keeps.update)

theorem Keeps.deliverHeld {fn} (hk : Keeps s0 s) : Keeps s0 (State.deliverHeld s fn) := by
  unfold State.deliverHeld
  with_reducible repeat' (first
    | assumption | exact Keeps.refl | apply Keeps.deliver | apply Keeps.modFn | intro _ _ _ | intro _ _ | apply Keeps.foldl
    | apply Keeps.foldlFst | apply Keeps.foldlSnd | split | dsimp only | apply Keeps.update)

theorem Keeps.writeIndices {fn} (hk : Keeps s0 s) : Keeps s0 (State.writeIndices s fn) := by
  unfold State.writeIndices
  with_reducible repeat' (first
    | assumption | exact Keeps.refl | apply Keeps.modRing | apply Keeps.hostWrite | intro _ _ _ | intro _ _ | apply Keeps.foldl
    | apply Keeps.foldlFst | apply Keeps.foldlSnd | apply Keeps.ite | split | dsimp only | apply Keeps.update)

theorem Keeps.opProceeds {o} (hk : Keeps s0 s) : Keeps s0 (State.opProceeds s o) := by
  unfold State.opProceeds
  with_reducible repeat' (first
    | assumption | exact Keeps.refl | apply Keeps.modOp | apply Keeps.opEnd | apply Keeps.hostOpWrite | intro _ _ _ | intro _ _
    | apply Keeps.ite | split | dsimp only | apply Keeps.update)

theorem Keeps.waitsProceed {fn d} (hk : Keeps s0 s) : Keeps s0 (State.waitsProceed s fn d) := by
  unfold State.waitsProceed
  with_reducible repeat' (first
    | assumption | exact Keeps.refl | apply Keeps.modRing | apply Keeps.modChan | apply Keeps.opProceeds | apply Keeps.endUpdate
    | intro _ _ _ | intro _ _ | apply Keeps.foldl | apply Keeps.foldlFst | apply Keeps.foldlSnd | split | dsimp only
    | apply Keeps.update)

theorem Keeps.rebaseRings_fst {fn} (hk : Keeps s0 s) : Keeps s0 (State.rebaseRings s fn).1 := by
  unfold State.rebaseRings
  with_reducible repeat' (first
    | assumption | exact Keeps.refl | apply Keeps.modFn | apply Keeps.modRing | apply Keeps.haltChan | intro _ _ _ | intro _ _
    | apply Keeps.foldl | apply Keeps.foldlFst | apply Keeps.foldlSnd | apply Keeps.ite | split | dsimp only | apply Keeps.update)

theorem Keeps.rebaseRings {fn} {x} (he : State.rebaseRings s fn = (s', x)) (hk : Keeps s0 s) : Keeps s0 s' := by
  have h := Keeps.rebaseRings_fst (fn := fn) hk
  rw [he] at h
  exact h

theorem Keeps.opLost {o} (hk : Keeps s0 s) : Keeps s0 (State.opLost s o) := by
  unfold State.opLost
  with_reducible repeat' (first | assumption | exact Keeps.refl | apply Keeps.opEnd | split | dsimp only | apply Keeps.update)

theorem Keeps.cmdLost {c} (hk : Keeps s0 s) : Keeps s0 (State.cmdLost s c) := by
  unfold State.cmdLost
  with_reducible repeat' (first
    | assumption | exact Keeps.refl | apply Keeps.conclude | apply Keeps.modCmd | apply Keeps.modWvl | apply Keeps.finish
    | intro _ _ _ | intro _ _ | apply Keeps.ite | split | dsimp only | apply Keeps.update)

theorem Keeps.rebaseFn_fst {fn} (hk : Keeps s0 s) : Keeps s0 (State.rebaseFn s fn).1 := by
  unfold State.rebaseFn
  with_reducible repeat' (first
    | assumption | exact Keeps.refl | exact fun _ h => h | apply Keeps.cacheDrop | apply Keeps.modPrt | apply Keeps.opLost
    | apply Keeps.cmdLost | apply Keeps.stopIfDone | apply Keeps.rebaseRings_fst | intro _ _ _ | intro _ _ | apply Keeps.foldl
    | apply Keeps.foldlFst | apply Keeps.foldlSnd | split | refine Keeps.rebaseRings ‹_› ?_ | dsimp only | apply Keeps.update)

theorem Keeps.rebaseFn {fn} {x} (he : State.rebaseFn s fn = (s', x)) (hk : Keeps s0 s) : Keeps s0 s' := by
  have h := Keeps.rebaseFn_fst (fn := fn) hk
  rw [he] at h
  exact h

theorem Keeps.attachFn {fn rebase} (hk : Keeps s0 s) : Keeps s0 (State.attachFn s fn rebase) := by
  unfold State.attachFn
  with_reducible repeat' (first
    | assumption | exact Keeps.refl | apply Keeps.modLoss | apply Keeps.waitsProceed | apply Keeps.rebaseFn_fst | intro _ _ _
    | intro _ _ | apply Keeps.ite | split | refine Keeps.rebaseFn ‹_› ?_ | dsimp only | apply Keeps.update)

theorem Keeps.keepWrites {fn} (hk : Keeps s0 s) : Keeps s0 (State.keepWrites s fn) := by
  unfold State.keepWrites
  with_reducible repeat' (first
    | assumption | exact Keeps.refl | apply Keeps.flushRecords | apply Keeps.writeIndices | apply Keeps.deliverHeld | split
    | dsimp only)

theorem Keeps.attachPart {p} (hk : Keeps s0 s) : Keeps s0 (State.attachPart s p) := by
  unfold State.attachPart
  with_reducible repeat' (first
    | assumption | exact Keeps.refl | apply Keeps.modLoss | apply Keeps.modPwd | apply Keeps.endDrain | apply Keeps.attachFn
    | apply Keeps.setPState | apply Keeps.unpause | apply Keeps.wakeQuads | apply Keeps.modLife | apply Keeps.goes
    | apply Keeps.postOper | apply Keeps.postPart | apply Keeps.keepWrites | intro _ _ _ | intro _ _ | apply Keeps.ite | split
    | dsimp only | apply Keeps.update)

theorem Keeps.execTntAttachGo {p} : ∃ s', execTntAttachGo p s = .next s' ∧ Keeps s s' := by
  unfold Machine.execTntAttachGo
  refine ⟨_, rfl, ?_⟩
  with_reducible repeat' (first
    | assumption | exact Keeps.refl | exact fun _ h => h | apply Keeps.exitRetention | apply Keeps.modPrt | apply Keeps.attachPart
    | intro _ _ _ | intro _ _ | apply Keeps.ite | split | dsimp only | apply Keeps.update)

theorem Keeps.execLnkOpAttach {v} : ∃ s', execLnkOpAttach v s = .next s' ∧ Keeps s s' := by
  unfold Machine.execLnkOpAttach
  refine ⟨_, rfl, ?_⟩
  with_reducible repeat' (first
    | assumption | exact Keeps.refl | apply Keeps.exitRetention | apply Keeps.attachFn | apply Keeps.noteReady
    | apply Keeps.flushRecords | apply Keeps.post | apply Keeps.modLoss | apply Keeps.keepWrites | intro _ _ _ | intro _ _
    | apply Keeps.ite | split | dsimp only | apply Keeps.update)

theorem Keeps.resetLink (hk : Keeps s0 s) : Keeps s0 (State.resetLink s) := by
  unfold State.resetLink
  with_reducible repeat' (first
    | assumption | exact Keeps.refl | apply Keeps.endSession | apply Keeps.modFn | apply Keeps.loseHost | apply Keeps.modSec
    | intro _ _ _ | intro _ _ | apply Keeps.foldl | apply Keeps.foldlFst | apply Keeps.foldlSnd | split | dsimp only
    | apply Keeps.update)

theorem Keeps.train (hk : Keeps s0 s) : Keeps s0 (State.train s) := by
  unfold State.train
  with_reducible repeat' (first | assumption | exact Keeps.refl | apply Keeps.ite | split | dsimp only | apply Keeps.update)

theorem Keeps.execPerstNAssert : ∃ s', execPerstNAssert s = .next s' ∧ Keeps s s' := by
  unfold Machine.execPerstNAssert
  refine ⟨_, rfl, ?_⟩
  with_reducible repeat' (first | assumption | exact Keeps.refl | apply Keeps.resetLink | split | dsimp only | apply Keeps.update)

theorem Keeps.execPerstNDeassert {refclk} : ∃ s', execPerstNDeassert refclk s = .next s' ∧ Keeps s s' := by
  unfold Machine.execPerstNDeassert
  refine ⟨_, rfl, ?_⟩
  with_reducible repeat' (first
    | assumption | exact Keeps.refl | apply Keeps.train | apply Keeps.ite | split | dsimp only | apply Keeps.update)

theorem Keeps.execHotReset : ∃ s', execHotReset s = .next s' ∧ Keeps s s' := by
  unfold Machine.execHotReset
  refine ⟨_, rfl, ?_⟩
  with_reducible repeat' (first
    | assumption | exact Keeps.refl | apply Keeps.train | apply Keeps.resetLink | apply Keeps.ite | split | dsimp only)

theorem Keeps.execLinkDisable : ∃ s', execLinkDisable s = .next s' ∧ Keeps s s' := by
  unfold Machine.execLinkDisable
  refine ⟨_, rfl, ?_⟩
  with_reducible repeat' (first | assumption | exact Keeps.refl | apply Keeps.resetLink | apply Keeps.ite | split | dsimp only)

theorem Keeps.execSurpriseLinkDown : ∃ s', execSurpriseLinkDown s = .next s' ∧ Keeps s s' := by
  unfold Machine.execSurpriseLinkDown
  refine ⟨_, rfl, ?_⟩
  with_reducible repeat' (first
    | assumption | exact Keeps.refl | apply Keeps.train | apply Keeps.resetLink | apply Keeps.ite | split | dsimp only)

theorem Keeps.execLinkUp {width rate cxl} : ∃ s', execLinkUp width rate cxl s = .next s' ∧ Keeps s s' := by
  unfold Machine.execLinkUp
  refine ⟨_, rfl, ?_⟩
  with_reducible repeat' (first | assumption | exact Keeps.refl | apply Keeps.ite | split | dsimp only | apply Keeps.update)

theorem Keeps.execLinkChanged {width rate} : ∃ s', execLinkChanged width rate s = .next s' ∧ Keeps s s' := by
  unfold Machine.execLinkChanged
  refine ⟨_, rfl, ?_⟩
  with_reducible repeat' (first
    | assumption | exact Keeps.refl | apply Keeps.postDev | apply Keeps.ite | split | dsimp only | apply Keeps.update)

theorem Keeps.execPfHeartbeatTimeout : ∃ s', execPfHeartbeatTimeout s = .next s' ∧ Keeps s s' := by
  unfold Machine.execPfHeartbeatTimeout
  refine ⟨_, rfl, ?_⟩
  with_reducible repeat' (first | assumption | exact Keeps.refl | apply Keeps.loseHost | apply Keeps.ite | split | dsimp only)

theorem Keeps.execVfHeartbeatTimeout {p} : ∃ s', execVfHeartbeatTimeout p s = .next s' ∧ Keeps s s' := by
  unfold Machine.execVfHeartbeatTimeout
  refine ⟨_, rfl, ?_⟩
  with_reducible repeat' (first | assumption | exact Keeps.refl | apply Keeps.losePart | apply Keeps.ite | split | dsimp only)

theorem Keeps.execHeartbeatTmoWrite {fn v} : ∃ s', execHeartbeatTmoWrite fn v s = .next s' ∧ Keeps s s' := by
  unfold Machine.execHeartbeatTmoWrite
  refine ⟨_, rfl, ?_⟩
  with_reducible repeat' (first
    | assumption | exact Keeps.refl | apply Keeps.modLoss | intro _ _ _ | intro _ _ | apply Keeps.ite | split | dsimp only
    | apply Keeps.update)

theorem Keeps.execVfFlr {p} : ∃ s', execVfFlr p s = .next s' ∧ Keeps s s' := by
  unfold Machine.execVfFlr
  refine ⟨_, rfl, ?_⟩
  with_reducible repeat' (first
    | assumption | exact Keeps.refl | apply Keeps.losePart | apply Keeps.cacheDrop | apply Keeps.modFn | apply Keeps.ite | split
    | dsimp only)

theorem Keeps.execVfBusMasterDisable {p} : ∃ s', execVfBusMasterDisable p s = .next s' ∧ Keeps s s' := by
  unfold Machine.execVfBusMasterDisable
  refine ⟨_, rfl, ?_⟩
  with_reducible repeat' (first | assumption | exact Keeps.refl | apply Keeps.losePart | apply Keeps.ite | split | dsimp only)

theorem Keeps.execVfD3hot {p} : ∃ s', execVfD3hot p s = .next s' ∧ Keeps s s' := by
  unfold Machine.execVfD3hot
  refine ⟨_, rfl, ?_⟩
  with_reducible repeat' (first | assumption | exact Keeps.refl | apply Keeps.losePart | apply Keeps.ite | split | dsimp only)

theorem Keeps.removeVfs {n} (hk : Keeps s0 s) : Keeps s0 (State.removeVfs s n) := by
  unfold State.removeVfs
  with_reducible repeat' (first
    | assumption | exact Keeps.refl | apply Keeps.losePart | apply Keeps.modFn | intro _ _ _ | intro _ _ | apply Keeps.foldl
    | apply Keeps.foldlFst | apply Keeps.foldlSnd | split | dsimp only | apply Keeps.update)

theorem Keeps.execVfRemoved {p} : ∃ s', execVfRemoved p s = .next s' ∧ Keeps s s' := by
  unfold Machine.execVfRemoved
  refine ⟨_, rfl, ?_⟩
  with_reducible repeat' (first | assumption | exact Keeps.refl | apply Keeps.removeVfs | apply Keeps.ite | split | dsimp only)

theorem Keeps.execVfEnable {n} : ∃ s', execVfEnable n s = .next s' ∧ Keeps s s' := by
  unfold Machine.execVfEnable
  refine ⟨_, rfl, ?_⟩
  with_reducible repeat' (first | assumption | exact Keeps.refl | apply Keeps.ite | split | dsimp only | apply Keeps.update)

theorem Keeps.execPfFlr : ∃ s', execPfFlr s = .next s' ∧ Keeps s s' := by
  unfold Machine.execPfFlr
  refine ⟨_, rfl, ?_⟩
  with_reducible repeat' (first
    | assumption | exact Keeps.refl | apply Keeps.cacheDrop | apply Keeps.modFn | apply Keeps.endSession | apply Keeps.loseHost
    | intro _ _ _ | intro _ _ | apply Keeps.foldl | apply Keeps.foldlFst | apply Keeps.foldlSnd | apply Keeps.ite | split
    | dsimp only | apply Keeps.update)

theorem Keeps.execPfBusMasterDisable : ∃ s', execPfBusMasterDisable s = .next s' ∧ Keeps s s' := by
  unfold Machine.execPfBusMasterDisable
  refine ⟨_, rfl, ?_⟩
  with_reducible repeat' (first | assumption | exact Keeps.refl | apply Keeps.loseHost | apply Keeps.ite | split | dsimp only)

theorem Keeps.execPfD3hot : ∃ s', execPfD3hot s = .next s' ∧ Keeps s s' := by
  unfold Machine.execPfD3hot
  refine ⟨_, rfl, ?_⟩
  with_reducible repeat' (first | assumption | exact Keeps.refl | apply Keeps.loseHost | apply Keeps.ite | split | dsimp only)

theorem Keeps.execIdeInsecure {io mem} : ∃ s', execIdeInsecure io mem s = .next s' ∧ Keeps s s' := by
  unfold Machine.execIdeInsecure
  refine ⟨_, rfl, ?_⟩
  with_reducible repeat' (first
    | assumption | exact Keeps.refl | exact fun _ h => h | apply Keeps.postDev | apply Keeps.modSec | apply Keeps.loseHost
    | intro _ _ _ | intro _ _ | apply Keeps.ite | split | dsimp only | apply Keeps.update)

theorem Keeps.execHostLineInvalidate {fn iova} : ∃ s', execHostLineInvalidate fn iova s = .next s' ∧ Keeps s s' := by
  unfold Machine.execHostLineInvalidate
  refine ⟨_, rfl, ?_⟩
  with_reducible repeat' (first | assumption | exact Keeps.refl | intro _ _ _ | intro _ _ | split | dsimp only | apply Keeps.update)

theorem Keeps.execHdmDecoderCommit {base size} : ∃ s', execHdmDecoderCommit base size s = .next s' ∧ Keeps s s' := by
  unfold Machine.execHdmDecoderCommit
  refine ⟨_, rfl, ?_⟩
  with_reducible repeat' (first | assumption | exact Keeps.refl | apply Keeps.ite | split | dsimp only | apply Keeps.update)

theorem Keeps.execOperatorStopTimeout : ∃ s', execOperatorStopTimeout s = .next s' ∧ Keeps s s' := by
  unfold Machine.execOperatorStopTimeout
  refine ⟨_, rfl, ?_⟩
  with_reducible repeat' (first
    | assumption | exact Keeps.refl | apply Keeps.stopWork | apply Keeps.ite | split | dsimp only | apply Keeps.update)

/-! ### Machine/Clocks.lean -/

theorem Keeps.glideQuads {us} (hk : Keeps s0 s) : Keeps s0 (State.glideQuads s us) := by
  unfold State.glideQuads
  with_reducible repeat' (first
    | assumption | exact Keeps.refl | intro _ _ _ | intro _ _ | apply Keeps.ite | split | dsimp only | apply Keeps.update)

theorem Keeps.noteRetain (hk : Keeps s0 s) : Keeps s0 (State.noteRetain s) := by
  unfold State.noteRetain
  with_reducible repeat' (first
    | assumption | exact Keeps.refl | apply Keeps.modPwr | intro _ _ _ | intro _ _ | apply Keeps.ite | split | dsimp only
    | apply Keeps.update)

theorem Keeps.execRetentionEntry : ∃ s', execRetentionEntry s = .next s' ∧ Keeps s s' := by
  unfold Machine.execRetentionEntry
  refine ⟨_, rfl, ?_⟩
  with_reducible repeat' (first
    | assumption | exact Keeps.refl | apply Keeps.postDev | apply Keeps.modPwr | intro _ _ _ | intro _ _ | apply Keeps.ite | split
    | dsimp only | apply Keeps.update)

theorem Keeps.execRetentionExit : ∃ s', execRetentionExit s = .next s' ∧ Keeps s s' := by
  unfold Machine.execRetentionExit
  refine ⟨_, rfl, ?_⟩
  with_reducible repeat' (first | assumption | exact Keeps.refl | apply Keeps.exitRetention | split | dsimp only)

theorem Keeps.execRetentionExitComplete : ∃ s', execRetentionExitComplete s = .next s' ∧ Keeps s s' := by
  unfold Machine.execRetentionExitComplete
  refine ⟨_, rfl, ?_⟩
  with_reducible repeat' (first
    | assumption | exact Keeps.refl | apply Keeps.postDev | apply Keeps.modPwr | apply Keeps.noteReady | apply Keeps.serveWaits
    | intro _ _ _ | intro _ _ | apply Keeps.foldl | apply Keeps.foldlFst | apply Keeps.foldlSnd | apply Keeps.ite | split
    | dsimp only | apply Keeps.update)

theorem Keeps.execClkRetCtlWrite {v} : ∃ s', execClkRetCtlWrite v s = .next s' ∧ Keeps s s' := by
  unfold Machine.execClkRetCtlWrite
  refine ⟨_, rfl, ?_⟩
  with_reducible repeat' (first
    | assumption | exact Keeps.refl | apply Keeps.modPwr | apply Keeps.exitRetention | intro _ _ _ | intro _ _ | apply Keeps.ite
    | split | dsimp only | apply Keeps.update)

theorem Keeps.tickPart {p} (hk : Keeps s0 s) : Keeps s0 (State.tickPart s p) := by
  unfold State.tickPart
  with_reducible repeat' (first
    | assumption | exact Keeps.refl | apply Keeps.retainDone | apply Keeps.noteIdle | apply Keeps.coreTime | split | dsimp only)

theorem Keeps.execClkTimeSlewWrite {v} : ∃ s', execClkTimeSlewWrite v s = .next s' ∧ Keeps s s' := by
  unfold Machine.execClkTimeSlewWrite
  refine ⟨_, rfl, ?_⟩
  with_reducible repeat' (first
    | assumption | exact Keeps.refl | apply Keeps.modPwr | intro _ _ _ | intro _ _ | apply Keeps.ite | split | dsimp only
    | apply Keeps.update)

theorem Keeps.execClkTimeSetGo {v} : ∃ s', execClkTimeSetGo v s = .next s' ∧ Keeps s s' := by
  unfold Machine.execClkTimeSetGo
  refine ⟨_, rfl, ?_⟩
  with_reducible repeat' (first
    | assumption | exact Keeps.refl | apply Keeps.modPwr | intro _ _ _ | intro _ _ | apply Keeps.ite | split | dsimp only
    | apply Keeps.update)

theorem Keeps.execClkSscWrite {v} : ∃ s', execClkSscWrite v s = .next s' ∧ Keeps s s' := by
  unfold Machine.execClkSscWrite
  refine ⟨_, rfl, ?_⟩
  with_reducible repeat' (first
    | assumption | exact Keeps.refl | apply Keeps.modPwr | intro _ _ _ | intro _ _ | apply Keeps.ite | split | dsimp only
    | apply Keeps.update)

theorem Keeps.capLoop {x} (hk : Keeps s0 s) : Keeps s0 (State.capLoop s x) := by
  unfold State.capLoop
  with_reducible repeat' (first
    | assumption | exact Keeps.refl | apply Keeps.modPwr | apply Keeps.postDev | intro _ _ _ | intro _ _ | apply Keeps.ite | split
    | dsimp only | apply Keeps.update)

theorem Keeps.throttleEvent {x was d} (hk : Keeps s0 s) : Keeps s0 (State.throttleEvent s x was d) := by
  unfold State.throttleEvent
  with_reducible repeat' (first | assumption | exact Keeps.refl | apply Keeps.postDev | apply Keeps.ite | split | dsimp only)

theorem Keeps.thermals {x} (hk : Keeps s0 s) : Keeps s0 (State.thermals s x) := by
  unfold State.thermals
  with_reducible repeat' (first
    | assumption | exact Keeps.refl | apply Keeps.modPwr | apply Keeps.postDev | apply Keeps.throttleEvent | intro _ _ _
    | intro _ _ | apply Keeps.foldl | apply Keeps.foldlFst | apply Keeps.foldlSnd | apply Keeps.ite | split | dsimp only
    | apply Keeps.update)

theorem Keeps.msBoundary {x} (hk : Keeps s0 s) : Keeps s0 (State.msBoundary s x) := by
  unfold State.msBoundary
  with_reducible repeat' (first
    | assumption | exact Keeps.refl | exact fun _ h => h | apply Keeps.metersMs | apply Keeps.modPwr | apply Keeps.modMem
    | apply Keeps.thermals | apply Keeps.capLoop | intro _ _ _ | intro _ _ | apply Keeps.foldl | apply Keeps.foldlFst
    | apply Keeps.foldlSnd | apply Keeps.ite | split | dsimp only | apply Keeps.update)

theorem Keeps.execMillisecondBoundary {x} : ∃ s', execMillisecondBoundary x s = .next s' ∧ Keeps s s' := by
  unfold Machine.execMillisecondBoundary
  refine ⟨_, rfl, ?_⟩
  with_reducible repeat' (first | assumption | exact Keeps.refl | apply Keeps.msBoundary | split | dsimp only)

theorem Keeps.execAccessWake {q} : ∃ s', execAccessWake q s = .next s' ∧ Keeps s s' := by
  unfold Machine.execAccessWake
  refine ⟨_, rfl, ?_⟩
  with_reducible repeat' (first
    | assumption | exact Keeps.refl | apply Keeps.modQuad | intro _ _ _ | intro _ _ | apply Keeps.ite | split | dsimp only
    | apply Keeps.update)

theorem Keeps.execAccessWakeIdle {q} : ∃ s', execAccessWakeIdle q s = .next s' ∧ Keeps s s' := by
  unfold Machine.execAccessWakeIdle
  refine ⟨_, rfl, ?_⟩
  with_reducible repeat' (first
    | assumption | exact Keeps.refl | apply Keeps.sleepQuad | apply Keeps.modQuad | intro _ _ _ | intro _ _ | apply Keeps.ite
    | split | dsimp only | apply Keeps.update)

theorem Keeps.quadArrives {q} (hk : Keeps s0 s) : Keeps s0 (State.quadArrives s q) := by
  unfold State.quadArrives
  with_reducible repeat' (first
    | assumption | exact Keeps.refl | apply Keeps.modQuad | apply Keeps.noteReady | apply Keeps.serveWaits | intro _ _ _
    | intro _ _ | apply Keeps.ite | split | dsimp only | apply Keeps.update)

theorem Keeps.execQuadTransitionComplete {q} : ∃ s', execQuadTransitionComplete q s = .next s' ∧ Keeps s s' := by
  unfold Machine.execQuadTransitionComplete
  refine ⟨_, rfl, ?_⟩
  with_reducible repeat' (first | assumption | exact Keeps.refl | apply Keeps.quadArrives | split | dsimp only)

/-! ### Machine/Ports.lean -/

theorem Keeps.portPerf {pt get put n} (hk : Keeps s0 s) : Keeps s0 (State.portPerf s pt get put n) := by
  unfold State.portPerf
  with_reducible repeat' (first
    | assumption | exact Keeps.refl | apply Keeps.modPort | apply Keeps.perfWrap | intro _ _ _ | intro _ _ | apply Keeps.ite
    | split | dsimp only)

theorem Keeps.setNbr {pt n} (hk : Keeps s0 s) : Keeps s0 (State.setNbr s pt n) := by
  unfold State.setNbr
  with_reducible repeat' (first
    | assumption | exact Keeps.refl | apply Keeps.modPort | apply Keeps.postDev | intro _ _ _ | intro _ _ | apply Keeps.ite | split
    | dsimp only | apply Keeps.update)

theorem Keeps.clearNbr {pt refuse} (hk : Keeps s0 s) : Keeps s0 (State.clearNbr s pt refuse) := by
  unfold State.clearNbr
  with_reducible repeat' (first | assumption | exact Keeps.refl | apply Keeps.setNbr | split | dsimp only | apply Keeps.update)

theorem Keeps.handBack {pt} (hk : Keeps s0 s) : Keeps s0 (State.handBack s pt) := by
  unfold State.handBack
  with_reducible repeat' (first
    | assumption | exact Keeps.refl | apply Keeps.forward | apply Keeps.modPort | intro _ _ _ | intro _ _ | apply Keeps.foldl
    | apply Keeps.foldlFst | apply Keeps.foldlSnd | split | dsimp only | apply Keeps.update)

theorem Keeps.portOff {pt st} (hk : Keeps s0 s) : Keeps s0 (State.portOff s pt st) := by
  unfold State.portOff
  with_reducible repeat' (first
    | assumption | exact Keeps.refl | apply Keeps.modPort | apply Keeps.handBack | apply Keeps.clearNbr | intro _ _ _ | intro _ _
    | split | dsimp only | apply Keeps.update)

theorem Keeps.portDown {pt cause} (hk : Keeps s0 s) : Keeps s0 (State.portDown s pt cause) := by
  unfold State.portDown
  with_reducible repeat' (first
    | assumption | exact Keeps.refl | apply Keeps.modPort | apply Keeps.handBack | apply Keeps.clearNbr | apply Keeps.postDev
    | intro _ _ _ | intro _ _ | apply Keeps.ite | split | dsimp only | apply Keeps.update)

theorem Keeps.portFlags {pt silent st} (hk : Keeps s0 s) : Keeps s0 (State.portFlags s pt silent st) := by
  unfold State.portFlags
  with_reducible repeat' (first
    | assumption | exact Keeps.refl | apply Keeps.postDev | apply Keeps.modPort | intro _ _ _ | intro _ _ | apply Keeps.ite | split
    | dsimp only | apply Keeps.update)

theorem Keeps.attemptFails {pt refuse} (hk : Keeps s0 s) : Keeps s0 (State.attemptFails s pt refuse) := by
  unfold State.attemptFails
  with_reducible repeat' (first
    | assumption | exact Keeps.refl | apply Keeps.modPort | apply Keeps.portFlags | apply Keeps.clearNbr | intro _ _ _ | intro _ _
    | apply Keeps.ite | split | dsimp only | apply Keeps.update)

theorem Keeps.portEnable {pt} (hk : Keeps s0 s) : Keeps s0 (State.portEnable s pt) := by
  unfold State.portEnable
  with_reducible repeat' (first
    | assumption | exact Keeps.refl | apply Keeps.modPort | intro _ _ _ | intro _ _ | apply Keeps.ite | split | dsimp only
    | apply Keeps.update)

theorem Keeps.execPortEnable {pt} : ∃ s', execPortEnable pt s = .next s' ∧ Keeps s s' := by
  unfold Machine.execPortEnable
  refine ⟨_, rfl, ?_⟩
  with_reducible repeat' (first | assumption | exact Keeps.refl | apply Keeps.portEnable | apply Keeps.ite | split | dsimp only)

theorem Keeps.portDisable {pt} (hk : Keeps s0 s) : Keeps s0 (State.portDisable s pt) := by
  unfold State.portDisable
  with_reducible repeat' (first
    | assumption | exact Keeps.refl | apply Keeps.portOff | apply Keeps.modPort | intro _ _ _ | intro _ _ | apply Keeps.ite | split
    | dsimp only | apply Keeps.update)

theorem Keeps.execPortDisable {pt} : ∃ s', execPortDisable pt s = .next s' ∧ Keeps s s' := by
  unfold Machine.execPortDisable
  refine ⟨_, rfl, ?_⟩
  with_reducible repeat' (first | assumption | exact Keeps.refl | apply Keeps.portDisable | apply Keeps.ite | split | dsimp only)

theorem Keeps.moduleEvent {pt} (hk : Keeps s0 s) : Keeps s0 (State.moduleEvent s pt) := by
  unfold State.moduleEvent
  with_reducible repeat' (first | assumption | exact Keeps.refl | apply Keeps.postDev | split | dsimp only)

theorem Keeps.moduleReady {pt} (hk : Keeps s0 s) : Keeps s0 (State.moduleReady s pt) := by
  unfold State.moduleReady
  with_reducible repeat' (first
    | assumption | exact Keeps.refl | apply Keeps.modPort | apply Keeps.moduleEvent | intro _ _ _ | intro _ _ | apply Keeps.ite
    | split | dsimp only | apply Keeps.update)

theorem Keeps.moduleGone {pt present} (hk : Keeps s0 s) : Keeps s0 (State.moduleGone s pt present) := by
  unfold State.moduleGone
  with_reducible repeat' (first
    | assumption | exact Keeps.refl | apply Keeps.modPort | apply Keeps.moduleEvent | apply Keeps.portOff | intro _ _ _ | intro _ _
    | apply Keeps.ite | split | dsimp only | apply Keeps.update)

theorem Keeps.execPortModuleReady {pt} : ∃ s', execPortModuleReady pt s = .next s' ∧ Keeps s s' := by
  unfold Machine.execPortModuleReady
  refine ⟨_, rfl, ?_⟩
  with_reducible repeat' (first
    | assumption | exact Keeps.refl | apply Keeps.moduleReady | intro _ _ _ | intro _ _ | apply Keeps.ite | split | dsimp only
    | apply Keeps.update)

theorem Keeps.execTrainingTimerExpire {pt} : ∃ s', execTrainingTimerExpire pt s = .next s' ∧ Keeps s s' := by
  unfold Machine.execTrainingTimerExpire
  refine ⟨_, rfl, ?_⟩
  with_reducible repeat' (first
    | assumption | exact Keeps.refl | apply Keeps.attemptFails | apply Keeps.ite | split | dsimp only | apply Keeps.update)

theorem Keeps.execBackoffEnd {pt} : ∃ s', execBackoffEnd pt s = .next s' ∧ Keeps s s' := by
  unfold Machine.execBackoffEnd
  refine ⟨_, rfl, ?_⟩
  with_reducible repeat' (first
    | assumption | exact Keeps.refl | apply Keeps.modPort | intro _ _ _ | intro _ _ | apply Keeps.ite | split | dsimp only)

theorem Keeps.execPartnerSignalSeen {pt} : ∃ s', execPartnerSignalSeen pt s = .next s' ∧ Keeps s s' := by
  unfold Machine.execPartnerSignalSeen
  refine ⟨_, rfl, ?_⟩
  with_reducible repeat' (first
    | assumption | exact Keeps.refl | apply Keeps.modPort | intro _ _ _ | intro _ _ | apply Keeps.ite | split | dsimp only)

theorem Keeps.execDetectLock {pt lanes} : ∃ s', execDetectLock pt lanes s = .next s' ∧ Keeps s s' := by
  unfold Machine.execDetectLock
  refine ⟨_, rfl, ?_⟩
  with_reducible repeat' (first
    | assumption | exact Keeps.refl | apply Keeps.modPort | intro _ _ _ | intro _ _ | apply Keeps.ite | split | dsimp only
    | apply Keeps.update)

theorem Keeps.execTuneComplete {pt lanes} : ∃ s', execTuneComplete pt lanes s = .next s' ∧ Keeps s s' := by
  unfold Machine.execTuneComplete
  refine ⟨_, rfl, ?_⟩
  with_reducible repeat' (first
    | assumption | exact Keeps.refl | apply Keeps.modPort | intro _ _ _ | intro _ _ | apply Keeps.ite | split | dsimp only
    | apply Keeps.update)

theorem Keeps.execAlignComplete {pt lanes} : ∃ s', execAlignComplete pt lanes s = .next s' ∧ Keeps s s' := by
  unfold Machine.execAlignComplete
  refine ⟨_, rfl, ?_⟩
  with_reducible repeat' (first
    | assumption | exact Keeps.refl | apply Keeps.modPort | intro _ _ _ | intro _ _ | apply Keeps.ite | split | dsimp only)

theorem Keeps.portUp {pt node} (hk : Keeps s0 s) : Keeps s0 (State.portUp s pt node) := by
  unfold State.portUp
  with_reducible repeat' (first
    | assumption | exact Keeps.refl | apply Keeps.modPort | apply Keeps.postDev | intro _ _ _ | intro _ _ | split | dsimp only
    | apply Keeps.update)

theorem Keeps.replay {pt} (hk : Keeps s0 s) : Keeps s0 (State.replay s pt) := by
  unfold State.replay
  with_reducible repeat' (first
    | assumption | exact Keeps.refl | apply Keeps.portDown | apply Keeps.modPort | apply Keeps.portPerf | intro _ _ _ | intro _ _
    | apply Keeps.ite | split | dsimp only | apply Keeps.update)

theorem Keeps.acked {pt n} (hk : Keeps s0 s) : Keeps s0 (State.acked s pt n) := by
  unfold State.acked
  with_reducible repeat' (first
    | assumption | exact Keeps.refl | apply Keeps.modPort | intro _ _ _ | intro _ _ | apply Keeps.ite | split | dsimp only
    | apply Keeps.update)

theorem Keeps.execReplayRequest {pt acked} : ∃ s', execReplayRequest pt acked s = .next s' ∧ Keeps s s' := by
  unfold Machine.execReplayRequest
  refine ⟨_, rfl, ?_⟩
  with_reducible repeat' (first
    | assumption | exact Keeps.refl | apply Keeps.replay | apply Keeps.acked | apply Keeps.ite | split | dsimp only)

theorem Keeps.execAckTimeout {pt} : ∃ s', execAckTimeout pt s = .next s' ∧ Keeps s s' := by
  unfold Machine.execAckTimeout
  refine ⟨_, rfl, ?_⟩
  with_reducible repeat' (first | assumption | exact Keeps.refl | apply Keeps.replay | apply Keeps.ite | split | dsimp only)

theorem Keeps.restripe {pt} (hk : Keeps s0 s) : Keeps s0 (State.restripe s pt) := by
  unfold State.restripe
  with_reducible repeat' (first
    | assumption | exact Keeps.refl | apply Keeps.modPort | apply Keeps.portDown | intro _ _ _ | intro _ _ | apply Keeps.ite
    | split | dsimp only | apply Keeps.update)

theorem Keeps.markLanes {pt ls cause} (hk : Keeps s0 s) : Keeps s0 (State.markLanes s pt ls cause) := by
  unfold State.markLanes
  with_reducible repeat' (first
    | assumption | exact Keeps.refl | apply Keeps.modPort | apply Keeps.postDev | apply Keeps.restripe | intro _ _ _ | intro _ _
    | apply Keeps.foldl | apply Keeps.foldlFst | apply Keeps.foldlSnd | apply Keeps.ite | split | dsimp only)

theorem Keeps.lockLoss {pt ls} (hk : Keeps s0 s) : Keeps s0 (State.lockLoss s pt ls) := by
  unfold State.lockLoss
  with_reducible repeat' (first
    | assumption | exact Keeps.refl | apply Keeps.modPort | apply Keeps.markLanes | intro _ _ _ | intro _ _ | apply Keeps.foldl
    | apply Keeps.foldlFst | apply Keeps.foldlSnd | split | dsimp only | apply Keeps.update)

theorem Keeps.execLaneLockLoss {pt l} : ∃ s', execLaneLockLoss pt l s = .next s' ∧ Keeps s s' := by
  unfold Machine.execLaneLockLoss
  refine ⟨_, rfl, ?_⟩
  with_reducible repeat' (first | assumption | exact Keeps.refl | apply Keeps.lockLoss | split | dsimp only)

theorem Keeps.execPartnerLaneNotice {pt l} : ∃ s', execPartnerLaneNotice pt l s = .next s' ∧ Keeps s s' := by
  unfold Machine.execPartnerLaneNotice
  refine ⟨_, rfl, ?_⟩
  with_reducible repeat' (first | assumption | exact Keeps.refl | apply Keeps.markLanes | split | dsimp only)

theorem Keeps.fecWindow {pt ue ce} (hk : Keeps s0 s) : Keeps s0 (State.fecWindow s pt ue ce) := by
  unfold State.fecWindow
  with_reducible repeat' (first
    | assumption | exact Keeps.refl | apply Keeps.modPort | apply Keeps.portPerf | apply Keeps.markLanes | intro _ _ _ | intro _ _
    | apply Keeps.ite | split | dsimp only | apply Keeps.update)

theorem Keeps.execFecWindowEnd {pt ue ce} : ∃ s', execFecWindowEnd pt ue ce s = .next s' ∧ Keeps s s' := by
  unfold Machine.execFecWindowEnd
  refine ⟨_, rfl, ?_⟩
  with_reducible repeat' (first | assumption | exact Keeps.refl | apply Keeps.fecWindow | split | dsimp only)

theorem Keeps.execRestripeAgreed {pt} : ∃ s', execRestripeAgreed pt s = .next s' ∧ Keeps s s' := by
  unfold Machine.execRestripeAgreed
  refine ⟨_, rfl, ?_⟩
  with_reducible repeat' (first
    | assumption | exact Keeps.refl | apply Keeps.replay | apply Keeps.modPort | intro _ _ _ | intro _ _ | apply Keeps.ite | split
    | dsimp only | apply Keeps.update)

theorem Keeps.execRestripeTimeout {pt} : ∃ s', execRestripeTimeout pt s = .next s' ∧ Keeps s s' := by
  unfold Machine.execRestripeTimeout
  refine ⟨_, rfl, ?_⟩
  with_reducible repeat' (first | assumption | exact Keeps.refl | apply Keeps.portDown | apply Keeps.ite | split | dsimp only)

theorem Keeps.execRetrain {pt} : ∃ s', execRetrain pt s = .next s' ∧ Keeps s s' := by
  unfold Machine.execRetrain
  refine ⟨_, rfl, ?_⟩
  with_reducible repeat' (first | assumption | exact Keeps.refl | apply Keeps.portDown | apply Keeps.ite | split | dsimp only)

theorem Keeps.execLaneLockRegained {pt l} : ∃ s', execLaneLockRegained pt l s = .next s' ∧ Keeps s s' := by
  unfold Machine.execLaneLockRegained
  refine ⟨_, rfl, ?_⟩
  with_reducible repeat' (first
    | assumption | exact Keeps.refl | apply Keeps.modPort | intro _ _ _ | intro _ _ | apply Keeps.ite | split | dsimp only
    | apply Keeps.update)

theorem Keeps.probationEnd {pt l} (hk : Keeps s0 s) : Keeps s0 (State.probationEnd s pt l) := by
  unfold State.probationEnd
  with_reducible repeat' (first
    | assumption | exact Keeps.refl | apply Keeps.modPort | apply Keeps.postDev | apply Keeps.restripe | intro _ _ _ | intro _ _
    | apply Keeps.ite | split | dsimp only | apply Keeps.update)

theorem Keeps.execLaneProbationEnd {pt l} : ∃ s', execLaneProbationEnd pt l s = .next s' ∧ Keeps s s' := by
  unfold Machine.execLaneProbationEnd
  refine ⟨_, rfl, ?_⟩
  with_reducible repeat' (first | assumption | exact Keeps.refl | apply Keeps.probationEnd | split | dsimp only)

theorem Keeps.execFabLclr {pt v} : ∃ s', execFabLclr pt v s = .next s' ∧ Keeps s s' := by
  unfold Machine.execFabLclr
  refine ⟨_, rfl, ?_⟩
  with_reducible repeat' (first
    | assumption | exact Keeps.refl | apply Keeps.modPort | intro _ _ _ | intro _ _ | apply Keeps.ite | split | dsimp only
    | apply Keeps.update)

theorem Keeps.laneMask {pt v} (hk : Keeps s0 s) : Keeps s0 (State.laneMask s pt v) := by
  unfold State.laneMask
  with_reducible repeat' (first
    | assumption | exact Keeps.refl | apply Keeps.modPort | apply Keeps.restripe | intro _ _ _ | intro _ _ | apply Keeps.ite
    | split | dsimp only | apply Keeps.update)

theorem Keeps.execLaneMaskWrite {pt v} : ∃ s', execLaneMaskWrite pt v s = .next s' ∧ Keeps s s' := by
  unfold Machine.execLaneMaskWrite
  refine ⟨_, rfl, ?_⟩
  with_reducible repeat' (first | assumption | exact Keeps.refl | apply Keeps.laneMask | apply Keeps.ite | split | dsimp only)

theorem Keeps.execFabLaneUeMaxWrite {pt v} : ∃ s', execFabLaneUeMaxWrite pt v s = .next s' ∧ Keeps s s' := by
  unfold Machine.execFabLaneUeMaxWrite
  refine ⟨_, rfl, ?_⟩
  with_reducible repeat' (first
    | assumption | exact Keeps.refl | apply Keeps.modPort | intro _ _ _ | intro _ _ | apply Keeps.ite | split | dsimp only
    | apply Keeps.update)

/-! ### Machine/Network.lean -/

theorem Keeps.decisionLost {p n d} (hk : Keeps s0 s) : Keeps s0 (State.decisionLost s p n d) := by
  unfold State.decisionLost
  with_reducible repeat' (first
    | assumption | exact Keeps.refl | apply Keeps.finish | apply Keeps.orphan | intro _ _ _ | intro _ _ | apply Keeps.foldl
    | apply Keeps.foldlFst | apply Keeps.foldlSnd | apply Keeps.ite | split | dsimp only | apply Keeps.update)

theorem Keeps.endRuns {l d} (hk : Keeps s0 s) : Keeps s0 (State.endRuns s l d) := by
  unfold State.endRuns
  with_reducible repeat' (first
    | assumption | exact Keeps.refl | apply Keeps.fabEnd | intro _ _ _ | intro _ _ | apply Keeps.foldl | apply Keeps.foldlFst
    | apply Keeps.foldlSnd | split | dsimp only)

theorem Keeps.barriersLose {n d} (hk : Keeps s0 s) : Keeps s0 (State.barriersLose s n d) := by
  unfold State.barriersLose
  with_reducible repeat' (first
    | assumption | exact Keeps.refl | apply Keeps.breakBarrier | intro _ _ _ | intro _ _ | apply Keeps.foldl | apply Keeps.foldlFst
    | apply Keeps.foldlSnd | apply Keeps.ite | split | dsimp only | apply Keeps.update)

theorem Keeps.loseNode {n reason} (hk : Keeps s0 s) : Keeps s0 (State.loseNode s n reason) := by
  unfold State.loseNode
  with_reducible repeat' (first
    | assumption | exact Keeps.refl | apply Keeps.markUnreach | apply Keeps.endRuns | apply Keeps.decisionLost | apply Keeps.modNet
    | apply Keeps.redsLose | apply Keeps.barriersLose | intro _ _ _ | intro _ _ | apply Keeps.foldl | apply Keeps.foldlFst
    | apply Keeps.foldlSnd | split | dsimp only | apply Keeps.update)

theorem Keeps.sweepNodes (hk : Keeps s0 s) : Keeps s0 (State.sweepNodes s) := by
  unfold State.sweepNodes
  with_reducible repeat' (first
    | assumption | exact Keeps.refl | apply Keeps.loseNode | intro _ _ _ | intro _ _ | apply Keeps.foldl | apply Keeps.foldlFst
    | apply Keeps.foldlSnd | split | dsimp only | apply Keeps.update)

theorem Keeps.renewRoutes (hk : Keeps s0 s) : Keeps s0 (State.renewRoutes s) := by
  unfold State.renewRoutes
  with_reducible repeat' (first
    | assumption | exact Keeps.refl | apply Keeps.modNet | intro _ _ _ | intro _ _ | split | dsimp only | apply Keeps.update)

theorem Keeps.nodeOf_fst {serial} (hk : Keeps s0 s) : Keeps s0 (State.nodeOf s serial).2 := by
  unfold State.nodeOf
  with_reducible repeat' (first
    | assumption | exact Keeps.refl | apply Keeps.took | intro _ _ _ | intro _ _ | apply Keeps.ite | split | dsimp only
    | apply Keeps.update)

theorem Keeps.nodeOf {serial} {x} (he : State.nodeOf s serial = (x, s')) (hk : Keeps s0 s) : Keeps s0 s' := by
  have h := Keeps.nodeOf_fst (serial := serial) hk
  rw [he] at h
  exact h

theorem Keeps.elect (hk : Keeps s0 s) : Keeps s0 (State.elect s) := by
  unfold State.elect
  with_reducible repeat' (first
    | assumption | exact Keeps.refl | apply Keeps.modNet | apply Keeps.postDev | apply Keeps.nodeOf_fst | intro _ _ _ | intro _ _
    | apply Keeps.ite | split | refine Keeps.nodeOf ‹_› ?_ | dsimp only | apply Keeps.update)

theorem Keeps.execCandidateForget {pt} : ∃ s', execCandidateForget pt s = .next s' ∧ Keeps s s' := by
  unfold Machine.execCandidateForget
  refine ⟨_, rfl, ?_⟩
  with_reducible repeat' (first
    | assumption | exact Keeps.refl | apply Keeps.elect | apply Keeps.modPort | intro _ _ _ | intro _ _ | apply Keeps.ite | split
    | dsimp only | apply Keeps.update)

theorem Keeps.execFmStable : ∃ s', execFmStable s = .next s' ∧ Keeps s s' := by
  unfold Machine.execFmStable
  refine ⟨_, rfl, ?_⟩
  with_reducible repeat' (first
    | assumption | exact Keeps.refl | apply Keeps.modNet | intro _ _ _ | intro _ _ | apply Keeps.ite | split | dsimp only
    | apply Keeps.update)

theorem Keeps.fmCtl {v remote} (hk : Keeps s0 s) : Keeps s0 (State.fmCtl s v remote) := by
  unfold State.fmCtl
  with_reducible repeat' (first
    | assumption | exact Keeps.refl | apply Keeps.elect | apply Keeps.modNet | intro _ _ _ | intro _ _ | apply Keeps.ite | split
    | dsimp only | apply Keeps.update)

theorem Keeps.execFabFmCtlWrite {v} : ∃ s', execFabFmCtlWrite v s = .next s' ∧ Keeps s s' := by
  unfold Machine.execFabFmCtlWrite
  refine ⟨_, rfl, ?_⟩
  with_reducible repeat' (first | assumption | exact Keeps.refl | apply Keeps.fmCtl | apply Keeps.ite | split | dsimp only)

theorem Keeps.sendDescriptor {pt} (hk : Keeps s0 s) : Keeps s0 (State.sendDescriptor s pt) := by
  unfold State.sendDescriptor
  with_reducible repeat' (first | assumption | exact Keeps.refl | apply Keeps.emit | split | dsimp only)

theorem Keeps.execDescriptorSend {pt} : ∃ s', execDescriptorSend pt s = .next s' ∧ Keeps s s' := by
  unfold Machine.execDescriptorSend
  refine ⟨_, rfl, ?_⟩
  with_reducible repeat' (first | assumption | exact Keeps.refl | apply Keeps.sendDescriptor | apply Keeps.ite | split | dsimp only)

theorem Keeps.descriptorIn {pt d} (hk : Keeps s0 s) : Keeps s0 (State.descriptorIn s pt d) := by
  unfold State.descriptorIn
  with_reducible repeat' (first
    | assumption | exact Keeps.refl | apply Keeps.attemptFails | apply Keeps.modPort | apply Keeps.portUp | apply Keeps.sweepNodes
    | apply Keeps.renewRoutes | apply Keeps.elect | apply Keeps.setNbr | intro _ _ _ | intro _ _ | apply Keeps.ite | split
    | dsimp only | apply Keeps.update)

theorem Keeps.execDescriptorReceived {pt d} : ∃ s', execDescriptorReceived pt d s = .next s' ∧ Keeps s s' := by
  unfold Machine.execDescriptorReceived
  refine ⟨_, rfl, ?_⟩
  with_reducible repeat' (first | assumption | exact Keeps.refl | apply Keeps.descriptorIn | split | dsimp only)

theorem Keeps.dropNode {n} (hk : Keeps s0 s) : Keeps s0 (State.dropNode s n) := by
  unfold State.dropNode
  with_reducible repeat' (first
    | assumption | exact Keeps.refl | apply Keeps.endRuns | apply Keeps.decisionLost | apply Keeps.modNet | intro _ _ _ | intro _ _
    | apply Keeps.foldl | apply Keeps.foldlFst | apply Keeps.foldlSnd | apply Keeps.ite | split | dsimp only | apply Keeps.update)

theorem Keeps.adopt {n} (hk : Keeps s0 s) : Keeps s0 (State.adopt s n) := by
  unfold State.adopt
  with_reducible repeat' (first
    | assumption | exact Keeps.refl | apply Keeps.dropNode | apply Keeps.postDev | apply Keeps.took | intro _ _ _ | intro _ _
    | apply Keeps.ite | split | dsimp only | apply Keeps.update)

theorem Keeps.rejudge (hk : Keeps s0 s) : Keeps s0 (State.rejudge s) := by
  unfold State.rejudge
  with_reducible repeat' (first
    | assumption | exact Keeps.refl | apply Keeps.setNbr | intro _ _ _ | intro _ _ | apply Keeps.foldl | apply Keeps.foldlFst
    | apply Keeps.foldlSnd | apply Keeps.ite | split | dsimp only | apply Keeps.update)

theorem Keeps.newPoints {was} (hk : Keeps s0 s) : Keeps s0 (State.newPoints s was) := by
  unfold State.newPoints
  with_reducible repeat' (first
    | assumption | exact Keeps.refl | apply Keeps.clearSlice | intro _ _ _ | intro _ _ | apply Keeps.foldl | apply Keeps.foldlFst
    | apply Keeps.foldlSnd | apply Keeps.ite | split | dsimp only)

theorem Keeps.applyNow (hk : Keeps s0 s) : Keeps s0 (State.applyNow s) := by
  unfold State.applyNow
  with_reducible repeat' (first
    | assumption | exact Keeps.refl | apply Keeps.modNet | apply Keeps.postDev | apply Keeps.newPoints | apply Keeps.adopt
    | apply Keeps.loseNode | apply Keeps.sweepNodes | apply Keeps.renewRoutes | apply Keeps.rejudge | apply Keeps.elect
    | apply Keeps.sendDescriptor | intro _ _ _ | intro _ _ | apply Keeps.foldl | apply Keeps.foldlFst | apply Keeps.foldlSnd
    | apply Keeps.ite | split | dsimp only | apply Keeps.update)

theorem Keeps.fabApply {v} (hk : Keeps s0 s) : Keeps s0 (State.fabApply s v) := by
  unfold State.fabApply
  with_reducible repeat' (first
    | assumption | exact Keeps.refl | apply Keeps.applyNow | apply Keeps.modNet | intro _ _ _ | intro _ _ | apply Keeps.ite | split
    | dsimp only | apply Keeps.update)

theorem Keeps.execFabApply {v} : ∃ s', execFabApply v s = .next s' ∧ Keeps s s' := by
  unfold Machine.execFabApply
  refine ⟨_, rfl, ?_⟩
  with_reducible repeat' (first | assumption | exact Keeps.refl | apply Keeps.fabApply | apply Keeps.ite | split | dsimp only)

theorem Keeps.execNodeLostDeclare {n} : ∃ s', execNodeLostDeclare n s = .next s' ∧ Keeps s s' := by
  unfold Machine.execNodeLostDeclare
  refine ⟨_, rfl, ?_⟩
  with_reducible repeat' (first
    | assumption | exact Keeps.refl | apply Keeps.modNet | apply Keeps.emit | apply Keeps.fabApply | intro _ _ _ | intro _ _
    | apply Keeps.ite | split | dsimp only | apply Keeps.update)

theorem Keeps.refusePacket {a1 reason} (hk : Keeps s0 s) : Keeps s0 (State.refusePacket s a1 reason) := by
  unfold State.refusePacket
  with_reducible repeat' (first | assumption | exact Keeps.refl | apply Keeps.emit | split | dsimp only)

theorem Keeps.acceptPacket {a1} (hk : Keeps s0 s) : Keeps s0 (State.acceptPacket s a1) := by
  unfold State.acceptPacket
  with_reducible repeat' (first
    | assumption | exact Keeps.refl | apply Keeps.modNet | apply Keeps.postDev | apply Keeps.refusePacket | apply Keeps.fabBytes
    | intro _ _ _ | intro _ _ | apply Keeps.ite | split | dsimp only | apply Keeps.update)

theorem Keeps.endsWith {a1} (hk : Keeps s0 s) : Keeps s0 (State.endsWith s a1) := by
  unfold State.endsWith
  with_reducible repeat' (first
    | assumption | exact Keeps.refl | apply Keeps.modNet | apply Keeps.fabDone | intro _ _ _ | intro _ _ | apply Keeps.foldl
    | apply Keeps.foldlFst | apply Keeps.foldlSnd | apply Keeps.ite | split | dsimp only | apply Keeps.update)

theorem Keeps.passPacket {a1} (hk : Keeps s0 s) : Keeps s0 (State.passPacket s a1) := by
  unfold State.passPacket
  with_reducible repeat' (first
    | assumption | exact Keeps.refl | apply Keeps.fabBytes | apply Keeps.forward | apply Keeps.refusePacket | apply Keeps.ite
    | split | dsimp only | apply Keeps.update)

theorem Keeps.deliverPacket {pt a2} (hk : Keeps s0 s) : Keeps s0 (State.deliverPacket s pt a2) := by
  unfold State.deliverPacket
  with_reducible repeat' (first
    | assumption | exact Keeps.refl | apply Keeps.endsWith | apply Keeps.acceptPacket | apply Keeps.passPacket | apply Keeps.ite
    | split | dsimp only)

theorem Keeps.packetIn {pt crcOk seq a4} (hk : Keeps s0 s) : Keeps s0 (State.packetIn s pt crcOk seq a4) := by
  unfold State.packetIn
  with_reducible repeat' (first
    | assumption | exact Keeps.refl | apply Keeps.emit | apply Keeps.modPort | apply Keeps.acked | apply Keeps.portPerf
    | apply Keeps.deliverPacket | intro _ _ _ | intro _ _ | apply Keeps.ite | split | dsimp only | apply Keeps.update)

theorem Keeps.execFabricPacketReceive {pt crcOk seq pkt} : ∃ s', execFabricPacketReceive pt crcOk seq pkt s = .next s' ∧ Keeps s s' := by
  unfold Machine.execFabricPacketReceive
  refine ⟨_, rfl, ?_⟩
  with_reducible repeat' (first | assumption | exact Keeps.refl | apply Keeps.packetIn | split | dsimp only)

theorem Keeps.execE2eResend {k} : ∃ s', execE2eResend k s = .next s' ∧ Keeps s s' := by
  unfold Machine.execE2eResend
  refine ⟨_, rfl, ?_⟩
  with_reducible repeat' (first
    | assumption | exact Keeps.refl | apply Keeps.modNet | apply Keeps.perfWrap | apply Keeps.sweepNodes | apply Keeps.forward
    | intro _ _ _ | intro _ _ | apply Keeps.ite | split | dsimp only | apply Keeps.update)

theorem Keeps.execE2eTimeout {k} : ∃ s', execE2eTimeout k s = .next s' ∧ Keeps s s' := by
  unfold Machine.execE2eTimeout
  refine ⟨_, rfl, ?_⟩
  with_reducible repeat' (first
    | assumption | exact Keeps.refl | apply Keeps.loseNode | apply Keeps.ite | split | dsimp only | apply Keeps.update)

theorem Keeps.grpResult {r} (hk : Keeps s0 s) : Keeps s0 (State.grpResult s r) := by
  unfold State.grpResult
  with_reducible repeat' (first
    | assumption | exact Keeps.refl | apply Keeps.modNet | intro _ _ _ | intro _ _ | split | dsimp only | apply Keeps.update)

theorem Keeps.grpLoad {b} (hk : Keeps s0 s) : Keeps s0 (State.grpLoad s b) := by
  unfold State.grpLoad
  with_reducible repeat' (first
    | assumption | exact Keeps.refl | apply Keeps.grpResult | apply Keeps.addGroup | apply Keeps.ite | split | dsimp only)

theorem Keeps.grpRemove {p g} (hk : Keeps s0 s) : Keeps s0 (State.grpRemove s p g) := by
  unfold State.grpRemove
  with_reducible repeat' (first
    | assumption | exact Keeps.refl | apply Keeps.grpResult | apply Keeps.grpSettle | apply Keeps.modNet | intro _ _ _ | intro _ _
    | apply Keeps.ite | split | dsimp only | apply Keeps.update)

theorem Keeps.grpCmd {v rec_} (hk : Keeps s0 s) : Keeps s0 (State.grpCmd s v rec_) := by
  unfold State.grpCmd
  with_reducible repeat' (first
    | assumption | exact Keeps.refl | apply Keeps.grpResult | apply Keeps.grpRemove | apply Keeps.grpLoad | apply Keeps.ite | split
    | dsimp only)

theorem Keeps.execFabGrpLoad {v rec_} : ∃ s', execFabGrpLoad v rec_ s = .next s' ∧ Keeps s s' := by
  unfold Machine.execFabGrpLoad
  refine ⟨_, rfl, ?_⟩
  with_reducible repeat' (first | assumption | exact Keeps.refl | apply Keeps.grpCmd | apply Keeps.ite | split | dsimp only)

theorem Keeps.execFabGrpRemove {v} : ∃ s', execFabGrpRemove v s = .next s' ∧ Keeps s s' := by
  unfold Machine.execFabGrpRemove
  refine ⟨_, rfl, ?_⟩
  with_reducible repeat' (first | assumption | exact Keeps.refl | apply Keeps.grpCmd | apply Keeps.ite | split | dsimp only)

theorem Keeps.netWrite {off v remote rec_} (hk : Keeps s0 s) : Keeps s0 (State.netWrite s off v remote rec_) := by
  unfold State.netWrite
  with_reducible repeat' (first | assumption | apply Keeps.ite | apply Keeps.modNet | apply Keeps.fmCtl | apply Keeps.fabApply | apply Keeps.grpCmd)

theorem CounterKeeps.netCounter {off} (hk : Keeps s0 s) : CounterKeeps s0 (State.netCounter s off) := by
  unfold State.netCounter
  with_reducible repeat' (first
    | assumption | exact Keeps.refl | exact fun _ h => h | exact fun _ h => ⟨Nat.le_refl _, h⟩ | exact ⟨Nat.le_refl _, ‹_›⟩
    | apply CounterKeeps.ite | apply CounterKeeps.some | apply CounterKeeps.none | apply CounterKeeps.map | apply Keeps.modNet
    | intro _ _ _ | intro _ _ | apply writeBytes_wf | apply clearBytes_wf | apply storeAll_wf | apply swapBytes_wf
    | apply Keeps.foldl | apply Keeps.foldlFst | apply Keeps.foldlSnd | apply Keeps.ite | split | dsimp only | apply Keeps.update)

theorem Keeps.netCounter {off} {x} (he : State.netCounter s off = some (x, s')) (hk : Keeps s0 s) : Keeps s0 s' :=
  CounterKeeps.netCounter hk _ he

theorem Keeps.remoteRead {off} (hk : Keeps s0 s) : Keeps s0 (State.remoteRead s off) := by
  unfold State.remoteRead
  with_reducible repeat' (first
    | assumption | exact Keeps.refl | apply Keeps.emit | apply Keeps.modNet | intro _ _ _ | intro _ _ | apply Keeps.ite | split
    | refine Keeps.netCounter ‹_› ?_ | dsimp only | apply Keeps.update)

theorem Keeps.execRemoteAccess {serial write off v rec_} : ∃ s', execRemoteAccess serial write off v rec_ s = .next s' ∧ Keeps s s' := by
  unfold Machine.execRemoteAccess
  refine ⟨_, rfl, ?_⟩
  with_reducible repeat' (first
    | assumption | exact Keeps.refl | apply Keeps.netWrite | apply Keeps.remoteRead | apply Keeps.ite | split | dsimp only)

/-! ### Machine/Cicada.lean -/

theorem Keeps.tick (hk : Keeps s0 s) : Keeps s0 (State.tick s) := by
  unfold State.tick
  with_reducible repeat' (first
    | assumption | exact Keeps.refl | apply Keeps.noteRetain | apply Keeps.glideQuads | apply Keeps.modPwr | apply Keeps.sweepNodes
    | apply Keeps.noteReady | apply Keeps.tickPart | intro _ _ _ | intro _ _ | apply Keeps.foldl | apply Keeps.foldlFst
    | apply Keeps.foldlSnd | apply Keeps.ite | split | dsimp only)

/-! ### Machine/Resets.lean -/

theorem Keeps.postLater {code arg0 arg1} (hk : Keeps s0 s) : Keeps s0 (State.postLater s code arg0 arg1) := by
  unfold State.postLater
  dsimp only
  split
  all_goals split
  all_goals first | exact Keeps.post hk | exact Keeps.updateOwed hk

theorem Keeps.unitReset {u} (hk : Keeps s0 s) : Keeps s0 (State.unitReset s u) := by
  unfold State.unitReset
  with_reducible repeat' (first
    | assumption | exact Keeps.refl | apply Keeps.breakPairsOf | apply Keeps.modUnit | intro _ _ _ | intro _ _ | split | dsimp only
    | apply Keeps.update)

theorem Keeps.loseShare {p r c k a} (hk : Keeps s0 s) : Keeps s0 (State.loseShare s p r c k a) := by
  unfold State.loseShare
  with_reducible repeat' (first
    | assumption | exact Keeps.refl | apply Keeps.modOp | apply Keeps.spoil | apply Keeps.endLost | intro _ _ _ | intro _ _
    | apply Keeps.ite | split | dsimp only | apply Keeps.update)

theorem Keeps.loseShares {p r} (hk : Keeps s0 s) : Keeps s0 (State.loseShares s p r) := by
  unfold State.loseShares
  with_reducible repeat' (first
    | assumption | exact Keeps.refl | apply Keeps.loseShare | intro _ _ _ | intro _ _ | apply Keeps.foldl | apply Keeps.foldlFst
    | apply Keeps.foldlSnd | apply Keeps.ite | split | dsimp only | apply Keeps.update)

theorem Keeps.coreReset {p r oper} (hk : Keeps s0 s) : Keeps s0 (State.coreReset s p r oper) := by
  unfold State.coreReset
  with_reducible repeat' (first
    | assumption | exact Keeps.refl | apply Keeps.unitReset | apply Keeps.loseShares | apply Keeps.stopSegment
    | apply Keeps.postPart | intro _ _ _ | intro _ _ | apply Keeps.foldl | apply Keeps.foldlFst | apply Keeps.foldlSnd | split
    | dsimp only | apply Keeps.update)

theorem Keeps.execTntCoreRst {p v} : ∃ s', execTntCoreRst p v s = .next s' ∧ Keeps s s' := by
  unfold Machine.execTntCoreRst
  refine ⟨_, rfl, ?_⟩
  with_reducible repeat' (first | assumption | exact Keeps.refl | apply Keeps.coreReset | apply Keeps.ite | split | dsimp only)

theorem Keeps.execSysRstCore {k} : ∃ s', execSysRstCore k s = .next s' ∧ Keeps s s' := by
  unfold Machine.execSysRstCore
  refine ⟨_, rfl, ?_⟩
  with_reducible repeat' (first
    | assumption | exact Keeps.refl | apply Keeps.coreReset | intro _ _ _ | intro _ _ | apply Keeps.ite | split | dsimp only
    | apply Keeps.update)

theorem Keeps.readyQuads {p} (hk : Keeps s0 s) : Keeps s0 (State.readyQuads s p) := by
  unfold State.readyQuads
  with_reducible repeat' (first
    | assumption | exact Keeps.refl | apply Keeps.modQuad | intro _ _ _ | intro _ _ | apply Keeps.foldl | apply Keeps.foldlFst
    | apply Keeps.foldlSnd | apply Keeps.ite | split | dsimp only | apply Keeps.update)

theorem Keeps.partReset {p byWdg} (hk : Keeps s0 s) : Keeps s0 (State.partReset s p byWdg) := by
  unfold State.partReset
  with_reducible repeat' (first
    | assumption | exact Keeps.refl | apply Keeps.clearSlice | apply Keeps.clearEngines | apply Keeps.dropHeld | apply Keeps.endAll
    | apply Keeps.modLoss | apply Keeps.modLife | apply Keeps.setPState | apply Keeps.postOper | apply Keeps.readyQuads
    | apply Keeps.resetRings | apply Keeps.applyLoss | intro _ _ _ | intro _ _ | apply Keeps.ite | split | dsimp only
    | apply Keeps.update)

theorem Keeps.execSysRstPartition {p} : ∃ s', execSysRstPartition p s = .next s' ∧ Keeps s s' := by
  unfold Machine.execSysRstPartition
  refine ⟨_, rfl, ?_⟩
  with_reducible repeat' (first | assumption | exact Keeps.refl | apply Keeps.partReset | apply Keeps.ite | split | dsimp only)

theorem Keeps.execPwdReset {p v} : ∃ s', execPwdReset p v s = .next s' ∧ Keeps s s' := by
  unfold Machine.execPwdReset
  refine ⟨_, rfl, ?_⟩
  with_reducible repeat' (first | assumption | exact Keeps.refl | apply Keeps.partReset | apply Keeps.ite | split | dsimp only)

theorem Keeps.warmPart {p} (hk : Keeps s0 s) : Keeps s0 (State.warmPart s p) := by
  unfold State.warmPart
  with_reducible repeat' (first
    | assumption | exact Keeps.refl | apply Keeps.dropHeld | apply Keeps.endAll | apply Keeps.clearSlice | apply Keeps.clearEngines
    | apply Keeps.retainDone | apply Keeps.suspended | split | dsimp only | apply Keeps.update)

theorem Keeps.portsOff (hk : Keeps s0 s) : Keeps s0 (State.portsOff s) := by
  unfold State.portsOff
  with_reducible repeat' (first
    | assumption | exact Keeps.refl | apply Keeps.portDisable | apply Keeps.modPort | intro _ _ _ | intro _ _ | apply Keeps.foldl
    | apply Keeps.foldlFst | apply Keeps.foldlSnd | split | dsimp only | apply Keeps.update)

theorem Keeps.loseRecord {r} (hk : Keeps s0 s) : Keeps s0 (State.loseRecord s r) := by
  unfold State.loseRecord
  with_reducible repeat' (first
    | assumption | exact Keeps.refl | apply Keeps.postLater | apply Keeps.ite | split | dsimp only | apply Keeps.update)

theorem Keeps.loseMemory (hk : Keeps s0 s) : Keeps s0 (State.loseMemory s) :=
  Keeps.foldl (Keeps.mapPrts (Keeps.dropHeld (Keeps.modMtrHold hk)) fun _ _ => rfl) fun _ _ h => Keeps.loseRecord h

theorem Keeps.warmReset {cause memLost} (hk : Keeps s0 s) : Keeps s0 (State.warmReset s cause memLost) := by
  have h := Keeps.portsOff (Keeps.foldl (l := List.finRange 16) (f := State.warmPart)
    (Keeps.stopWork (fn := .pf) (st := .cancelled) (Keeps.resetLink hk)) fun _ _ h => Keeps.warmPart h)
  unfold State.warmReset
  dsimp only
  generalize (State.portsOff _) = t at h ⊢
  split
  · exact Keeps.loseMemory (Keeps.modPwr (Keeps.modSec (Keeps.updateFls h rfl)))
  · exact Keeps.modPwr (Keeps.modSec (Keeps.updateFls h rfl))

theorem Keeps.execSysRstWarm : ∃ s', execSysRstWarm s = .next s' ∧ Keeps s s' := by
  unfold Machine.execSysRstWarm
  refine ⟨_, rfl, ?_⟩
  with_reducible repeat' (first | assumption | exact Keeps.refl | apply Keeps.warmReset | apply Keeps.ite | split | dsimp only)

theorem memOk_reset : State.reset.memOk := by
  intro p
  simp only [State.prt, State.reset, Fin.getElem_fin, Vector.getElem_replicate]
  rfl

theorem Keeps.coldReset {cause} (hk : Keeps s0 s) : Keeps s0 (State.coldReset s cause) :=
  ⟨hk.queue, hk.frees, hk.outs, fun _ => memOk_reset, hk.fuse⟩

theorem Keeps.execSysRstCold : ∃ s', execSysRstCold s = .next s' ∧ Keeps s s' := by
  unfold Machine.execSysRstCold
  refine ⟨_, rfl, ?_⟩
  with_reducible repeat' (first | assumption | exact Keeps.refl | apply Keeps.coldReset | apply Keeps.ite | split | dsimp only)

theorem Keeps.execStandbyApply : ∃ s', execStandbyApply s = .next s' ∧ Keeps s s' := by
  unfold Machine.execStandbyApply
  refine ⟨_, rfl, ?_⟩
  with_reducible repeat' (first
    | assumption | exact Keeps.refl | apply Keeps.coldReset | apply Keeps.ite | split | dsimp only | apply Keeps.update)

theorem Keeps.powerDown (hk : Keeps s0 s) : Keeps s0 (State.powerDown s) := by
  unfold State.powerDown
  with_reducible repeat' (first
    | assumption | exact Keeps.refl | apply Keeps.modPwr | intro _ _ _ | intro _ _ | apply Keeps.ite | split | dsimp only
    | apply Keeps.update)

theorem Keeps.powerUp (hk : Keeps s0 s) : Keeps s0 (State.powerUp s) := by
  unfold State.powerUp
  with_reducible repeat' (first
    | assumption | exact Keeps.refl | apply Keeps.modPwr | intro _ _ _ | intro _ _ | split | dsimp only | apply Keeps.update)

theorem Keeps.supplyFault (hk : Keeps s0 s) : Keeps s0 (State.supplyFault s) := by
  unfold State.supplyFault
  with_reducible repeat' (first
    | assumption | exact Keeps.refl | apply Keeps.warmReset | apply Keeps.powerDown | apply Keeps.powerUp | apply Keeps.ite | split
    | dsimp only | apply Keeps.update)

theorem Keeps.execSupplyFault {rail} : ∃ s', execSupplyFault rail s = .next s' ∧ Keeps s s' := by
  unfold Machine.execSupplyFault
  refine ⟨_, rfl, ?_⟩
  with_reducible repeat' (first
    | assumption | exact Keeps.refl | apply Keeps.supplyFault | apply Keeps.postLater | apply Keeps.ite | split | dsimp only)

theorem Keeps.execPllUnlock {pll} : ∃ s', execPllUnlock pll s = .next s' ∧ Keeps s s' := by
  unfold Machine.execPllUnlock
  refine ⟨_, rfl, ?_⟩
  with_reducible repeat' (first
    | assumption | exact Keeps.refl | apply Keeps.postLater | apply Keeps.supplyFault | apply Keeps.train | apply Keeps.resetLink
    | apply Keeps.lockLoss | intro _ _ _ | intro _ _ | apply Keeps.ite | split | dsimp only)

theorem Keeps.execThermtrip : ∃ s', execThermtrip s = .next s' ∧ Keeps s s' := by
  unfold Machine.execThermtrip
  refine ⟨_, rfl, ?_⟩
  with_reducible repeat' (first
    | assumption | exact Keeps.refl | apply Keeps.powerDown | apply Keeps.ite | split | dsimp only | apply Keeps.update)

theorem Keeps.execPowerFailWarn {volts} : ∃ s', execPowerFailWarn volts s = .next s' ∧ Keeps s s' := by
  unfold Machine.execPowerFailWarn
  refine ⟨_, rfl, ?_⟩
  with_reducible repeat' (first
    | assumption | exact Keeps.refl | apply Keeps.postDev | apply Keeps.modPwr | intro _ _ _ | intro _ _ | apply Keeps.ite | split
    | dsimp only | apply Keeps.update)

theorem Keeps.execPowerFailRecover : ∃ s', execPowerFailRecover s = .next s' ∧ Keeps s s' := by
  unfold Machine.execPowerFailRecover
  refine ⟨_, rfl, ?_⟩
  with_reducible repeat' (first
    | assumption | exact Keeps.refl | apply Keeps.postDev | apply Keeps.modPwr | apply Keeps.took | intro _ _ _ | intro _ _
    | apply Keeps.ite | split | dsimp only | apply Keeps.update)

theorem Keeps.execPowerFailShutdown : ∃ s', execPowerFailShutdown s = .next s' ∧ Keeps s s' := by
  unfold Machine.execPowerFailShutdown
  refine ⟨_, rfl, ?_⟩
  with_reducible repeat' (first
    | assumption | exact Keeps.refl | apply Keeps.powerDown | apply Keeps.ite | split | dsimp only | apply Keeps.update)

theorem Keeps.execPbPrsntDeassert : ∃ s', execPbPrsntDeassert s = .next s' ∧ Keeps s s' := by
  unfold Machine.execPbPrsntDeassert
  refine ⟨_, rfl, ?_⟩
  with_reducible repeat' (first | assumption | exact Keeps.refl | apply Keeps.powerDown | split | dsimp only | apply Keeps.update)

theorem Keeps.execInputGood : ∃ s', execInputGood s = .next s' ∧ Keeps s s' := by
  unfold Machine.execInputGood
  refine ⟨_, rfl, ?_⟩
  with_reducible repeat' (first
    | assumption | exact Keeps.refl | apply Keeps.powerUp | apply Keeps.warmReset | apply Keeps.ite | split | dsimp only
    | apply Keeps.update)

theorem Keeps.execStandbyLoss : ∃ s', execStandbyLoss s = .next s' ∧ Keeps s s' := by
  unfold Machine.execStandbyLoss
  refine ⟨_, rfl, ?_⟩
  with_reducible repeat' (first
    | assumption | exact Keeps.refl | apply Keeps.modPwr | apply Keeps.modSec | apply Keeps.powerDown | intro _ _ _ | intro _ _
    | apply Keeps.ite | split | dsimp only | apply Keeps.update)

theorem Keeps.modDog {fn f} (hk : Keeps s0 s) : Keeps s0 (State.modDog s fn f) := by
  unfold State.modDog
  with_reducible repeat' (first | assumption | exact Keeps.refl | apply Keeps.modPwd | split | dsimp only | apply Keeps.update)

theorem Keeps.execWatchdogWarning {fn} : ∃ s', execWatchdogWarning fn s = .next s' ∧ Keeps s s' := by
  unfold Machine.execWatchdogWarning
  refine ⟨_, rfl, ?_⟩
  with_reducible repeat' (first
    | assumption | exact Keeps.refl | apply Keeps.modDog | apply Keeps.postDev | apply Keeps.postOper | apply Keeps.postPart
    | intro _ _ _ | intro _ _ | apply Keeps.ite | split | dsimp only | apply Keeps.update)

theorem Keeps.execDeviceWatchdogExpire : ∃ s', execDeviceWatchdogExpire s = .next s' ∧ Keeps s s' := by
  unfold Machine.execDeviceWatchdogExpire
  refine ⟨_, rfl, ?_⟩
  with_reducible repeat' (first | assumption | exact Keeps.refl | apply Keeps.warmReset | apply Keeps.ite | split | dsimp only)

theorem Keeps.execPartitionWatchdogExpire {p} : ∃ s', execPartitionWatchdogExpire p s = .next s' ∧ Keeps s s' := by
  unfold Machine.execPartitionWatchdogExpire
  refine ⟨_, rfl, ?_⟩
  with_reducible repeat' (first | assumption | exact Keeps.refl | apply Keeps.partReset | apply Keeps.ite | split | dsimp only)

theorem Keeps.execMcWatchdogExpire : ∃ s', execMcWatchdogExpire s = .next s' ∧ Keeps s s' := by
  unfold Machine.execMcWatchdogExpire
  refine ⟨_, rfl, ?_⟩
  with_reducible repeat' (first | assumption | exact Keeps.refl | apply Keeps.warmReset | apply Keeps.ite | split | dsimp only)

theorem Keeps.execWatchdogServe {fn v} : ∃ s', execWatchdogServe fn v s = .next s' ∧ Keeps s s' := by
  unfold Machine.execWatchdogServe
  refine ⟨_, rfl, ?_⟩
  with_reducible repeat' (first
    | assumption | exact Keeps.refl | apply Keeps.modDog | intro _ _ _ | intro _ _ | apply Keeps.ite | split | dsimp only
    | apply Keeps.update)

theorem Keeps.execServeArmTimeout {fn} : ∃ s', execServeArmTimeout fn s = .next s' ∧ Keeps s s' := by
  unfold Machine.execServeArmTimeout
  refine ⟨_, rfl, ?_⟩
  with_reducible repeat' (first | assumption | exact Keeps.refl | apply Keeps.modDog | apply Keeps.ite | split | dsimp only)

theorem Keeps.execWatchdogEnableWrite {fn v} : ∃ s', execWatchdogEnableWrite fn v s = .next s' ∧ Keeps s s' := by
  unfold Machine.execWatchdogEnableWrite
  refine ⟨_, rfl, ?_⟩
  with_reducible repeat' (first
    | assumption | exact Keeps.refl | apply Keeps.modDog | intro _ _ _ | intro _ _ | apply Keeps.ite | split | dsimp only
    | apply Keeps.update)

theorem Keeps.execWdgLock : ∃ s', execWdgLock s = .next s' ∧ Keeps s s' := by
  unfold Machine.execWdgLock
  refine ⟨_, rfl, ?_⟩
  with_reducible repeat' (first | assumption | exact Keeps.refl | apply Keeps.ite | split | dsimp only | apply Keeps.update)

/-! ### Machine/Journal.lean -/

theorem Keeps.flashEvent {code arg0 arg1} (hk : Keeps s0 s) : Keeps s0 (State.flashEvent s code arg0 arg1) := by
  unfold State.flashEvent
  with_reducible repeat' (first
    | assumption | exact Keeps.refl | exact fun _ h => ⟨Nat.le_refl _, h⟩ | exact ⟨Nat.le_refl _, ‹_›⟩ | apply Keeps.postDev
    | apply Keeps.modFls | intro _ _ _ | intro _ _ | apply Keeps.ite | split | dsimp only | apply Keeps.update)

theorem Keeps.stageEvent {stage t cause} (hk : Keeps s0 s) : Keeps s0 (State.stageEvent s stage t cause) := by
  unfold State.stageEvent
  with_reducible repeat' (first | assumption | exact Keeps.refl | apply Keeps.flashEvent | split | dsimp only)

theorem Keeps.flashError {what addr} (hk : Keeps s0 s) : Keeps s0 (State.flashError s what addr) := by
  unfold State.flashError
  with_reducible repeat' (first
    | assumption | exact Keeps.refl | exact fun _ h => ⟨Nat.le_refl _, h⟩ | exact ⟨Nat.le_refl _, ‹_›⟩ | apply Keeps.flashEvent
    | apply Keeps.modFls | intro _ _ _ | intro _ _ | split | dsimp only | apply Keeps.update)

theorem Keeps.copyFails {copy} (hk : Keeps s0 s) : Keeps s0 (State.copyFails s copy) := by
  unfold State.copyFails
  with_reducible repeat' (first
    | assumption | exact Keeps.refl | exact fun _ h => ⟨Nat.le_refl _, h⟩ | exact ⟨Nat.le_refl _, ‹_›⟩ | apply Keeps.flashError
    | apply Keeps.modFls | intro _ _ _ | intro _ _ | apply Keeps.ite | split | dsimp only | apply Keeps.update)

theorem compact_fuses {F : Flash} : F.compact.fuses = F.fuses := by
  unfold Flash.compact
  split <;> rfl

theorem Keeps.compact {f : Flash → Flash} (hk : Keeps s0 s) (hf : ∀ F, (f F).fuses = F.fuses) :
    Keeps s0 (s.modFls fun F => (f F).compact) :=
  Keeps.modFls hk fun F h => by
    simp only [compact_fuses, hf]
    exact ⟨Nat.le_refl _, h⟩

theorem Keeps.append_fst {k io} (hk : Keeps s0 s) : Keeps s0 (State.append s k io).1 := by
  have hc : ∀ {t}, Keeps s0 t → Keeps s0 (t.modFls Flash.compact) := fun h => Keeps.compact (f := id) h fun _ => rfl
  unfold State.append
  have hm : Keeps s0 (s.modFls fun F => { F with j0 := F.j0.add ⟨s.flash.seq + 1, k⟩, seq := s.flash.seq + 1, js := F.js.play k }) :=
    Keeps.modFls hk fun _ h => ⟨Nat.le_refl _, h⟩
  cases io with
  | ok => exact Keeps.compact (f := fun F => { F with j1 := F.j1.add ⟨s.flash.seq + 1, k⟩ }) hm fun _ => rfl
  | fails => exact hc (Keeps.copyFails hk)
  | copy1Fails => exact hc (Keeps.copyFails hm)

theorem Keeps.append {k io} {x} (he : State.append s k io = (s', x)) (hk : Keeps s0 s) : Keeps s0 s' := by
  have h := Keeps.append_fst (k := k) (io := io) hk
  rw [he] at h
  exact h

theorem Keeps.verify_fst {t readOk} (hk : Keeps s0 s) : Keeps s0 (State.verify s t readOk).1 := by
  unfold State.verify
  with_reducible repeat' (first
    | assumption | exact Keeps.refl | exact fun _ h => ⟨Nat.le_refl _, h⟩ | exact ⟨Nat.le_refl _, ‹_›⟩ | apply Keeps.flashError
    | apply Keeps.modFls | intro _ _ _ | intro _ _ | apply Keeps.ite | split | dsimp only | apply Keeps.update)

theorem Keeps.verify {t readOk} {x} (he : State.verify s t readOk = (s', x)) (hk : Keeps s0 s) : Keeps s0 s' := by
  have h := Keeps.verify_fst (t := t) (readOk := readOk) hk
  rw [he] at h
  exact h

theorem Keeps.blowTo {n} (hk : Keeps s0 s) : Keeps s0 (State.blowTo s n) := by
  unfold State.blowTo
  split
  · rename_i c
    simp only [Bool.and_eq_true, decide_eq_true_eq] at c
    refine Keeps.flashEvent ⟨hk.queue, hk.frees, hk.outs, hk.mem, fun w => ?_⟩
    have a := hk.fuse w
    have b : (s.modFls fun F => { F with fuses := min n 64 }).flash.fuses = min n 64 := rfl
    omega
  · exact hk

theorem Keeps.blow (hk : Keeps s0 s) : Keeps s0 (State.blow s) := by
  unfold State.blow
  with_reducible repeat' (first | assumption | exact Keeps.refl | apply Keeps.blowTo | split | dsimp only)

theorem Keeps.rewrite_fst {l io} (hk : Keeps s0 s) : Keeps s0 (State.rewrite s l io).1 := by
  unfold State.rewrite
  with_reducible repeat' (first
    | assumption | exact Keeps.refl | exact fun _ h => ⟨Nat.le_refl _, h⟩ | exact ⟨Nat.le_refl _, ‹_›⟩ | apply Keeps.modFls
    | apply Keeps.flashError | intro _ _ _ | intro _ _ | apply Keeps.ite | split | dsimp only | apply Keeps.update)

theorem Keeps.rewrite {l io} {x} (he : State.rewrite s l io = (s', x)) (hk : Keeps s0 s) : Keeps s0 s' := by
  have h := Keeps.rewrite_fst (l := l) (io := io) hk
  rw [he] at h
  exact h

/-! ### Machine/Boot.lean -/

theorem Keeps.modBoot {f} (hk : Keeps s0 s) : Keeps s0 (State.modBoot s f) := by
  unfold State.modBoot
  with_reducible repeat' (first | assumption | exact Keeps.refl | split | dsimp only | apply Keeps.update)

theorem Keeps.reach {m} (hk : Keeps s0 s) : Keeps s0 (State.reach s m) := by
  unfold State.reach
  with_reducible repeat' (first
    | assumption | exact Keeps.refl | apply Keeps.modBoot | intro _ _ _ | intro _ _ | split | dsimp only | apply Keeps.update)

theorem Keeps.readyAs {form fault} (hk : Keeps s0 s) : Keeps s0 (State.readyAs s form fault) := by
  unfold State.readyAs
  with_reducible repeat' (first
    | assumption | exact Keeps.refl | apply Keeps.modBoot | intro _ _ _ | intro _ _ | split | dsimp only | apply Keeps.update)

theorem Keeps.limit {fault} (hk : Keeps s0 s) : Keeps s0 (State.limit s fault) := by
  unfold State.limit
  with_reducible repeat' (first | assumption | exact Keeps.refl | apply Keeps.readyAs | split | dsimp only)

theorem Keeps.replayJournal (hk : Keeps s0 s) : Keeps s0 (State.replayJournal s) := by
  unfold State.replayJournal
  with_reducible repeat' (first
    | assumption | exact Keeps.refl | exact fun _ h => ⟨Nat.le_refl _, h⟩ | exact ⟨Nat.le_refl _, ‹_›⟩ | apply Keeps.modFls
    | intro _ _ _ | intro _ _ | split | dsimp only | apply Keeps.update)

theorem Keeps.runs {t from_} (hk : Keeps s0 s) : Keeps s0 (State.runs s t from_) := by
  unfold State.runs
  with_reducible repeat' (first
    | assumption | exact Keeps.refl | exact fun _ h => ⟨Nat.le_refl _, h⟩ | exact ⟨Nat.le_refl _, ‹_›⟩ | apply Keeps.modFls
    | intro _ _ _ | intro _ _ | split | dsimp only | apply Keeps.update)

theorem Keeps.bootSource {d} (hk : Keeps s0 s) : Keeps s0 (State.bootSource s d) := by
  unfold State.bootSource
  with_reducible repeat' (first | assumption | exact Keeps.refl | apply Keeps.flashEvent | split | dsimp only)

theorem Keeps.selectRecovery {io d} (hk : Keeps s0 s) : Keeps s0 (State.selectRecovery s io d) := by
  unfold State.selectRecovery
  with_reducible repeat' (first
    | assumption | exact Keeps.refl | exact fun _ h => ⟨Nat.le_refl _, h⟩ | exact ⟨Nat.le_refl _, ‹_›⟩ | apply Keeps.readyAs
    | apply Keeps.runs | apply Keeps.modFls | apply Keeps.train | apply Keeps.verify_fst | intro _ _ _ | intro _ _
    | apply Keeps.ite | split | refine Keeps.verify ‹_› ?_ | dsimp only | apply Keeps.update)

theorem Keeps.selectActive {io} (hk : Keeps s0 s) : Keeps s0 (State.selectActive s io) := by
  unfold State.selectActive
  with_reducible repeat' (first
    | assumption | exact Keeps.refl | apply Keeps.reach | apply Keeps.runs | apply Keeps.bootSource | apply Keeps.selectRecovery
    | apply Keeps.verify_fst | apply Keeps.ite | split | refine Keeps.verify ‹_› ?_ | dsimp only)

theorem Keeps.bootRollback {x cause io} (hk : Keeps s0 s) : Keeps s0 (State.bootRollback s x cause io) := by
  unfold State.bootRollback
  with_reducible repeat' (first
    | assumption | exact Keeps.refl | apply Keeps.stageEvent | apply Keeps.append_fst | apply Keeps.ite | split
    | refine Keeps.append ‹_› ?_ | dsimp only | apply Keeps.update)

theorem Keeps.selectImage {io} (hk : Keeps s0 s) : Keeps s0 (State.selectImage s io) := by
  unfold State.selectImage
  with_reducible repeat' (first
    | assumption | exact Keeps.refl | apply Keeps.blow | apply Keeps.replayJournal | apply Keeps.selectActive
    | apply Keeps.bootRollback | apply Keeps.reach | apply Keeps.stageEvent | apply Keeps.runs | apply Keeps.verify_fst
    | apply Keeps.append_fst | apply Keeps.ite | split | refine Keeps.verify ‹_› ?_ | refine Keeps.append ‹_› ?_ | dsimp only
    | apply Keeps.update)

theorem Keeps.selectStore (hk : Keeps s0 s) : Keeps s0 (State.selectStore s) := by
  unfold State.selectStore
  with_reducible repeat' (first
    | assumption | exact Keeps.refl | exact fun _ h => ⟨Nat.le_refl _, h⟩ | exact ⟨Nat.le_refl _, ‹_›⟩ | apply Keeps.flashEvent
    | apply Keeps.modFls | intro _ _ _ | intro _ _ | apply Keeps.foldl | apply Keeps.foldlFst | apply Keeps.foldlSnd
    | apply Keeps.ite | split | dsimp only | apply Keeps.update)

theorem Keeps.applyClock (hk : Keeps s0 s) : Keeps s0 (State.applyClock s) := by
  unfold State.applyClock
  with_reducible repeat' (first
    | assumption | exact Keeps.refl | apply Keeps.modPwr | intro _ _ _ | intro _ _ | split | dsimp only | apply Keeps.update)

theorem Keeps.applyFabric (hk : Keeps s0 s) : Keeps s0 (State.applyFabric s) := by
  unfold State.applyFabric
  with_reducible repeat' (first
    | assumption | exact Keeps.refl | apply Keeps.modNet | apply Keeps.fabApply | apply Keeps.portEnable | apply Keeps.fmCtl
    | intro _ _ _ | intro _ _ | apply Keeps.foldl | apply Keeps.foldlFst | apply Keeps.foldlSnd | apply Keeps.ite | split
    | dsimp only | apply Keeps.update)

theorem Keeps.applyPowerHost (hk : Keeps s0 s) : Keeps s0 (State.applyPowerHost s) := by
  unfold State.applyPowerHost
  with_reducible repeat' (first
    | assumption | exact Keeps.refl | apply Keeps.modPwr | apply Keeps.modLoss | intro _ _ _ | intro _ _ | split | dsimp only
    | apply Keeps.update)

theorem Keeps.applyWatchdog (hk : Keeps s0 s) : Keeps s0 (State.applyWatchdog s) := by
  unfold State.applyWatchdog
  with_reducible repeat' (first | assumption | exact Keeps.refl | apply Keeps.ite | split | dsimp only | apply Keeps.update)

theorem Keeps.defaultRegs {p b} (hk : Keeps s0 s) : Keeps s0 (State.defaultRegs s p b) := by
  unfold State.defaultRegs
  with_reducible repeat' (first
    | assumption | exact Keeps.refl | apply Keeps.modSec | apply Keeps.modMtr | apply Keeps.modPwr | apply Keeps.modLoss
    | intro _ _ _ | intro _ _ | split | dsimp only | apply Keeps.update)

theorem Keeps.defaultCommit {p b} (hk : Keeps s0 s) : Keeps s0 (State.defaultCommit s p b) := by
  unfold State.defaultCommit
  with_reducible repeat' (first
    | assumption | exact Keeps.refl | exact fun _ h => h | apply Keeps.modPrt | apply Keeps.modLife | apply Keeps.setPState
    | apply Keeps.endPrt | apply Keeps.commitDone | apply Keeps.flashEvent | intro _ _ _ | intro _ _ | split | dsimp only
    | apply Keeps.update)

theorem Keeps.applyDefaults (hk : Keeps s0 s) : Keeps s0 (State.applyDefaults s) := by
  unfold State.applyDefaults
  with_reducible repeat' (first
    | assumption | exact Keeps.refl | apply Keeps.defaultRegs | apply Keeps.defaultCommit | intro _ _ _ | intro _ _
    | apply Keeps.foldl | apply Keeps.foldlFst | apply Keeps.foldlSnd | apply Keeps.ite | split | dsimp only | apply Keeps.update)

theorem Keeps.trainStacks {bad} (hk : Keeps s0 s) : Keeps s0 (State.trainStacks s bad) := by
  unfold State.trainStacks
  with_reducible repeat' (first
    | assumption | exact Keeps.refl | apply Keeps.unitFails | apply Keeps.limit | apply Keeps.reach | intro _ _ _ | intro _ _
    | apply Keeps.foldl | apply Keeps.foldlFst | apply Keeps.foldlSnd | apply Keeps.ite | split | dsimp only | apply Keeps.update)

theorem Keeps.trainBoard {bad} (hk : Keeps s0 s) : Keeps s0 (State.trainBoard s bad) := by
  unfold State.trainBoard
  with_reducible repeat' (first
    | assumption | exact Keeps.refl | apply Keeps.reach | apply Keeps.modBoot | apply Keeps.unitFails | intro _ _ _ | intro _ _
    | apply Keeps.foldl | apply Keeps.foldlFst | apply Keeps.foldlSnd | apply Keeps.ite | split | dsimp only | apply Keeps.update)

theorem Keeps.makeKeys {entropyOk} (hk : Keeps s0 s) : Keeps s0 (State.makeKeys s entropyOk) := by
  unfold State.makeKeys
  with_reducible repeat' (first
    | assumption | exact Keeps.refl | apply Keeps.postDev | apply Keeps.modSec | apply Keeps.limit | apply Keeps.newKey
    | apply Keeps.took | apply Keeps.reach | intro _ _ _ | intro _ _ | apply Keeps.ite | split | dsimp only | apply Keeps.update)

theorem Keeps.hostUp (hk : Keeps s0 s) : Keeps s0 (State.hostUp s) := by
  unfold State.hostUp
  with_reducible repeat' (first
    | assumption | exact Keeps.refl | exact fun _ h => ⟨Nat.le_refl _, h⟩ | exact ⟨Nat.le_refl _, ‹_›⟩ | apply Keeps.applyWatchdog
    | apply Keeps.applyPowerHost | apply Keeps.modFls | apply Keeps.applyDefaults | apply Keeps.modBoot | intro _ _ _ | intro _ _
    | apply Keeps.ite | split | dsimp only | apply Keeps.update)

theorem Keeps.bootStep {b} (hk : Keeps s0 s) : Keeps s0 (State.bootStep s b) := by
  unfold State.bootStep
  with_reducible repeat' (first
    | assumption | exact Keeps.refl | apply Keeps.supplyFault | apply Keeps.postLater | apply Keeps.took | apply Keeps.reach
    | apply Keeps.selectImage | apply Keeps.selectStore | apply Keeps.train | apply Keeps.applyClock | apply Keeps.modPwr
    | apply Keeps.trainStacks | apply Keeps.trainBoard | apply Keeps.makeKeys | apply Keeps.applyFabric | apply Keeps.hostUp
    | intro _ _ _ | intro _ _ | apply Keeps.ite | split | dsimp only | apply Keeps.update)

theorem Keeps.execBootMilestone {b} : ∃ s', execBootMilestone b s = .next s' ∧ Keeps s s' := by
  unfold Machine.execBootMilestone
  refine ⟨_, rfl, ?_⟩
  with_reducible repeat' (first | assumption | exact Keeps.refl | apply Keeps.bootStep | split | dsimp only)

/-! ### Machine/Update.lean -/

theorem Keeps.dlBegin_fst {t pldm io} (hk : Keeps s0 s) : Keeps s0 (State.dlBegin s t pldm io).1 := by
  unfold State.dlBegin
  with_reducible repeat' (first
    | assumption | exact Keeps.refl | exact fun _ h => ⟨Nat.le_refl _, h⟩ | exact ⟨Nat.le_refl _, ‹_›⟩ | apply Keeps.modFls
    | apply Keeps.stageEvent | apply Keeps.append_fst | intro _ _ _ | intro _ _ | apply Keeps.ite | split
    | refine Keeps.append ‹_› ?_ | dsimp only | apply Keeps.update)

theorem Keeps.dlBegin {t pldm io} {x} (he : State.dlBegin s t pldm io = (s', x)) (hk : Keeps s0 s) : Keeps s0 s' := by
  have h := Keeps.dlBegin_fst (t := t) (pldm := pldm) (io := io) hk
  rw [he] at h
  exact h

theorem Keeps.dlWrite_fst {t len data sized io} (hk : Keeps s0 s) : Keeps s0 (State.dlWrite s t len data sized io).1 := by
  unfold State.dlWrite
  with_reducible repeat' (first
    | assumption | exact Keeps.refl | exact fun _ h => ⟨Nat.le_refl _, h⟩ | exact ⟨Nat.le_refl _, ‹_›⟩ | apply Keeps.flashError
    | apply Keeps.modFls | intro _ _ _ | intro _ _ | apply Keeps.ite | split | dsimp only | apply Keeps.update)

theorem Keeps.dlWrite {t len data sized io} {x} (he : State.dlWrite s t len data sized io = (s', x)) (hk : Keeps s0 s) : Keeps s0 s' := by
  have h := Keeps.dlWrite_fst (t := t) (len := len) (data := data) (sized := sized) (io := io) hk
  rw [he] at h
  exact h

theorem Keeps.dlVerify_fst {t io} (hk : Keeps s0 s) : Keeps s0 (State.dlVerify s t io).1 := by
  unfold State.dlVerify
  with_reducible repeat' (first
    | assumption | exact Keeps.refl | exact fun _ h => ⟨Nat.le_refl _, h⟩ | exact ⟨Nat.le_refl _, ‹_›⟩ | apply Keeps.modFls
    | apply Keeps.flashEvent | apply Keeps.verify_fst | intro _ _ _ | intro _ _ | apply Keeps.ite | split
    | refine Keeps.verify ‹_› ?_ | dsimp only | apply Keeps.update)

theorem Keeps.dlVerify {t io} {x} (he : State.dlVerify s t io = (s', x)) (hk : Keeps s0 s) : Keeps s0 s' := by
  have h := Keeps.dlVerify_fst (t := t) (io := io) hk
  rw [he] at h
  exact h

theorem Keeps.dlActivate_fst {t io} (hk : Keeps s0 s) : Keeps s0 (State.dlActivate s t io).1 := by
  unfold State.dlActivate
  with_reducible repeat' (first
    | assumption | exact Keeps.refl | exact fun _ h => ⟨Nat.le_refl _, h⟩ | exact ⟨Nat.le_refl _, ‹_›⟩ | apply Keeps.stageEvent
    | apply Keeps.modFls | apply Keeps.blow | apply Keeps.append_fst | intro _ _ _ | intro _ _ | apply Keeps.ite | split
    | refine Keeps.append ‹_› ?_ | dsimp only | apply Keeps.update)

theorem Keeps.dlActivate {t io} {x} (he : State.dlActivate s t io = (s', x)) (hk : Keeps s0 s) : Keeps s0 s' := by
  have h := Keeps.dlActivate_fst (t := t) (io := io) hk
  rw [he] at h
  exact h

theorem Keeps.confirm_fst {io} (hk : Keeps s0 s) : Keeps s0 (State.confirm s io).1 := by
  unfold State.confirm
  with_reducible repeat' (first
    | assumption | exact Keeps.refl | exact fun _ h => ⟨Nat.le_refl _, h⟩ | exact ⟨Nat.le_refl _, ‹_›⟩ | apply Keeps.stageEvent
    | apply Keeps.modFls | apply Keeps.blow | apply Keeps.append_fst | intro _ _ _ | intro _ _ | apply Keeps.ite | split
    | refine Keeps.append ‹_› ?_ | dsimp only | apply Keeps.update)

theorem Keeps.confirm {io} {x} (he : State.confirm s io = (s', x)) (hk : Keeps s0 s) : Keeps s0 s' := by
  have h := Keeps.confirm_fst (io := io) hk
  rw [he] at h
  exact h

theorem Keeps.rollback_fst {cause io} (hk : Keeps s0 s) : Keeps s0 (State.rollback s cause io).1 := by
  unfold State.rollback
  with_reducible repeat' (first
    | assumption | exact Keeps.refl | apply Keeps.stageEvent | apply Keeps.warmReset | apply Keeps.append_fst | apply Keeps.ite
    | split | refine Keeps.append ‹_› ?_ | dsimp only | apply Keeps.update)

theorem Keeps.rollback {cause io} {x} (he : State.rollback s cause io = (s', x)) (hk : Keeps s0 s) : Keeps s0 s' := by
  have h := Keeps.rollback_fst (cause := cause) (io := io) hk
  rw [he] at h
  exact h

theorem Keeps.flsCmd {code} {f : State → State × FlsRes} (hk : Keeps s0 s)
    (hf : ∀ s, Keeps s0 s → Keeps s0 (f s).1) : Keeps s0 (State.flsCmd s code f) := by
  unfold State.flsCmd
  dsimp only
  split
  · exact hk
  · refine Keeps.modFls ?_ fun _ h => ⟨Nat.le_refl _, h⟩
    repeat' split
    · exact hk
    · exact hk
    · exact hf _ hk

theorem Keeps.flsTarget {code target} {f : State → Fin 3 → State × FlsRes} (hk : Keeps s0 s)
    (hf : ∀ s t, Keeps s0 s → Keeps s0 (f s t).1) : Keeps s0 (State.flsTarget s code target f) := by
  unfold State.flsTarget
  refine Keeps.flsCmd hk fun s h => ?_
  split
  · exact hf _ _ h
  · exact h

theorem Keeps.execDlBegin {target io} : ∃ s', execDlBegin target io s = .next s' ∧ Keeps s s' := by
  unfold Machine.execDlBegin
  refine ⟨_, rfl, ?_⟩
  with_reducible repeat' (first
    | assumption | exact Keeps.refl | apply Keeps.flsTarget | apply Keeps.dlBegin_fst | intro _ _ _ | intro _ _ | split
    | refine Keeps.dlBegin ‹_› ?_ | dsimp only)

theorem Keeps.execDlWrite {target data io} : ∃ s', execDlWrite target data io s = .next s' ∧ Keeps s s' := by
  unfold Machine.execDlWrite
  refine ⟨_, rfl, ?_⟩
  with_reducible repeat' (first
    | assumption | exact Keeps.refl | apply Keeps.flsTarget | apply Keeps.dlWrite_fst | intro _ _ _ | intro _ _ | apply Keeps.ite
    | split | refine Keeps.dlWrite ‹_› ?_ | dsimp only)

theorem Keeps.execVerify {target io} : ∃ s', execVerify target io s = .next s' ∧ Keeps s s' := by
  unfold Machine.execVerify
  refine ⟨_, rfl, ?_⟩
  with_reducible repeat' (first
    | assumption | exact Keeps.refl | apply Keeps.flsTarget | apply Keeps.dlVerify_fst | intro _ _ _ | intro _ _ | split
    | refine Keeps.dlVerify ‹_› ?_ | dsimp only)

theorem Keeps.execActivate {target io} : ∃ s', execActivate target io s = .next s' ∧ Keeps s s' := by
  unfold Machine.execActivate
  refine ⟨_, rfl, ?_⟩
  with_reducible repeat' (first
    | assumption | exact Keeps.refl | apply Keeps.flsTarget | apply Keeps.dlActivate_fst | intro _ _ _ | intro _ _ | split
    | refine Keeps.dlActivate ‹_› ?_ | dsimp only)

theorem Keeps.execRestart {a0} : ∃ s', execRestart a0 s = .next s' ∧ Keeps s s' := by
  unfold Machine.execRestart
  refine ⟨_, rfl, ?_⟩
  with_reducible repeat' (first
    | assumption | exact Keeps.refl | apply Keeps.flsCmd | apply Keeps.warmReset | intro _ _ _ | intro _ _ | split | dsimp only)

theorem Keeps.execConfirm {a0 io} : ∃ s', execConfirm a0 io s = .next s' ∧ Keeps s s' := by
  unfold Machine.execConfirm
  refine ⟨_, rfl, ?_⟩
  with_reducible repeat' (first
    | assumption | exact Keeps.refl | apply Keeps.flsCmd | apply Keeps.confirm_fst | intro _ _ _ | intro _ _ | split
    | refine Keeps.confirm ‹_› ?_ | dsimp only)

theorem Keeps.execRollback {a0 io} : ∃ s', execRollback a0 io s = .next s' ∧ Keeps s s' := by
  unfold Machine.execRollback
  refine ⟨_, rfl, ?_⟩
  with_reducible repeat' (first
    | assumption | exact Keeps.refl | apply Keeps.flsCmd | apply Keeps.rollback_fst | intro _ _ _ | intro _ _ | split
    | refine Keeps.rollback ‹_› ?_ | dsimp only)

theorem Keeps.execAbort {target} : ∃ s', execAbort target s = .next s' ∧ Keeps s s' := by
  unfold Machine.execAbort
  refine ⟨_, rfl, ?_⟩
  with_reducible repeat' (first
    | assumption | exact Keeps.refl | exact fun _ h => ⟨Nat.le_refl _, h⟩ | exact ⟨Nat.le_refl _, ‹_›⟩ | apply Keeps.flsTarget
    | apply Keeps.modFls | intro _ _ _ | intro _ _ | apply Keeps.ite | split | dsimp only | apply Keeps.update)

theorem Keeps.flsBadCmd {code} (hk : Keeps s0 s) : Keeps s0 (State.flsBadCmd s code) := by
  unfold State.flsBadCmd
  with_reducible repeat' (first | assumption | exact Keeps.refl | apply Keeps.flsCmd | intro _ _ _ | intro _ _ | split | dsimp only)

theorem Keeps.execTrialTimerExpire {io} : ∃ s', execTrialTimerExpire io s = .next s' ∧ Keeps s s' := by
  unfold Machine.execTrialTimerExpire
  refine ⟨_, rfl, ?_⟩
  with_reducible repeat' (first
    | assumption | exact Keeps.refl | apply Keeps.confirm_fst | apply Keeps.rollback_fst | apply Keeps.ite | split
    | refine Keeps.confirm ‹_› ?_ | refine Keeps.rollback ‹_› ?_ | dsimp only | apply Keeps.update)

theorem Keeps.execFlsSeal {v} : ∃ s', execFlsSeal v s = .next s' ∧ Keeps s s' := by
  unfold Machine.execFlsSeal
  refine ⟨_, rfl, ?_⟩
  with_reducible repeat' (first
    | assumption | exact Keeps.refl | exact fun _ h => ⟨Nat.le_refl _, h⟩ | exact ⟨Nat.le_refl _, ‹_›⟩ | apply Keeps.blowTo
    | apply Keeps.modFls | intro _ _ _ | intro _ _ | apply Keeps.ite | split | dsimp only | apply Keeps.update)

theorem Keeps.cfgCmd {typ io f} (hk : Keeps s0 s) : Keeps s0 (State.cfgCmd s typ io f) := by
  unfold State.cfgCmd
  with_reducible repeat' (first
    | assumption | exact Keeps.refl | exact fun _ h => ⟨Nat.le_refl _, h⟩ | exact ⟨Nat.le_refl _, ‹_›⟩ | apply Keeps.modFls
    | apply Keeps.rewrite_fst | intro _ _ _ | intro _ _ | apply Keeps.ite | split | refine Keeps.rewrite ‹_› ?_ | dsimp only
    | apply Keeps.update)

theorem Keeps.execFlsCfgPut {typ io} : ∃ s', execFlsCfgPut typ io s = .next s' ∧ Keeps s s' := by
  unfold Machine.execFlsCfgPut
  refine ⟨_, rfl, ?_⟩
  with_reducible repeat' (first
    | assumption | exact Keeps.refl | apply Keeps.cfgCmd | intro _ _ _ | intro _ _ | apply Keeps.ite | split | dsimp only)

theorem Keeps.execFlsCfgDel {typ io} : ∃ s', execFlsCfgDel typ io s = .next s' ∧ Keeps s s' := by
  unfold Machine.execFlsCfgDel
  refine ⟨_, rfl, ?_⟩
  with_reducible repeat' (first
    | assumption | exact Keeps.refl | apply Keeps.cfgCmd | intro _ _ _ | intro _ _ | apply Keeps.ite | split | dsimp only)

theorem Keeps.execFlsCfgRead {i} : ∃ s', execFlsCfgRead i s = .next s' ∧ Keeps s s' := by
  unfold Machine.execFlsCfgRead
  refine ⟨_, rfl, ?_⟩
  with_reducible repeat' (first
    | assumption | exact Keeps.refl | exact fun _ h => ⟨Nat.le_refl _, h⟩ | exact ⟨Nat.le_refl _, ‹_›⟩ | apply Keeps.modFls
    | intro _ _ _ | intro _ _ | apply Keeps.ite | split | dsimp only | apply Keeps.update)

theorem Keeps.pldmSay {code fields} (hk : Keeps s0 s) : Keeps s0 (State.pldmSay s code fields) := by
  unfold State.pldmSay
  with_reducible repeat' (first | assumption | exact Keeps.refl | apply Keeps.emit | split | dsimp only)

theorem Keeps.execQueryDeviceIdentifiers : ∃ s', execQueryDeviceIdentifiers s = .next s' ∧ Keeps s s' := by
  unfold Machine.execQueryDeviceIdentifiers
  refine ⟨_, rfl, ?_⟩
  with_reducible repeat' (first | assumption | exact Keeps.refl | apply Keeps.pldmSay | apply Keeps.ite | split | dsimp only)

theorem Keeps.execGetFirmwareParameters : ∃ s', execGetFirmwareParameters s = .next s' ∧ Keeps s s' := by
  unfold Machine.execGetFirmwareParameters
  refine ⟨_, rfl, ?_⟩
  with_reducible repeat' (first
    | assumption | exact Keeps.refl | apply Keeps.pldmSay | intro _ _ _ | intro _ _ | apply Keeps.ite | split | dsimp only)

theorem Keeps.execGetStatus : ∃ s', execGetStatus s = .next s' ∧ Keeps s s' := by
  unfold Machine.execGetStatus
  refine ⟨_, rfl, ?_⟩
  with_reducible repeat' (first | assumption | exact Keeps.refl | apply Keeps.pldmSay | apply Keeps.ite | split | dsimp only)

theorem Keeps.execRequestUpdate : ∃ s', execRequestUpdate s = .next s' ∧ Keeps s s' := by
  unfold Machine.execRequestUpdate
  refine ⟨_, rfl, ?_⟩
  with_reducible repeat' (first
    | assumption | exact Keeps.refl | exact fun _ h => ⟨Nat.le_refl _, h⟩ | exact ⟨Nat.le_refl _, ‹_›⟩ | apply Keeps.pldmSay
    | apply Keeps.modFls | intro _ _ _ | intro _ _ | apply Keeps.ite | split | dsimp only | apply Keeps.update)

theorem Keeps.pldmReq {ok} {f : State → State} (hk : Keeps s0 s) (hf : ∀ s, Keeps s0 s → Keeps s0 (f s)) : Keeps s0 (State.pldmReq s ok f) := by
  unfold State.pldmReq
  with_reducible repeat' (first
    | assumption | exact Keeps.refl | exact fun _ h => h | exact fun _ h => ⟨Nat.le_refl _, h⟩ | exact ⟨Nat.le_refl _, ‹_›⟩
    | apply hf | apply Keeps.pldmSay | intro _ _ _ | intro _ _ | apply writeBytes_wf | apply clearBytes_wf | apply storeAll_wf
    | apply swapBytes_wf | apply Keeps.foldl | apply Keeps.foldlFst | apply Keeps.foldlSnd | apply Keeps.ite | split | dsimp only
    | apply Keeps.update)

theorem Keeps.execPassComponentTable : ∃ s', execPassComponentTable s = .next s' ∧ Keeps s s' := by
  unfold Machine.execPassComponentTable
  refine ⟨_, rfl, ?_⟩
  with_reducible repeat' (first
    | assumption | exact Keeps.refl | exact fun _ h => ⟨Nat.le_refl _, h⟩ | exact ⟨Nat.le_refl _, ‹_›⟩ | apply Keeps.pldmReq
    | apply Keeps.pldmSay | apply Keeps.modFls | intro _ _ _ | intro _ _ | split | dsimp only | apply Keeps.update)

theorem Keeps.execUpdateComponent {comp io} : ∃ s', execUpdateComponent comp io s = .next s' ∧ Keeps s s' := by
  unfold Machine.execUpdateComponent
  refine ⟨_, rfl, ?_⟩
  with_reducible repeat' (first
    | assumption | exact Keeps.refl | exact fun _ h => ⟨Nat.le_refl _, h⟩ | exact ⟨Nat.le_refl _, ‹_›⟩ | apply Keeps.pldmReq
    | apply Keeps.pldmSay | apply Keeps.modFls | apply Keeps.dlBegin_fst | intro _ _ _ | intro _ _ | apply Keeps.ite | split
    | refine Keeps.dlBegin ‹_› ?_ | dsimp only | apply Keeps.update)

theorem Keeps.pldmData {t data io} (hk : Keeps s0 s) : Keeps s0 (State.pldmData s t data io) := by
  unfold State.pldmData
  with_reducible repeat' (first
    | assumption | exact Keeps.refl | apply Keeps.pldmSay | apply Keeps.dlWrite_fst | apply Keeps.dlVerify_fst
    | apply Keeps.dlActivate_fst | apply Keeps.ite | split | refine Keeps.dlWrite ‹_› ?_ | refine Keeps.dlVerify ‹_› ?_
    | refine Keeps.dlActivate ‹_› ?_ | dsimp only | apply Keeps.update)

theorem Keeps.execFirmwareDataReceived {data io} : ∃ s', execFirmwareDataReceived data io s = .next s' ∧ Keeps s s' := by
  unfold Machine.execFirmwareDataReceived
  refine ⟨_, rfl, ?_⟩
  with_reducible repeat' (first
    | assumption | exact Keeps.refl | apply Keeps.pldmData | apply Keeps.ite | split | dsimp only | apply Keeps.update)

theorem Keeps.execActivateFirmware : ∃ s', execActivateFirmware s = .next s' ∧ Keeps s s' := by
  unfold Machine.execActivateFirmware
  refine ⟨_, rfl, ?_⟩
  with_reducible repeat' (first
    | assumption | exact Keeps.refl | apply Keeps.pldmReq | apply Keeps.pldmSay | apply Keeps.warmReset | intro _ _ _ | intro _ _
    | apply Keeps.ite | split | dsimp only)

theorem Keeps.execCancelUpdateComponent : ∃ s', execCancelUpdateComponent s = .next s' ∧ Keeps s s' := by
  unfold Machine.execCancelUpdateComponent
  refine ⟨_, rfl, ?_⟩
  with_reducible repeat' (first
    | assumption | exact Keeps.refl | exact fun _ h => ⟨Nat.le_refl _, h⟩ | exact ⟨Nat.le_refl _, ‹_›⟩ | apply Keeps.pldmReq
    | apply Keeps.pldmSay | apply Keeps.modFls | intro _ _ _ | intro _ _ | split | dsimp only | apply Keeps.update)

theorem Keeps.execCancelUpdate : ∃ s', execCancelUpdate s = .next s' ∧ Keeps s s' := by
  unfold Machine.execCancelUpdate
  refine ⟨_, rfl, ?_⟩
  with_reducible repeat' (first
    | assumption | exact Keeps.refl | exact fun _ h => ⟨Nat.le_refl _, h⟩ | exact ⟨Nat.le_refl _, ‹_›⟩ | apply Keeps.pldmReq
    | apply Keeps.pldmSay | apply Keeps.modFls | intro _ _ _ | intro _ _ | split | dsimp only | apply Keeps.update)

/-! ### Machine/Sled.lean -/

theorem Keeps.modCage {pt f} (hk : Keeps s0 s) : Keeps s0 (State.modCage s pt f) := by
  unfold State.modCage
  with_reducible repeat' (first | assumption | exact Keeps.refl | split | dsimp only | apply Keeps.update)

theorem Keeps.grant {pt} (hk : Keeps s0 s) : Keeps s0 (State.grant s pt) := by
  unfold State.grant
  with_reducible repeat' (first
    | assumption | exact Keeps.refl | apply Keeps.modCage | intro _ _ _ | intro _ _ | apply Keeps.ite | split | dsimp only
    | apply Keeps.update)

theorem Keeps.grantAll (hk : Keeps s0 s) : Keeps s0 (State.grantAll s) := by
  unfold State.grantAll
  with_reducible repeat' (first
    | assumption | exact Keeps.refl | apply Keeps.grant | intro _ _ _ | intro _ _ | apply Keeps.foldl | apply Keeps.foldlFst
    | apply Keeps.foldlSnd | split | dsimp only)

theorem Keeps.cageDenies {pt} (hk : Keeps s0 s) : Keeps s0 (State.cageDenies s pt) := by
  unfold State.cageDenies
  with_reducible repeat' (first
    | assumption | exact Keeps.refl | apply Keeps.moduleGone | apply Keeps.modCage | apply Keeps.moduleEvent | intro _ _ _
    | intro _ _ | apply Keeps.ite | split | dsimp only | apply Keeps.update)

theorem Keeps.execCageModuleInsert {pt passive cls temp} : ∃ s', execCageModuleInsert pt passive cls temp s = .next s' ∧ Keeps s s' := by
  unfold Machine.execCageModuleInsert
  refine ⟨_, rfl, ?_⟩
  with_reducible repeat' (first
    | assumption | exact Keeps.refl | apply Keeps.modCage | apply Keeps.moduleReady | apply Keeps.grantAll | apply Keeps.modPort
    | apply Keeps.cageDenies | intro _ _ _ | intro _ _ | apply Keeps.ite | split | dsimp only | apply Keeps.update)

theorem Keeps.execCageModuleRemove {pt} : ∃ s', execCageModuleRemove pt s = .next s' ∧ Keeps s s' := by
  unfold Machine.execCageModuleRemove
  refine ⟨_, rfl, ?_⟩
  with_reducible repeat' (first
    | assumption | exact Keeps.refl | apply Keeps.grantAll | apply Keeps.moduleGone | apply Keeps.modCage | intro _ _ _ | intro _ _
    | apply Keeps.ite | split | dsimp only)

theorem Keeps.execModuleAdvertisementChange {pt cls} : ∃ s', execModuleAdvertisementChange pt cls s = .next s' ∧ Keeps s s' := by
  unfold Machine.execModuleAdvertisementChange
  refine ⟨_, rfl, ?_⟩
  with_reducible repeat' (first
    | assumption | exact Keeps.refl | apply Keeps.grantAll | apply Keeps.modCage | apply Keeps.cageDenies | intro _ _ _ | intro _ _
    | apply Keeps.ite | split | dsimp only | apply Keeps.update)

theorem Keeps.execCageOverpower {pt} : ∃ s', execCageOverpower pt s = .next s' ∧ Keeps s s' := by
  unfold Machine.execCageOverpower
  refine ⟨_, rfl, ?_⟩
  with_reducible repeat' (first
    | assumption | exact Keeps.refl | apply Keeps.grantAll | apply Keeps.cageDenies | apply Keeps.modCage | intro _ _ _ | intro _ _
    | apply Keeps.ite | split | dsimp only | apply Keeps.update)

theorem Keeps.execServiceButtonPress : ∃ s', execServiceButtonPress s = .next s' ∧ Keeps s s' := by
  unfold Machine.execServiceButtonPress
  refine ⟨_, rfl, ?_⟩
  with_reducible repeat' (first | assumption | exact Keeps.refl | apply Keeps.ite | split | dsimp only | apply Keeps.update)

theorem Keeps.execServiceButtonHold : ∃ s', execServiceButtonHold s = .next s' ∧ Keeps s s' := by
  unfold Machine.execServiceButtonHold
  refine ⟨_, rfl, ?_⟩
  with_reducible repeat' (first | assumption | exact Keeps.refl | apply Keeps.coldReset | apply Keeps.ite | split | dsimp only)

theorem Keeps.execColdRstN {lowNs} : ∃ s', execColdRstN lowNs s = .next s' ∧ Keeps s s' := by
  unfold Machine.execColdRstN
  refine ⟨_, rfl, ?_⟩
  with_reducible repeat' (first | assumption | exact Keeps.refl | apply Keeps.coldReset | apply Keeps.ite | split | dsimp only)

theorem Keeps.execSmbusAlertResponse : ∃ s', execSmbusAlertResponse s = .next s' ∧ Keeps s s' := by
  unfold Machine.execSmbusAlertResponse
  refine ⟨_, rfl, ?_⟩
  with_reducible repeat' (first
    | assumption | exact Keeps.refl | apply Keeps.emit | apply Keeps.ite | split | dsimp only | apply Keeps.update)

/-! ### Machine/Registers.lean -/

theorem Keeps.moverWrite {fn off v} (hk : Keeps s0 s) : Keeps s0 (State.moverWrite s fn off v) := by
  unfold State.moverWrite
  with_reducible repeat' (first
    | assumption | exact Keeps.refl | apply Keeps.modRing | intro _ _ _ | intro _ _ | split | dsimp only | apply Keeps.update)

theorem flash_write_fuses {F : Flash} {o : Nat} {v : W32} : (F.write o v).fuses = F.fuses := by
  unfold Flash.write
  repeat' split
  all_goals rfl

theorem Keeps.flsWrite {o : Nat} {v : W32} (hk : Keeps s0 s) : Keeps s0 (s.modFls fun F => F.write o v) :=
  Keeps.modFls hk fun F h => by
    rw [flash_write_fuses]
    exact ⟨Nat.le_refl _, h⟩

theorem Keeps.pfWrite {off v} (hk : Keeps s0 s) : Keeps s0 (State.pfWrite s off v) := by
  unfold State.pfWrite
  refine Keeps.ite hk (Keeps.ite (Keeps.update hk) (Keeps.ite (Keeps.modPwr hk) (Keeps.ite (Keeps.update hk)
    (Keeps.ite (Keeps.ite (Keeps.flsBadCmd hk) hk) (Keeps.ite (Keeps.flsWrite hk)
    (Keeps.ite (Keeps.modFn hk) (Keeps.ite (Keeps.modFn hk) (Keeps.ite (Keeps.moverWrite hk) (Keeps.ite (Keeps.netWrite hk)
    (Keeps.ite (Keeps.update hk) (Keeps.ite (Keeps.update hk) hk)))))))))))

theorem Keeps.coreWrite {p off v} (hk : Keeps s0 s) : Keeps s0 (State.coreWrite s p off v) := by
  unfold State.coreWrite
  with_reducible repeat' (first
    | assumption | exact Keeps.refl | apply Keeps.pairBusy | apply Keeps.pairResult | apply Keeps.modCore | apply Keeps.suReject
    | apply Keeps.modUnit | intro _ _ _ | intro _ _ | apply Keeps.ite | split | dsimp only | apply Keeps.update)

theorem Keeps.attachWrite {p off v} (hk : Keeps s0 s) : Keeps s0 (State.attachWrite s p off v) := by
  unfold State.attachWrite
  with_reducible repeat' (first
    | assumption | exact Keeps.refl | exact fun _ h => h | apply Keeps.modFn | apply Keeps.modPrt | intro _ _ _ | intro _ _
    | apply Keeps.ite | split | dsimp only | apply Keeps.update)

theorem Keeps.tenantWrite {p off v} (hk : Keeps s0 s) : Keeps s0 (State.tenantWrite s p off v) := by
  unfold State.tenantWrite
  with_reducible repeat' (first
    | assumption | exact Keeps.refl | exact fun _ h => h | apply Keeps.modPrt | apply Keeps.modRt | apply Keeps.modScb
    | apply Keeps.modWvl | apply Keeps.moverWrite | apply Keeps.coreWrite | intro _ _ _ | intro _ _ | apply Keeps.ite | split
    | dsimp only | apply Keeps.update)

theorem Keeps.vfWrite {p off v} (hk : Keeps s0 s) : Keeps s0 (State.vfWrite s p off v) := by
  unfold State.vfWrite
  with_reducible repeat' (first
    | assumption | exact Keeps.refl | exact fun _ h => h | apply Keeps.attachWrite | apply Keeps.modFn | apply Keeps.modPrt
    | apply Keeps.tenantWrite | intro _ _ _ | intro _ _ | apply Keeps.ite | split | dsimp only | apply Keeps.update)

theorem Keeps.msixWrite {fn off v} (hk : Keeps s0 s) : Keeps s0 (State.msixWrite s fn off v) := by
  unfold State.msixWrite
  with_reducible repeat' (first
    | assumption | exact Keeps.refl | apply Keeps.modFn | apply Keeps.msix | intro _ _ _ | intro _ _ | apply Keeps.ite | split
    | dsimp only | apply Keeps.update)

theorem Keeps.execRegisterWrite {fn off v} : ∃ s', execRegisterWrite fn off v s = .next s' ∧ Keeps s s' := by
  unfold Machine.execRegisterWrite
  refine ⟨_, rfl, ?_⟩
  with_reducible repeat' (first
    | assumption | exact Keeps.refl | apply Keeps.msixWrite | apply Keeps.pfWrite | apply Keeps.vfWrite | apply Keeps.ite | split
    | dsimp only | apply Keeps.update)

theorem CounterKeeps.linkCounter {off} (hk : Keeps s0 s) : CounterKeeps s0 (State.linkCounter s off) := by
  unfold State.linkCounter
  with_reducible repeat' (first
    | assumption | exact Keeps.refl | exact fun _ h => h | exact fun _ h => ⟨Nat.le_refl _, h⟩ | exact ⟨Nat.le_refl _, ‹_›⟩
    | apply CounterKeeps.ite | apply CounterKeeps.some | apply CounterKeeps.none | apply CounterKeeps.map | apply Keeps.modOpw
    | intro _ _ _ | intro _ _ | apply writeBytes_wf | apply clearBytes_wf | apply storeAll_wf | apply swapBytes_wf
    | apply Keeps.foldl | apply Keeps.foldlFst | apply Keeps.foldlSnd | apply Keeps.ite | split | dsimp only | apply Keeps.update)

theorem Keeps.linkCounter {off} {x} (he : State.linkCounter s off = some (x, s')) (hk : Keeps s0 s) : Keeps s0 s' :=
  CounterKeeps.linkCounter hk _ he

theorem CounterKeeps.pfCounter {off} (hk : Keeps s0 s) : CounterKeeps s0 (State.pfCounter s off) := by
  unfold State.pfCounter
  refine CounterKeeps.ite (CounterKeeps.some (Keeps.same hk rfl rfl rfl rfl rfl)) ?_
  refine CounterKeeps.ite (CounterKeeps.some (Keeps.modFls hk fun _ h => ⟨Nat.le_refl _, h⟩)) ?_
  refine CounterKeeps.ite (CounterKeeps.some (Keeps.same hk rfl rfl rfl rfl rfl)) ?_
  refine CounterKeeps.ite (CounterKeeps.some (Keeps.modFn hk)) ?_
  refine CounterKeeps.ite (CounterKeeps.map fun _ _ => Keeps.same hk rfl rfl rfl rfl rfl) ?_
  refine CounterKeeps.ite (CounterKeeps.linkCounter hk) ?_
  refine CounterKeeps.ite (CounterKeeps.netCounter hk) ?_
  split
  · exact CounterKeeps.map fun _ _ => Keeps.same hk rfl rfl rfl rfl rfl
  · exact CounterKeeps.map fun _ _ => Keeps.modPort hk
  · exact CounterKeeps.none

theorem Keeps.pfCounter {off} {x} (he : State.pfCounter s off = some (x, s')) (hk : Keeps s0 s) : Keeps s0 s' :=
  CounterKeeps.pfCounter hk _ he

/-- A counter read leaves the bytes. -/

def BytesKept (P : Prt) (o : Option (W32 × Prt)) : Prop := ∀ x, o = some x → x.2.mem.bytes = P.mem.bytes

theorem BytesKept.ite {P Q : Prt} {v : W32} {o : Option (W32 × Prt)} {c : Prop} [Decidable c] (h : Q.mem.bytes = P.mem.bytes)
    (ho : BytesKept P o) : BytesKept P (if c then some (v, Q) else o) := by
  split
  · rintro x ⟨⟩
    exact h
  · exact ho

theorem counter_bytes {P : Prt} {off : Nat} {x : W32 × Prt} (h : P.counter off = some x) : x.2.mem.bytes = P.mem.bytes := by
  have hb : BytesKept P (P.counter off) := by
    unfold Prt.counter
    iterate 15 refine BytesKept.ite rfl ?_
    rintro x ⟨⟩
  exact hb _ h

theorem Keeps.counter {fn off} {x} (he : State.counter s fn off = some (x, s')) (hk : Keeps s0 s) : Keeps s0 s' := by
  unfold State.counter at he
  split at he
  · exact Keeps.pfCounter he hk
  · rename_i p
    cases hc : (s.prt p).counter off with
    | none => rw [hc] at he; cases he
    | some y =>
      rw [hc] at he
      cases he
      refine ⟨hk.queue, hk.frees, hk.outs, fun m q => ?_, hk.fuse⟩
      have hq := hk.mem m q
      unfold State.modPrt State.prt at *
      simp only [vmod_get]
      split
      · subst_vars
        rw [counter_bytes hc]
        exact hq
      · exact hq

theorem Keeps.readsZero {fn off} (hk : Keeps s0 s) : Keeps s0 (State.readsZero s fn off) := by
  unfold State.readsZero
  with_reducible repeat' (first | assumption | exact Keeps.refl | apply Keeps.emit | apply Keeps.ite | split | dsimp only)

theorem Keeps.execRcCounterRead {fn off} : ∃ s', execRcCounterRead fn off s = .next s' ∧ Keeps s s' := by
  unfold Machine.execRcCounterRead
  refine ⟨_, rfl, ?_⟩
  with_reducible repeat' (first
    | assumption | exact Keeps.refl | apply Keeps.readsZero | apply Keeps.emit | apply Keeps.ite | split
    | refine Keeps.counter ‹_› ?_ | dsimp only | apply Keeps.update)

theorem Keeps.plainRead {fn off} (hk : Keeps s0 s) : Keeps s0 (State.plainRead s fn off) := by
  unfold State.plainRead
  with_reducible repeat' (first
    | assumption | exact Keeps.refl | apply Keeps.emit | apply Keeps.took | apply Keeps.ite | split | refine Keeps.counter ‹_› ?_
    | dsimp only | apply Keeps.update)

theorem Keeps.lowRead {fn off} (hk : Keeps s0 s) : Keeps s0 (State.lowRead s fn off) := by
  unfold State.lowRead
  with_reducible repeat' (first
    | assumption | exact Keeps.refl | apply Keeps.meterLatch | apply Keeps.emit | apply Keeps.plainRead | apply Keeps.stamped
    | apply Keeps.modFn | intro _ _ _ | intro _ _ | apply Keeps.ite | split | dsimp only | apply Keeps.update)

theorem Keeps.execLowWordRead {fn off} : ∃ s', execLowWordRead fn off s = .next s' ∧ Keeps s s' := by
  unfold Machine.execLowWordRead
  refine ⟨_, rfl, ?_⟩
  with_reducible repeat' (first
    | assumption | exact Keeps.refl | apply Keeps.lowRead | apply Keeps.readsZero | apply Keeps.ite | split | dsimp only)

end Sys2Proof.Machine
end

