-- ==== Sys2Proof/Laws/PerInstr.lean ====
section
/-! SUPPORT. Laws/PerInstr.lean: what holds of each command as syntax: the opcode table gives no row bits, so no word spells it. -/

namespace Sys2Proof.Laws.Unspelled

/-- No word, whatever its length, spells the command. -/
def Statement (i : Instr) : Prop := ∀ nbits w : Nat, decodeTableWord nbits w ≠ some i

theorem of_none (i : Instr) : Statement i := fun _ _ => nofun

theorem create (p : Pid) : Statement (.create p) := of_none _
theorem commit (p : Pid) : Statement (.commit p) := of_none _
theorem abandon (p : Pid) : Statement (.abandon p) := of_none _
theorem start (p : Pid) : Statement (.start p) := of_none _
theorem suspend (p : Pid) : Statement (.suspend p) := of_none _
theorem suspendHaltComplete (p : Pid) : Statement (.suspendHaltComplete p) := of_none _
theorem resume (p : Pid) : Statement (.resume p) := of_none _
theorem destroy (p : Pid) : Statement (.destroy p) := of_none _
theorem resize (p : Pid) : Statement (.resize p) := of_none _
theorem resizeComplete (p : Pid) : Statement (.resizeComplete p) := of_none _
theorem prtCmdReserved (p : Pid) (code : BitVec 4) : Statement (.prtCmdReserved p code) := of_none _
theorem drainTimeout (p : Pid) : Statement (.drainTimeout p) := of_none _
theorem drainComplete (p : Pid) : Statement (.drainComplete p) := of_none _
theorem keyRetire (p : Pid) : Statement (.keyRetire p) := of_none _
theorem scrubComplete (p : Pid) : Statement (.scrubComplete p) := of_none _
theorem idleTimeout (p : Pid) : Statement (.idleTimeout p) := of_none _
theorem tntNap (p : Pid) : Statement (.tntNap p) := of_none _
theorem prtStagedWrite (p : Pid) (reg : StagedReg) (v : W32) : Statement (.prtStagedWrite p reg v) := of_none _
theorem prtModeWrite (p : Pid) (reg : ModeReg) (v : W32) : Statement (.prtModeWrite p reg v) := of_none _
theorem prtTokenRead (p : Pid) (k : Fin 4) : Statement (.prtTokenRead p k) := of_none _
theorem tntConsentWrite (p : Pid) (v : W32) : Statement (.tntConsentWrite p v) := of_none _
theorem tntTokenRotate (p : Pid) : Statement (.tntTokenRotate p) := of_none _
theorem tntTokenRead (p : Pid) (k : Fin 4) : Statement (.tntTokenRead p k) := of_none _
theorem tntAttachGo (p : Pid) : Statement (.tntAttachGo p) := of_none _
theorem attachLockoutEnd (p : Pid) : Statement (.attachLockoutEnd p) := of_none _
theorem objDefine (c : CmdRef) : Statement (.objDefine c) := of_none _
theorem objHint (c : CmdRef) : Statement (.objHint c) := of_none _
theorem objRelease (c : CmdRef) : Statement (.objRelease c) := of_none _
theorem objReleaseDrained (c : CmdRef) : Statement (.objReleaseDrained c) := of_none _
theorem objQuery (c : CmdRef) : Statement (.objQuery c) := of_none _
theorem partitionWindowRead (p : Pid) (off : Nat) : Statement (.partitionWindowRead p off) := of_none _
theorem partitionWindowWrite (p : Pid) (off : Nat) (data : Bytes) (en : W64) : Statement (.partitionWindowWrite p off data en) := of_none _
theorem operatorWindowRead (off : Nat) : Statement (.operatorWindowRead off) := of_none _
theorem operatorWindowWrite (off : Nat) (data : Bytes) (en : W64) : Statement (.operatorWindowWrite off data en) := of_none _
theorem windowControlWrite (fn : Fn) (off : Nat) (v : W32) : Statement (.windowControlWrite fn off v) := of_none _
theorem barWidthError (fn : Fn) (off : Nat) (read : Bool) : Statement (.barWidthError fn off read) := of_none _
theorem sysErrClear (fn : Fn) (v : W32) : Statement (.sysErrClear fn v) := of_none _
theorem hostRequestError (w : Issuer) (off : Nat) : Statement (.hostRequestError w off) := of_none _
theorem ringConfigWrite (r : RingId) (off : Nat) (v : W32) : Statement (.ringConfigWrite r off v) := of_none _
theorem ringEnable (r : RingId) : Statement (.ringEnable r) := of_none _
theorem ringDisable (r : RingId) : Statement (.ringDisable r) := of_none _
theorem ringEntryAccessFail (r : RingId) (what : RingAccess) : Statement (.ringEntryAccessFail r what) := of_none _
theorem doorbellWrite (r : RingId) (v : W32) : Statement (.doorbellWrite r v) := of_none _
theorem dbCancel (r : RingId) (v : W32) : Statement (.dbCancel r v) := of_none _
theorem cancelMatchingDone (r : RingId) : Statement (.cancelMatchingDone r) := of_none _
theorem commandConsume (r : RingId) (entry : Bytes) : Statement (.commandConsume r entry) := of_none _
theorem commandReadyStart (r : RingId) : Statement (.commandReadyStart r) := of_none _
theorem commandPromotion (c : CmdRef) : Statement (.commandPromotion c) := of_none _
theorem indexWriteback (r : RingId) : Statement (.indexWriteback r) := of_none _
theorem irqModerationTimeout (r : RingId) : Statement (.irqModerationTimeout r) := of_none _
theorem msixUnmask (fn : Fn) (vec : Fin 64) (addr : W64) (data : W32) : Statement (.msixUnmask fn vec addr data) := of_none _
theorem mbInPost (fn : Fn) (v : W32) : Statement (.mbInPost fn v) := of_none _
theorem mbOutRelease (fn : Fn) (v : W32) : Statement (.mbOutRelease fn v) := of_none _
theorem mailboxOutboundPlace (fn : Fn) : Statement (.mailboxOutboundPlace fn) := of_none _
theorem servicePing (fn : Fn) : Statement (.servicePing fn) := of_none _
theorem serviceHeartbeat (fn : Fn) : Statement (.serviceHeartbeat fn) := of_none _
theorem serviceTime (fn : Fn) : Statement (.serviceTime fn) := of_none _
theorem serviceUnknown (fn : Fn) : Statement (.serviceUnknown fn) := of_none _
theorem execList (c : CmdRef) (list : Bytes) : Statement (.execList c list) := of_none _
theorem controlNop (c : CmdRef) : Statement (.controlNop c) := of_none _
theorem controlFence (c : CmdRef) : Statement (.controlFence c) := of_none _
theorem flushReadDone (w : Issuer) : Statement (.flushReadDone w) := of_none _
theorem fenceTimeout (c : CmdRef) : Statement (.fenceTimeout c) := of_none _
theorem barCfg (c : CmdRef) : Statement (.barCfg c) := of_none _
theorem epochCommit (c : CmdRef) : Statement (.epochCommit c) := of_none _
theorem epochRevoke (c : CmdRef) : Statement (.epochRevoke c) := of_none _
theorem jobEpochDecision (p : Pid) (e : Epoch) (commit : Bool) : Statement (.jobEpochDecision p e commit) := of_none _
theorem tntEpochWrite (p : Pid) (v : W32) : Statement (.tntEpochWrite p v) := of_none _
theorem listNop (o : OpRef) : Statement (.listNop o) := of_none _
theorem mbRecv (o : OpRef) : Statement (.mbRecv o) := of_none _
theorem mbRecvTimeout (o : OpRef) : Statement (.mbRecvTimeout o) := of_none _
theorem mbSend (o : OpRef) : Statement (.mbSend o) := of_none _
theorem barArrive (o : OpRef) : Statement (.barArrive o) := of_none _
theorem timestamp (o : OpRef) : Statement (.timestamp o) := of_none _
theorem writeValue (o : OpRef) : Statement (.writeValue o) := of_none _
theorem barrierArrival (c : CmdRef) : Statement (.barrierArrival c) := of_none _
theorem fabricBarrierRelease (p : Pid) (b : BarNo) : Statement (.fabricBarrierRelease p b) := of_none _
theorem barrierTimeout (p : Pid) (b : BarNo) : Statement (.barrierTimeout p b) := of_none _
theorem matmul (o : OpRef) : Statement (.matmul o) := of_none _
theorem convert (o : OpRef) : Statement (.convert o) := of_none _
theorem vecEw (o : OpRef) : Statement (.vecEw o) := of_none _
theorem vecRed (o : OpRef) : Statement (.vecRed o) := of_none _
theorem computeOpEnd (o : OpRef) : Statement (.computeOpEnd o) := of_none _
theorem suLoad (u : UnitRef) : Statement (.suLoad u) := of_none _
theorem suLoadDone (u : UnitRef) : Statement (.suLoadDone u) := of_none _
theorem suStart (u : UnitRef) (rt : Bool) : Statement (.suStart u rt) := of_none _
theorem suStop (u : UnitRef) : Statement (.suStop u) := of_none _
theorem streamNop (u : UnitRef) : Statement (.streamNop u) := of_none _
theorem seti (u : UnitRef) : Statement (.seti u) := of_none _
theorem adds (u : UnitRef) : Statement (.adds u) := of_none _
theorem addi (u : UnitRef) : Statement (.addi u) := of_none _
theorem fadd (u : UnitRef) : Statement (.fadd u) := of_none _
theorem loop (u : UnitRef) : Statement (.loop u) := of_none _
theorem endl (u : UnitRef) : Statement (.endl u) := of_none _
theorem mov (u : UnitRef) : Statement (.mov u) := of_none _
theorem movEnd (u : UnitRef) (k : Nat) : Statement (.movEnd u k) := of_none _
theorem swap (u : UnitRef) : Statement (.swap u) := of_none _
theorem waitf (u : UnitRef) : Statement (.waitf u) := of_none _
theorem waitv (u : UnitRef) : Statement (.waitv u) := of_none _
theorem rel (u : UnitRef) : Statement (.rel u) := of_none _
theorem sig (u : UnitRef) : Statement (.sig u) := of_none _
theorem wsig (u : UnitRef) : Statement (.wsig u) := of_none _
theorem streamBar (u : UnitRef) : Statement (.streamBar u) := of_none _
theorem dline (u : UnitRef) : Statement (.dline u) := of_none _
theorem fend (u : UnitRef) : Statement (.fend u) := of_none _
theorem streamEnd (u : UnitRef) : Statement (.streamEnd u) := of_none _
theorem streamEpoch (u : UnitRef) : Statement (.streamEpoch u) := of_none _
theorem pairBind (b : PairRef) : Statement (.pairBind b) := of_none _
theorem pairBindDone (b : PairRef) : Statement (.pairBindDone b) := of_none _
theorem pairUnbind (b : PairRef) : Statement (.pairUnbind b) := of_none _
theorem pairReset (b : PairRef) : Statement (.pairReset b) := of_none _
theorem pairAutoSwap (b : PairRef) : Statement (.pairAutoSwap b) := of_none _
theorem pairWaitTimeout (w : Issuer) : Statement (.pairWaitTimeout w) := of_none _
theorem rtCtlWrite (p : Pid) (v : W32) : Statement (.rtCtlWrite p v) := of_none _
theorem frameStart (p : Pid) : Statement (.frameStart p) := of_none _
theorem frameEarlyWake (p : Pid) : Statement (.frameEarlyWake p) := of_none _
theorem deadlinePass (w : Issuer) : Statement (.deadlinePass w) := of_none _
theorem moveCopyBegin (p : Pid) (t : TileNo) : Statement (.moveCopyBegin p t) := of_none _
theorem moveComplete (p : Pid) (t : TileNo) : Statement (.moveComplete p t) := of_none _
theorem moveDestinationFail (p : Pid) (t : TileNo) : Statement (.moveDestinationFail p t) := of_none _
theorem backgroundPromotion (p : Pid) (t : TileNo) : Statement (.backgroundPromotion p t) := of_none _
theorem tierAccessFail (p : Pid) (t : TileNo) (w : Issuer) (k : AccessFault) (d : ChanNo) : Statement (.tierAccessFail p t w k d) := of_none _
theorem tierAccessLate (p : Pid) (t : TileNo) (w : Issuer) (d : ChanNo) : Statement (.tierAccessLate p t w d) := of_none _
theorem memoryUnitDown (m : MemUnit) : Statement (.memoryUnitDown m) := of_none _
theorem tileClear (c : CmdRef) : Statement (.tileClear c) := of_none _
theorem readAheadExpire (p : Pid) (k : Nat) : Statement (.readAheadExpire p k) := of_none _
theorem tierSettingWrite (off : Nat) (v : W32) : Statement (.tierSettingWrite off v) := of_none _
theorem stagingQuotaWrite (p : Pid) (v : W32) : Statement (.stagingQuotaWrite p v) := of_none _
theorem planLoad (c : CmdRef) : Statement (.planLoad c) := of_none _
theorem planUnload (c : CmdRef) : Statement (.planUnload c) := of_none _
theorem runBegin (c : CmdRef) : Statement (.runBegin c) := of_none _
theorem mark (c : CmdRef) : Statement (.mark c) := of_none _
theorem runEnd (c : CmdRef) : Statement (.runEnd c) := of_none _
theorem instanceCloseComplete (p : Pid) (rec_ : Nat) (mb : Nat) : Statement (.instanceCloseComplete p rec_ mb) := of_none _
theorem fetchbackEvaluate (p : Pid) : Statement (.fetchbackEvaluate p) := of_none _
theorem fetchbackIssue (p : Pid) (rec_ : Nat) (mb : Nat) : Statement (.fetchbackIssue p rec_ mb) := of_none _
theorem injectedSegmentEnd (p : Pid) (rec_ : Nat) (mb : Nat) (failed : Bool) : Statement (.injectedSegmentEnd p rec_ mb failed) := of_none _
theorem scarabTaskIssue : Statement .scarabTaskIssue := of_none _
theorem quarantineWaitTimeout (w : Issuer) : Statement (.quarantineWaitTimeout w) := of_none _
theorem scarabSettingWrite (fn : Fn) (v : W32) : Statement (.scarabSettingWrite fn v) := of_none _
theorem updateCommand (c : CmdRef) (list : Bytes) : Statement (.updateCommand c list) := of_none _
theorem normPassEnd (c : CmdRef) : Statement (.normPassEnd c) := of_none _
theorem decisionContribution (slice : BitVec 12) (e : Epoch) (members : Nat) (tmoMs : Nat) (rank : Nat) (sum : Nat) (nonfinite : Nat) (opError : Bool) (stopped : Bool) : Statement (.decisionContribution slice e members tmoMs rank sum nonfinite opError stopped) := of_none _
theorem reductionTimeout (slice : BitVec 12) (e : Epoch) : Statement (.reductionTimeout slice e) := of_none _
theorem verdict (p : Pid) (cause : Nat) (sum : Nat) (bad : Nat) : Statement (.verdict p cause sum bad) := of_none _
theorem decisionPointUnreachable (p : Pid) : Statement (.decisionPointUnreachable p) := of_none _
theorem trustPassEnd (c : CmdRef) : Statement (.trustPassEnd c) := of_none _
theorem applyPassEnd (c : CmdRef) : Statement (.applyPassEnd c) := of_none _
theorem gx (o : OpRef) : Statement (.gx o) := of_none _
theorem allgather (o : OpRef) : Statement (.allgather o) := of_none _
theorem bcast (o : OpRef) : Statement (.bcast o) := of_none _
theorem send (o : OpRef) : Statement (.send o) := of_none _
theorem recv (o : OpRef) : Statement (.recv o) := of_none _
theorem bucketContribution (o : OpRef) (k : Nat) (rank : Nat) (sent : List W32) : Statement (.bucketContribution o k rank sent) := of_none _
theorem bucketDeadline (o : OpRef) (k : Nat) : Statement (.bucketDeadline o k) := of_none _
theorem lateContribution (o : OpRef) (k : Nat) : Statement (.lateContribution o k) := of_none _
theorem fabricLanding (o : OpRef) (rank : Nat) (tag : Option Epoch) (data : Bytes) : Statement (.fabricLanding o rank tag data) := of_none _
theorem sendRecvTimeout (o : OpRef) : Statement (.sendRecvTimeout o) := of_none _
theorem collectivePeerUnreachable (o : OpRef) (rank : Nat) (reason : Nat) : Statement (.collectivePeerUnreachable o rank reason) := of_none _
theorem dense (o : OpRef) : Statement (.dense o) := of_none _
theorem schedReg (o : OpRef) : Statement (.schedReg o) := of_none _
theorem schedDrop (o : OpRef) : Statement (.schedDrop o) := of_none _
theorem schedDropRelease (o : OpRef) : Statement (.schedDropRelease o) := of_none _
theorem sparse (o : OpRef) : Statement (.sparse o) := of_none _
theorem h2t (m : MovNo) (data : Bytes) : Statement (.h2t m data) := of_none _
theorem t2h (m : MovNo) : Statement (.t2h m) := of_none _
theorem t2t (m : MovNo) : Statement (.t2t m) := of_none _
theorem place (m : MovNo) : Statement (.place m) := of_none _
theorem xfer (o : OpRef) (data : Bytes) : Statement (.xfer o data) := of_none _
theorem moverDescriptorStart (r : RingId) (desc : Bytes) : Statement (.moverDescriptorStart r desc) := of_none _
theorem moverFlushTimeout (w : Issuer) : Statement (.moverFlushTimeout w) := of_none _
theorem paceLevelPoll (m : MovNo) : Statement (.paceLevelPoll m) := of_none _
theorem paceRelease (m : MovNo) : Statement (.paceRelease m) := of_none _
theorem mvPaceWrite (r : RingId) (v : W32) : Statement (.mvPaceWrite r v) := of_none _
theorem mvCtlReset (r : RingId) : Statement (.mvCtlReset r) := of_none _
theorem movChKill (m : MovNo) : Statement (.movChKill m) := of_none _
theorem movQuotaWrite (k : Fin 17) (v : W32) : Statement (.movQuotaWrite k v) := of_none _
theorem perstNAssert : Statement .perstNAssert := of_none _
theorem perstNDeassert (refclk : Bool) : Statement (.perstNDeassert refclk) := of_none _
theorem hotReset : Statement .hotReset := of_none _
theorem linkDisable : Statement .linkDisable := of_none _
theorem surpriseLinkDown : Statement .surpriseLinkDown := of_none _
theorem linkChanged (width : Nat) (rate : Nat) : Statement (.linkChanged width rate) := of_none _
theorem pfHeartbeatTimeout : Statement .pfHeartbeatTimeout := of_none _
theorem vfHeartbeatTimeout (p : Pid) : Statement (.vfHeartbeatTimeout p) := of_none _
theorem heartbeatTmoWrite (fn : Fn) (v : W32) : Statement (.heartbeatTmoWrite fn v) := of_none _
theorem vfFlr (p : Pid) : Statement (.vfFlr p) := of_none _
theorem vfBusMasterDisable (p : Pid) : Statement (.vfBusMasterDisable p) := of_none _
theorem vfD3hot (p : Pid) : Statement (.vfD3hot p) := of_none _
theorem vfRemoved (p : Pid) : Statement (.vfRemoved p) := of_none _
theorem pfFlr : Statement .pfFlr := of_none _
theorem pfBusMasterDisable : Statement .pfBusMasterDisable := of_none _
theorem pfD3hot : Statement .pfD3hot := of_none _
theorem ideInsecure (io : Bool) (mem : Bool) : Statement (.ideInsecure io mem) := of_none _
theorem hostLineInvalidate (fn : Fn) (iova : W64) : Statement (.hostLineInvalidate fn iova) := of_none _
theorem hdmDecoderCommit (base : W64) (size : Nat) : Statement (.hdmDecoderCommit base size) := of_none _
theorem operatorStopTimeout : Statement .operatorStopTimeout := of_none _
theorem lnkOpAttach (v : W32) : Statement (.lnkOpAttach v) := of_none _
theorem portEnable (pt : PortNo) : Statement (.portEnable pt) := of_none _
theorem portDisable (pt : PortNo) : Statement (.portDisable pt) := of_none _
theorem laneMaskWrite (pt : PortNo) (v : BitVec 8) : Statement (.laneMaskWrite pt v) := of_none _
theorem retrain (pt : PortNo) : Statement (.retrain pt) := of_none _
theorem portModuleReady (pt : PortNo) : Statement (.portModuleReady pt) := of_none _
theorem trainingTimerExpire (pt : PortNo) : Statement (.trainingTimerExpire pt) := of_none _
theorem backoffEnd (pt : PortNo) : Statement (.backoffEnd pt) := of_none _
theorem partnerSignalSeen (pt : PortNo) : Statement (.partnerSignalSeen pt) := of_none _
theorem detectLock (pt : PortNo) (lanes : BitVec 8) : Statement (.detectLock pt lanes) := of_none _
theorem tuneComplete (pt : PortNo) (lanes : BitVec 8) : Statement (.tuneComplete pt lanes) := of_none _
theorem alignComplete (pt : PortNo) (lanes : BitVec 8) : Statement (.alignComplete pt lanes) := of_none _
theorem descriptorReceived (pt : PortNo) (d : Bytes) : Statement (.descriptorReceived pt d) := of_none _
theorem laneLockLoss (pt : PortNo) (l : LaneNo) : Statement (.laneLockLoss pt l) := of_none _
theorem partnerLaneNotice (pt : PortNo) (l : LaneNo) : Statement (.partnerLaneNotice pt l) := of_none _
theorem fecWindowEnd (pt : PortNo) (ue : Vector Nat 8) (ce : Nat) : Statement (.fecWindowEnd pt ue ce) := of_none _
theorem restripeAgreed (pt : PortNo) : Statement (.restripeAgreed pt) := of_none _
theorem restripeTimeout (pt : PortNo) : Statement (.restripeTimeout pt) := of_none _
theorem laneLockRegained (pt : PortNo) (l : LaneNo) : Statement (.laneLockRegained pt l) := of_none _
theorem laneProbationEnd (pt : PortNo) (l : LaneNo) : Statement (.laneProbationEnd pt l) := of_none _
theorem fabLclr (pt : PortNo) (v : BitVec 8) : Statement (.fabLclr pt v) := of_none _
theorem fabLaneUeMaxWrite (pt : PortNo) (v : W32) : Statement (.fabLaneUeMaxWrite pt v) := of_none _
theorem fabricPacketReceive (pt : PortNo) (crcOk : Bool) (seq : Nat) (pkt : PacketHdr) : Statement (.fabricPacketReceive pt crcOk seq pkt) := of_none _
theorem replayRequest (pt : PortNo) (acked : Nat) : Statement (.replayRequest pt acked) := of_none _
theorem ackTimeout (pt : PortNo) : Statement (.ackTimeout pt) := of_none _
theorem descriptorSend (pt : PortNo) : Statement (.descriptorSend pt) := of_none _
theorem candidateForget (pt : PortNo) : Statement (.candidateForget pt) := of_none _
theorem fmStable : Statement .fmStable := of_none _
theorem fabFmCtlWrite (v : W32) : Statement (.fabFmCtlWrite v) := of_none _
theorem remoteAccess (serial : W64) (write : Bool) (off : Nat) (v : W32) (rec_ : Bytes) : Statement (.remoteAccess serial write off v rec_) := of_none _
theorem fabApply (v : W32) : Statement (.fabApply v) := of_none _
theorem e2eResend (k : Nat) : Statement (.e2eResend k) := of_none _
theorem e2eTimeout (k : Nat) : Statement (.e2eTimeout k) := of_none _
theorem nodeLostDeclare (n : W16) : Statement (.nodeLostDeclare n) := of_none _
theorem fabGrpLoad (v : W32) (rec_ : Bytes) : Statement (.fabGrpLoad v rec_) := of_none _
theorem fabGrpRemove (v : W32) : Statement (.fabGrpRemove v) := of_none _
theorem entropyFault (startup : Bool) : Statement (.entropyFault startup) := of_none _
theorem spdmGetVersion (r : Responder) : Statement (.spdmGetVersion r) := of_none _
theorem spdmGetCapabilities (r : Responder) : Statement (.spdmGetCapabilities r) := of_none _
theorem spdmNegotiateAlgorithms (r : Responder) : Statement (.spdmNegotiateAlgorithms r) := of_none _
theorem spdmGetDigests (r : Responder) : Statement (.spdmGetDigests r) := of_none _
theorem spdmGetCertificate (r : Responder) (slot : Nat) (off : Nat) (len : Nat) : Statement (.spdmGetCertificate r slot off len) := of_none _
theorem spdmChallenge (r : Responder) (slot : Nat) : Statement (.spdmChallenge r slot) := of_none _
theorem spdmGetMeasurements (r : Responder) (index : Nat) (signed : Bool) : Statement (.spdmGetMeasurements r index signed) := of_none _
theorem spdmKeyExchange (r : Responder) : Statement (.spdmKeyExchange r) := of_none _
theorem spdmFinish (r : Responder) : Statement (.spdmFinish r) := of_none _
theorem spdmHeartbeat (r : Responder) : Statement (.spdmHeartbeat r) := of_none _
theorem spdmKeyUpdate (r : Responder) : Statement (.spdmKeyUpdate r) := of_none _
theorem spdmEndSession (r : Responder) : Statement (.spdmEndSession r) := of_none _
theorem spdmVendorDefinedRequest (r : Responder) (secure : Bool) : Statement (.spdmVendorDefinedRequest r secure) := of_none _
theorem jtagBypass : Statement .jtagBypass := of_none _
theorem jtagIdcode : Statement .jtagIdcode := of_none _
theorem jtagSamplePreload : Statement .jtagSamplePreload := of_none _
theorem jtagExtest (code : BitVec 8) : Statement (.jtagExtest code) := of_none _
theorem jtagClamp (code : BitVec 8) : Statement (.jtagClamp code) := of_none _
theorem jtagHighz (code : BitVec 8) : Statement (.jtagHighz code) := of_none _
theorem tntMeasGo (p : Pid) (v : W32) : Statement (.tntMeasGo p v) := of_none _
theorem secFslotsWrite (p : Pid) (v : W32) : Statement (.secFslotsWrite p v) := of_none _
theorem millisecondBoundary (x : Samples) : Statement (.millisecondBoundary x) := of_none _
theorem meterIntervalBoundary (p : Pid) : Statement (.meterIntervalBoundary p) := of_none _
theorem meterRecordSigned : Statement .meterRecordSigned := of_none _
theorem mtrIvlWrite (p : Pid) (v : W32) : Statement (.mtrIvlWrite p v) := of_none _
theorem meterLatchRead (fn : Fn) (p : Pid) : Statement (.meterLatchRead fn p) := of_none _
theorem lowWordRead (fn : Fn) (off : Nat) : Statement (.lowWordRead fn off) := of_none _
theorem rcCounterRead (fn : Fn) (off : Nat) : Statement (.rcCounterRead fn off) := of_none _
theorem clkTimeSlewWrite (v : W32) : Statement (.clkTimeSlewWrite v) := of_none _
theorem clkTimeSetGo (v : W32) : Statement (.clkTimeSetGo v) := of_none _
theorem clkSscWrite (v : W32) : Statement (.clkSscWrite v) := of_none _
theorem pllUnlock (pll : Fin 48) : Statement (.pllUnlock pll) := of_none _
theorem accessWake (q : Quad) : Statement (.accessWake q) := of_none _
theorem accessWakeIdle (q : Quad) : Statement (.accessWakeIdle q) := of_none _
theorem quadTransitionComplete (q : Quad) : Statement (.quadTransitionComplete q) := of_none _
theorem retentionEntry : Statement .retentionEntry := of_none _
theorem retentionExit : Statement .retentionExit := of_none _
theorem retentionExitComplete : Statement .retentionExitComplete := of_none _
theorem clkRetCtlWrite (v : W32) : Statement (.clkRetCtlWrite v) := of_none _
theorem thermtrip : Statement .thermtrip := of_none _
theorem supplyFault (rail : Fin 14) : Statement (.supplyFault rail) := of_none _
theorem powerFailWarn (volts : W16) : Statement (.powerFailWarn volts) := of_none _
theorem powerFailRecover : Statement .powerFailRecover := of_none _
theorem powerFailShutdown : Statement .powerFailShutdown := of_none _
theorem tntCoreRst (p : Pid) (v : W32) : Statement (.tntCoreRst p v) := of_none _
theorem sysRstCore (k : Core) : Statement (.sysRstCore k) := of_none _
theorem sysRstPartition (p : Pid) : Statement (.sysRstPartition p) := of_none _
theorem sysRstWarm : Statement .sysRstWarm := of_none _
theorem sysRstCold : Statement .sysRstCold := of_none _
theorem pwdReset (p : Pid) (v : W32) : Statement (.pwdReset p v) := of_none _
theorem watchdogWarning (fn : Fn) : Statement (.watchdogWarning fn) := of_none _
theorem deviceWatchdogExpire : Statement .deviceWatchdogExpire := of_none _
theorem partitionWatchdogExpire (p : Pid) : Statement (.partitionWatchdogExpire p) := of_none _
theorem mcWatchdogExpire : Statement .mcWatchdogExpire := of_none _
theorem watchdogServe (fn : Fn) (v : W32) : Statement (.watchdogServe fn v) := of_none _
theorem serveArmTimeout (fn : Fn) : Statement (.serveArmTimeout fn) := of_none _
theorem watchdogEnableWrite (fn : Fn) (v : W32) : Statement (.watchdogEnableWrite fn v) := of_none _
theorem wdgLock : Statement .wdgLock := of_none _
theorem standbyApply : Statement .standbyApply := of_none _
theorem bootMilestone (b : BootInput) : Statement (.bootMilestone b) := of_none _
theorem dlBegin (target : BitVec 2) (io : FlashIo) : Statement (.dlBegin target io) := of_none _
theorem dlWrite (target : BitVec 2) (data : Bytes) (io : FlashIo) : Statement (.dlWrite target data io) := of_none _
theorem verify (target : BitVec 2) (io : FlashIo) : Statement (.verify target io) := of_none _
theorem activate (target : BitVec 2) (io : FlashIo) : Statement (.activate target io) := of_none _
theorem restart (target : BitVec 2) : Statement (.restart target) := of_none _
theorem confirm (target : BitVec 2) (io : FlashIo) : Statement (.confirm target io) := of_none _
theorem rollback (target : BitVec 2) (io : FlashIo) : Statement (.rollback target io) := of_none _
theorem abort (target : BitVec 2) : Statement (.abort target) := of_none _
theorem trialTimerExpire (io : FlashIo) : Statement (.trialTimerExpire io) := of_none _
theorem flsSeal (v : W32) : Statement (.flsSeal v) := of_none _
theorem flsCfgPut (typ : W16) (io : FlashIo) : Statement (.flsCfgPut typ io) := of_none _
theorem flsCfgDel (typ : W16) (io : FlashIo) : Statement (.flsCfgDel typ io) := of_none _
theorem flsCfgRead (k : W16) : Statement (.flsCfgRead k) := of_none _
theorem queryDeviceIdentifiers : Statement .queryDeviceIdentifiers := of_none _
theorem getFirmwareParameters : Statement .getFirmwareParameters := of_none _
theorem getStatus : Statement .getStatus := of_none _
theorem requestUpdate : Statement .requestUpdate := of_none _
theorem passComponentTable : Statement .passComponentTable := of_none _
theorem updateComponent (comp : W16) (io : FlashIo) : Statement (.updateComponent comp io) := of_none _
theorem firmwareDataReceived (data : Bytes) (io : FlashIo) : Statement (.firmwareDataReceived data io) := of_none _
theorem activateFirmware : Statement .activateFirmware := of_none _
theorem cancelUpdateComponent : Statement .cancelUpdateComponent := of_none _
theorem cancelUpdate : Statement .cancelUpdate := of_none _
theorem pbPrsntDeassert : Statement .pbPrsntDeassert := of_none _
theorem inputGood : Statement .inputGood := of_none _
theorem coldRstN (lowNs : Nat) : Statement (.coldRstN lowNs) := of_none _
theorem serviceButtonPress : Statement .serviceButtonPress := of_none _
theorem serviceButtonHold : Statement .serviceButtonHold := of_none _
theorem cageModuleInsert (pt : PortNo) (passive : Bool) (cls : Nat) (temp : BitVec 8) : Statement (.cageModuleInsert pt passive cls temp) := of_none _
theorem cageModuleRemove (pt : PortNo) : Statement (.cageModuleRemove pt) := of_none _
theorem cageOverpower (pt : PortNo) : Statement (.cageOverpower pt) := of_none _
theorem smbusAlertResponse : Statement .smbusAlertResponse := of_none _
theorem registerWrite (fn : Fn) (off : Nat) (v : W32) : Statement (.registerWrite fn off v) := of_none _
theorem solverOpEnd (o : OpRef) : Statement (.solverOpEnd o) := of_none _
theorem moverDescriptorEnd (m : MovNo) : Statement (.moverDescriptorEnd m) := of_none _
theorem linkUp (width : Nat) (rate : Nat) (cxl : Bool) : Statement (.linkUp width rate cxl) := of_none _
theorem vfEnable (n : Nat) : Statement (.vfEnable n) := of_none _
theorem standbyLoss : Statement .standbyLoss := of_none _
theorem moduleAdvertisementChange (pt : PortNo) (cls : Nat) : Statement (.moduleAdvertisementChange pt cls) := of_none _

end Sys2Proof.Laws.Unspelled
end

