-- ==== Sys2Proof/Laws/State.lean ====
section
/-! SUPPORT. Laws/State.lean: what each field of the state is after each of the shared updates. -/

namespace Sys2Proof.Machine

variable {s : State} {p q : Pid} {fn : Fn} {r : RingId}

/-! ### After `modPrt` -/

@[simp] theorem State.modPrt_op {f : Prt → Prt} : (s.modPrt p f).op = s.op := rfl
@[simp] theorem State.modPrt_tier {f : Prt → Prt} : (s.modPrt p f).tier = s.tier := rfl
@[simp] theorem State.modPrt_sqBacklog {f : Prt → Prt} : (s.modPrt p f).sqBacklog = s.sqBacklog := rfl
@[simp] theorem State.modPrt_quads {f : Prt → Prt} : (s.modPrt p f).quads = s.quads := rfl
@[simp] theorem State.modPrt_coreErr {f : Prt → Prt} : (s.modPrt p f).coreErr = s.coreErr := rfl
@[simp] theorem State.modPrt_tigers {f : Prt → Prt} : (s.modPrt p f).tigers = s.tigers := rfl
@[simp] theorem State.modPrt_chans {f : Prt → Prt} : (s.modPrt p f).chans = s.chans := rfl
@[simp] theorem State.modPrt_movQuota {f : Prt → Prt} : (s.modPrt p f).movQuota = s.movQuota := rfl
@[simp] theorem State.modPrt_reds {f : Prt → Prt} : (s.modPrt p f).reds = s.reds := rfl
@[simp] theorem State.modPrt_jobs {f : Prt → Prt} : (s.modPrt p f).jobs = s.jobs := rfl
@[simp] theorem State.modPrt_ports {f : Prt → Prt} : (s.modPrt p f).ports = s.ports := rfl
@[simp] theorem State.modPrt_net {f : Prt → Prt} : (s.modPrt p f).net = s.net := rfl
@[simp] theorem State.modPrt_sec {f : Prt → Prt} : (s.modPrt p f).sec = s.sec := rfl
@[simp] theorem State.modPrt_mtr {f : Prt → Prt} : (s.modPrt p f).mtr = s.mtr := rfl
@[simp] theorem State.modPrt_pwr {f : Prt → Prt} : (s.modPrt p f).pwr = s.pwr := rfl
@[simp] theorem State.modPrt_link {f : Prt → Prt} : (s.modPrt p f).link = s.link := rfl
@[simp] theorem State.modPrt_boot {f : Prt → Prt} : (s.modPrt p f).boot = s.boot := rfl
@[simp] theorem State.modPrt_wdg {f : Prt → Prt} : (s.modPrt p f).wdg = s.wdg := rfl
@[simp] theorem State.modPrt_flash {f : Prt → Prt} : (s.modPrt p f).flash = s.flash := rfl
@[simp] theorem State.modPrt_sled {f : Prt → Prt} : (s.modPrt p f).sled = s.sled := rfl
@[simp] theorem State.modPrt_fwVer {f : Prt → Prt} : (s.modPrt p f).fwVer = s.fwVer := rfl
@[simp] theorem State.modPrt_scratch {f : Prt → Prt} : (s.modPrt p f).scratch = s.scratch := rfl
@[simp] theorem State.modPrt_nfree {f : Prt → Prt} : (s.modPrt p f).nfree = s.nfree := rfl
@[simp] theorem State.modPrt_out {f : Prt → Prt} : (s.modPrt p f).out = s.out := rfl
@[simp] theorem State.modPrt_pending {f : Prt → Prt} : (s.modPrt p f).pending = s.pending := rfl

/-! ### After `modLife` -/

@[simp] theorem State.modLife_op {f : Life → Life} : (s.modLife p f).op = s.op := rfl
@[simp] theorem State.modLife_tier {f : Life → Life} : (s.modLife p f).tier = s.tier := rfl
@[simp] theorem State.modLife_sqBacklog {f : Life → Life} : (s.modLife p f).sqBacklog = s.sqBacklog := rfl
@[simp] theorem State.modLife_quads {f : Life → Life} : (s.modLife p f).quads = s.quads := rfl
@[simp] theorem State.modLife_coreErr {f : Life → Life} : (s.modLife p f).coreErr = s.coreErr := rfl
@[simp] theorem State.modLife_tigers {f : Life → Life} : (s.modLife p f).tigers = s.tigers := rfl
@[simp] theorem State.modLife_chans {f : Life → Life} : (s.modLife p f).chans = s.chans := rfl
@[simp] theorem State.modLife_movQuota {f : Life → Life} : (s.modLife p f).movQuota = s.movQuota := rfl
@[simp] theorem State.modLife_reds {f : Life → Life} : (s.modLife p f).reds = s.reds := rfl
@[simp] theorem State.modLife_jobs {f : Life → Life} : (s.modLife p f).jobs = s.jobs := rfl
@[simp] theorem State.modLife_ports {f : Life → Life} : (s.modLife p f).ports = s.ports := rfl
@[simp] theorem State.modLife_net {f : Life → Life} : (s.modLife p f).net = s.net := rfl
@[simp] theorem State.modLife_sec {f : Life → Life} : (s.modLife p f).sec = s.sec := rfl
@[simp] theorem State.modLife_mtr {f : Life → Life} : (s.modLife p f).mtr = s.mtr := rfl
@[simp] theorem State.modLife_pwr {f : Life → Life} : (s.modLife p f).pwr = s.pwr := rfl
@[simp] theorem State.modLife_link {f : Life → Life} : (s.modLife p f).link = s.link := rfl
@[simp] theorem State.modLife_boot {f : Life → Life} : (s.modLife p f).boot = s.boot := rfl
@[simp] theorem State.modLife_wdg {f : Life → Life} : (s.modLife p f).wdg = s.wdg := rfl
@[simp] theorem State.modLife_flash {f : Life → Life} : (s.modLife p f).flash = s.flash := rfl
@[simp] theorem State.modLife_sled {f : Life → Life} : (s.modLife p f).sled = s.sled := rfl
@[simp] theorem State.modLife_fwVer {f : Life → Life} : (s.modLife p f).fwVer = s.fwVer := rfl
@[simp] theorem State.modLife_scratch {f : Life → Life} : (s.modLife p f).scratch = s.scratch := rfl
@[simp] theorem State.modLife_nfree {f : Life → Life} : (s.modLife p f).nfree = s.nfree := rfl
@[simp] theorem State.modLife_out {f : Life → Life} : (s.modLife p f).out = s.out := rfl
@[simp] theorem State.modLife_pending {f : Life → Life} : (s.modLife p f).pending = s.pending := rfl

/-! ### After `modMem` -/

@[simp] theorem State.modMem_op {f : Memory → Memory} : (s.modMem p f).op = s.op := rfl
@[simp] theorem State.modMem_tier {f : Memory → Memory} : (s.modMem p f).tier = s.tier := rfl
@[simp] theorem State.modMem_sqBacklog {f : Memory → Memory} : (s.modMem p f).sqBacklog = s.sqBacklog := rfl
@[simp] theorem State.modMem_quads {f : Memory → Memory} : (s.modMem p f).quads = s.quads := rfl
@[simp] theorem State.modMem_coreErr {f : Memory → Memory} : (s.modMem p f).coreErr = s.coreErr := rfl
@[simp] theorem State.modMem_tigers {f : Memory → Memory} : (s.modMem p f).tigers = s.tigers := rfl
@[simp] theorem State.modMem_chans {f : Memory → Memory} : (s.modMem p f).chans = s.chans := rfl
@[simp] theorem State.modMem_movQuota {f : Memory → Memory} : (s.modMem p f).movQuota = s.movQuota := rfl
@[simp] theorem State.modMem_reds {f : Memory → Memory} : (s.modMem p f).reds = s.reds := rfl
@[simp] theorem State.modMem_jobs {f : Memory → Memory} : (s.modMem p f).jobs = s.jobs := rfl
@[simp] theorem State.modMem_ports {f : Memory → Memory} : (s.modMem p f).ports = s.ports := rfl
@[simp] theorem State.modMem_net {f : Memory → Memory} : (s.modMem p f).net = s.net := rfl
@[simp] theorem State.modMem_sec {f : Memory → Memory} : (s.modMem p f).sec = s.sec := rfl
@[simp] theorem State.modMem_mtr {f : Memory → Memory} : (s.modMem p f).mtr = s.mtr := rfl
@[simp] theorem State.modMem_pwr {f : Memory → Memory} : (s.modMem p f).pwr = s.pwr := rfl
@[simp] theorem State.modMem_link {f : Memory → Memory} : (s.modMem p f).link = s.link := rfl
@[simp] theorem State.modMem_boot {f : Memory → Memory} : (s.modMem p f).boot = s.boot := rfl
@[simp] theorem State.modMem_wdg {f : Memory → Memory} : (s.modMem p f).wdg = s.wdg := rfl
@[simp] theorem State.modMem_flash {f : Memory → Memory} : (s.modMem p f).flash = s.flash := rfl
@[simp] theorem State.modMem_sled {f : Memory → Memory} : (s.modMem p f).sled = s.sled := rfl
@[simp] theorem State.modMem_fwVer {f : Memory → Memory} : (s.modMem p f).fwVer = s.fwVer := rfl
@[simp] theorem State.modMem_scratch {f : Memory → Memory} : (s.modMem p f).scratch = s.scratch := rfl
@[simp] theorem State.modMem_nfree {f : Memory → Memory} : (s.modMem p f).nfree = s.nfree := rfl
@[simp] theorem State.modMem_out {f : Memory → Memory} : (s.modMem p f).out = s.out := rfl
@[simp] theorem State.modMem_pending {f : Memory → Memory} : (s.modMem p f).pending = s.pending := rfl

/-! ### After `modPwr` -/

@[simp] theorem State.modPwr_prts {f : Power → Power} : (s.modPwr f).prts = s.prts := rfl
@[simp] theorem State.modPwr_op {f : Power → Power} : (s.modPwr f).op = s.op := rfl
@[simp] theorem State.modPwr_tier {f : Power → Power} : (s.modPwr f).tier = s.tier := rfl
@[simp] theorem State.modPwr_sqBacklog {f : Power → Power} : (s.modPwr f).sqBacklog = s.sqBacklog := rfl
@[simp] theorem State.modPwr_quads {f : Power → Power} : (s.modPwr f).quads = s.quads := rfl
@[simp] theorem State.modPwr_coreErr {f : Power → Power} : (s.modPwr f).coreErr = s.coreErr := rfl
@[simp] theorem State.modPwr_tigers {f : Power → Power} : (s.modPwr f).tigers = s.tigers := rfl
@[simp] theorem State.modPwr_chans {f : Power → Power} : (s.modPwr f).chans = s.chans := rfl
@[simp] theorem State.modPwr_movQuota {f : Power → Power} : (s.modPwr f).movQuota = s.movQuota := rfl
@[simp] theorem State.modPwr_reds {f : Power → Power} : (s.modPwr f).reds = s.reds := rfl
@[simp] theorem State.modPwr_jobs {f : Power → Power} : (s.modPwr f).jobs = s.jobs := rfl
@[simp] theorem State.modPwr_ports {f : Power → Power} : (s.modPwr f).ports = s.ports := rfl
@[simp] theorem State.modPwr_net {f : Power → Power} : (s.modPwr f).net = s.net := rfl
@[simp] theorem State.modPwr_sec {f : Power → Power} : (s.modPwr f).sec = s.sec := rfl
@[simp] theorem State.modPwr_mtr {f : Power → Power} : (s.modPwr f).mtr = s.mtr := rfl
@[simp] theorem State.modPwr_link {f : Power → Power} : (s.modPwr f).link = s.link := rfl
@[simp] theorem State.modPwr_boot {f : Power → Power} : (s.modPwr f).boot = s.boot := rfl
@[simp] theorem State.modPwr_wdg {f : Power → Power} : (s.modPwr f).wdg = s.wdg := rfl
@[simp] theorem State.modPwr_flash {f : Power → Power} : (s.modPwr f).flash = s.flash := rfl
@[simp] theorem State.modPwr_sled {f : Power → Power} : (s.modPwr f).sled = s.sled := rfl
@[simp] theorem State.modPwr_fwVer {f : Power → Power} : (s.modPwr f).fwVer = s.fwVer := rfl
@[simp] theorem State.modPwr_scratch {f : Power → Power} : (s.modPwr f).scratch = s.scratch := rfl
@[simp] theorem State.modPwr_nfree {f : Power → Power} : (s.modPwr f).nfree = s.nfree := rfl
@[simp] theorem State.modPwr_out {f : Power → Power} : (s.modPwr f).out = s.out := rfl
@[simp] theorem State.modPwr_pending {f : Power → Power} : (s.modPwr f).pending = s.pending := rfl

/-! ### After `modPort` -/

@[simp] theorem State.modPort_prts {k : PortNo} {f : Port → Port} : (s.modPort k f).prts = s.prts := rfl
@[simp] theorem State.modPort_op {k : PortNo} {f : Port → Port} : (s.modPort k f).op = s.op := rfl
@[simp] theorem State.modPort_tier {k : PortNo} {f : Port → Port} : (s.modPort k f).tier = s.tier := rfl
@[simp] theorem State.modPort_sqBacklog {k : PortNo} {f : Port → Port} : (s.modPort k f).sqBacklog = s.sqBacklog := rfl
@[simp] theorem State.modPort_quads {k : PortNo} {f : Port → Port} : (s.modPort k f).quads = s.quads := rfl
@[simp] theorem State.modPort_coreErr {k : PortNo} {f : Port → Port} : (s.modPort k f).coreErr = s.coreErr := rfl
@[simp] theorem State.modPort_tigers {k : PortNo} {f : Port → Port} : (s.modPort k f).tigers = s.tigers := rfl
@[simp] theorem State.modPort_chans {k : PortNo} {f : Port → Port} : (s.modPort k f).chans = s.chans := rfl
@[simp] theorem State.modPort_movQuota {k : PortNo} {f : Port → Port} : (s.modPort k f).movQuota = s.movQuota := rfl
@[simp] theorem State.modPort_reds {k : PortNo} {f : Port → Port} : (s.modPort k f).reds = s.reds := rfl
@[simp] theorem State.modPort_jobs {k : PortNo} {f : Port → Port} : (s.modPort k f).jobs = s.jobs := rfl
@[simp] theorem State.modPort_net {k : PortNo} {f : Port → Port} : (s.modPort k f).net = s.net := rfl
@[simp] theorem State.modPort_sec {k : PortNo} {f : Port → Port} : (s.modPort k f).sec = s.sec := rfl
@[simp] theorem State.modPort_mtr {k : PortNo} {f : Port → Port} : (s.modPort k f).mtr = s.mtr := rfl
@[simp] theorem State.modPort_pwr {k : PortNo} {f : Port → Port} : (s.modPort k f).pwr = s.pwr := rfl
@[simp] theorem State.modPort_link {k : PortNo} {f : Port → Port} : (s.modPort k f).link = s.link := rfl
@[simp] theorem State.modPort_boot {k : PortNo} {f : Port → Port} : (s.modPort k f).boot = s.boot := rfl
@[simp] theorem State.modPort_wdg {k : PortNo} {f : Port → Port} : (s.modPort k f).wdg = s.wdg := rfl
@[simp] theorem State.modPort_flash {k : PortNo} {f : Port → Port} : (s.modPort k f).flash = s.flash := rfl
@[simp] theorem State.modPort_sled {k : PortNo} {f : Port → Port} : (s.modPort k f).sled = s.sled := rfl
@[simp] theorem State.modPort_fwVer {k : PortNo} {f : Port → Port} : (s.modPort k f).fwVer = s.fwVer := rfl
@[simp] theorem State.modPort_scratch {k : PortNo} {f : Port → Port} : (s.modPort k f).scratch = s.scratch := rfl
@[simp] theorem State.modPort_nfree {k : PortNo} {f : Port → Port} : (s.modPort k f).nfree = s.nfree := rfl
@[simp] theorem State.modPort_out {k : PortNo} {f : Port → Port} : (s.modPort k f).out = s.out := rfl
@[simp] theorem State.modPort_pending {k : PortNo} {f : Port → Port} : (s.modPort k f).pending = s.pending := rfl

/-! ### After `modQuad` -/

@[simp] theorem State.modQuad_prts {k : Quad} {f : QuadState → QuadState} : (s.modQuad k f).prts = s.prts := rfl
@[simp] theorem State.modQuad_op {k : Quad} {f : QuadState → QuadState} : (s.modQuad k f).op = s.op := rfl
@[simp] theorem State.modQuad_tier {k : Quad} {f : QuadState → QuadState} : (s.modQuad k f).tier = s.tier := rfl
@[simp] theorem State.modQuad_sqBacklog {k : Quad} {f : QuadState → QuadState} : (s.modQuad k f).sqBacklog = s.sqBacklog := rfl
@[simp] theorem State.modQuad_coreErr {k : Quad} {f : QuadState → QuadState} : (s.modQuad k f).coreErr = s.coreErr := rfl
@[simp] theorem State.modQuad_tigers {k : Quad} {f : QuadState → QuadState} : (s.modQuad k f).tigers = s.tigers := rfl
@[simp] theorem State.modQuad_chans {k : Quad} {f : QuadState → QuadState} : (s.modQuad k f).chans = s.chans := rfl
@[simp] theorem State.modQuad_movQuota {k : Quad} {f : QuadState → QuadState} : (s.modQuad k f).movQuota = s.movQuota := rfl
@[simp] theorem State.modQuad_reds {k : Quad} {f : QuadState → QuadState} : (s.modQuad k f).reds = s.reds := rfl
@[simp] theorem State.modQuad_jobs {k : Quad} {f : QuadState → QuadState} : (s.modQuad k f).jobs = s.jobs := rfl
@[simp] theorem State.modQuad_ports {k : Quad} {f : QuadState → QuadState} : (s.modQuad k f).ports = s.ports := rfl
@[simp] theorem State.modQuad_net {k : Quad} {f : QuadState → QuadState} : (s.modQuad k f).net = s.net := rfl
@[simp] theorem State.modQuad_sec {k : Quad} {f : QuadState → QuadState} : (s.modQuad k f).sec = s.sec := rfl
@[simp] theorem State.modQuad_mtr {k : Quad} {f : QuadState → QuadState} : (s.modQuad k f).mtr = s.mtr := rfl
@[simp] theorem State.modQuad_pwr {k : Quad} {f : QuadState → QuadState} : (s.modQuad k f).pwr = s.pwr := rfl
@[simp] theorem State.modQuad_link {k : Quad} {f : QuadState → QuadState} : (s.modQuad k f).link = s.link := rfl
@[simp] theorem State.modQuad_boot {k : Quad} {f : QuadState → QuadState} : (s.modQuad k f).boot = s.boot := rfl
@[simp] theorem State.modQuad_wdg {k : Quad} {f : QuadState → QuadState} : (s.modQuad k f).wdg = s.wdg := rfl
@[simp] theorem State.modQuad_flash {k : Quad} {f : QuadState → QuadState} : (s.modQuad k f).flash = s.flash := rfl
@[simp] theorem State.modQuad_sled {k : Quad} {f : QuadState → QuadState} : (s.modQuad k f).sled = s.sled := rfl
@[simp] theorem State.modQuad_fwVer {k : Quad} {f : QuadState → QuadState} : (s.modQuad k f).fwVer = s.fwVer := rfl
@[simp] theorem State.modQuad_scratch {k : Quad} {f : QuadState → QuadState} : (s.modQuad k f).scratch = s.scratch := rfl
@[simp] theorem State.modQuad_nfree {k : Quad} {f : QuadState → QuadState} : (s.modQuad k f).nfree = s.nfree := rfl
@[simp] theorem State.modQuad_out {k : Quad} {f : QuadState → QuadState} : (s.modQuad k f).out = s.out := rfl
@[simp] theorem State.modQuad_pending {k : Quad} {f : QuadState → QuadState} : (s.modQuad k f).pending = s.pending := rfl

/-! ### After `modChan` -/

@[simp] theorem State.modChan_prts {k : MovNo} {f : Channel → Channel} : (s.modChan k f).prts = s.prts := rfl
@[simp] theorem State.modChan_op {k : MovNo} {f : Channel → Channel} : (s.modChan k f).op = s.op := rfl
@[simp] theorem State.modChan_tier {k : MovNo} {f : Channel → Channel} : (s.modChan k f).tier = s.tier := rfl
@[simp] theorem State.modChan_sqBacklog {k : MovNo} {f : Channel → Channel} : (s.modChan k f).sqBacklog = s.sqBacklog := rfl
@[simp] theorem State.modChan_quads {k : MovNo} {f : Channel → Channel} : (s.modChan k f).quads = s.quads := rfl
@[simp] theorem State.modChan_coreErr {k : MovNo} {f : Channel → Channel} : (s.modChan k f).coreErr = s.coreErr := rfl
@[simp] theorem State.modChan_tigers {k : MovNo} {f : Channel → Channel} : (s.modChan k f).tigers = s.tigers := rfl
@[simp] theorem State.modChan_movQuota {k : MovNo} {f : Channel → Channel} : (s.modChan k f).movQuota = s.movQuota := rfl
@[simp] theorem State.modChan_reds {k : MovNo} {f : Channel → Channel} : (s.modChan k f).reds = s.reds := rfl
@[simp] theorem State.modChan_jobs {k : MovNo} {f : Channel → Channel} : (s.modChan k f).jobs = s.jobs := rfl
@[simp] theorem State.modChan_ports {k : MovNo} {f : Channel → Channel} : (s.modChan k f).ports = s.ports := rfl
@[simp] theorem State.modChan_net {k : MovNo} {f : Channel → Channel} : (s.modChan k f).net = s.net := rfl
@[simp] theorem State.modChan_sec {k : MovNo} {f : Channel → Channel} : (s.modChan k f).sec = s.sec := rfl
@[simp] theorem State.modChan_mtr {k : MovNo} {f : Channel → Channel} : (s.modChan k f).mtr = s.mtr := rfl
@[simp] theorem State.modChan_pwr {k : MovNo} {f : Channel → Channel} : (s.modChan k f).pwr = s.pwr := rfl
@[simp] theorem State.modChan_link {k : MovNo} {f : Channel → Channel} : (s.modChan k f).link = s.link := rfl
@[simp] theorem State.modChan_boot {k : MovNo} {f : Channel → Channel} : (s.modChan k f).boot = s.boot := rfl
@[simp] theorem State.modChan_wdg {k : MovNo} {f : Channel → Channel} : (s.modChan k f).wdg = s.wdg := rfl
@[simp] theorem State.modChan_flash {k : MovNo} {f : Channel → Channel} : (s.modChan k f).flash = s.flash := rfl
@[simp] theorem State.modChan_sled {k : MovNo} {f : Channel → Channel} : (s.modChan k f).sled = s.sled := rfl
@[simp] theorem State.modChan_fwVer {k : MovNo} {f : Channel → Channel} : (s.modChan k f).fwVer = s.fwVer := rfl
@[simp] theorem State.modChan_scratch {k : MovNo} {f : Channel → Channel} : (s.modChan k f).scratch = s.scratch := rfl
@[simp] theorem State.modChan_nfree {k : MovNo} {f : Channel → Channel} : (s.modChan k f).nfree = s.nfree := rfl
@[simp] theorem State.modChan_out {k : MovNo} {f : Channel → Channel} : (s.modChan k f).out = s.out := rfl
@[simp] theorem State.modChan_pending {k : MovNo} {f : Channel → Channel} : (s.modChan k f).pending = s.pending := rfl

/-! ### After `emit` -/

@[simp] theorem State.emit_prts {x : HostOut} : (s.emit x).prts = s.prts := rfl
@[simp] theorem State.emit_op {x : HostOut} : (s.emit x).op = s.op := rfl
@[simp] theorem State.emit_tier {x : HostOut} : (s.emit x).tier = s.tier := rfl
@[simp] theorem State.emit_sqBacklog {x : HostOut} : (s.emit x).sqBacklog = s.sqBacklog := rfl
@[simp] theorem State.emit_quads {x : HostOut} : (s.emit x).quads = s.quads := rfl
@[simp] theorem State.emit_coreErr {x : HostOut} : (s.emit x).coreErr = s.coreErr := rfl
@[simp] theorem State.emit_tigers {x : HostOut} : (s.emit x).tigers = s.tigers := rfl
@[simp] theorem State.emit_chans {x : HostOut} : (s.emit x).chans = s.chans := rfl
@[simp] theorem State.emit_movQuota {x : HostOut} : (s.emit x).movQuota = s.movQuota := rfl
@[simp] theorem State.emit_reds {x : HostOut} : (s.emit x).reds = s.reds := rfl
@[simp] theorem State.emit_jobs {x : HostOut} : (s.emit x).jobs = s.jobs := rfl
@[simp] theorem State.emit_ports {x : HostOut} : (s.emit x).ports = s.ports := rfl
@[simp] theorem State.emit_net {x : HostOut} : (s.emit x).net = s.net := rfl
@[simp] theorem State.emit_sec {x : HostOut} : (s.emit x).sec = s.sec := rfl
@[simp] theorem State.emit_mtr {x : HostOut} : (s.emit x).mtr = s.mtr := rfl
@[simp] theorem State.emit_pwr {x : HostOut} : (s.emit x).pwr = s.pwr := rfl
@[simp] theorem State.emit_link {x : HostOut} : (s.emit x).link = s.link := rfl
@[simp] theorem State.emit_boot {x : HostOut} : (s.emit x).boot = s.boot := rfl
@[simp] theorem State.emit_wdg {x : HostOut} : (s.emit x).wdg = s.wdg := rfl
@[simp] theorem State.emit_flash {x : HostOut} : (s.emit x).flash = s.flash := rfl
@[simp] theorem State.emit_sled {x : HostOut} : (s.emit x).sled = s.sled := rfl
@[simp] theorem State.emit_fwVer {x : HostOut} : (s.emit x).fwVer = s.fwVer := rfl
@[simp] theorem State.emit_scratch {x : HostOut} : (s.emit x).scratch = s.scratch := rfl
@[simp] theorem State.emit_nfree {x : HostOut} : (s.emit x).nfree = s.nfree := rfl
@[simp] theorem State.emit_pending {x : HostOut} : (s.emit x).pending = s.pending := rfl

/-! ### After `took` -/

@[simp] theorem State.took_prts : (s.took).prts = s.prts := rfl
@[simp] theorem State.took_op : (s.took).op = s.op := rfl
@[simp] theorem State.took_tier : (s.took).tier = s.tier := rfl
@[simp] theorem State.took_sqBacklog : (s.took).sqBacklog = s.sqBacklog := rfl
@[simp] theorem State.took_quads : (s.took).quads = s.quads := rfl
@[simp] theorem State.took_coreErr : (s.took).coreErr = s.coreErr := rfl
@[simp] theorem State.took_tigers : (s.took).tigers = s.tigers := rfl
@[simp] theorem State.took_chans : (s.took).chans = s.chans := rfl
@[simp] theorem State.took_movQuota : (s.took).movQuota = s.movQuota := rfl
@[simp] theorem State.took_reds : (s.took).reds = s.reds := rfl
@[simp] theorem State.took_jobs : (s.took).jobs = s.jobs := rfl
@[simp] theorem State.took_ports : (s.took).ports = s.ports := rfl
@[simp] theorem State.took_net : (s.took).net = s.net := rfl
@[simp] theorem State.took_sec : (s.took).sec = s.sec := rfl
@[simp] theorem State.took_mtr : (s.took).mtr = s.mtr := rfl
@[simp] theorem State.took_pwr : (s.took).pwr = s.pwr := rfl
@[simp] theorem State.took_link : (s.took).link = s.link := rfl
@[simp] theorem State.took_boot : (s.took).boot = s.boot := rfl
@[simp] theorem State.took_wdg : (s.took).wdg = s.wdg := rfl
@[simp] theorem State.took_flash : (s.took).flash = s.flash := rfl
@[simp] theorem State.took_sled : (s.took).sled = s.sled := rfl
@[simp] theorem State.took_fwVer : (s.took).fwVer = s.fwVer := rfl
@[simp] theorem State.took_scratch : (s.took).scratch = s.scratch := rfl
@[simp] theorem State.took_out : (s.took).out = s.out := rfl
@[simp] theorem State.took_pending : (s.took).pending = s.pending := rfl

/-! ### After `stamped` -/

@[simp] theorem State.stamped_prts : (s.stamped).prts = s.prts := rfl
@[simp] theorem State.stamped_op : (s.stamped).op = s.op := rfl
@[simp] theorem State.stamped_tier : (s.stamped).tier = s.tier := rfl
@[simp] theorem State.stamped_sqBacklog : (s.stamped).sqBacklog = s.sqBacklog := rfl
@[simp] theorem State.stamped_quads : (s.stamped).quads = s.quads := rfl
@[simp] theorem State.stamped_coreErr : (s.stamped).coreErr = s.coreErr := rfl
@[simp] theorem State.stamped_tigers : (s.stamped).tigers = s.tigers := rfl
@[simp] theorem State.stamped_chans : (s.stamped).chans = s.chans := rfl
@[simp] theorem State.stamped_movQuota : (s.stamped).movQuota = s.movQuota := rfl
@[simp] theorem State.stamped_reds : (s.stamped).reds = s.reds := rfl
@[simp] theorem State.stamped_jobs : (s.stamped).jobs = s.jobs := rfl
@[simp] theorem State.stamped_ports : (s.stamped).ports = s.ports := rfl
@[simp] theorem State.stamped_net : (s.stamped).net = s.net := rfl
@[simp] theorem State.stamped_sec : (s.stamped).sec = s.sec := rfl
@[simp] theorem State.stamped_mtr : (s.stamped).mtr = s.mtr := rfl
@[simp] theorem State.stamped_link : (s.stamped).link = s.link := rfl
@[simp] theorem State.stamped_boot : (s.stamped).boot = s.boot := rfl
@[simp] theorem State.stamped_wdg : (s.stamped).wdg = s.wdg := rfl
@[simp] theorem State.stamped_flash : (s.stamped).flash = s.flash := rfl
@[simp] theorem State.stamped_sled : (s.stamped).sled = s.sled := rfl
@[simp] theorem State.stamped_fwVer : (s.stamped).fwVer = s.fwVer := rfl
@[simp] theorem State.stamped_scratch : (s.stamped).scratch = s.scratch := rfl
@[simp] theorem State.stamped_out : (s.stamped).out = s.out := rfl
@[simp] theorem State.stamped_pending : (s.stamped).pending = s.pending := rfl

/-! ### After `withPending` -/

@[simp] theorem State.withPending_prts {x : List Instr} : (s.withPending x).prts = s.prts := rfl
@[simp] theorem State.withPending_op {x : List Instr} : (s.withPending x).op = s.op := rfl
@[simp] theorem State.withPending_tier {x : List Instr} : (s.withPending x).tier = s.tier := rfl
@[simp] theorem State.withPending_sqBacklog {x : List Instr} : (s.withPending x).sqBacklog = s.sqBacklog := rfl
@[simp] theorem State.withPending_quads {x : List Instr} : (s.withPending x).quads = s.quads := rfl
@[simp] theorem State.withPending_coreErr {x : List Instr} : (s.withPending x).coreErr = s.coreErr := rfl
@[simp] theorem State.withPending_tigers {x : List Instr} : (s.withPending x).tigers = s.tigers := rfl
@[simp] theorem State.withPending_chans {x : List Instr} : (s.withPending x).chans = s.chans := rfl
@[simp] theorem State.withPending_movQuota {x : List Instr} : (s.withPending x).movQuota = s.movQuota := rfl
@[simp] theorem State.withPending_reds {x : List Instr} : (s.withPending x).reds = s.reds := rfl
@[simp] theorem State.withPending_jobs {x : List Instr} : (s.withPending x).jobs = s.jobs := rfl
@[simp] theorem State.withPending_ports {x : List Instr} : (s.withPending x).ports = s.ports := rfl
@[simp] theorem State.withPending_net {x : List Instr} : (s.withPending x).net = s.net := rfl
@[simp] theorem State.withPending_sec {x : List Instr} : (s.withPending x).sec = s.sec := rfl
@[simp] theorem State.withPending_mtr {x : List Instr} : (s.withPending x).mtr = s.mtr := rfl
@[simp] theorem State.withPending_pwr {x : List Instr} : (s.withPending x).pwr = s.pwr := rfl
@[simp] theorem State.withPending_link {x : List Instr} : (s.withPending x).link = s.link := rfl
@[simp] theorem State.withPending_boot {x : List Instr} : (s.withPending x).boot = s.boot := rfl
@[simp] theorem State.withPending_wdg {x : List Instr} : (s.withPending x).wdg = s.wdg := rfl
@[simp] theorem State.withPending_flash {x : List Instr} : (s.withPending x).flash = s.flash := rfl
@[simp] theorem State.withPending_sled {x : List Instr} : (s.withPending x).sled = s.sled := rfl
@[simp] theorem State.withPending_fwVer {x : List Instr} : (s.withPending x).fwVer = s.fwVer := rfl
@[simp] theorem State.withPending_scratch {x : List Instr} : (s.withPending x).scratch = s.scratch := rfl
@[simp] theorem State.withPending_nfree {x : List Instr} : (s.withPending x).nfree = s.nfree := rfl
@[simp] theorem State.withPending_out {x : List Instr} : (s.withPending x).out = s.out := rfl

/-! ### After `modFn` -/

@[simp] theorem State.modFn_tier {f : FnState → FnState} : (s.modFn fn f).tier = s.tier := by cases fn <;> rfl
@[simp] theorem State.modFn_sqBacklog {f : FnState → FnState} : (s.modFn fn f).sqBacklog = s.sqBacklog := by cases fn <;> rfl
@[simp] theorem State.modFn_quads {f : FnState → FnState} : (s.modFn fn f).quads = s.quads := by cases fn <;> rfl
@[simp] theorem State.modFn_coreErr {f : FnState → FnState} : (s.modFn fn f).coreErr = s.coreErr := by cases fn <;> rfl
@[simp] theorem State.modFn_tigers {f : FnState → FnState} : (s.modFn fn f).tigers = s.tigers := by cases fn <;> rfl
@[simp] theorem State.modFn_chans {f : FnState → FnState} : (s.modFn fn f).chans = s.chans := by cases fn <;> rfl
@[simp] theorem State.modFn_movQuota {f : FnState → FnState} : (s.modFn fn f).movQuota = s.movQuota := by cases fn <;> rfl
@[simp] theorem State.modFn_reds {f : FnState → FnState} : (s.modFn fn f).reds = s.reds := by cases fn <;> rfl
@[simp] theorem State.modFn_jobs {f : FnState → FnState} : (s.modFn fn f).jobs = s.jobs := by cases fn <;> rfl
@[simp] theorem State.modFn_ports {f : FnState → FnState} : (s.modFn fn f).ports = s.ports := by cases fn <;> rfl
@[simp] theorem State.modFn_net {f : FnState → FnState} : (s.modFn fn f).net = s.net := by cases fn <;> rfl
@[simp] theorem State.modFn_sec {f : FnState → FnState} : (s.modFn fn f).sec = s.sec := by cases fn <;> rfl
@[simp] theorem State.modFn_mtr {f : FnState → FnState} : (s.modFn fn f).mtr = s.mtr := by cases fn <;> rfl
@[simp] theorem State.modFn_pwr {f : FnState → FnState} : (s.modFn fn f).pwr = s.pwr := by cases fn <;> rfl
@[simp] theorem State.modFn_link {f : FnState → FnState} : (s.modFn fn f).link = s.link := by cases fn <;> rfl
@[simp] theorem State.modFn_boot {f : FnState → FnState} : (s.modFn fn f).boot = s.boot := by cases fn <;> rfl
@[simp] theorem State.modFn_wdg {f : FnState → FnState} : (s.modFn fn f).wdg = s.wdg := by cases fn <;> rfl
@[simp] theorem State.modFn_flash {f : FnState → FnState} : (s.modFn fn f).flash = s.flash := by cases fn <;> rfl
@[simp] theorem State.modFn_sled {f : FnState → FnState} : (s.modFn fn f).sled = s.sled := by cases fn <;> rfl
@[simp] theorem State.modFn_fwVer {f : FnState → FnState} : (s.modFn fn f).fwVer = s.fwVer := by cases fn <;> rfl
@[simp] theorem State.modFn_scratch {f : FnState → FnState} : (s.modFn fn f).scratch = s.scratch := by cases fn <;> rfl
@[simp] theorem State.modFn_nfree {f : FnState → FnState} : (s.modFn fn f).nfree = s.nfree := by cases fn <;> rfl
@[simp] theorem State.modFn_out {f : FnState → FnState} : (s.modFn fn f).out = s.out := by cases fn <;> rfl
@[simp] theorem State.modFn_pending {f : FnState → FnState} : (s.modFn fn f).pending = s.pending := by cases fn <;> rfl

/-! ### After `modRing` -/

@[simp] theorem State.modRing_tier {f : Ring → Ring} : (s.modRing r f).tier = s.tier := by cases r <;> rfl
@[simp] theorem State.modRing_sqBacklog {f : Ring → Ring} : (s.modRing r f).sqBacklog = s.sqBacklog := by cases r <;> rfl
@[simp] theorem State.modRing_quads {f : Ring → Ring} : (s.modRing r f).quads = s.quads := by cases r <;> rfl
@[simp] theorem State.modRing_coreErr {f : Ring → Ring} : (s.modRing r f).coreErr = s.coreErr := by cases r <;> rfl
@[simp] theorem State.modRing_tigers {f : Ring → Ring} : (s.modRing r f).tigers = s.tigers := by cases r <;> rfl
@[simp] theorem State.modRing_chans {f : Ring → Ring} : (s.modRing r f).chans = s.chans := by cases r <;> rfl
@[simp] theorem State.modRing_movQuota {f : Ring → Ring} : (s.modRing r f).movQuota = s.movQuota := by cases r <;> rfl
@[simp] theorem State.modRing_reds {f : Ring → Ring} : (s.modRing r f).reds = s.reds := by cases r <;> rfl
@[simp] theorem State.modRing_jobs {f : Ring → Ring} : (s.modRing r f).jobs = s.jobs := by cases r <;> rfl
@[simp] theorem State.modRing_ports {f : Ring → Ring} : (s.modRing r f).ports = s.ports := by cases r <;> rfl
@[simp] theorem State.modRing_net {f : Ring → Ring} : (s.modRing r f).net = s.net := by cases r <;> rfl
@[simp] theorem State.modRing_sec {f : Ring → Ring} : (s.modRing r f).sec = s.sec := by cases r <;> rfl
@[simp] theorem State.modRing_mtr {f : Ring → Ring} : (s.modRing r f).mtr = s.mtr := by cases r <;> rfl
@[simp] theorem State.modRing_pwr {f : Ring → Ring} : (s.modRing r f).pwr = s.pwr := by cases r <;> rfl
@[simp] theorem State.modRing_link {f : Ring → Ring} : (s.modRing r f).link = s.link := by cases r <;> rfl
@[simp] theorem State.modRing_boot {f : Ring → Ring} : (s.modRing r f).boot = s.boot := by cases r <;> rfl
@[simp] theorem State.modRing_wdg {f : Ring → Ring} : (s.modRing r f).wdg = s.wdg := by cases r <;> rfl
@[simp] theorem State.modRing_flash {f : Ring → Ring} : (s.modRing r f).flash = s.flash := by cases r <;> rfl
@[simp] theorem State.modRing_sled {f : Ring → Ring} : (s.modRing r f).sled = s.sled := by cases r <;> rfl
@[simp] theorem State.modRing_fwVer {f : Ring → Ring} : (s.modRing r f).fwVer = s.fwVer := by cases r <;> rfl
@[simp] theorem State.modRing_scratch {f : Ring → Ring} : (s.modRing r f).scratch = s.scratch := by cases r <;> rfl
@[simp] theorem State.modRing_nfree {f : Ring → Ring} : (s.modRing r f).nfree = s.nfree := by cases r <;> rfl
@[simp] theorem State.modRing_out {f : Ring → Ring} : (s.modRing r f).out = s.out := by cases r <;> rfl
@[simp] theorem State.modRing_pending {f : Ring → Ring} : (s.modRing r f).pending = s.pending := by cases r <;> rfl

/-! ### Reading a part back -/

@[simp] theorem State.prt_modPrt {f : Prt → Prt} : (s.modPrt p f).prt q = if p = q then f (s.prt p) else s.prt q := vmod_get _ _ _ _

@[simp] theorem State.life_modPrt {f : Prt → Prt} : (s.modPrt p f).life q = if p = q then (f (s.prt p)).life else s.life q := by
  unfold State.life; rw [State.prt_modPrt]; split <;> rfl

@[simp] theorem State.life_modLife {f : Life → Life} : (s.modLife p f).life q = if p = q then f (s.life p) else s.life q := by
  unfold State.modLife; rw [State.life_modPrt]; rfl

@[simp] theorem State.life_modMem {f : Memory → Memory} : (s.modMem p f).life q = s.life q := by
  unfold State.modMem; rw [State.life_modPrt]; split
  · subst_vars; rfl
  · rfl

@[simp] theorem State.mem_modMem {f : Memory → Memory} :
    ((s.modMem p f).prt q).mem = if p = q then f (s.prt p).mem else (s.prt q).mem := by
  unfold State.modMem; rw [State.prt_modPrt]; split <;> rfl

@[simp] theorem State.tok_modLife {f : Life → Life} : ((s.modLife p f).prt q).tok = (s.prt q).tok := by
  unfold State.modLife; rw [State.prt_modPrt]; split <;> simp_all

@[simp] theorem State.mem_modLife {f : Life → Life} : ((s.modLife p f).prt q).mem = (s.prt q).mem := by
  unfold State.modLife; rw [State.prt_modPrt]; split <;> simp_all

@[simp] theorem State.win_modLife {f : Life → Life} : ((s.modLife p f).prt q).win = (s.prt q).win := by
  unfold State.modLife; rw [State.prt_modPrt]; split <;> simp_all

@[simp] theorem State.rings_modLife {f : Life → Life} : ((s.modLife p f).prt q).rings = (s.prt q).rings := by
  unfold State.modLife; rw [State.prt_modPrt]; split <;> simp_all

@[simp] theorem State.fn_modLife {f : Life → Life} : ((s.modLife p f).prt q).fn = (s.prt q).fn := by
  unfold State.modLife; rw [State.prt_modPrt]; split <;> simp_all

@[simp] theorem State.bells_modLife {f : Life → Life} : ((s.modLife p f).prt q).bells = (s.prt q).bells := by
  unfold State.modLife; rw [State.prt_modPrt]; split <;> simp_all

@[simp] theorem State.bars_modLife {f : Life → Life} : ((s.modLife p f).prt q).bars = (s.prt q).bars := by
  unfold State.modLife; rw [State.prt_modPrt]; split <;> simp_all

@[simp] theorem State.ep_modLife {f : Life → Life} : ((s.modLife p f).prt q).ep = (s.prt q).ep := by
  unfold State.modLife; rw [State.prt_modPrt]; split <;> simp_all

@[simp] theorem State.cores_modLife {f : Life → Life} : ((s.modLife p f).prt q).cores = (s.prt q).cores := by
  unfold State.modLife; rw [State.prt_modPrt]; split <;> simp_all

@[simp] theorem State.rt_modLife {f : Life → Life} : ((s.modLife p f).prt q).rt = (s.prt q).rt := by
  unfold State.modLife; rw [State.prt_modPrt]; split <;> simp_all

@[simp] theorem State.scb_modLife {f : Life → Life} : ((s.modLife p f).prt q).scb = (s.prt q).scb := by
  unfold State.modLife; rw [State.prt_modPrt]; split <;> simp_all

@[simp] theorem State.wvl_modLife {f : Life → Life} : ((s.modLife p f).prt q).wvl = (s.prt q).wvl := by
  unfold State.modLife; rw [State.prt_modPrt]; split <;> simp_all

@[simp] theorem State.gx_modLife {f : Life → Life} : ((s.modLife p f).prt q).gx = (s.prt q).gx := by
  unfold State.modLife; rw [State.prt_modPrt]; split <;> simp_all

@[simp] theorem State.sol_modLife {f : Life → Life} : ((s.modLife p f).prt q).sol = (s.prt q).sol := by
  unfold State.modLife; rw [State.prt_modPrt]; split <;> simp_all

@[simp] theorem State.mvBad_modLife {f : Life → Life} : ((s.modLife p f).prt q).mvBad = (s.prt q).mvBad := by
  unfold State.modLife; rw [State.prt_modPrt]; split <;> simp_all

@[simp] theorem State.meas_modLife {f : Life → Life} : ((s.modLife p f).prt q).meas = (s.prt q).meas := by
  unfold State.modLife; rw [State.prt_modPrt]; split <;> simp_all

@[simp] theorem State.mtr_modLife {f : Life → Life} : ((s.modLife p f).prt q).mtr = (s.prt q).mtr := by
  unfold State.modLife; rw [State.prt_modPrt]; split <;> simp_all

@[simp] theorem State.pwd_modLife {f : Life → Life} : ((s.modLife p f).prt q).pwd = (s.prt q).pwd := by
  unfold State.modLife; rw [State.prt_modPrt]; split <;> simp_all

@[simp] theorem State.tok_modMem {f : Memory → Memory} : ((s.modMem p f).prt q).tok = (s.prt q).tok := by
  unfold State.modMem; rw [State.prt_modPrt]; split <;> simp_all

@[simp] theorem State.win_modMem {f : Memory → Memory} : ((s.modMem p f).prt q).win = (s.prt q).win := by
  unfold State.modMem; rw [State.prt_modPrt]; split <;> simp_all

@[simp] theorem State.rings_modMem {f : Memory → Memory} : ((s.modMem p f).prt q).rings = (s.prt q).rings := by
  unfold State.modMem; rw [State.prt_modPrt]; split <;> simp_all

@[simp] theorem State.fn_modMem {f : Memory → Memory} : ((s.modMem p f).prt q).fn = (s.prt q).fn := by
  unfold State.modMem; rw [State.prt_modPrt]; split <;> simp_all

@[simp] theorem State.bells_modMem {f : Memory → Memory} : ((s.modMem p f).prt q).bells = (s.prt q).bells := by
  unfold State.modMem; rw [State.prt_modPrt]; split <;> simp_all

@[simp] theorem State.bars_modMem {f : Memory → Memory} : ((s.modMem p f).prt q).bars = (s.prt q).bars := by
  unfold State.modMem; rw [State.prt_modPrt]; split <;> simp_all

@[simp] theorem State.ep_modMem {f : Memory → Memory} : ((s.modMem p f).prt q).ep = (s.prt q).ep := by
  unfold State.modMem; rw [State.prt_modPrt]; split <;> simp_all

@[simp] theorem State.cores_modMem {f : Memory → Memory} : ((s.modMem p f).prt q).cores = (s.prt q).cores := by
  unfold State.modMem; rw [State.prt_modPrt]; split <;> simp_all

@[simp] theorem State.rt_modMem {f : Memory → Memory} : ((s.modMem p f).prt q).rt = (s.prt q).rt := by
  unfold State.modMem; rw [State.prt_modPrt]; split <;> simp_all

@[simp] theorem State.scb_modMem {f : Memory → Memory} : ((s.modMem p f).prt q).scb = (s.prt q).scb := by
  unfold State.modMem; rw [State.prt_modPrt]; split <;> simp_all

@[simp] theorem State.wvl_modMem {f : Memory → Memory} : ((s.modMem p f).prt q).wvl = (s.prt q).wvl := by
  unfold State.modMem; rw [State.prt_modPrt]; split <;> simp_all

@[simp] theorem State.gx_modMem {f : Memory → Memory} : ((s.modMem p f).prt q).gx = (s.prt q).gx := by
  unfold State.modMem; rw [State.prt_modPrt]; split <;> simp_all

@[simp] theorem State.sol_modMem {f : Memory → Memory} : ((s.modMem p f).prt q).sol = (s.prt q).sol := by
  unfold State.modMem; rw [State.prt_modPrt]; split <;> simp_all

@[simp] theorem State.mvBad_modMem {f : Memory → Memory} : ((s.modMem p f).prt q).mvBad = (s.prt q).mvBad := by
  unfold State.modMem; rw [State.prt_modPrt]; split <;> simp_all

@[simp] theorem State.meas_modMem {f : Memory → Memory} : ((s.modMem p f).prt q).meas = (s.prt q).meas := by
  unfold State.modMem; rw [State.prt_modPrt]; split <;> simp_all

@[simp] theorem State.mtr_modMem {f : Memory → Memory} : ((s.modMem p f).prt q).mtr = (s.prt q).mtr := by
  unfold State.modMem; rw [State.prt_modPrt]; split <;> simp_all

@[simp] theorem State.pwd_modMem {f : Memory → Memory} : ((s.modMem p f).prt q).pwd = (s.prt q).pwd := by
  unfold State.modMem; rw [State.prt_modPrt]; split <;> simp_all

/-! ### Meters and host bytes leave the lifecycle, the memory and the window -/

/-- An update of the meters alone. -/
theorem State.modPrt_keeps {f : Prt → Prt} {β : Type} (g : Prt → β) (h : ∀ P, g (f P) = g P) :
    g ((s.modPrt p f).prt q) = g (s.prt q) := by
  rw [State.prt_modPrt]; split
  · subst_vars; exact h _
  · rfl

theorem State.accrue_keeps {k : Fin 8} {n : Nat} {β : Type} (g : Prt → β) (h : ∀ P m, g { P with mtr := m } = g P) :
    g ((s.accrue p k n).prt q) = g (s.prt q) := by
  unfold State.accrue; split
  · exact State.modPrt_keeps g fun P => h P _
  · rfl

theorem State.energy_keeps {n : Nat} {β : Type} (g : Prt → β) (h : ∀ P m, g { P with mtr := m } = g P) :
    g ((s.energy p n).prt q) = g (s.prt q) := by
  unfold State.energy; split
  · exact State.accrue_keeps g h
  · rfl

theorem State.sharedEnergy_keeps {n : Nat} {β : Type} (g : Prt → β) (h : ∀ P m, g { P with mtr := m } = g P) :
    g ((s.sharedEnergy p n).prt q) = g (s.prt q) := by
  unfold State.sharedEnergy; split
  · exact (State.modPrt_keeps g fun P => h P _).trans (State.energy_keeps g h)
  · rfl

/-- Bytes to or from the host change meters alone. -/
theorem State.hostBytes_keeps {n : Nat} {β : Type} (g : Prt → β) (h : ∀ P m, g { P with mtr := m } = g P) :
    g ((s.hostBytes fn n).prt q) = g (s.prt q) := by
  unfold State.hostBytes; split
  · rfl
  · exact (State.sharedEnergy_keeps g h).trans (State.accrue_keeps g h)

@[simp] theorem State.hostBytes_life {n : Nat} : (s.hostBytes fn n).life q = s.life q :=
  State.hostBytes_keeps (·.life) fun _ _ => rfl

@[simp] theorem State.hostBytes_mem {n : Nat} : ((s.hostBytes fn n).prt q).mem = (s.prt q).mem :=
  State.hostBytes_keeps (·.mem) fun _ _ => rfl

@[simp] theorem State.hostBytes_win {n : Nat} : ((s.hostBytes fn n).prt q).win = (s.prt q).win :=
  State.hostBytes_keeps (·.win) fun _ _ => rfl

/-! ### The run of a fabric operation -/

theorem State.fabRun_op {o : OpRef} {x : FabRun} {g : Group} (h : s.fabRun o = some (p, x, g)) : x.op = o := by
  unfold State.fabRun at h
  split at h
  · split at h
    · rename_i y hy
      obtain ⟨_, _, e⟩ := Option.map_eq_some_iff.mp h
      cases e
      simpa using List.find?_some hy
    · cases h
  · cases h

/-! ### The region that a TARGET names -/

theorem targetOf_val {i : Fin 3} : targetOf (BitVec.ofNat 2 i.val) = some i := by
  revert i; decide

/-! ### An update reads the part it changes -/

theorem State.modPrt_congr {f g : Prt → Prt} (h : f (s.prt p) = g (s.prt p)) : s.modPrt p f = s.modPrt p g := by
  unfold State.prt at h
  unfold State.modPrt vmod
  rw [h]

theorem State.modDog_congr {f g : Watchdog → Watchdog} (h : f (s.dog fn) = g (s.dog fn)) : s.modDog fn f = s.modDog fn g := by
  cases fn
  · unfold State.modDog; exact congrArg (fun w => ({ s with wdg := w } : State)) h
  · exact State.modPrt_congr (congrArg (fun w => { s.prt _ with pwd := w }) h)

/-- An update of a port that agrees with another on the port as it stands is the same update. -/
theorem State.modPort_congr {a : PortNo} {f g : Port → Port} (h : f s.ports[a] = g s.ports[a]) : s.modPort a f = s.modPort a g := by
  unfold State.modPort vmod; rw [h]

/-- An update of a port that leaves the port as it stands leaves the state. -/
theorem State.modPort_same {a : PortNo} {f : Port → Port} (h : f s.ports[a] = s.ports[a]) : s.modPort a f = s := by
  unfold State.modPort vmod; rw [h]; simp

theorem Port.modLane_congr {P : Port} {l : LaneNo} {f g : Lane → Lane} (h : f P.lanes[l] = g P.lanes[l]) : P.modLane l f = P.modLane l g := by
  unfold Port.modLane vmod; rw [h]

end Sys2Proof.Machine
end

