-- ==== Sys2Proof/WellFormed.lean ====
section
/-! DEFINITION. WellFormed.lean: the commands a sender can form: the lengths of entries, lines and lists, and register offsets
(Tables 2-6, 3-6, 12-1, 15-1). -/

namespace Sys2Proof

/-- The offset of a 32-bit register in BAR0, or in BAR2 0x1000_0000 above it (R61; log entry 36). -/
def regAt (off : Nat) : Bool := off % 4 = 0 && off < 2 ^ 29

/-- Table 2-6: the bytes of BAR0. -/
def barBytes : Fn → Nat
  | .pf => 64 * 2 ^ 20
  | .vf _ => 2 ^ 20

/-- A sender can form the command. -/
def Instr.wf (i : Instr) : Bool :=
  match i with
  | .create _ => true
  | .commit _ => true
  | .abandon _ => true
  | .start _ => true
  | .suspend _ => true
  | .suspendHaltComplete _ => true
  | .resume _ => true
  | .destroy _ => true
  | .resize _ => true
  | .resizeComplete _ => true
  | .prtCmdReserved _ code => code = 0 || 9 ≤ code.toNat
  | .drainTimeout _ => true
  | .drainComplete _ => true
  | .keyRetire _ => true
  | .scrubComplete _ => true
  | .idleTimeout _ => true
  | .tntNap _ => true
  | .prtStagedWrite _ _ _ => true
  | .prtModeWrite _ _ _ => true
  | .prtTokenRead _ _ => true
  | .tntConsentWrite _ _ => true
  | .tntTokenRotate _ => true
  | .tntTokenRead _ _ => true
  | .tntAttachGo _ => true
  | .attachLockoutEnd _ => true
  | .objDefine _ => true
  | .objHint _ => true
  | .objRelease _ => true
  | .objReleaseDrained _ => true
  | .objQuery _ => true
  | .partitionWindowRead _ off => off < 2 ^ 28
  | .partitionWindowWrite _ off data _ => off < 2 ^ 28 && data.length = 64
  | .operatorWindowRead off => off < 2 ^ 30
  | .operatorWindowWrite off data _ => off < 2 ^ 30 && data.length = 64
  | .windowControlWrite _ off _ => regAt off
  | .barWidthError fn off _ => off < barBytes fn
  | .sysErrClear _ _ => true
  | .hostRequestError _ _ => true
  | .ringConfigWrite _ off _ => regAt off
  | .ringEnable _ => true
  | .ringDisable _ => true
  | .ringEntryAccessFail _ _ => true
  | .doorbellWrite _ _ => true
  | .dbCancel _ _ => true
  | .cancelMatchingDone _ => true
  | .commandConsume _ entry => entry.length = 64
  | .commandReadyStart _ => true
  | .commandPromotion _ => true
  | .indexWriteback _ => true
  | .irqModerationTimeout _ => true
  | .msixUnmask _ _ _ _ => true
  | .mbInPost _ _ => true
  | .mbOutRelease _ _ => true
  | .mailboxOutboundPlace _ => true
  | .servicePing _ => true
  | .serviceHeartbeat _ => true
  | .serviceTime _ => true
  | .serviceUnknown _ => true
  | .execList _ list => list.length ≤ 2 ^ 20
  | .controlNop _ => true
  | .controlFence _ => true
  | .flushReadDone _ => true
  | .fenceTimeout _ => true
  | .barCfg _ => true
  | .epochCommit _ => true
  | .epochRevoke _ => true
  | .jobEpochDecision _ _ _ => true
  | .tntEpochWrite _ _ => true
  | .listNop _ => true
  | .mbRecv _ => true
  | .mbRecvTimeout _ => true
  | .mbSend _ => true
  | .barArrive _ => true
  | .timestamp _ => true
  | .writeValue _ => true
  | .barrierArrival _ => true
  | .fabricBarrierRelease _ _ => true
  | .barrierTimeout _ _ => true
  | .matmul _ => true
  | .convert _ => true
  | .vecEw _ => true
  | .vecRed _ => true
  | .computeOpEnd _ => true
  | .suLoad _ => true
  | .suLoadDone _ => true
  | .suStart _ _ => true
  | .suStop _ => true
  | .streamNop _ => true
  | .seti _ => true
  | .adds _ => true
  | .addi _ => true
  | .fadd _ => true
  | .loop _ => true
  | .endl _ => true
  | .mov _ => true
  | .movEnd _ _ => true
  | .swap _ => true
  | .waitf _ => true
  | .waitv _ => true
  | .rel _ => true
  | .sig _ => true
  | .wsig _ => true
  | .streamBar _ => true
  | .dline _ => true
  | .fend _ => true
  | .streamEnd _ => true
  | .streamEpoch _ => true
  | .pairBind _ => true
  | .pairBindDone _ => true
  | .pairUnbind _ => true
  | .pairReset _ => true
  | .pairAutoSwap _ => true
  | .pairWaitTimeout _ => true
  | .rtCtlWrite _ _ => true
  | .frameStart _ => true
  | .frameEarlyWake _ => true
  | .deadlinePass _ => true
  | .moveCopyBegin _ t => t < 2 ^ 32
  | .moveComplete _ t => t < 2 ^ 32
  | .moveDestinationFail _ t => t < 2 ^ 32
  | .backgroundPromotion _ t => t < 2 ^ 32
  | .tierAccessFail _ t _ _ _ => t < 2 ^ 32
  | .tierAccessLate _ t _ _ => t < 2 ^ 32
  | .memoryUnitDown _ => true
  | .tileClear _ => true
  | .readAheadExpire _ _ => true
  | .tierSettingWrite off _ => regAt off
  | .stagingQuotaWrite _ _ => true
  | .planLoad _ => true
  | .planUnload _ => true
  | .runBegin _ => true
  | .mark _ => true
  | .runEnd _ => true
  | .instanceCloseComplete _ _ _ => true
  | .fetchbackEvaluate _ => true
  | .fetchbackIssue _ _ _ => true
  | .injectedSegmentEnd _ _ _ _ => true
  | .scarabTaskIssue => true
  | .quarantineWaitTimeout _ => true
  | .scarabSettingWrite _ _ => true
  | .updateCommand _ list => list.length ≤ 2 ^ 20
  | .normPassEnd _ => true
  | .decisionContribution _ _ _ _ _ _ _ _ _ => true
  | .reductionTimeout _ _ => true
  | .verdict _ _ _ _ => true
  | .decisionPointUnreachable _ => true
  | .trustPassEnd _ => true
  | .applyPassEnd _ => true
  | .gx _ => true
  | .allgather _ => true
  | .bcast _ => true
  | .send _ => true
  | .recv _ => true
  | .bucketContribution _ _ _ _ => true
  | .bucketDeadline _ _ => true
  | .lateContribution _ _ => true
  | .fabricLanding _ _ _ _ => true
  | .sendRecvTimeout _ => true
  | .collectivePeerUnreachable _ _ _ => true
  | .dense _ => true
  | .schedReg _ => true
  | .schedDrop _ => true
  | .schedDropRelease _ => true
  | .sparse _ => true
  | .h2t _ _ => true
  | .t2h _ => true
  | .t2t _ => true
  | .place _ => true
  | .xfer _ _ => true
  | .moverDescriptorStart _ desc => desc.length = 32
  | .moverFlushTimeout _ => true
  | .paceLevelPoll _ => true
  | .paceRelease _ => true
  | .mvPaceWrite _ _ => true
  | .mvCtlReset _ => true
  | .movChKill _ => true
  | .movQuotaWrite _ _ => true
  | .perstNAssert => true
  | .perstNDeassert _ => true
  | .hotReset => true
  | .linkDisable => true
  | .surpriseLinkDown => true
  | .linkChanged width rate => 1 ≤ width && width ≤ 16 && 1 ≤ rate && rate ≤ 6
  | .pfHeartbeatTimeout => true
  | .vfHeartbeatTimeout _ => true
  | .heartbeatTmoWrite _ _ => true
  | .vfFlr _ => true
  | .vfBusMasterDisable _ => true
  | .vfD3hot _ => true
  | .vfRemoved _ => true
  | .pfFlr => true
  | .pfBusMasterDisable => true
  | .pfD3hot => true
  | .ideInsecure _ _ => true
  | .hostLineInvalidate _ _ => true
  | .hdmDecoderCommit _ _ => true
  | .operatorStopTimeout => true
  | .lnkOpAttach _ => true
  | .portEnable _ => true
  | .portDisable _ => true
  | .laneMaskWrite _ _ => true
  | .retrain _ => true
  | .portModuleReady _ => true
  | .trainingTimerExpire _ => true
  | .backoffEnd _ => true
  | .partnerSignalSeen _ => true
  | .detectLock _ _ => true
  | .tuneComplete _ _ => true
  | .alignComplete _ _ => true
  | .descriptorReceived _ d => d.length = 64
  | .laneLockLoss _ _ => true
  | .partnerLaneNotice _ _ => true
  | .fecWindowEnd _ _ _ => true
  | .restripeAgreed _ => true
  | .restripeTimeout _ => true
  | .laneLockRegained _ _ => true
  | .laneProbationEnd _ _ => true
  | .fabLclr _ _ => true
  | .fabLaneUeMaxWrite _ _ => true
  | .fabricPacketReceive _ _ _ _ => true
  | .replayRequest _ _ => true
  | .ackTimeout _ => true
  | .descriptorSend _ => true
  | .candidateForget _ => true
  | .fmStable => true
  | .fabFmCtlWrite _ => true
  | .remoteAccess _ _ off _ _ => regAt off
  | .fabApply _ => true
  | .e2eResend _ => true
  | .e2eTimeout _ => true
  | .nodeLostDeclare _ => true
  | .fabGrpLoad _ rec_ => rec_.length ≤ 8224
  | .fabGrpRemove _ => true
  | .entropyFault _ => true
  | .spdmGetVersion _ => true
  | .spdmGetCapabilities _ => true
  | .spdmNegotiateAlgorithms _ => true
  | .spdmGetDigests _ => true
  | .spdmGetCertificate _ _ _ _ => true
  | .spdmChallenge _ _ => true
  | .spdmGetMeasurements _ _ _ => true
  | .spdmKeyExchange _ => true
  | .spdmFinish _ => true
  | .spdmHeartbeat _ => true
  | .spdmKeyUpdate _ => true
  | .spdmEndSession _ => true
  | .spdmVendorDefinedRequest _ _ => true
  | .jtagBypass => true
  | .jtagIdcode => true
  | .jtagSamplePreload => true
  | .jtagExtest _ => true
  | .jtagClamp _ => true
  | .jtagHighz _ => true
  | .tntMeasGo _ _ => true
  | .secFslotsWrite _ _ => true
  | .millisecondBoundary _ => true
  | .meterIntervalBoundary _ => true
  | .meterRecordSigned => true
  | .mtrIvlWrite _ _ => true
  | .meterLatchRead _ _ => true
  | .lowWordRead _ off => regAt off
  | .rcCounterRead _ off => regAt off
  | .clkTimeSlewWrite _ => true
  | .clkTimeSetGo _ => true
  | .clkSscWrite _ => true
  | .pllUnlock _ => true
  | .accessWake _ => true
  | .accessWakeIdle _ => true
  | .quadTransitionComplete _ => true
  | .retentionEntry => true
  | .retentionExit => true
  | .retentionExitComplete => true
  | .clkRetCtlWrite _ => true
  | .thermtrip => true
  | .supplyFault _ => true
  | .powerFailWarn _ => true
  | .powerFailRecover => true
  | .powerFailShutdown => true
  | .tntCoreRst _ _ => true
  | .sysRstCore _ => true
  | .sysRstPartition _ => true
  | .sysRstWarm => true
  | .sysRstCold => true
  | .pwdReset _ _ => true
  | .watchdogWarning _ => true
  | .deviceWatchdogExpire => true
  | .partitionWatchdogExpire _ => true
  | .mcWatchdogExpire => true
  | .watchdogServe _ _ => true
  | .serveArmTimeout _ => true
  | .watchdogEnableWrite _ _ => true
  | .wdgLock => true
  | .standbyApply => true
  | .bootMilestone _ => true
  | .dlBegin _ _ => true
  | .dlWrite _ data _ => data.length ≤ 2 ^ 20
  | .verify _ _ => true
  | .activate _ _ => true
  | .restart _ => true
  | .confirm _ _ => true
  | .rollback _ _ => true
  | .abort _ => true
  | .trialTimerExpire _ => true
  | .flsSeal _ => true
  | .flsCfgPut _ _ => true
  | .flsCfgDel _ _ => true
  | .flsCfgRead _ => true
  | .queryDeviceIdentifiers => true
  | .getFirmwareParameters => true
  | .getStatus => true
  | .requestUpdate => true
  | .passComponentTable => true
  | .updateComponent _ _ => true
  | .firmwareDataReceived _ _ => true
  | .activateFirmware => true
  | .cancelUpdateComponent => true
  | .cancelUpdate => true
  | .pbPrsntDeassert => true
  | .inputGood => true
  | .coldRstN _ => true
  | .serviceButtonPress => true
  | .serviceButtonHold => true
  | .cageModuleInsert _ _ _ _ => true
  | .cageModuleRemove _ => true
  | .cageOverpower _ => true
  | .smbusAlertResponse => true
  | .registerWrite _ off _ => regAt off
  | .solverOpEnd _ => true
  | .moverDescriptorEnd _ => true
  | .linkUp width rate _ => 1 ≤ width && width ≤ 16 && 1 ≤ rate && rate ≤ 6
  | .vfEnable n => n ≤ 16
  | .standbyLoss => true
  | .moduleAdvertisementChange _ _ => true

end Sys2Proof
end

