-- ==== Sys2Proof/Tests/Slice0.lean ====
section
/-! SUPPORT. Tests/Slice0.lean: for every statement's clause a state and operands that meet its hypotheses together, one ill-formed
command for each check of WellFormed, and the spec's worked cases that one step or one operation shows. -/

set_option maxRecDepth 8000
set_option linter.unusedVariables false
set_option Elab.async false

namespace Sys2Proof.Tests
open Sys2Proof.Machine

/-! ### The states of the witnesses -/

/-- A number as `n` little-endian bytes. -/
def le (n v : Nat) : Bytes := (List.range n).map fun i => BitVec.ofNat 8 (v / 256 ^ i)

/-- The sled after its boot: the package powered, the host link up with CXL and an HDM range, and quad 0 held by partition 0. -/
def wPf : State :=
  { State.reset with
    link := { Link.reset with up := true, cxl := true, hdm := some (0, 2 ^ 40), perst := false, width := 16, rate := 5, numVfs := 16, vfEnable := true },
    boot := { Boot.reset with hostReady := true, milestone := 9 },
    pwr := { Power.reset with pkgUp := true, pllLo := BitVec.allOnes 29, clk := 10 ^ 12, time := BitVec.ofNat 64 (10 ^ 12) },
    tier := { TierRegs.reset with boardInst := 12 },
    sled := { Sled.reset with railsUp := 14, inputGood := true, prsnt := true },
    quads := State.reset.quads.set 0 ⟨some 0, .run, none, none, 2000⟩ }
/-- Partition 0 in a state. -/
def life0 (st : PState) : Life :=
  { Life.reset with st := st, quads := 1, quadsAct := 1, floor := 4, floorAct := 4, board := 1, boardAct := 1, slice := 1 }
/-- Partition 0 in a state, and changed. -/
def wPrt (st : PState) (f : Prt → Prt) : State := wPf.modPrt 0 fun P => f { P with life := life0 st }
/-- Partition 0 in a state. -/
def wSt (st : PState) : State := wPrt st id
/-- Partition 0 with another PRT page. -/
def wLife (st : PState) (f : Life → Life) : State := wPrt st fun P => { P with life := f P.life }
def wRun : State := wSt .running
def wReady : State := wSt .ready
def wConf : State :=
  { wPf with quads := State.reset.quads }.modPrt 0 fun P => { P with life := { life0 .configuring with quadsAct := 0, floorAct := 0, boardAct := 0 } }
def wGrow : State := wLife .running fun L => { L with floor := 5 }
def wSuspending : State := wLife .running fun L => { L with exec := some .suspend }
def wResizing : State := wLife .running fun L => { L with exec := some (.resize 1 2 1 false 8) }
def wDrainOver : State := wLife .draining fun L => { L with drainFrom := some 0, drainMs := 100 }
def wScrubbed : State := wLife .scrubbing fun L => { L with keyRetired := true }
def wIdle : State := wLife .running fun L => { L with idleUs := 100, idleSince := some 0 }
def wLocked : State := wPrt .detached fun P => { P with tok := { P.tok with lockedAt := some 0 } }

/-- A command, as it stands after its consumption. -/
def cmd (engine : BitVec 4) (opc : BitVec 8) (stage : CmdStage) (operands : Bytes) : Cmd :=
  { seq := 0, hdr := ⟨opc, 0, engine, 0, 0, 0, 0⟩, operands := operands, stage := stage, fenceMet := false, readyAt := none,
    promoted := false, cancelled := false, revoked := false, deadline := none, missed := false, lateFetch := false,
    waited := false, quarAt := none, pairAt := none, wait := none, mute := false, spans := [], run := none }
/-- The command at sequence number 0 of ring 0 of partition 0; the first operation of its list. -/
def wc : CmdRef := ⟨.vf 0 0, 0⟩
def wo : OpRef := ⟨wc, 0⟩
def wu : UnitRef := ⟨0, 0, 0⟩
def wb : PairRef := ⟨0, 0, 0⟩
/-- A submission ring of a class with its completion ring 1. -/
def ringOf (engine : BitVec 4) (cmds : List Cmd) : Ring :=
  { Ring.reset with state := .active, cfgEngine := engine, cfgLog := 4, cfgKind := 0, cfgCq := 1, consumed := cmds.length, cmds := cmds }
def ringCq : Ring := { Ring.reset with state := .active, cfgLog := 4, cfgKind := 1 }
/-- Partition 0 in RUNNING with its ring 0, its ring 1, and changed. -/
def wRing (R : Ring) (f : Prt → Prt) : State := wPrt .running fun P => f { P with rings := (P.rings.set 0 R).set 1 ringCq }
/-- Ring 0 holds one command. -/
def wCmd (k : Cmd) (f : Prt → Prt) : State := wRing (ringOf (if k.hdr.engine = 0 then 4 else k.hdr.engine) [k]) f

/-- Objects: a ZERO tile in stacked DRAM for each of their tiles. -/
def tile (n : Nat) : Tile :=
  { num := n, home := .stacked 0 false, st := .zero, age := 0, boardAt := 0, sectors := 0, raw := false, tag := none, bound := false,
    clearAfter := false, closing := false }
def wObj : Obj := ⟨1, 0, 0, 1, 2, false, none⟩
def wObjR : Obj := { wObj with releasing := some wc }
def objs (os : List Obj) (ts : List Tile) (P : Prt) : Prt := { P with mem := { P.mem with objs := os, tiles := ts } }
def withObj : Prt → Prt := objs [wObj] [tile 1, tile 2]
def wkDefine : Cmd := cmd 4 0x40 .started (le 4 7 ++ le 4 0 ++ le 8 0x10000 ++ le 4 2 ++ le 28 0)
def wDefine : State := wCmd wkDefine id
def wkDefineBad : Cmd := cmd 4 0x40 .started (le 4 7 ++ le 4 0 ++ le 8 0x10000 ++ le 4 2 ++ le 28 1)
def wDefineBad : State := wCmd wkDefineBad id
def wkHint : Cmd := cmd 4 0x41 .started (le 4 1 ++ le 4 2 ++ le 40 0)
def wHint : State := wCmd wkHint withObj
def wkRelease : Cmd := cmd 4 0x42 .started (le 4 1 ++ le 44 0)
def wRelease : State := wCmd wkRelease withObj
def wReleasing : State := wCmd { wkRelease with stage := .running } (objs [wObjR] [tile 1, tile 2])
def wkQuery : Cmd := cmd 4 0x43 .started (le 4 1 ++ le 20 0 ++ le 8 0x1000 ++ le 16 0)
def wQuery : State := wCmd wkQuery withObj
def wkClear : Cmd := cmd 4 0x44 .started (le 4 1 ++ le 4 0 ++ le 8 0x10000 ++ le 4 2 ++ le 28 0)
def wClear : State := wCmd wkClear withObj
def wWin : State :=
  wPrt .running fun P => objs [{ wObj with base := 4095, tiles := 1 }] [tile 4095] { P with win := { P.win with en := true } }
def wOpWin : State :=
  { (wPrt .running fun P => objs [{ wObj with base := 8191, tiles := 1 }] [tile 8191] { P with tok := { P.tok with consent := true } }) with
    op := { OpCtx.reset with win := { OpWindow.reset with en := true } } }
def wCxl : State := wRun
def wRings : State := wPrt .running fun P => { P with rings := (P.rings.set 0 (ringOf 4 [])).set 1 ringCq }
def wRingCfg : State :=
  wPrt .running fun P => { P with rings := (P.rings.set 2 { Ring.reset with cfgEngine := 4, cfgLog := 4, cfgCq := 1 }).set 1 ringCq }
def wQueued : State := wRing { ringOf 4 [] with sw := ⟨false, 1⟩ } id
def ringWrote : Ring := { ringCq with dev := ⟨false, 1⟩, iwbEn := true, iwbDue := true, firstAt := some 0, irqTime := 5 }
def wWrote : State := wPrt .running fun P => { P with rings := P.rings.set 1 ringWrote }
def wCancels : State := wRing { ringOf 4 [] with cancels := [⟨none, 0⟩] } id
def eNop : Bytes := le 64 1
def kNop : Cmd := cmd 0 1 .waiting []
def wHead : State := wCmd kNop id
def kList : Cmd := cmd 4 0x40 .waiting []
def wHeadList : State := wCmd kList id
def kReady : Cmd := { kList with readyAt := some 0 }
def wReadyHead : State := wCmd kReady id
def wPendMsix : State := wPrt .running fun P => { P with fn := { P.fn with msix := P.fn.msix.set 63 ⟨0, 0, true, true⟩ } }
def wMsg : OutMsg := ⟨0, 0x8001, [], some 0, none⟩
def wMailWait : State := wPf.modFn .pf fun f => { f with mail := { f.mail with waiting := [wMsg] } }
def mailBytes (n : Nat) : Bytes := le 256 (n * 65536)
def wMail (n : Nat) : State :=
  wPf.modFn .pf fun f => { f with mail := { f.mail with posted := [0], inOwn := 1, inSlots := f.mail.inSlots.set 0 (mailBytes n) } }
def lNop : Bytes := le 2 1 ++ le 2 1 ++ le 12 0 ++ le 2 0 ++ le 2 1 ++ le 4 0
def opsNop : List ListOp := [⟨0, false, false, 0, 1, []⟩]
def kExecList : Cmd := cmd 1 0x80 .started (le 8 0x1000 ++ le 4 24 ++ le 36 0)
def wExecList : State := wCmd kExecList id
def kCtl (e : BitVec 4) (o : BitVec 8) : Cmd := cmd e o .started []
def wCtl (e : BitVec 4) (o : BitVec 8) : State := wCmd (kCtl e o) id
def wFenceDirty : State := wRing { ringOf 4 [kCtl 0 2] with dirty := true } id
def kFlushing : Cmd := cmd 0 2 (.postFlush 0 .ok 0) []
def wFlushing : State := wCmd kFlushing id

/-! ### Barriers, lists and epochs -/

def bar2 (n : Nat) (fabric : Bool) : Barrier :=
  { Barrier.reset with cfg := true, fabric := fabric, count := 2, arrived := n, firstAt := some 0, timeout := 1 }
def kBarCfg : Cmd := cmd 0 3 .started (le 4 31 ++ le 2 2 ++ le 42 0)
def wBarCfg : State := wCmd kBarCfg id
def withBars (n : Nat) (fabric : Bool) (P : Prt) : Prt :=
  { P with bars := (P.bars.set 0 (bar2 n fabric)).set 31 (bar2 n fabric) }
def kWorked : Cmd := { cmd 4 0x40 (.worked .ok 0) [] with hdr := ⟨0x40, 4, 4, 0, 31, 0, 0⟩ }
def wWorked : State := wCmd kWorked (withBars 1 false)
def wFabBar : State := wRing (ringOf 4 []) (withBars 2 true)

/-- The objects and tiles 1 to n, ZERO in stacked DRAM; and tiles from 16 on. -/
def objN (n : Nat) : Obj := ⟨1, 0, 0, 1, n, false, none⟩
def obj16 : Obj := ⟨2, 0, 0, 16, 2, false, none⟩
def withObjs : Prt → Prt :=
  objs [objN 8, obj16] [tile 1, tile 2, tile 3, tile 4, tile 5, tile 6, tile 7, tile 8, tile 16, tile 17]
/-- A list with one operation that may start, and one that has started. -/
def kOp (e : BitVec 4) (op : ListOp) : Cmd :=
  { cmd e 0x80 .running [] with run := some ⟨[op], 0, [], none, none, none⟩ }
def wOp (e : BitVec 4) (op : ListOp) : State := wCmd (kOp e op) withObjs
def actOf (op : ListOp) : ActiveOp := ⟨0, op, 0, [], none, none, none, [], []⟩
def kAct (e : BitVec 4) (a : ActiveOp) : Cmd :=
  { cmd e 0x80 .running [] with run := some ⟨[a.op], 1, [a], none, none, none⟩ }
def wAct (e : BitVec 4) (a : ActiveOp) : State := wCmd (kAct e a) withObjs

def opNop : ListOp := ⟨0x80, false, false, 0, 1, []⟩
def opRecv : ListOp := ⟨0x81, false, false, 0, 4, le 1 15 ++ le 3 0 ++ le 4 1 ++ le 8 0x10000 ++ le 8 0⟩
def aRecvWait : ActiveOp := actOf opRecv
def kRecvWait : Cmd := kAct 1 aRecvWait
def wRecvWait : State := wAct 1 aRecvWait
def opSend : ListOp := ⟨0x82, false, false, 0, 3, le 1 15 ++ le 7 0 ++ le 8 0x10000⟩
def opArrive : ListOp := ⟨0x83, false, false, 0, 2, le 1 31 ++ le 7 0⟩
def wBarArrive : State := wCmd (kOp 1 opArrive) (withBars 1 false)
def opStamp : ListOp := ⟨0x84, false, false, 0, 2, le 8 0x1000⟩
def opWrite : ListOp := ⟨0x85, false, false, 0, 3, le 8 0x1000 ++ le 8 5⟩

/-! ### Compute -/

def opMat : ListOp := ⟨1, false, false, 0x100, 8,
  le 2 0x111 ++ le 2 0 ++ le 2 1 ++ le 2 1 ++ le 2 1 ++ le 2 0 ++ le 4 1 ++ le 4 2 ++ le 4 0 ++ le 4 3
    ++ le 2 1 ++ le 2 1 ++ le 2 0 ++ le 2 1 ++ le 20 0⟩
def opConv : ListOp := ⟨2, false, false, 0x100, 5,
  le 1 0x21 ++ le 3 0 ++ le 2 1 ++ le 2 1 ++ le 4 1 ++ le 4 2 ++ le 2 1 ++ le 2 1 ++ le 12 0⟩
def opEw : ListOp := ⟨3, false, false, 0x100, 6,
  le 1 4 ++ le 1 0 ++ le 2 0x1111 ++ le 2 1 ++ le 2 1 ++ le 4 1 ++ le 4 2 ++ le 4 3 ++ le 4 4
    ++ le 2 1 ++ le 2 1 ++ le 2 1 ++ le 2 1 ++ le 8 0⟩
def opRed : ListOp := ⟨4, false, false, 0x100, 4,
  le 1 0 ++ le 1 1 ++ le 2 0 ++ le 2 1 ++ le 2 1 ++ le 4 1 ++ le 4 2 ++ le 2 1 ++ le 2 1 ++ le 4 0⟩
/-- The operation that a list operation names, for a partition of four cores. -/
def cOf (op : ListOp) : ComputeOp :=
  match checkCompute 4 op with
  | .ok C => C
  | .error _ => ⟨[], ⟨0, 0, 0, 0, 0⟩, [], none, [], false, false, fun _ => []⟩
def aActEw : ActiveOp := actOf opEw
def kActEw : Cmd := kAct 1 aActEw
def wActEw : State := wAct 1 aActEw

/-! ### Streams -/

def xStaged : Staged := ⟨.unit wu, 5, 0⟩
def wStaged : State := wPrt .running fun P => { P with mem := { P.mem with staged := [xStaged] } }
def withCore (f : CoreStreams → CoreStreams) (P : Prt) : Prt := { P with cores := P.cores.set 0 (f CoreStreams.reset) }
def image (ws : List W32) : StreamImage := ⟨Vector.replicate 8 0, Vector.replicate 4 0, Vector.replicate 4 0, ws⟩
def suOf (st : SuState) (ws : List W32) : StreamUnit :=
  { StreamUnit.reset with
    st := st, image := some (image ws), a := #v[0x10000, 0x20000, 0, 0, 0, 0, 0, 0], l := Vector.replicate 4 1 }
def withUnit (x : StreamUnit) : Prt → Prt := withCore fun c => { c with units := c.units.set 0 x }
def wUnit (x : StreamUnit) : State := wPrt .running fun P => withUnit x (withBars 1 false (withObjs P))
def wLoading : State :=
  wPrt .running fun P =>
    { withUnit { StreamUnit.reset with st := .loading, progTa := 0x10000 } (withObjs P) with
      mem := { (withObjs P).mem with bytes := [(0x10002, 1)] } }
def wLoaded : State := wUnit (suOf .loaded [0])
def wLoadedRt : State := wPrt .running fun P => { withUnit (suOf .loaded [0]) P with rt := { P.rt with en := true } }
def wSu (w : W32) : State := wUnit (suOf .running [w, 0])
def wEndl1 : State := wUnit { suOf .running [0, 0x18000001, 0] with pc := 1 }
def wEndl2 : State := wUnit { suOf .running [0, 0x18000001, 0] with pc := 1, l := Vector.replicate 4 0 }
def wMov : State := wUnit (suOf .running [0x1C100001, 0])
def mvSrc : MovAddr := ⟨0x10000, none⟩
def mvDst : MovAddr := ⟨0x20000, none⟩
def mvRun : MovRun := ⟨0x10000, 0x20000, 1, none, true⟩
def wMovEnd : State := wUnit { suOf .running [0x1C100001, 0] with movs := [mvRun] }
def pair0 (v : Bool) : Pair :=
  { Pair.reset with bound := true, valid := v, remain := 1, uses := 1, half := 1, base := 1, obj := 1 }
def withPair (b : Pair) (x : StreamUnit) : Prt → Prt :=
  withCore fun c => { c with units := c.units.set 0 x, pairs := c.pairs.set 0 b }
def wSuPair (w : W32) (v : Bool) : State := wPrt .running fun P => withPair (pair0 v) (suOf .running [w, 0]) (withObjs P)
def wWsig : State := wPrt .running (withCore fun c => { c with signals := 0x8000, units := c.units.set 0 (suOf .running [0x37E00000, 0]) })
def wSuBar : State := wUnit (suOf .running [0x38000000, 0])
def rtOf (en : Bool) : RtState := { RtState.reset with en := en, period := 100, deadline := 100 }
def suRt (st : SuState) (w : W32) (d : Nat) : StreamUnit := { suOf st [w, 0] with rt := true, deadline := d }
def wSuRt (w : W32) : State :=
  wPrt .running fun P => { withUnit (suRt .running w (10 ^ 13)) P with rt := rtOf true }
def wRtSet : State := wPrt .running fun P => { P with rt := rtOf false }
def wRtOn : State := wPrt .running fun P => { P with rt := rtOf true }
def wRtWaiter : State := wPrt .running fun P => { withUnit (suRt .frameWait 0 0) P with rt := rtOf true }
def wRtNap : State := wPrt .napping fun P => { withUnit (suRt .frameWait 0 0) P with rt := rtOf true }
def wRtLate : State := wPrt .running fun P => { withUnit (suRt .running 0 0) P with rt := rtOf true }
def kRt : Cmd := { kList with deadline := some 0 }
def wRtCmd : State := wCmd kRt fun P => { P with rt := { rtOf true with policy := 1 } }
def pageFor (c : CoreStreams) : CoreStreams := { c with pairObj := 1, pairUses := 1, pairProdCore := 3 }
def wObj2 : Obj := objN 8
def wBind : State := wPrt .running fun P => withCore pageFor (withObjs P)
def tileAt (n : Nat) (h : Home) : Tile := { tile n with home := h }
def wBinding : State := wPrt .running fun P =>
  withCore (fun c => { c with pairs := c.pairs.set 0 { pair0 false with bound := false, binding := true } })
    (objs [wObj] [tileAt 1 (.tileMem 0), tileAt 2 (.tileMem 0)] P)
def wBound : State := wPrt .running fun P => withPair (pair0 true) StreamUnit.reset (withObjs P)
def wCprod : State := wPrt .running fun P => withPair { pair0 false with cprod := true, writes := 1 } StreamUnit.reset (withObjs P)
def wPairWait : State :=
  wPrt .running fun P =>
    withPair { pair0 true with broken := true } { suOf .running [0x24000000, 0] with wait := .pair 0 } (withObjs P)

/-! ### Moves and tiers -/

def mvOf (copying : Bool) : Move := ⟨.stacked 1 false, .eviction, copying, false⟩
def tMoving (copying : Bool) : Tile := { tile 16 with st := .moving (mvOf copying) }
def wTile (t : Tile) : State := wPrt .running (objs [obj16] [t])
def wMoving (copying : Bool) : State := wTile (tMoving copying)
def mvRetried : Move := { mvOf true with retried := true }
def tMovingRetried : Tile := { tile 16 with st := .moving mvRetried }
def wMovingRetried : State := wTile tMovingRetried
def tBoard : Tile := { tile 16 with home := .board, st := .resident, sectors := 64 }
def wPromote : State := wTile tBoard
def hPromote : Home := (wPromote.promotePlace 0 16).getD .board
def tRes : Tile := { tile 16 with st := .resident }
def wObjState : State := wTile tRes
def wQuar : State := wPrt .running fun P =>
  { withUnit { suOf .running [0, 0] with wait := .quarantine 0 } P with scb := { P.scb with qwaitTmo := 1 } }

/-! ### Plans -/

def planCells : List Host.Cell :=
  [(65536, 83), (65537, 67), (65538, 66), (65539, 80), (65540, 1), (65542, 1), (65544, 1), (65552, 2), (65556, 1), (65562, 100), (65568, 1), (65572, 232),
   (65573, 3), (65576, 128), (65580, 192), (65588, 200), (65592, 148), (65593, 206), (65594, 122), (65595, 69), (65668, 1), (65670, 1), (65671, 1), (65684, 255), (65685, 255), (65735, 128)]
def kPlanLoad : Cmd := cmd 4 1 .started (le 8 0x10000 ++ le 4 200 ++ le 36 0)
def wPlanLoad : State := wCmd kPlanLoad fun P => { withObj P with mem := { (withObj P).mem with bytes := planCells } }
def rec1 : PlanRec :=
  { tileOff := 0, tiles := 1, fmt := 1, disp := .stack, sqLossy := false, rcOk := false, khome := false, prod := 0, lastFwd := 0,
    need := 0, leadUs := 0, pcore := 0, fcore := 0, fdest := 0, seg := 0xFFFF }
def plan1 : Plan := ⟨1, 1, 100, 1, 1000, [rec1], [⟨false, 0, 0⟩, ⟨true, 0, 0⟩], []⟩
def wScb (o : BitVec 8) (f : Scarab → Scarab) : State :=
  wCmd (kCtl 4 o) fun P => { P with scb := f { P.scb with plan := some plan1 } }
def wPlan (o : BitVec 8) : State := wScb o id
def wRunOpen (o : BitVec 8) : State := wScb o fun S => { S with runOpen := true }
def kEpoch (o : BitVec 8) : Cmd := { kCtl 0 o with hdr := ⟨o, 0, 0, 0, 0, 0, 1⟩ }
def wEpoch (o : BitVec 8) : State := wCmd (kEpoch o) id
/-! ### Steward instances -/

def tMark : State := ((wRunOpen 4).markEffects 0 plan1 0).1
def instOf (st : InstState) (due : Option Nat) (closing : Bool) : Inst := ⟨0, 0, st, .stack, false, false, due, closing⟩
def xClosing : Inst := instOf .placed none true
def xPlaced : Inst := instOf .placed none false
def xDue : Inst := instOf .placed (some 0) false
def wInst (x : Inst) : State :=
  wPrt .running fun P => { P with scb := { P.scb with plan := some plan1, runOpen := true, marked := true, insts := [x] } }
def opsEw : List ListOp := [opNop]
def seg1 : Segment := ⟨le 2 1 ++ le 2 1 ++ le 12 0 ++ le 1 0x80 ++ le 1 0 ++ le 2 1 ++ le 4 0, []⟩
def wInjected : State :=
  wPrt .running fun P => { P with scb := { P.scb with
    plan := some { plan1 with recs := [{ rec1 with seg := 0 }], segs := [seg1] }, runOpen := true, marked := true, insts := [xClosing], injected := [⟨0, 0⟩] } }

/-! ### Updates -/

def opUpdBegin : ListOp := ⟨1, false, false, 0, 6, le 40 0⟩
def opUpdHyper : ListOp := ⟨2, false, false, 0, 6, le 40 0⟩
def opUpdShard : ListOp :=
  ⟨3, false, false, 0, 8, le 1 0x11 ++ le 3 0 ++ le 4 1 ++ le 8 0 ++ le 4 1 ++ le 4 2 ++ le 4 3 ++ le 28 0⟩
def opsUpd : List ListOp := [opUpdBegin, opUpdHyper, opUpdShard]
def lUpd : Bytes :=
  le 2 1 ++ le 2 3 ++ le 12 0 ++ (le 2 1 ++ le 2 6 ++ le 4 0 ++ opUpdBegin.body) ++ (le 2 2 ++ le 2 6 ++ le 4 0 ++ opUpdHyper.body)
    ++ (le 2 3 ++ le 2 8 ++ le 4 0 ++ opUpdShard.body)
def shard1 : UpdShard := shardOf opUpdShard (hyperOf opUpdHyper) 1
def kUpdCmd : Cmd := { cmd 3 0x80 .started (le 8 0x1000 ++ le 4 176 ++ le 36 0) with hdr := ⟨0x80, 0, 3, 0, 0, 0, 1⟩ }
def wUpdCmd : State := wCmd kUpdCmd withObjs
def updOf (g : W16) (v : Option VerdictMsg) : Update :=
  { cmd := wc, epoch := 1, group := g, clip := 0, seed := 0, resIova := 0, shards := [shard1], part := none, lowBad := none, errs := [],
    verdict := v, verdictAt := 0, factor := 0x3F800000, gnorm := 0, ratios := [], kept := 0, sat := 0, recBad := false, fin := none }
def kUpd : Cmd := { kUpdCmd with stage := .running }
def wUpd (pass : WvlPass) (u : Update) : State :=
  wCmd kUpd fun P => { withObjs P with wvl := { P.wvl with pass := pass, upd := some u } }
def uNorm : Update := updOf 0 none
def wNorm : State := wUpd .norm uNorm
def vOk : VerdictMsg := ⟨0, 0, 0⟩
def uVerdict : Update := updOf 0 (some vOk)
def wVerdict : State := wUpd .verdict uVerdict
def uTrust : Update := uVerdict
def wTrust : State := wUpd .trust uTrust
def uApply : Update := uVerdict
def wApply : State := wUpd .apply uApply
def wDecides : State := { wRun with net := { wRun.net with active := { wRun.net.active with pdpValid := 1, pdp := Vector.replicate 16 0xFFFF } } }
def red1 : Reduction := ⟨1, 1, 2, [], 0, 1000, none, none⟩
def wRed : State := { wRun with reds := [red1] }
def uOrphan : Update := updOf 1 none
def wOrphan : State := wUpd .verdict uOrphan

/-! ### Fabric operations -/

/-- This sled is node 0 of a fabric of two nodes; node 1 lies beyond port 0. -/
def withNet (s : State) : State :=
  { s with
    net := { s.net with active := { s.net.active with node := 0, dims := 1, puse := 1 } },
    ports := s.ports.set 0 { Port.reset with en := true, st := .active, nbr := { Nbr.reset with st := .ok } } }
def grp1 : Group := ⟨1, 2, 0, [0, 1], 0⟩
def hdrFab : Header := ⟨0x80, 0x20, 6, 0, 0, 0, 1⟩
def withGrp (P : Prt) : Prt := { withObjs P with gx := { P.gx with groups := P.gx.groups.set 0 (some grp1) } }
def kFab (op : ListOp) : Cmd := { kOp 6 op with hdr := hdrFab }
def wFab (op : ListOp) : State := withNet (wCmd (kFab op) withGrp)
def opGx : ListOp := ⟨1, false, false, 0, 8,
  le 2 0 ++ le 2 1 ++ le 2 1 ++ le 2 0 ++ le 4 1 ++ le 4 16 ++ le 4 16 ++ le 36 0⟩
def gatherBody (root : Nat) : Bytes := le 2 0 ++ le 2 1 ++ le 2 root ++ le 2 0 ++ le 4 16 ++ le 4 1 ++ le 4 1 ++ le 4 0
def opGather : ListOp := ⟨2, false, false, 0, 4, gatherBody 0⟩
def opBcast : ListOp := ⟨3, false, false, 0, 4, gatherBody 1⟩
def chanBody (pair : Bool) : Bytes :=
  le 1 63 ++ le 1 63 ++ le 2 1 ++ le 2 1 ++ (if pair then le 1 1 ++ le 1 15 ++ le 4 63 else le 2 0 ++ le 4 16) ++ le 4 1 ++ le 8 0
def opSendT : ListOp := ⟨4, false, false, 0, 4, chanBody false⟩
def opRecvT : ListOp := ⟨5, false, false, 0, 4, chanBody false⟩
def opRecvP : ListOp := ⟨5, false, false, 0, 4, chanBody true⟩
def wFabRun (op : ListOp) (r : FabRun) : State :=
  withNet (wCmd { kAct 6 (actOf op) with hdr := hdrFab } fun P =>
    { withGrp P with gx := { (withGrp P).gx with runs := [r] } })
def bkt (closed : Bool) : Bucket := ⟨some 0, [], closed, .none, false⟩
def fGx : GxFields := { gxOf opGx with dlUs := 1 }
def fabRun (k : FabKind) : FabRun := ⟨wo, 1, 0, 1, true, 0, k⟩
def rGx (closed : Bool) : FabRun := fabRun (.gx fGx [bkt closed])
def wGx (closed : Bool) : State := wFabRun opGx (rGx closed)
def fGxRes : GxFields := { fGx with res := true, drop := false, rTile := 1 }
def rGxRes : FabRun := fabRun (.gx fGxRes [bkt true])
def wGxRes : State := wFabRun opGx rGxRes
def rRecv : FabRun := fabRun (.recv 1 2 1 1 5 16 none)
def wRecvRun : State := wFabRun opRecvT rRecv
def wTileData : Bytes := List.replicate 65536 0
def rSend : FabRun := fabRun (.send 1 2 1 16 1 5 false)
def wSendRun : State := wFabRun opSendT rSend
def wSendLost : State := { wSendRun with net := { wSendRun.net with unreach := [(1, 3, 0)] } }

/-! ### The solver -/

def opDense : ListOp := ⟨1, false, false, 0, 8,
  le 4 1 ++ le 2 1 ++ le 2 1 ++ le 4 0 ++ le 4 1 ++ le 4 1 ++ le 4 2 ++ le 16 0 ++ le 4 0x3F800000 ++ le 6 0 ++ le 6 (3 * 65536)⟩
def opSched : ListOp := ⟨2, false, false, 0, 3, le 2 63 ++ le 6 0 ++ le 6 (16 * 65536) ++ le 2 0⟩
def opDrop : ListOp := ⟨3, false, false, 0, 2, le 2 63 ++ le 6 0⟩
def drop1 : DropWait := ⟨wo, 63, []⟩
def wDrops : State := wPrt .running fun P => { P with sol := { P.sol with drops := [drop1] } }
def sched1 : Sched := ⟨17 * 65536, 88, 1, 1, 1⟩
def opSparse : ListOp := ⟨4, false, false, 0, 12,
  le 4 0 ++ le 2 63 ++ le 2 1 ++ le 4 1 ++ le 4 0x3F000000 ++ le 4 0 ++ le 4 1 ++ le 4 0 ++ le 4 2 ++ le 4 3 ++ le 4 1 ++ le 4 4
    ++ le 4 4 ++ le 6 (16 * 65536) ++ le 34 0⟩
def withSched (P : Prt) : Prt := { withObjs P with sol := { P.sol with handles := P.sol.handles.set 63 (some sched1) } }
def wSparse : State := wCmd (kOp 2 opSparse) withSched
def aAct (op : ListOp) : ActiveOp := actOf op
def kAct2 (op : ListOp) : Cmd := kAct 2 (actOf op)
def wAct2 (op : ListOp) : State := wCmd (kAct2 op) withObjs
def wSparseEnd : State := wCmd (kAct2 opSparse) withSched
def schedCells : List Host.Cell :=
  [(1048576, 83), (1048577, 72), (1048578, 67), (1048579, 84), (1048580, 1), (1048582, 1), (1048584, 1), (1048588, 1), (1048592, 1),
   (1048596, 1), (1048600, 64), (1048604, 80), (1048608, 84), (1048616, 88), (1048620, 106), (1048621, 225), (1048622, 21),
   (1048623, 231), (1048644, 1), (1048646, 1)]
def wSchedEnd : State :=
  wCmd (kAct2 opSched) fun P => { withObjs P with mem := { (withObjs P).mem with bytes := schedCells } }

/-! ### The Mover -/

def mvRing : RingId := .vf 0 3
def descK (k : BitVec 4) : Desc :=
  { own := true, bad := false, wb := false, irq := false, cont := false, csum := 0, flush := false, kind := k,
    tier := if k = 3 then 2 else 0, tag := 0, len := if k = 3 then 65536 else 2,
    src := if k = 0 then 0x1000 else 0x100000, dst := if k = 0 then 0x100000 else if k = 1 then 0x1000 else if k = 2 then 0x110000 else 0,
    rsv := 0 }
def dMov (k : BitVec 4) : DescRun := (descK k).begin none none
def chanOf (st : ChState) (d : Option DescRun) : Channel := { Channel.reset with st := st, ring := some mvRing, run := d }
/-- Ring 3 of partition 0, a Mover ring that channel 0 serves. -/
def wMovR (c : Channel) (f : Ring → Ring) : State :=
  let s := wPrt .running fun P =>
    { objs [obj16] [tRes, tile 17] P with
      rings := P.rings.set 3 (f { Ring.reset with state := .active, cfgKind := 2, cfgLog := 4 }) }
  { s with chans := s.chans.set 0 c }
def wMov_ (d : DescRun) : State := wMovR (chanOf .running (some d)) id
def wMovK (k : BitVec 4) : State := wMov_ (dMov k)
def dMovBuf : DescRun := { dMov 2 with got := 2, buf := [1, 2] }
def wMovBuf : State := wMov_ dMovBuf
def plBoard : Place := ⟨some .board, none⟩
def uMov3 : State := (wMovK 3).modDesc (.chan 0) fun d => { d with waited := false, quarAt := none }
def opXfer : ListOp := ⟨1, false, false, 0, 6, le 4 0 ++ le 4 2 ++ le 8 0x1000 ++ le 8 0x100000 ++ le 8 0 ++ le 8 0⟩
def doneOk : Option (Status × W32) := some (.ok, 0)
def dXfer (e : Option (Status × W32)) : DescRun := { dMov 0 with ended := e }
def aXfer (e : Option (Status × W32)) : ActiveOp := { actOf opXfer with desc := some (dXfer e) }
def kXfer (e : Option (Status × W32)) : Cmd := kAct 5 (aXfer e)
def wXfer (e : Option (Status × W32)) : State := wCmd (kXfer e) withObjs
def dMovFlush : DescRun := { dMov 0 with flushAt := some 0 }
def wMovFlush : State := wMov_ dMovFlush
def queued (f : MoverRing → MoverRing) (R : Ring) : Ring := { R with sw := ⟨false, 1⟩, mv := f R.mv }
def wMovQueued : State := wMovR (chanOf .idle none) (queued id)
def wMovPaceOn : State :=
  wMovR (chanOf .idle none) (queued fun M => { M with paceEn := true, paceInvert := true, paceSrc := 1, paceRing := 5 })
def dMovEnd0 : DescRun := { dMov 0 with ended := doneOk }
def wMovEnd0 : State := wMov_ dMovEnd0
def wMovPaced : State :=
  wMovR (chanOf .paced none) (queued fun M => { M with paceEn := true, paceSrc := 2, lvl := 0x100000 })
def tMovPaced : State := (wMovPaced.level 0 mvRing).2
def wMovPacedOff : State := wMovR (chanOf .paced none) (queued id)
def wMovPacedRing : State := wMovR (chanOf .paced none) (queued fun M => { M with paceEn := true, paceSrc := 1, paceRing := 5 })
def wMovHalted : State := wMovR (chanOf .halted none) id

/-! ### Clocks and quads -/

def xSamples : Samples := ⟨0, Vector.replicate 16 0, 0, 0, Vector.replicate 3 0, 0, 0⟩
def wMs : State := wPf
def wQuad (f : QuadState → QuadState) : State := { wRun with quads := wRun.quads.set 0 (f ⟨some 0, .run, none, none, 2000⟩) }
def wNapQuad : State := wQuad fun q => { q with st := .nap }
def wWokenQuad : State := wQuad fun q => { q with access := some 0 }
def wQuadGoes : State := wQuad fun q => { q with toward := some .nap }
def wMayRetain : State := { wPf with pwr := { wPf.pwr with retSince := some 0 } }
def wRetained : State := { wPf with pwr := { wPf.pwr with retained := true } }
def wRetExit : State := { wPf with pwr := { wPf.pwr with retExit := some 0 } }
theorem okOf {α : Type} {e : Except W32 α} {a : α} (h : e.toOption = some a) : e = .ok a := by
  cases e with
  | ok b => exact congrArg _ (Option.some.inj h)
  | error d => cases h

/-! ### Ports and the network -/

def wPort (x : Port) : State := { wPf with ports := wPf.ports.set 7 x }
def lanesOf (st : LaneState) (locked : Bool) (r : List Nat) : Vector Lane 8 := Vector.replicate 8 ⟨st, locked, 0, r, 0, 0⟩
def portOf (st : PortState) (ls : Vector Lane 8) : Port := { Port.reset with en := true, st := st, lanes := ls, width := 8, ueMax := 1 }
def pOff : Port := Port.reset
def pOn : Port := { Port.reset with en := true, st := .absent }
def pEn : Port := pOn
def pActive : Port := portOf .active (lanesOf .active true [])
def pActive0 : Port := { pActive with ueMax := 0 }
def pActive5 : Port := { pActive with rxNext := 5 }
def pLocked : Port := portOf .active (lanesOf .lockedOut true [])
def pDetect : Port := portOf .detect (lanesOf .idle false [])
def pBackoff : Port := { portOf .backoff (lanesOf .idle false []) with failN := 1 }
def pTune : Port := portOf .tune (lanesOf .idle true [])
def pAlign : Port := portOf .align (lanesOf .idle true [])
def pExchange : Port := portOf .exchange (lanesOf .idle true [])
def pRestripe : Port := portOf .restripe (lanesOf .active true [])
def pOut : Port := portOf .active (lanesOf .out false [])
def pProb : Port := portOf .active (lanesOf .probation true [])
def pProb3 : Port := portOf .active (lanesOf .probation true [3, 2, 1])
def pRetry : Port := { pActive with retry := [⟨1, 1, 0, 1, 64, 0, none⟩] }
def pCand : Port := { pActive with nbr := { Nbr.reset with cand := some (1, 5, 0) } }
def wCage : State :=
  { wPf with sled := { wPf.sled with cages := wPf.sled.cages.set 7 { Cage.reset with present := true } } }
/-- A descriptor that names serial number `n`, and one that does not name this sled's. -/
def dscBody (n : Nat) : Bytes := le 4 0x444E4346 ++ le 2 1 ++ le 10 0 ++ le 8 n ++ le 36 0
def dscOf (n : Nat) : Bytes := dscBody n ++ leVec 4 (crc32c (dscBody n))
def dscOk : Bytes := if 0 = Config.serial.toNat then dscOf 1 else dscOf 0
def wFmBest : State := { wPf with net := { wPf.net with best := some (1, 5) } }
def wRemote : State := { wPf with net := { wPf.net with remoteEn := true, fmSerial := 0x1234 } }
def wNodeGone : State := { wPf with net := { wPf.net with isFm := true, unreach := [(5, 3, 0)] } }
def pkt1 : PacketHdr := ⟨1, 5, 0, 1, 0, 64, 0, 0, 0⟩
def e2e1 : E2E := ⟨1, 1, 0, 0, 0, 0, 1, 64, none⟩
def wE2e : State := { wPf with net := { wPf.net with e2e := [e2e1] } }
def grpHead : Bytes := le 4 0x50524746 ++ le 2 1 ++ le 2 1 ++ le 2 0 ++ le 2 2 ++ le 2 0 ++ le 2 1
def grpTail : Bytes := le 12 0 ++ le 2 0 ++ le 2 1
def grpRec : Bytes := grpHead ++ leVec 4 (crc32c (grpHead ++ [0, 0, 0, 0] ++ grpTail)) ++ grpTail
def wGrpLoad : State := withNet wRun

/-! ### Supplies, resets and watchdogs -/

def wPfail (t : Nat) : State := { wPf with pwr := { wPf.pwr with pfail := true, pfailAt := t } }
def wPfail0 : State := wPfail (10 ^ 12)
def wPfail4 : State := wPfail 0
def sInputGood : State :=
  { State.reset with sled := { State.reset.sled with inputGood := true, prsnt := true } }
def tInputGood : State := sInputGood.powerUp
def wStbyOff : State := { wPf with sled := { wPf.sled with stby := false } }
def dogLate : Watchdog := { Watchdog.reset with st := .running, warn := 5 }
def wDog (w : Watchdog) : State := { wPf with wdg := w }
def wDogLate : State := wDog dogLate
def wPwdLate : State := wPrt .running fun P => { P with pwd := dogLate }
def wDogArmed : State := wDog { dogLate with armedAt := some (10 ^ 12) }
def wDogLapsed : State := wDog { dogLate with armedAt := some 0 }

/-! ### The host link -/

def wDetached : State := wPrt .detached fun P => { P with tok := { P.tok with valid := true, token := 5, attach := 5 } }
def wOpLost (keep : Bool) : State :=
  { wPf with op := { wPf.op with fn := { wPf.op.fn with loss := { wPf.op.fn.loss with lost := true, keepOk := keep } } } }
def wOpResumed (keep : Bool) (r : BitVec 3) : State :=
  let s := wOpLost keep
  { s.exitRetention with
    link := { s.exitRetention.link with attachSts := r, opStopAt := none },
    wdg := s.exitRetention.wdg.resume s.exitRetention.pwr.time.toNat }
def tAttachReset : State := (wOpResumed false 5).attachFn .pf true
def tAttachKeep : State :=
  ((wOpResumed true 1).modLoss .pf fun l => { l with lost := false, rebased := false, mvDropped := 0, cmdDropped := 0 }).post .pf
    ⟨0x0602, 16, 0, 0⟩
def wTraining : State := { wPf with link := { wPf.link with up := false, training := true } }
def wIde : State := { wPf with sec := { wPf.sec with ide := true }, link := { wPf.link with ideReq := true } }
def wHb : State := wPf.modLoss .pf fun l => { l with hbTmo := 1 }
def wHbV : State := wRun.modLoss (.vf 0) fun l => { l with hbTmo := 1 }
def wOpStop : State := { wOpLost false with link := { (wOpLost false).link with opStopAt := some 0 } }

/-! ### Boot and flash -/

def wMile (n : BitVec 8) : State := { wPf with boot := { wPf.boot with hostReady := false, milestone := n } }
def bIn0 : BootInput := ⟨0, 0, true, false, true⟩
def bIn1 : BootInput := ⟨0, 0, true, true, true⟩
def wFls : State := wPf
def wFlash (f : Flash → Flash) : State := { wPf with flash := f wPf.flash }
def dlAt (t : Fin 3) (fill : Nat) (verified pldm : Bool) : Download := ⟨t, fill, verified, pldm⟩
def wDl (x : Download) : State := wFlash fun F => { F with dl := some x, dlLen := 256 }
def dl0 : Download := dlAt 1 0 false false
def wFlsDl : State := wDl dl0
def dlAll : Download := dlAt 1 512 false false
def wFlsAll : State := wDl dlAll
def dlVer : Download := dlAt 1 512 true false
def wFlsVer : State := wDl dlVer
def actKind (F : Flash) (i : Fin 3) (trial : W32) (n : Nat) : JKind :=
  .activate i (imageEpoch F.images[i]) (imageVer F.images[i]) trial n (imageDigest F.images[i])
def tFlsVer : State := (wFlsVer.append (actKind wFlsVer.flash 1 (wFlsVer.flash.trialCtl &&& 0x8000FFFF) 0) .ok).1
def dlRec : Download := dlAt 2 512 true false
def wFlsRec : State := wDl dlRec
def tFlsRec : State :=
  (wFlsRec.append (actKind wFlsRec.flash 2 0 (min (wFlsRec.flash.js.slots[slotRegion wFlsRec.flash.js.active]).epoch.toNat
    (imageEpoch wFlsRec.flash.images[(2 : Fin 3)]).toNat)) .ok).1
def tFlsBegin : State := (wFls.append (.slotEmpty 2) .ok).1
def wTrial : State :=
  wFlash fun F => { F with booted := 3, trialAt := some 0, js := { F.js with pending := some 1, trial := 1 } }
def tConfirm : State := (wTrial.append (.confirm 1 (wTrial.flash.js.target 1)) .ok).1
def tRollback : State := (wTrial.append (.rollback 1 4) .ok).1
def wSealed : State := wFlash fun F => { F with sealAt := some (10 ^ 12) }
def wCfgPut : State := wFlash fun F => { F with cfgLen := 4 }
def cfgPut : List CfgRec := [⟨0x8000, [0, 0, 0, 0]⟩]
def tCfgPut : State := (wCfgPut.rewrite cfgPut .ok).1
def cfgRec1 : CfgRec := ⟨0x8000, [1]⟩
def wCfgDel : State := wFlash fun F => { F with cfg := F.cfg.set 0 ⟨true, 1, [cfgRec1]⟩ }
def tCfgDel : State := (wCfgDel.rewrite [] .ok).1
def wPldm (x : Pldm) : State := wFlash fun F => { F with pldm := x }
def tPldmBegin : State := ((wPldm .table).dlBegin 2 true .ok).1
def dlP : Download := dlAt 2 0 false true
def dlP1 : Download := dlAt 2 1 false true
def wPldmDl : State := wFlash fun F => { F with pldm := .component, dl := some dlP }
def tPldmDl : State := (wPldmDl.dlWrite 2 1 [1] false .ok).1

/-! ### The sled, its registers and its security -/

def tInsert : State :=
  ((wPf.modCage 7 fun _ => { Cage.reset with present := true, passive := false, ready := false, cls := 6, temp := 25 }).modPort 7
    fun P => { P with modPres := true }).grantAll
def tAdvert : State := (wCage.modCage 7 fun c => { c with cls := 6, granted := false }).grantAll
def wAlert : State := { wPf with sled := { wPf.sled with alert := true } }
def tCounter : State := (((wPort pActive).counter .pf 0x307108).getD (0, State.reset)).2
theorem someOf {o : Option (W32 × State)} {v : W32} (h : o.map (·.1) = some v) : o = some (v, (o.getD (0, State.reset)).2) := by
  cases o with
  | none => cases h
  | some x => exact congrArg some (Prod.ext (Option.some.inj h) rfl)
def formed1 : FormedRec := ⟨0, 0, [], false⟩
def formedU : FormedRec := ⟨0, 0, [], true⟩
def wForming : State := { wPf with mtr := { wPf.mtr with forming := [formed1] } }
def wFormingU : State := { wPf with mtr := { wPf.mtr with forming := [formedU] } }
def wConn (x : SpdmConn) : State := { wPf with sec := { wPf.sec with conns := Vector.replicate 19 x } }
def sess (b : Bool) : SpdmSession := ⟨1, b, 0⟩
def wSess (b : Bool) : State := { wConn .negotiated with sec := { (wConn .negotiated).sec with session := some (sess b) } }

theorem dsc0_value : leAt (dscOf 0) 16 8 = 0 := by decide +kernel
theorem dsc1_value : leAt (dscOf 1) 16 8 = 1 := by decide +kernel

/-- The descriptor names a sled other than this one, so it is not refused. -/
theorem dscOk_taken (s : State) (h : s.net.active.fid = 0) : s.refusal dscOk = none := by
  have h0 : ¬ (leAt (dscOf 0) 24 8 != 0 && s.net.active.fid.toNat != 0 && leAt (dscOf 0) 24 8 != s.net.active.fid.toNat) = true := by
    simp [h]
  have h1 : ¬ (leAt (dscOf 1) 24 8 != 0 && s.net.active.fid.toNat != 0 && leAt (dscOf 1) 24 8 != s.net.active.fid.toNat) = true := by
    simp [h]
  unfold State.refusal dscOk
  split
  · rename_i hs
    rw [if_neg (by decide +kernel), if_neg h1, if_neg (by rw [dsc1_value, ← hs]; decide)]
  · rename_i hs
    rw [if_neg (by decide +kernel), if_neg h0, if_neg (by rw [dsc0_value]; exact hs)]
def wNoVf : State := { wPf with link := { wPf.link with vfEnable := false } }
def wKeys : State := { wPf with sec := { wPf.sec with keyValid := 2 } }

/-! ### Witnesses for PrtCommandsTakeEffect -/

theorem witness_create : ∃ (s : State) (p : Pid), (s.PrtTakes p (· = .empty)) :=
  ⟨wPf, 0, by unfold State.PrtTakes; decide⟩
theorem witness_commit : ∃ (s : State) (p : Pid), (s.PrtTakes p (· = .configuring)) ∧ (s.prtTaken p 2).commitCheck p = none :=
  ⟨wConf, 0, by unfold State.PrtTakes; decide, by decide⟩
theorem witness_abandon : ∃ (s : State) (p : Pid), (s.PrtTakes p (· = .configuring)) :=
  ⟨wConf, 0, by unfold State.PrtTakes; decide⟩
theorem witness_start : ∃ (s : State) (p : Pid), (s.PrtTakes p (· = .ready)) :=
  ⟨wReady, 0, by unfold State.PrtTakes; decide⟩
theorem witness_suspend : ∃ (s : State) (p : Pid), (s.PrtTakes p (fun x => x = .running || x = .napping)) :=
  ⟨wRun, 0, by unfold State.PrtTakes; decide⟩
theorem witness_resume : ∃ (s : State) (p : Pid), (s.PrtTakes p (· = .suspended)) :=
  ⟨wSt .suspended, 0, by unfold State.PrtTakes; decide⟩
theorem witness_destroy : ∃ (s : State) (p : Pid), (s.PrtTakes p PState.committed) :=
  ⟨wRun, 0, by unfold State.PrtTakes; decide⟩
theorem witness_resize : ∃ (s : State) (p : Pid), (s.PrtTakes p (fun x => x = .ready || x = .running || x = .napping || x = .suspended)) ∧ ((s.prtTaken p 8).life p).staged ≠ ((s.prtTaken p 8).life p).inForce ∧ (s.prtTaken p 8).resizeCheck p ((s.prtTaken p 8).life p).staged = none :=
  ⟨wGrow, 0, by unfold State.PrtTakes; decide, by decide, by decide⟩
theorem witness_prtCmdReserved : ∃ (s : State) (p : Pid) (code : BitVec 4), s.pfOpen = true ∧ 9 ≤ code.toNat :=
  ⟨wPf, 0, 9, by decide, by decide⟩

/-! ### Witnesses for PartitionLifecycleEvents -/

theorem witness_suspendHaltComplete : ∃ (s : State) (p : Pid), (s.life p).exec = some .suspend ∧ s.engineBusy p = false :=
  ⟨wSuspending, 0, by decide, by decide⟩
theorem witness_resizeComplete : ∃ (s : State) (p : Pid) (q : BitVec 16) (f b : BitVec 7) (t : Bool) (k : Nat), (s.life p).exec = some (.resize q f b t k) ∧ ((s.resizeMoves p ⟨q, f, b, t⟩).resizeOver p ⟨q, f, b, t⟩ = true) :=
  ⟨wResizing, 0, 1, 2, 1, false, 8, by decide, by decide⟩
theorem witness_drainTimeout : ∃ (s : State) (p : Pid), s.drainOver p = true ∧ (s.life p).st = .draining :=
  ⟨wDrainOver, 0, by decide, by decide⟩
theorem witness_drainComplete : ∃ (s : State) (p : Pid), (s.life p).st = .draining ∧ s.engineBusy p = false ∧ s.queuedLeft p = false ∧ ((ringsOf (.vf p)).all (fun r => (s.ring r).cmds.isEmpty) = true) :=
  ⟨wSt .draining, 0, by decide, by decide, by decide, by decide⟩
theorem witness_keyRetire : ∃ (s : State) (p : Pid), (s.life p).st = .scrubbing ∧ (s.life p).keyRetired = false ∧ s.keyIdle p = true :=
  ⟨wSt .scrubbing, 0, by decide, by decide, by decide⟩
theorem witness_scrubComplete : ∃ (s : State) (p : Pid), (s.life p).st = .scrubbing ∧ (s.life p).keyRetired = true :=
  ⟨wScrubbed, 0, by decide, by decide⟩
theorem witness_idleTimeout : ∃ (s : State) (p : Pid), (s.life p).idleUs ≠ 0 ∧ s.idleFor p (s.life p).idleUs.toNat = true ∧ (s.life p).st = .running ∧ (s.life p).exec ≠ some .suspend ∧ (s.life p).halting = false :=
  ⟨wIdle, 0, by decide, by decide, by decide, by decide, by decide⟩
theorem witness_tntNap : ∃ (s : State) (p : Pid), s.vfFull p = true ∧ (s.life p).st = .running ∧ (s.life p).exec ≠ some .suspend ∧ (s.life p).halting = false ∧ s.hasWork p = false :=
  ⟨wRun, 0, by decide, by decide, by decide, by decide, by decide⟩
theorem witness_attachLockoutEnd : ∃ (s : State) (p : Pid) (t : Nat), (s.prt p).tok.lockedAt = some t ∧ 1000000000 ≤ s.since t :=
  ⟨wLocked, 0, 0, by decide, by decide⟩

/-! ### Witnesses for PartitionPageWrites -/

theorem witness_prtStagedWrite : ∃ (s : State) (p : Pid) (v : W32), s.pfOpen = true ∧ (s.life p).st.settable = true :=
  ⟨wConf, 0, 0xFFFF, by decide, by decide⟩
theorem witness_prtStagedWrite_2 : ∃ (s : State) (p : Pid) (v : W32), s.pfOpen = true ∧ (s.life p).st.settable = true :=
  ⟨wConf, 0, 0x7F, by decide, by decide⟩
theorem witness_prtStagedWrite_3 : ∃ (s : State) (p : Pid) (v : W32), s.pfOpen = true ∧ (s.life p).st.settable = true :=
  ⟨wConf, 0, 0x7F, by decide, by decide⟩
theorem witness_prtModeWrite : ∃ (s : State) (p : Pid) (v : W32), s.pfOpen = true ∧ (s.life p).st.settable = true :=
  ⟨wConf, 0, 0x000A0035, by decide, by decide⟩
theorem witness_prtModeWrite_2 : ∃ (s : State) (p : Pid) (v : W32), s.pfOpen = true ∧ (s.life p).st = .configuring :=
  ⟨wConf, 0, 0xFFE, by decide, by decide⟩
theorem witness_prtModeWrite_3 : ∃ (s : State) (p : Pid) (v : W32), s.pfOpen = true ∧ (s.life p).st.settable = true :=
  ⟨wConf, 0, 0xFFFF, by decide, by decide⟩
theorem witness_prtTokenRead : ∃ (s : State) (p : Pid) (k : Fin 4), s.pfOpen = true :=
  ⟨wReady, 0, 3, by decide⟩
theorem witness_tntTokenRead : ∃ (s : State) (p : Pid) (k : Fin 4), s.vfFull p = true :=
  ⟨wReady, 0, 3, by decide⟩
theorem witness_tntTokenRotate : ∃ (s : State) (p : Pid), s.vfFull p = true :=
  ⟨wReady, 0, by decide⟩
theorem witness_tntConsentWrite : ∃ (s : State) (p : Pid) (v : W32), s.vfFull p = true ∧ (s.prt p).tok.consent ≠ v.getLsbD 0 :=
  ⟨wReady, 0, 1, by decide, by decide⟩

/-! ### Witnesses for ObjectCommandsTakeEffect -/

theorem witness_objDefine : ∃ (s : State) (c : CmdRef) (p : Pid) (n : Fin 64) (k : Cmd), s.inline_ c 4 0x40 = some k ∧ c.ring = .vf p n ∧ s.defineBad p k.operands = none ∧ (s.prt p).mem.objs.length < 32768 ∧ (objOf k.operands).hint ≠ 1 ∧ s.budgetFits p (objOf k.operands).tiles = true ∧ ((List.range (objOf k.operands).tiles).find? (fun i => ((s.defined p (objOf k.operands)).tile? p ((objOf k.operands).base + i)).isNone) = none) :=
  ⟨wDefine, wc, 0, 0, wkDefine, by decide, by decide, by decide, by decide, by decide, by decide, by decide⟩
theorem witness_objHint : ∃ (s : State) (c : CmdRef) (p : Pid) (n : Fin 64) (k : Cmd) (o : Obj), s.inline_ c 4 0x41 = some k ∧ c.ring = .vf p n ∧ objOperandsOk k.operands true false false false = true ∧ BitVec.ofNat 3 (leAt k.operands 4 4) < 6 ∧ BitVec.ofNat 3 (leAt k.operands 4 4) ≠ 1 ∧ (s.prt p).mem.target k.operands = some o ∧ o.steward = false ∧ o.hint ≠ 1 ∧ coreBad (s.coresOf p).length (BitVec.ofNat 3 (leAt k.operands 4 4)) (BitVec.ofNat 8 (leAt k.operands 5 1)) = false ∧ (s.prt p).mem.hasBound o = false ∧ ((s.prt p).mem.anyMoving ((List.range o.tiles).map (o.base + ·)) = false) :=
  ⟨wHint, wc, 0, 0, wkHint, wObj, by decide, by decide, by decide, by decide, by decide, by decide, by decide, by decide, by decide, by decide, by decide⟩
theorem witness_objRelease : ∃ (s : State) (c : CmdRef) (p : Pid) (n : Fin 64) (k : Cmd) (o : Obj), s.inline_ c 4 0x42 = some k ∧ c.ring = .vf p n ∧ objOperandsOk k.operands false false false false = true ∧ (s.prt p).mem.target k.operands = some o ∧ o.steward = false ∧ (s.prt p).mem.hasBound o = false ∧ s.hasSchedule p o = false :=
  ⟨wRelease, wc, 0, 0, wkRelease, wObj, by decide, by decide, by decide, by decide, by decide, by decide, by decide⟩
theorem witness_objReleaseDrained : ∃ (s : State) (c : CmdRef) (p : Pid) (n : Fin 64) (o : Obj), c.ring = .vf p n ∧ (s.prt p).mem.releasedBy c = some o ∧ s.rangeBusy p o.base o.tiles = false :=
  ⟨wReleasing, wc, 0, 0, wObjR, by decide, by decide, by decide⟩
theorem witness_objQuery : ∃ (s : State) (c : CmdRef) (p : Pid) (n : Fin 64) (k : Cmd) (o : Obj), s.inline_ c 4 0x43 = some k ∧ c.ring = .vf p n ∧ objOperandsOk k.operands false false false true = true ∧ (s.prt p).mem.target k.operands = some o ∧ (leAt k.operands 24 8 % 32 = 0) ∧ s.lost c.ring.fn = false :=
  ⟨wQuery, wc, 0, 0, wkQuery, wObj, by decide, by decide, by decide, by decide, by decide, by decide⟩
theorem witness_tileClear : ∃ (s : State) (c : CmdRef) (p : Pid) (n : Fin 64) (k : Cmd) (o : Obj), s.inline_ c 4 0x44 = some k ∧ c.ring = .vf p n ∧ leAt k.operands 4 4 = 0 ∧ (leAt k.operands 8 8 / 2 ^ 48 = 0) ∧ zeroIn k.operands 20 48 = true ∧ (leAt k.operands 8 8 % tileBytes = 0) ∧ 0 < leAt k.operands 16 4 ∧ leAt k.operands 16 4 ≤ 16777216 ∧ (s.prt p).mem.target k.operands = some o ∧ o.steward = false ∧ o.base ≤ tileOf (leAt k.operands 8 8) ∧ (tileOf (leAt k.operands 8 8) + leAt k.operands 16 4 ≤ o.base + o.tiles) :=
  ⟨wClear, wc, 0, 0, wkClear, wObj, by decide, by decide, by decide, by decide, by decide, by decide, by decide, by decide, by decide, by decide, by decide, by decide⟩

/-! ### Witnesses for WindowAccesses -/

theorem witness_partitionWindowRead : ∃ (s : State) (p : Pid) (off : Nat), s.windowsUp = true ∧ off < 2 ^ 28 ∧ (s.prt p).win.en = true ∧ ((s.life p).st = .ready ∨ (s.life p).st = .running ∨ (s.life p).st = .napping ∨ (s.life p).st = .suspended) ∧ ((s.prt p).mem.windowReach ((s.prt p).win.base.toNat * 2 ^ 28 + off / 64 * 64) = true) :=
  ⟨wWin, 0, 0x0FFFFFFF, by decide, by decide, by decide, by decide, by decide⟩
theorem witness_partitionWindowWrite : ∃ (s : State) (p : Pid) (off : Nat) (data : Bytes) (en : W64), s.windowsUp = true ∧ off < 2 ^ 28 ∧ (s.prt p).win.en = true ∧ ((s.life p).st = .ready ∨ (s.life p).st = .running ∨ (s.life p).st = .napping ∨ (s.life p).st = .suspended) ∧ ((s.prt p).mem.windowReach ((s.prt p).win.base.toNat * 2 ^ 28 + off / 64 * 64) = true) :=
  ⟨wWin, 0, 0x0FFFFFFF, (List.replicate 64 1), 1, by decide, by decide, by decide, by decide, by decide⟩
theorem witness_operatorWindowRead : ∃ (s : State) (p : Pid) (off : Nat), s.windowsUp = true ∧ off < 2 ^ 30 ∧ s.exitRetention.op.win.en = true ∧ s.exitRetention.op.win.pid.toNat = p.val ∧ (s.exitRetention.life p).st.committed = true ∧ (s.exitRetention.prt p).tok.consent = true ∧ ((s.exitRetention.prt p).mem.windowReach (s.exitRetention.op.win.base.toNat * 2 ^ 30 + off / 64 * 64) = true) :=
  ⟨wOpWin, 0, 0x1FFFFFFF, by decide, by decide, by decide, by decide, by decide, by decide, by decide⟩
theorem witness_operatorWindowWrite : ∃ (s : State) (p : Pid) (off : Nat) (data : Bytes) (en : W64), s.windowsUp = true ∧ off < 2 ^ 30 ∧ s.exitRetention.op.win.en = true ∧ s.exitRetention.op.win.pid.toNat = p.val ∧ (s.exitRetention.life p).st.committed = true ∧ (s.exitRetention.prt p).tok.consent = true ∧ ((s.exitRetention.prt p).mem.windowReach (s.exitRetention.op.win.base.toNat * 2 ^ 30 + off / 64 * 64) = true) :=
  ⟨wOpWin, 0, 0x1FFFFFFF, (List.replicate 64 1), 1, by decide, by decide, by decide, by decide, by decide, by decide, by decide⟩
theorem witness_windowControlWrite : ∃ (s : State) (p : Pid) (v : W32), s.open_ (.vf p) = true :=
  ⟨wRun, 0, 1, by decide⟩
theorem witness_windowControlWrite_2 : ∃ (s : State) (p : Pid) (v : W32), s.open_ (.vf p) = true :=
  ⟨wRun, 0, 0xFFFFF, by decide⟩
theorem witness_windowControlWrite_3 : ∃ (s : State) (v : W32), s.open_ .pf = true :=
  ⟨wPf, 0x000F0001, by decide⟩
theorem witness_windowControlWrite_4 : ∃ (s : State) (v : W32), s.open_ .pf = true :=
  ⟨wPf, 0x3FFFF, by decide⟩
theorem witness_barWidthError : ∃ (s : State) (fn : Fn) (off : Nat), s.present fn = true ∧ (s.fnSt fn).barWidth = false :=
  ⟨wPf, .pf, 0x3FFFFFF, by decide, by decide⟩
theorem witness_sysErrClear : ∃ (s : State) (v : W32), s.pfServes 0x10 = true ∧ v.getLsbD 0 = true :=
  ⟨wPf, 1, by decide, by decide⟩
theorem witness_sysErrClear_2 : ∃ (s : State) (p : Pid) (v : W32), s.vfFull p = true ∧ v.getLsbD 0 = true :=
  ⟨wRun, 0, 1, by decide, by decide⟩

/-! ### Witnesses for RingsAndDoorbells -/

theorem witness_ringConfigWrite : ∃ (s : State) (r : RingId) (off : Nat) (v : W32), s.open_ r.fn = true :=
  ⟨wRun, (.vf 0 0), 0x18, 0x80010002, by decide⟩
theorem witness_ringEnable : ∃ (s : State) (r : RingId), s.open_ r.fn = true ∧ (s.ring r).state = .disabled ∧ s.validConfig r = true :=
  ⟨wRingCfg, (.vf 0 2), by decide, by decide, by decide⟩
theorem witness_ringDisable : ∃ (s : State) (r : RingId), s.open_ r.fn = true ∧ (s.ring r).state = .active ∧ (s.ring r).isKind 0 = true :=
  ⟨wRings, (.vf 0 0), by decide, by decide, by decide⟩
theorem witness_ringEntryAccessFail : ∃ (s : State) (r : RingId), ((s.ring r).state = .active ∨ (s.ring r).state = .stopping) ∧ s.lost r.fn = false ∧ (s.ring r).queued = true :=
  ⟨wQueued, (.vf 0 0), by decide, by decide, by decide⟩
theorem witness_ringEntryAccessFail_2 : ∃ (s : State) (r : RingId), ((s.ring r).state = .active ∨ (s.ring r).state = .stopping) ∧ s.lost r.fn = false ∧ (s.ring r).isKind 0 = false ∧ (s.ring r).dev ≠ ⟨false, 0⟩ :=
  ⟨wWrote, (.vf 0 1), by decide, by decide, by decide, by decide⟩
theorem witness_ringEntryAccessFail_3 : ∃ (s : State) (r : RingId), ((s.ring r).state = .active ∨ (s.ring r).state = .stopping) ∧ s.lost r.fn = false ∧ (s.ring r).iwbEn = true :=
  ⟨wWrote, (.vf 0 1), by decide, by decide, by decide⟩
theorem witness_doorbellWrite : ∃ (s : State) (r : RingId) (v : W32) (n : Nat), s.open_ r.fn = true ∧ s.lost r.fn = false ∧ (s.ring r).state = .active ∧ (idxOf v).idx < (s.ring r).size ∧ (s.ring r).claims (idxOf v) = some n :=
  ⟨wRings, (.vf 0 0), 15, 15, by decide, by decide, by decide, by decide, by decide⟩
theorem witness_dbCancel : ∃ (s : State) (r : RingId) (v : W32), s.open_ r.fn = true ∧ s.lost r.fn = false ∧ (s.ring r).isKind 0 = true ∧ (s.ring r).state = .active ∧ v.getLsbD 31 = true :=
  ⟨wRings, (.vf 0 0), 0x80000000, by decide, by decide, by decide, by decide, by decide⟩
theorem witness_cancelMatchingDone : ∃ (s : State) (r : RingId), (s.ring r).cancels ≠ [] ∧ ((s.ring r).cancels.any (fun q => (s.ring r).consumed < q.bound && (s.ring r).state != .error) = false) :=
  ⟨wCancels, (.vf 0 0), by decide, by decide⟩
theorem witness_commandConsume : ∃ (s : State) (r : RingId) (e : Bytes), s.consumable r = true ∧ s.consumeOutcome r (s.newCmd r e) e = none :=
  ⟨wQueued, (.vf 0 0), eNop, by decide, by decide⟩
theorem witness_commandReadyStart : ∃ (s : State) (r : RingId) (k : Cmd), (s.ring r).head? = some k ∧ s.conditions r k = true ∧ s.needsFlush r k = false ∧ k.hdr.engine = 0 :=
  ⟨wHead, (.vf 0 0), kNop, by decide, by decide, by decide, by decide⟩
theorem witness_commandReadyStart_2 : ∃ (s : State) (r : RingId) (k : Cmd), (s.ring r).head? = some k ∧ s.conditions r k = true ∧ s.needsFlush r k = false ∧ k.hdr.engine ≠ 0 ∧ s.slotsUsed r.fn k.hdr.engine.toNat < s.slots r.fn k.hdr.engine.toNat ∧ s.winner r.fn k.hdr.engine.toNat = some r :=
  ⟨wHeadList, (.vf 0 0), kList, by decide, by decide, by decide, by decide, by decide, by decide⟩
theorem witness_commandPromotion : ∃ (s : State) (c : CmdRef) (k : Cmd) (t : Nat), s.cmd? c = some k ∧ k.stage = .waiting ∧ k.level = 4 ∧ k.readyAt = some t ∧ 1000000 ≤ s.since t :=
  ⟨wReadyHead, wc, kReady, 0, by decide, by decide, by decide, by decide, by decide⟩
theorem witness_indexWriteback : ∃ (s : State) (r : RingId), (s.ring r).state ≠ .disabled ∧ (s.ring r).iwbEn = true ∧ (s.ring r).iwbDue = true ∧ s.lost r.fn = false ∧ (s.ring r).iwbLast = none :=
  ⟨wWrote, (.vf 0 1), by decide, by decide, by decide, by decide, by decide⟩
theorem witness_irqModerationTimeout : ∃ (s : State) (r : RingId) (t : Nat), (s.ring r).firstAt = some t ∧ (s.ring r).irqTime ≠ 0 ∧ ((s.ring r).irqTime.toNat * 1000 ≤ s.since t) :=
  ⟨wWrote, (.vf 0 1), 0, by decide, by decide, by decide⟩

/-! ### Witnesses for MailboxMessages -/

theorem witness_msixUnmask : ∃ (s : State) (fn : Fn) (v : Fin 64) (addr : W64) (data : W32), (s.fnSt fn).msix[v].pending = false :=
  ⟨wRun, (.vf 0), 63, 0x1000, 7, by decide⟩
theorem witness_msixUnmask_2 : ∃ (s : State) (fn : Fn) (v : Fin 64) (addr : W64) (data : W32), (s.fnSt fn).msix[v].pending = true :=
  ⟨wPendMsix, (.vf 0), 63, 0x1000, 7, by decide⟩
theorem witness_mbInPost : ∃ (s : State) (v : W32), s.open_ .pf = true ∧ ((s.fnSt .pf).mail.inOwn.getLsbD (v.toNat % 16) = false) ∧ (mailHeaderErr .pf (s.fnSt .pf).mail.inSlots[v.toNat % 16] = 0) :=
  ⟨wPf, 15, by decide, by decide, by decide⟩
theorem witness_mbOutRelease : ∃ (s : State) (fn : Fn) (v : W32), s.open_ fn = true :=
  ⟨wRun, (.vf 0), 0xFFFF, by decide⟩
theorem witness_mailboxOutboundPlace : ∃ (s : State) (fn : Fn) (m : OutMsg) (rest : List OutMsg) (i : SlotNo), (s.fnSt fn).mail.waiting = m :: rest ∧ s.canSend fn = true ∧ m.slot = some i ∧ m.sender = none :=
  ⟨wMailWait, .pf, wMsg, [], 0, by decide, by decide, by decide, by decide⟩
theorem witness_servicePing : ∃ (s : State) (fn : Fn) (i : SlotNo) (b : Bytes), s.serviceMsg fn = some (i, b) ∧ msgType b = 1 :=
  ⟨(wMail 1), .pf, 0, (mailBytes 1), by decide, by decide⟩
theorem witness_serviceHeartbeat : ∃ (s : State) (fn : Fn) (i : SlotNo) (b : Bytes), s.serviceMsg fn = some (i, b) ∧ msgType b = 2 :=
  ⟨(wMail 2), .pf, 0, (mailBytes 2), by decide, by decide⟩
theorem witness_serviceTime : ∃ (s : State) (fn : Fn) (i : SlotNo) (b : Bytes), s.serviceMsg fn = some (i, b) ∧ msgType b = 3 :=
  ⟨(wMail 3), .pf, 0, (mailBytes 3), by decide, by decide⟩
theorem witness_serviceUnknown : ∃ (s : State) (fn : Fn) (i : SlotNo) (b : Bytes), s.serviceMsg fn = some (i, b) ∧ (3 < (msgType b).toNat ∨ (msgType b).toNat = 0) :=
  ⟨(wMail 4), .pf, 0, (mailBytes 4), by decide, by decide⟩

/-! ### Witnesses for ControlClassCommands -/

theorem witness_execList : ∃ (s : State) (c : CmdRef) (l : Bytes) (k : Cmd) (ops : List ListOp), s.cmd? c = some k ∧ k.stage = .started ∧ k.hdr.opc = 0x80 ∧ k.hdr.engine ≠ 0 ∧ k.hdr.engine ≠ 3 ∧ s.fnRuns c.ring.fn = true ∧ s.canRead c.ring.fn (BitVec.ofNat 64 (leAt k.operands 0 8)) (leAt k.operands 8 4) = true ∧ parseList (leAt k.operands 0 8) (leAt k.operands 8 4) l = .ok ops ∧ zeroIn k.operands 12 48 = true :=
  ⟨wExecList, wc, lNop, kExecList, opsNop, by decide, by decide, by decide, by decide, by decide, by decide, by decide, rfl, by decide⟩
theorem witness_controlNop : ∃ (s : State) (c : CmdRef) (k : Cmd), s.inline_ c 0 1 = some k ∧ zeroIn k.operands 0 48 = true :=
  ⟨(wCtl 0 1), wc, (kCtl 0 1), by decide, by decide⟩
theorem witness_controlFence : ∃ (s : State) (c : CmdRef) (k : Cmd), s.inline_ c 0 2 = some k ∧ zeroIn k.operands 0 48 = true ∧ (s.ring c.ring).dirty = true :=
  ⟨wFenceDirty, wc, (kCtl 0 2), by decide, by decide, by decide⟩
theorem witness_controlFence_2 : ∃ (s : State) (c : CmdRef) (k : Cmd), s.inline_ c 0 2 = some k ∧ zeroIn k.operands 0 48 = true ∧ (s.ring c.ring).dirty = false :=
  ⟨(wCtl 0 2), wc, (kCtl 0 2), by decide, by decide, by decide⟩
theorem witness_flushReadDone : ∃ (s : State) (c : CmdRef) (k : Cmd) (t : Nat) (st : Status) (d : W32), s.cmd? c = some k ∧ s.lost c.ring.fn = false ∧ k.stage = .postFlush t st d :=
  ⟨wFlushing, wc, kFlushing, 0, .ok, 0, by decide, by decide, by decide⟩
theorem witness_fenceTimeout : ∃ (s : State) (c : CmdRef) (k : Cmd) (t : Nat) (st : Status) (d : W32), s.cmd? c = some k ∧ k.stage = .postFlush t st d ∧ (s.fenceTmo c.ring.fn * 1000000 ≤ s.since t) ∧ s.lost c.ring.fn = false :=
  ⟨wFlushing, wc, kFlushing, 0, .ok, 0, by decide, by decide, by decide, by decide⟩
theorem witness_barCfg : ∃ (s : State) (c : CmdRef) (p : Pid) (n : Fin 64) (k : Cmd), s.inline_ c 0 3 = some k ∧ c.ring = .vf p n ∧ barCfgClean k.operands = true ∧ ((s.bar p ⟨leAt k.operands 0 1 % 32, Nat.mod_lt _ (by omega)⟩).arrived = 0) ∧ bitOf (leAt k.operands 6 1) 0 = false ∧ BitVec.ofNat 12 (leAt k.operands 4 2) ≠ 0 :=
  ⟨wBarCfg, wc, 0, 0, kBarCfg, by decide, by decide, by decide, by decide, by decide, by decide⟩
theorem witness_barrierArrival : ∃ (s : State) (c : CmdRef) (p : Pid) (n : Fin 64) (k : Cmd) (st : Status) (d : W32) (g : Nat), s.cmd? c = some k ∧ c.ring = .vf p n ∧ k.stage = .worked st d ∧ (s.bar p k.hdr.barId).meets = .waits g :=
  ⟨wWorked, wc, 0, 0, kWorked, .ok, 0, 0, by decide, by decide, by decide, by decide⟩
theorem witness_fabricBarrierRelease : ∃ (s : State) (p : Pid) (b : BarNo), (s.bar p b).cfg = true ∧ (s.bar p b).fabric = true ∧ (s.bar p b).broken = false ∧ (s.bar p b).count.toNat ≤ (s.bar p b).arrived :=
  ⟨wFabBar, 0, 31, by decide, by decide, by decide, by decide⟩
theorem witness_barrierTimeout : ∃ (s : State) (p : Pid) (b : BarNo) (t : Nat), (s.bar p b).firstAt = some t ∧ (s.bar p b).cfg = true ∧ (s.bar p b).broken = false ∧ (s.bar p b).timeout ≠ 0 ∧ (s.life p).pausedAt = none ∧ ((s.bar p b).timeout.toNat * 1000 ≤ s.since t) :=
  ⟨wFabBar, 0, 31, 0, by decide, by decide, by decide, by decide, by decide, by decide⟩

/-! ### Witnesses for ControlListOperations -/

theorem witness_listNop : ∃ (s : State) (o : OpRef) (k : Cmd) (x : ListOp), s.nextOp o 0 0x80 = some (k, x) :=
  ⟨(wOp 1 opNop), wo, (kOp 1 opNop), opNop, by decide⟩
theorem witness_mbRecv : ∃ (s : State) (o : OpRef) (p : Pid) (n : Fin 64) (k : Cmd) (x : ListOp), o.cmd.ring = .vf p n ∧ s.nextOp o 0 0x81 = some (k, x) ∧ recvOk x = true ∧ s.inOneObject o.cmd p (x.field 16 8) 256 = none :=
  ⟨(wOp 1 opRecv), wo, 0, 0, (kOp 1 opRecv), opRecv, by decide, by decide, by decide, by decide⟩
theorem witness_mbRecvTimeout : ∃ (s : State) (o : OpRef) (k : Cmd) (a : ActiveOp), s.activeOp o = some (k, a) ∧ a.op.lop = 0x81 ∧ a.op.field 12 4 ≠ 0 ∧ (a.op.field 12 4 * 1000 ≤ s.since a.since) :=
  ⟨wRecvWait, wo, kRecvWait, aRecvWait, by decide, by decide, by decide, by decide⟩
theorem witness_mbSend : ∃ (s : State) (o : OpRef) (p : Pid) (n : Fin 64) (k : Cmd) (x : ListOp), o.cmd.ring = .vf p n ∧ s.nextOp o 0 0x82 = some (k, x) ∧ sendOk x = true ∧ x.field 9 1 = 0 ∧ s.blocked p (tilesOf (x.field 16 8) 0) (s.tagOf o.cmd.ring k.hdr) = false ∧ (s.loaded p (x.field 16 8) 0).canSend (.vf p) = true ∧ ((s.loaded p (x.field 16 8) 0).fnSt (.vf p)).mail.waiting = [] :=
  ⟨(wOp 1 opSend), wo, 0, 0, (kOp 1 opSend), opSend, by decide, by decide, by decide, by decide, by decide, by decide, by decide⟩
theorem witness_barArrive : ∃ (s : State) (o : OpRef) (p : Pid) (n : Fin 64) (k : Cmd) (x : ListOp) (g : Nat), o.cmd.ring = .vf p n ∧ s.nextOp o 0 0x83 = some (k, x) ∧ x.field 8 1 < 32 ∧ x.zero 9 16 = true ∧ ((s.bar p ⟨x.field 8 1 % 32, Nat.mod_lt _ (by omega)⟩).meets = .waits g) :=
  ⟨wBarArrive, wo, 0, 0, (kOp 1 opArrive), opArrive, 0, by decide, by decide, by decide, by decide, by decide⟩
theorem witness_timestamp : ∃ (s : State) (o : OpRef) (k : Cmd) (x : ListOp), s.nextOp o 0 0x84 = some (k, x) ∧ x.lop = 0x84 ∧ (x.field 8 8 % 8 = 0) ∧ s.lost o.cmd.ring.fn = false :=
  ⟨(wOp 1 opStamp), wo, (kOp 1 opStamp), opStamp, by decide, by decide, by decide, by decide⟩
theorem witness_writeValue : ∃ (s : State) (o : OpRef) (k : Cmd) (x : ListOp), s.nextOp o 0 0x85 = some (k, x) ∧ x.lop = 0x85 ∧ (x.field 8 8 % 8 = 0) ∧ s.lost o.cmd.ring.fn = false :=
  ⟨(wOp 1 opWrite), wo, (kOp 1 opWrite), opWrite, by decide, by decide, by decide, by decide⟩

/-! ### Witnesses for EpochDecisions -/

theorem witness_epochCommit : ∃ (s : State) (c : CmdRef) (p : Pid) (n : Fin 64) (k : Cmd), s.inline_ c 0 4 = some k ∧ c.ring = .vf p n ∧ epochOperandsOk k.operands = true ∧ leAt k.operands 0 1 = 0 ∧ k.hdr.epoch.ahead (s.prt p).ep.c = true :=
  ⟨(wEpoch 4), wc, 0, 0, (kEpoch 4), by decide, by decide, by decide, by decide, by decide⟩
theorem witness_epochRevoke : ∃ (s : State) (c : CmdRef) (p : Pid) (n : Fin 64) (k : Cmd), s.inline_ c 0 5 = some k ∧ c.ring = .vf p n ∧ epochOperandsOk k.operands = true ∧ leAt k.operands 0 1 = 0 ∧ (s.prt p).ep.check k.hdr.epoch = .ok :=
  ⟨(wEpoch 5), wc, 0, 0, (kEpoch 5), by decide, by decide, by decide, by decide, by decide⟩
theorem witness_jobEpochDecision : ∃ (s : State) (p : Pid) (e : Epoch) (b : Bool), (s.life p).st.committed = true :=
  ⟨wRun, 0, 1, true, by decide⟩
theorem witness_tntEpochWrite : ∃ (s : State) (p : Pid) (v : W32), s.vfFull p = true ∧ (s.life p).st = .ready :=
  ⟨wReady, 0, 0xFFFFFFFF, by decide, by decide⟩

/-! ### Witnesses for ComputeOperationsStartAndEnd -/

theorem witness_matmul : ∃ (s : State) (o : OpRef) (p : Pid) (n : Fin 64) (k : Cmd) (x : ListOp) (C : ComputeOp), o.cmd.ring = .vf p n ∧ s.nextOp o 1 1 = some (k, x) ∧ checkCompute (s.coresOf p).length x = .ok C ∧ s.pairsRead p C.readTiles = [] ∧ s.deny o.cmd p C.tiles = none ∧ s.blocked p C.tiles (s.tagOf o.cmd.ring k.hdr) = false :=
  ⟨(wOp 1 opMat), wo, 0, 0, (kOp 1 opMat), opMat, (cOf opMat), by decide, by decide, rfl, by decide, by decide, by decide⟩
theorem witness_convert : ∃ (s : State) (o : OpRef) (p : Pid) (n : Fin 64) (k : Cmd) (x : ListOp) (C : ComputeOp), o.cmd.ring = .vf p n ∧ s.nextOp o 1 2 = some (k, x) ∧ checkCompute (s.coresOf p).length x = .ok C ∧ s.pairsRead p C.readTiles = [] ∧ s.deny o.cmd p C.tiles = none ∧ s.blocked p C.tiles (s.tagOf o.cmd.ring k.hdr) = false :=
  ⟨(wOp 1 opConv), wo, 0, 0, (kOp 1 opConv), opConv, (cOf opConv), by decide, by decide, rfl, by decide, by decide, by decide⟩
theorem witness_vecEw : ∃ (s : State) (o : OpRef) (p : Pid) (n : Fin 64) (k : Cmd) (x : ListOp) (C : ComputeOp), o.cmd.ring = .vf p n ∧ s.nextOp o 1 3 = some (k, x) ∧ checkCompute (s.coresOf p).length x = .ok C ∧ s.pairsRead p C.readTiles = [] ∧ s.deny o.cmd p C.tiles = none ∧ s.blocked p C.tiles (s.tagOf o.cmd.ring k.hdr) = false :=
  ⟨(wOp 1 opEw), wo, 0, 0, (kOp 1 opEw), opEw, (cOf opEw), by decide, by decide, rfl, by decide, by decide, by decide⟩
theorem witness_vecRed : ∃ (s : State) (o : OpRef) (p : Pid) (n : Fin 64) (k : Cmd) (x : ListOp) (C : ComputeOp), o.cmd.ring = .vf p n ∧ s.nextOp o 1 4 = some (k, x) ∧ checkCompute (s.coresOf p).length x = .ok C ∧ s.pairsRead p C.readTiles = [] ∧ s.deny o.cmd p C.tiles = none ∧ s.blocked p C.tiles (s.tagOf o.cmd.ring k.hdr) = false :=
  ⟨(wOp 1 opRed), wo, 0, 0, (kOp 1 opRed), opRed, (cOf opRed), by decide, by decide, rfl, by decide, by decide, by decide⟩
theorem witness_computeOpEnd : ∃ (s : State) (o : OpRef) (p : Pid) (n : Fin 64) (k : Cmd) (a : ActiveOp) (C : ComputeOp), o.cmd.ring = .vf p n ∧ s.activeOp o = some (k, a) ∧ k.hdr.engine = 1 ∧ a.op.lop.toNat ≤ 4 ∧ s.fnRuns (.vf p) = true ∧ (s.life p).timingAct = false ∧ a.lostCores = [] ∧ (checkCompute ((s.letPairsGo p (· = o)).coresOf p).length a.op = .ok C) :=
  ⟨wActEw, wo, 0, 0, kActEw, aActEw, (cOf opEw), by decide, by decide, by decide, by decide, by decide, by decide, by decide, rfl⟩
theorem witness_readAheadExpire : ∃ (s : State) (p : Pid) (i : Nat) (x : Staged), (s.prt p).mem.staged[i]? = some x ∧ 10000000 ≤ s.since x.at_ :=
  ⟨wStaged, 0, 0, xStaged, by decide, by decide⟩

/-! ### Witnesses for StreamUnitCommands -/

theorem witness_suLoad : ∃ (s : State) (u : UnitRef), s.suOpen u = true ∧ ((s.unit u).st = .empty ∨ (s.unit u).st = .loaded ∨ (s.unit u).st = .done ∨ (s.unit u).st = .fault) :=
  ⟨wRun, wu, by decide, by decide⟩
theorem witness_suLoadDone : ∃ (s : State) (u : UnitRef) (n : Nat), (s.unit u).st = .loading ∧ s.sledUp = true ∧ n = leAt (s.load u.pid (s.unit u).progTa.toNat 128) 2 2 ∧ 1 ≤ n ∧ n ≤ 1024 ∧ ((s.unit u).progTa.toNat % 64 = 0) ∧ ((match (s.prt u.pid).mem.objOf (tileOf (s.unit u).progTa.toNat) with | some o => !o.steward && (tilesOf (s.unit u).progTa.toNat (128 + 4 * n)).all fun t => t < o.base + o.tiles | none => false) = true) ∧ ((s.prt u.pid).mem.deny false (tilesOf (s.unit u).progTa.toNat (128 + 4 * n)) = none) ∧ (s.blocked u.pid (tilesOf (s.unit u).progTa.toNat (128 + 4 * n)) (s.unitTag u) = false) :=
  ⟨wLoading, wu, 1, by decide, by decide, by decide, by decide, by decide, by decide, by decide, by decide, by decide⟩
theorem witness_suStart : ∃ (s : State) (u : UnitRef), s.suOpen u = true ∧ ((s.unit u).st = .loaded ∨ (s.unit u).st = .done) ∧ (((s.modUnit u fun x => { x.drop.restart with st := .running, cmdRej := false, rt := false, frame := 0, tag := x.epochReg }).life u.pid).st ≠ .napping) :=
  ⟨wLoaded, wu, by decide, by decide, by decide⟩
theorem witness_suStart_2 : ∃ (s : State) (u : UnitRef), s.suOpen u = true ∧ ((s.unit u).st = .loaded ∨ (s.unit u).st = .done) ∧ (s.prt u.pid).rt.en = true :=
  ⟨wLoadedRt, wu, by decide, by decide, by decide⟩
theorem witness_suStop : ∃ (s : State) (u : UnitRef), s.suOpen u = true ∧ ((s.unit u).st = .running ∨ (s.unit u).st = .frameWait) :=
  ⟨(wSu 0), wu, by decide, by decide⟩

/-! ### Witnesses for StreamInstructionsExecute -/

theorem witness_streamNop : ∃ (s : State) (u : UnitRef) (w : Nat), s.suInstr u 0 = some w :=
  ⟨(wSu 0), wu, 0, by decide⟩
theorem witness_seti : ∃ (s : State) (u : UnitRef) (w : Nat), s.suInstr u 1 = some w ∧ bitsOf w 22 4 < 8 :=
  ⟨(wSu 0x05F0FFFF), wu, 0x05F0FFFF, by decide, by decide⟩
theorem witness_seti_2 : ∃ (s : State) (u : UnitRef) (w : Nat), s.suInstr u 1 = some w ∧ 8 ≤ bitsOf w 22 4 ∧ bitsOf w 22 4 < 12 :=
  ⟨(wSu 0x0600FFFF), wu, 0x0600FFFF, by decide, by decide, by decide⟩
theorem witness_adds : ∃ (s : State) (u : UnitRef) (w : Nat), s.suInstr u 2 = some w :=
  ⟨(wSu 0x08000000), wu, 0x08000000, by decide⟩
theorem witness_addi : ∃ (s : State) (u : UnitRef) (w : Nat), s.suInstr u 3 = some w :=
  ⟨(wSu 0x0C00FFFF), wu, 0x0C00FFFF, by decide⟩
theorem witness_fadd : ∃ (s : State) (u : UnitRef) (w : Nat), s.suInstr u 4 = some w :=
  ⟨(wSu 0x100003FF), wu, 0x100003FF, by decide⟩
theorem witness_loop : ∃ (s : State) (u : UnitRef) (w : Nat), s.suInstr u 5 = some w ∧ bitsOf w 0 16 ≠ 0 :=
  ⟨(wSu 0x1400FFFF), wu, 0x1400FFFF, by decide, by decide⟩
theorem witness_endl : ∃ (s : State) (u : UnitRef) (w : Nat), s.suInstr u 6 = some w ∧ (s.unit u).lVal (bitsOf w 24 2) = 1 :=
  ⟨wEndl1, wu, 0x18000001, by decide, by decide⟩
theorem witness_endl_2 : ∃ (s : State) (u : UnitRef) (w : Nat), s.suInstr u 6 = some w ∧ (s.unit u).lVal (bitsOf w 24 2) ≠ 1 ∧ bitsOf w 0 10 ≤ (s.unit u).pc :=
  ⟨wEndl2, wu, 0x18000001, by decide, by decide, by decide⟩
theorem witness_mov : ∃ (s : State) (u : UnitRef) (w : Nat) (src dst : MovAddr), s.suInstr u 7 = some w ∧ (s.movAddr u ((s.unit u).aVal (bitsOf w 23 3)) false (64 * bitsOf w 0 11) = some src) ∧ (s.movAddr u ((s.unit u).aVal (bitsOf w 20 3)) true (64 * bitsOf w 0 11) = some dst) ∧ src.pair = none ∧ ((s.prt u.pid).mem.deny false (tilesOf src.ta (64 * bitsOf w 0 11) ++ tilesOf dst.ta (64 * bitsOf w 0 11)) = none) ∧ (s.blocked u.pid (tilesOf src.ta (64 * bitsOf w 0 11) ++ tilesOf dst.ta (64 * bitsOf w 0 11)) (s.unitTag u) = false) ∧ (s.core u.pid u.core).moving < 2 :=
  ⟨wMov, wu, 0x1C100001, mvSrc, mvDst, by decide, rfl, rfl, by decide, by decide, by decide, by decide⟩
theorem witness_movEnd : ∃ (s : State) (u : UnitRef) (j : Nat) (m : MovRun), (s.unit u).movs[j]? = some m ∧ s.sledUp = true ∧ m.holds = none ∧ m.live = true ∧ (((s.modUnit u fun x => { x with movs := x.movs.eraseIdx j }).unit u).st = .running) :=
  ⟨wMovEnd, wu, 0, mvRun, by decide, by decide, by decide, by decide, by decide⟩
theorem witness_swap : ∃ (s : State) (u : UnitRef) (w : Nat), s.suInstr u 8 = some w ∧ (s.pair (s.suPair u w true)).bound = true ∧ (s.pair (s.suPair u w true)).madeBy u = true ∧ (s.pair (s.suPair u w true)).open_ = true :=
  ⟨(wSuPair 0x20000000 false), wu, 0x20000000, by decide, by decide, by decide, by decide⟩
theorem witness_waitf : ∃ (s : State) (u : UnitRef) (w : Nat), s.suInstr u 9 = some w ∧ (s.pair (s.suPair u w true)).bound = true ∧ (s.pair (s.suPair u w true)).open_ = true :=
  ⟨(wSuPair 0x24000000 false), wu, 0x24000000, by decide, by decide, by decide⟩
theorem witness_waitv : ∃ (s : State) (u : UnitRef) (w : Nat), s.suInstr u 0x0A = some w ∧ (s.pair (s.suPair u w false)).bound = true ∧ (s.pair (s.suPair u w false)).ready = true :=
  ⟨(wSuPair 0x28000000 true), wu, 0x28000000, by decide, by decide, by decide⟩
theorem witness_rel : ∃ (s : State) (u : UnitRef) (w : Nat), s.suInstr u 0x0B = some w ∧ (s.pair (s.suPair u w false)).bound = true :=
  ⟨(wSuPair 0x2C000000 true), wu, 0x2C000000, by decide, by decide⟩
theorem witness_sig : ∃ (s : State) (u : UnitRef) (w : Nat), s.suInstr u 0x0C = some w ∧ ((unitsOf u.pid).filter (fun v => decide (v.core = u.core) && match (s.unit v).wsig with | some (k, _) => decide (k = bitsOf w 22 4) | none => false) = []) :=
  ⟨(wSu 0x33C00000), wu, 0x33C00000, by decide, by decide⟩
theorem witness_wsig : ∃ (s : State) (u : UnitRef) (w : Nat), s.suInstr u 0x0D = some w ∧ (s.core u.pid u.core).signals.getLsbD (bitsOf w 22 4) = true :=
  ⟨wWsig, wu, 0x37E00000, by decide, by decide⟩
theorem witness_streamBar : ∃ (s : State) (u : UnitRef) (w g : Nat), s.suInstr u 0x0E = some w ∧ ((s.bar u.pid ⟨bitsOf w 21 5, by unfold bitsOf; omega⟩).meets = .waits g) :=
  ⟨wSuBar, wu, 0x38000000, 0, by decide, by decide⟩
theorem witness_streamEnd : ∃ (s : State) (u : UnitRef) (w : Nat), s.suInstr u 0x11 = some w ∧ bitOf w 20 = false :=
  ⟨(wSu 0x44000000), wu, 0x44000000, by decide, by decide⟩
theorem witness_streamEpoch : ∃ (s : State) (u : UnitRef) (w : Nat), s.suInstr u 0x12 = some w :=
  ⟨(wSu 0x48000001), wu, 0x48000001, by decide⟩
theorem witness_dline : ∃ (s : State) (u : UnitRef) (w : Nat), s.suInstr u 0x0F = some w ∧ (s.unit u).rt = true :=
  ⟨(wSuRt 0x3C000001), wu, 0x3C000001, by decide, by decide⟩
theorem witness_fend : ∃ (s : State) (u : UnitRef) (w : Nat), s.suInstr u 0x10 = some w ∧ (s.unit u).rt = true ∧ s.pwr.time.toNat ≤ (s.unit u).deadline ∧ (s.prt u.pid).rt.curStart = (s.unit u).frameAt :=
  ⟨(wSuRt 0x40000000), wu, 0x40000000, by decide, by decide, by decide, by decide⟩

/-! ### Witnesses for FramesAndBufferPairs -/

theorem witness_rtCtlWrite : ∃ (s : State) (p : Pid) (v : W32), s.vfFull p = true ∧ (s.prt p).rt.en = false ∧ v.getLsbD 0 = true ∧ ((s.prt p).rt.valid (BitVec.ofNat 2 (v.toNat / 2)).toNat = true) :=
  ⟨wRtSet, 0, 5, by decide, by decide, by decide, by decide⟩
theorem witness_frameStart : ∃ (s : State) (p : Pid), s.framesRun p = true ∧ (s.prt p).rt.startOf (s.prt p).rt.next ≤ s.pwr.time.toNat ∧ s.frameWaiters p = [] :=
  ⟨wRtOn, 0, by decide, by decide, by decide⟩
theorem witness_frameStart_2 : ∃ (s : State) (p : Pid), s.framesRun p = true ∧ (s.prt p).rt.startOf (s.prt p).rt.next ≤ s.pwr.time.toNat ∧ s.frameWaiters p ≠ [] ∧ (s.life p).st ≠ .napping :=
  ⟨wRtWaiter, 0, by decide, by decide, by decide, by decide⟩
theorem witness_frameEarlyWake : ∃ (s : State) (p : Pid), s.framesRun p = true ∧ (s.life p).st = .napping ∧ s.frameWaiters p ≠ [] ∧ (s.prt p).rt.startOf (s.prt p).rt.next ≤ s.pwr.time.toNat :=
  ⟨wRtNap, 0, by decide, by decide, by decide, by decide⟩
theorem witness_deadlinePass : ∃ (s : State) (u : UnitRef), (s.unit u).rt = true ∧ (s.unit u).st = .running ∧ s.framesRun u.pid = true ∧ s.nextDeadline u ≤ s.pwr.time.toNat :=
  ⟨wRtLate, wu, by decide, by decide, by decide, by decide⟩
theorem witness_deadlinePass_2 : ∃ (s : State) (c : CmdRef) (k : Cmd), s.cmd? c = some k ∧ k.unstarted = true ∧ k.cancelled = false ∧ s.skipsRt c.ring k = true :=
  ⟨wRtCmd, wc, kRt, by decide, by decide, by decide, by decide⟩
theorem witness_pairBind : ∃ (s : State) (b : PairRef) (x : Obj), s.pairPage b = true ∧ (s.core b.pid b.core).busy = false ∧ s.bindCheck b = .ok x :=
  ⟨wBind, wb, wObj2, by decide, by decide, rfl⟩
theorem witness_pairBindDone : ∃ (s : State) (b : PairRef) (a : Core), (s.pair b).binding = true ∧ s.absCore b.pid b.core.val = some a ∧ ((s.pair b).tiles.all (fun t => match s.tile? b.pid t with | some y => decide (y.home = .tileMem a) && !y.isMoving | none => false) = true) :=
  ⟨wBinding, wb, 0, by decide, by decide, by decide⟩
theorem witness_pairUnbind : ∃ (s : State) (b : PairRef), s.pairPage b = true ∧ (s.core b.pid b.core).busy = false ∧ (s.pair b).bound = true ∧ (s.pair b).holders = [] ∧ s.producerRuns b = false :=
  ⟨wBound, wb, by decide, by decide, by decide, by decide, by decide⟩
theorem witness_pairReset : ∃ (s : State) (b : PairRef), s.pairPage b = true ∧ (s.core b.pid b.core).busy = false ∧ (s.pair b).bound = true :=
  ⟨wBound, wb, by decide, by decide, by decide⟩
theorem witness_pairAutoSwap : ∃ (s : State) (b : PairRef), (s.pair b).bound = true ∧ (s.pair b).cprod = true ∧ (s.pair b).uses ≤ (s.pair b).writes ∧ (s.pair b).open_ = true :=
  ⟨wCprod, wb, by decide, by decide, by decide, by decide⟩
theorem witness_pairWaitTimeout : ∃ (s : State) (u : UnitRef) (b : PairRef), s.suWaitsOn u = some b ∧ (s.life u.pid).pausedAt = none ∧ (s.pair b).broken = true :=
  ⟨wPairWait, wu, wb, by decide, by decide, by decide⟩

/-! ### Witnesses for TileMovesAndTierEvents -/

theorem witness_moveCopyBegin : ∃ (s : State) (p : Pid) (t : TileNo) (x : Tile) (m : Move), s.tile? p t = some x ∧ x.st = .moving m ∧ m.copying = false ∧ s.inFlight p t = false ∧ s.copyRoom m.dst = true ∧ s.homeUp x.home = true ∧ s.homeUp m.dst = true ∧ s.sledUp = true :=
  ⟨(wMoving false), 0, 16, (tMoving false), (mvOf false), by decide, by decide, by decide, by decide, by decide, by decide, by decide, by decide⟩
theorem witness_moveComplete : ∃ (s : State) (p : Pid) (t : TileNo) (x : Tile) (m : Move), s.tile? p t = some x ∧ x.st = .moving m ∧ m.copying = true ∧ s.failedHome x.home = false ∧ s.failedHome m.dst = false ∧ s.sledUp = true ∧ x.clearAfter = false :=
  ⟨(wMoving true), 0, 16, (tMoving true), (mvOf true), by decide, by decide, by decide, by decide, by decide, by decide, by decide⟩
theorem witness_moveDestinationFail : ∃ (s : State) (p : Pid) (t : TileNo) (x : Tile) (m : Move), s.tile? p t = some x ∧ x.st = .moving m ∧ m.copying = true ∧ m.retried = true ∧ x.clearAfter = false :=
  ⟨wMovingRetried, 0, 16, tMovingRetried, mvRetried, by decide, by decide, by decide, by decide, by decide⟩
theorem witness_backgroundPromotion : ∃ (s : State) (p : Pid) (x : Tile) (h : Home), (s.life p).st.committed = true ∧ s.sledUp = true ∧ (((s.prt p).mem.tiles.filter fun x => match x.st with | .moving y => y.cause = .promotion | _ => false).length < 16) ∧ firstBy promoteBefore ((s.prt p).mem.tiles.filter (s.prt p).mem.promotable) = some x ∧ s.promotePlace p x.num = some h :=
  ⟨wPromote, 0, tBoard, hPromote, by decide, by decide, by decide, by decide, by decide⟩
theorem witness_tierAccessFail : ∃ (s : State) (p : Pid) (t : TileNo) (w : Issuer) (d : ChanNo) (x : Tile), s.tile? p t = some x ∧ x.isDropped = false ∧ x.st ≠ .zero :=
  ⟨(wMoving false), 0, 16, .sled, 0, (tMoving false), by decide, by decide, by decide⟩
theorem witness_tierAccessFail_2 : ∃ (s : State) (p : Pid) (t : TileNo) (w : Issuer) (d : ChanNo) (x : Tile), s.tile? p t = some x ∧ x.st = .resident ∧ s.meets w p t = true ∧ (s.failCause x.home d false false ∈ [1, 2, 6, 7]) :=
  ⟨wObjState, 0, 16, .sled, 0, tRes, by decide, by decide, by decide, by decide⟩
theorem witness_tierAccessLate : ∃ (s : State) (p : Pid) (t : TileNo) (w : Issuer) (d : ChanNo) (x : Tile), s.tile? p t = some x ∧ (x.home.inStacked = true ∨ x.home.isBoard = true) ∧ s.canBeLate w = true :=
  ⟨wObjState, 0, 16, .sled, 0, tRes, by decide, by decide, by decide⟩
theorem witness_memoryUnitDown : ∃ (s : State) (k : StackNo), s.boot.form = .normal ∧ s.boot.hostReady = true ∧ s.tier.stkFail.getLsbD k.val = false :=
  ⟨wPf, 5, by decide, by decide, by decide⟩
theorem witness_tierSettingWrite : ∃ (s : State) (v : W32), s.pfOpen = true :=
  ⟨wPf, 0xFFFF, by decide⟩
theorem witness_tierSettingWrite_2 : ∃ (s : State) (v : W32), s.pfOpen = true :=
  ⟨wPf, 0xFFFF, by decide⟩
theorem witness_stagingQuotaWrite : ∃ (s : State) (p : Pid) (v : W32), s.pfOpen = true ∧ ((s.life p).st = .empty ∨ (s.life p).st = .configuring) :=
  ⟨wConf, 0, 0x7FF, by decide, by decide⟩
theorem witness_quarantineWaitTimeout : ∃ (s : State) (u : UnitRef) (t : Nat), (s.unit u).wait = .quarantine t ∧ s.quarOver u.pid (some t) = true :=
  ⟨wQuar, wu, 0, by decide, by decide⟩

/-! ### Witnesses for PlanCommandsTakeEffect -/

theorem witness_planLoad : ∃ (s : State) (c : CmdRef) (p : Pid) (n : Fin 64) (k : Cmd) (P : Plan), s.inline_ c 4 1 = some k ∧ c.ring = .vf p n ∧ (leAt k.operands 0 8 % 64 = 0) ∧ 128 ≤ leAt k.operands 8 4 ∧ leAt k.operands 8 4 ≤ 2 ^ 24 ∧ zeroIn k.operands 12 48 = true ∧ (leAt k.operands 0 8 + leAt k.operands 8 4 ≤ 2 ^ 48) ∧ ((match (s.prt p).mem.objOf (tileOf (leAt k.operands 0 8)) with | some o => !o.steward && o.releasing.isNone && decide (tileOf (leAt k.operands 0 8 + leAt k.operands 8 4 - 1) < o.base + o.tiles) | none => false) = true) ∧ s.deny c p (tilesOf (leAt k.operands 0 8) (leAt k.operands 8 4)) = none ∧ s.blocked p (tilesOf (leAt k.operands 0 8) (leAt k.operands 8 4)) none = false ∧ leAt (s.load p (leAt k.operands 0 8) (leAt k.operands 8 4)) 52 4 = leAt k.operands 8 4 ∧ parsePlan (s.load p (leAt k.operands 0 8) (leAt k.operands 8 4)) = .ok P ∧ (leAt (s.load p (leAt k.operands 0 8) (leAt k.operands 8 4)) 24 8 % tileBytes = 0) ∧ P.base ≠ 0 ∧ (P.base + P.nmb * P.mbStride ≤ 2 ^ 32) ∧ ((s.prt p).mem.overlaps P.base (P.nmb * P.mbStride) = false) ∧ (((s.loaded p (leAt k.operands 0 8) (leAt k.operands 8 4)).noteServed c).prt p).scb.plan = none ∧ ((s.prt p).mem.used + P.peak ≤ ((s.loaded p (leAt k.operands 0 8) (leAt k.operands 8 4)).noteServed c).budget p) ∧ ((s.prt p).mem.objs.length + P.nmb ≤ 32768) :=
  ⟨wPlanLoad, wc, 0, 0, kPlanLoad, plan1, by decide, by decide, by decide, by decide, by decide, by decide, by decide, by decide, by decide, by decide, by decide, by exact okOf (by decide +kernel), by decide, by decide, by decide, by decide, by decide, by decide, by decide⟩
theorem witness_planUnload : ∃ (s : State) (c : CmdRef) (p : Pid) (n : Fin 64) (k : Cmd), s.inline_ c 4 2 = some k ∧ c.ring = .vf p n ∧ zeroIn k.operands 0 48 = true ∧ (s.prt p).scb.plan ≠ none :=
  ⟨(wPlan 2), wc, 0, 0, (kCtl 4 2), by decide, by decide, by decide, by decide⟩
theorem witness_runBegin : ∃ (s : State) (c : CmdRef) (p : Pid) (n : Fin 64) (k : Cmd), s.inline_ c 4 3 = some k ∧ c.ring = .vf p n ∧ zeroIn k.operands 0 48 = true ∧ (s.prt p).scb.plan ≠ none ∧ (s.prt p).scb.runOpen = false ∧ (s.prt p).scb.allClosed = true :=
  ⟨(wPlan 3), wc, 0, 0, (kCtl 4 3), by decide, by decide, by decide, by decide, by decide, by decide⟩
theorem witness_mark : ∃ (s : State) (c : CmdRef) (p : Pid) (n : Fin 64) (k : Cmd) (P : Plan) (t : State), s.inline_ c 4 4 = some k ∧ c.ring = .vf p n ∧ (s.prt p).scb.plan = some P ∧ zeroIn k.operands 4 48 = true ∧ (s.prt p).scb.runOpen = true ∧ (s.prt p).scb.runEpoch = k.hdr.epoch ∧ leAt k.operands 0 4 = (if (s.prt p).scb.marked then (s.prt p).scb.pos + 1 else 0) ∧ leAt k.operands 0 4 < P.marks.length ∧ s.markEffects p P (leAt k.operands 0 4) = (t, true) :=
  ⟨(wRunOpen 4), wc, 0, 0, (kCtl 4 4), plan1, tMark, by decide, by decide, by decide, by decide, by decide, by decide, by decide, by decide, by exact Prod.ext rfl (by decide)⟩
theorem witness_runEnd : ∃ (s : State) (c : CmdRef) (p : Pid) (n : Fin 64) (k : Cmd), s.inline_ c 4 5 = some k ∧ c.ring = .vf p n ∧ zeroIn k.operands 0 48 = true ∧ (s.prt p).scb.runOpen = true ∧ (s.prt p).scb.runEpoch = k.hdr.epoch :=
  ⟨(wRunOpen 5), wc, 0, 0, (kCtl 4 5), by decide, by decide, by decide, by decide, by decide⟩

/-! ### Witnesses for ScarabWorkEvents -/

theorem witness_instanceCloseComplete : ∃ (s : State) (p : Pid) (i j : Nat) (x : Inst), (s.prt p).scb.inst? i j = some x ∧ x.closing = true :=
  ⟨(wInst xClosing), 0, 0, 0, xClosing, by decide, by decide⟩
theorem witness_fetchbackEvaluate : ∃ (s : State) (p : Pid), (s.prt p).scb.runOpen = true ∧ (s.prt p).scb.marked = true ∧ s.scbPaused p = false :=
  ⟨(wInst xPlaced), 0, by decide, by decide, by decide⟩
theorem witness_fetchbackIssue : ∃ (s : State) (p : Pid) (i j : Nat) (x : Inst) (r : PlanRec), (firstBy (s.prt p).scb.fetchBefore ((s.prt p).scb.insts.filter fun x => x.st = .placed && x.due.isSome && !x.closing) = some x) ∧ (s.prt p).scb.rec? i = some r ∧ x.is i j = true ∧ s.scbPaused p = false ∧ (((s.prt p).scb.insts.filter (·.st = .fetching)).length < (s.prt p).scb.fetchMax) ∧ r.fdest = 0 :=
  ⟨(wInst xDue), 0, 0, 0, xDue, rec1, by decide, by decide, by decide, by decide, by decide, by decide⟩
theorem witness_scarabTaskIssue : ∃ (s : State), s.boot.hostReady = true ∧ s.sledUp = true :=
  ⟨wRun, by decide, by decide⟩
theorem witness_injectedSegmentEnd : ∃ (s : State) (p : Pid) (i j : Nat) (x : Inst) (ops : List ListOp) (b : Bool), ((s.prt p).scb.injected.any (fun y => y.rec_ = i && y.mb = j) = true) ∧ s.fnRuns (.vf p) = true ∧ (s.prt p).scb.inst? i j = some x ∧ (s.prt p).scb.segOps i j = some ops ∧ x.closing = true :=
  ⟨wInjected, 0, 0, 0, xClosing, opsEw, false, by decide, by decide, by decide, by decide, by decide⟩
theorem witness_scarabSettingWrite : ∃ (s : State) (v : W32), s.pfOpen = true :=
  ⟨wPf, 0xFFF, by decide⟩
theorem witness_scarabSettingWrite_2 : ∃ (s : State) (p : Pid) (v : W32), s.vfFull p = true :=
  ⟨wRun, 0, 0x1F, by decide⟩

/-! ### Witnesses for UpdateCommandPhases -/

theorem witness_updateCommand : ∃ (s : State) (c : CmdRef) (p : Pid) (n : Fin 64) (l : Bytes) (k : Cmd) (ops : List ListOp) (b : ListOp) (xs : List UpdShard), s.cmd? c = some k ∧ c.ring = .vf p n ∧ k.stage = .started ∧ k.hdr.opc = 0x80 ∧ k.hdr.engine = 3 ∧ s.fnRuns c.ring.fn = true ∧ s.canRead c.ring.fn (BitVec.ofNat 64 (leAt k.operands 0 8)) (leAt k.operands 8 4) = true ∧ parseList (leAt k.operands 0 8) (leAt k.operands 8 4) l = .ok ops ∧ (ops.findSome? (·.check c.ring.fn 3) = none) ∧ zeroIn k.operands 12 48 = true ∧ k.hdr.epoch.ahead ((s.fetchLines c.ring.fn (BitVec.ofNat 64 (leAt k.operands 0 8)) (leAt k.operands 8 4)).prt p).ep.c = true ∧ (readUpdate ops (fun g => ((s.fetchLines c.ring.fn (BitVec.ofNat 64 (leAt k.operands 0 8)) (leAt k.operands 8 4)).groupOf p g).isSome) = .ok (b, xs)) ∧ BitVec.ofNat 16 (b.field 8 2) = 0 :=
  ⟨wUpdCmd, wc, 0, 0, lUpd, kUpdCmd, opsUpd, opUpdBegin, (List.cons shard1 List.nil), by decide, by decide, by decide, by decide, by decide, by decide, by decide, rfl, by decide, by decide, by decide, rfl, by decide⟩
theorem witness_normPassEnd : ∃ (s : State) (c : CmdRef) (p : Pid) (u : Update), s.updIn c .norm = some (p, u) ∧ (s.updWaits p u ((u.shards.map (·.gSpan)).flatMap spanTiles) = none) ∧ u.group = 0 ∧ (((u.shards.map (·.gSpan)).flatMap spanTiles).findSome? (s.updDeny p u) = none) ∧ ((u.shards.map fun x => x.norm (s.prt p).mem.bytes).flatMap (·.2) = []) :=
  ⟨wNorm, wc, 0, uNorm, by decide, by decide, by decide, by decide, by decide⟩
theorem witness_verdict : ∃ (s : State) (p : Pid) (i j l : Nat) (u : Update) (v : VerdictMsg), (s.prt p).wvl.upd = some u ∧ (s.prt p).wvl.pass = .verdict ∧ u.fin = none ∧ s.fnRuns (.vf p) = true ∧ u.group = 0 ∧ u.verdict = some v :=
  ⟨wVerdict, 0, 0, 0, 0, uVerdict, vOk, by decide, by decide, by decide, by decide, by decide, by decide⟩
theorem witness_trustPassEnd : ∃ (s : State) (c : CmdRef) (p : Pid) (u : Update), s.updIn c .trust = some (p, u) ∧ (u.numbered.filter (fun x => decide (x.1.hyper.alg = 2)) = []) ∧ s.updWaits p u [] = none :=
  ⟨wTrust, wc, 0, uTrust, by decide, by decide, by decide⟩
theorem witness_applyPassEnd : ∃ (s : State) (c : CmdRef) (p : Pid) (u : Update), s.updIn c .apply = some (p, u) ∧ (s.updWaits p u ((u.shards.flatMap (·.spans)).flatMap spanTiles) = none) ∧ (u.shards.findSome? (fun x => (List.range x.nelem).findSome? fun j => (x.elemTiles j).findSome? (s.updDeny p u)) = none) :=
  ⟨wApply, wc, 0, uApply, by decide, by decide, by decide⟩
theorem witness_decisionContribution : ∃ (s : State) (a : BitVec 12) (e : Epoch) (i j : Nat) (p : Pid) (r q n : Nat) (x y : Bool), (s.life p).slice = a ∧ (s.life p).st.committed = true ∧ s.decidesHere p = true :=
  ⟨wDecides, 1, 1, 2, 1000, 0, 0, 0, 0, false, false, by decide, by decide, by decide⟩
theorem witness_reductionTimeout : ∃ (s : State) (a : BitVec 12) (e : Epoch) (r : Reduction), s.red? a e = some r ∧ r.decided = none ∧ (r.tmoMs * 1000000 ≤ s.since r.firstAt) :=
  ⟨wRed, 1, 1, red1, by decide, by decide, by decide⟩
theorem witness_decisionPointUnreachable : ∃ (s : State) (p : Pid) (u : Update) (d : W32), (s.prt p).wvl.upd = some u ∧ s.noDecision p = some d ∧ (s.prt p).wvl.pass = .verdict ∧ u.group ≠ 0 ∧ u.fin = none ∧ s.fnRuns (.vf p) = true :=
  ⟨wOrphan, 0, uOrphan, (pathLost 0xFFFF 7), by decide, by decide, by decide, by decide, by decide, by decide⟩

/-! ### Witnesses for FabricOperationsStart -/

theorem witness_gx : ∃ (s : State) (o : OpRef) (p : Pid) (n : Fin 64) (k : Cmd) (x : ListOp), o.cmd.ring = .vf p n ∧ s.nextOp o 6 1 = some (k, x) ∧ s.gxCheck p k x = none ∧ (((s.prt p).gx.pendings (gxOf x)).any (·.isSome) = false) :=
  ⟨(wFab opGx), wo, 0, 0, (kFab opGx), opGx, by decide, by decide, by decide, by decide⟩
theorem witness_allgather : ∃ (s : State) (o : OpRef) (p : Pid) (n : Fin 64) (k : Cmd) (x : ListOp) (g : Group), o.cmd.ring = .vf p n ∧ s.nextOp o 6 2 = some (k, x) ∧ x.zero 8 10 = true ∧ x.zero 14 16 = true ∧ x.zero 28 32 = true ∧ 0 < x.field 24 4 ∧ x.field 24 4 ≤ 65535 ∧ x.field 12 2 = 0 ∧ s.groupOf p (BitVec.ofNat 16 (x.field 10 2)) = some g ∧ 0 < g.nmemb ∧ (rangesMeet (x.field 16 4, x.field 24 4) (x.field 20 4, x.field 24 4 * g.nmemb) = false) :=
  ⟨(wFab opGather), wo, 0, 0, (kFab opGather), opGather, grp1, by decide, by decide, by decide, by decide, by decide, by decide, by decide, by decide, by decide, by decide, by decide⟩
theorem witness_bcast : ∃ (s : State) (o : OpRef) (p : Pid) (n : Fin 64) (k : Cmd) (x : ListOp) (g : Group), o.cmd.ring = .vf p n ∧ s.nextOp o 6 3 = some (k, x) ∧ x.zero 8 10 = true ∧ x.zero 14 16 = true ∧ x.zero 28 32 = true ∧ 0 < x.field 24 4 ∧ x.field 24 4 ≤ 65535 ∧ s.groupOf p (BitVec.ofNat 16 (x.field 10 2)) = some g ∧ x.field 12 2 < g.nmemb :=
  ⟨(wFab opBcast), wo, 0, 0, (kFab opBcast), opBcast, grp1, by decide, by decide, by decide, by decide, by decide, by decide, by decide, by decide, by decide⟩
theorem witness_send : ∃ (s : State) (o : OpRef) (p : Pid) (n : Fin 64) (k : Cmd) (x : ListOp) (g : Group), o.cmd.ring = .vf p n ∧ s.nextOp o 6 4 = some (k, x) ∧ x.field 8 1 < 64 ∧ x.field 9 1 < 64 ∧ 0 < x.field 20 4 ∧ x.field 20 4 ≤ 65535 ∧ x.zero 28 32 = true ∧ x.field 14 1 = 0 ∧ x.field 15 1 = 0 ∧ s.groupOf p (BitVec.ofNat 16 (x.field 10 2)) = some g ∧ x.field 12 2 < g.nmemb ∧ x.field 12 2 ≠ g.rank ∧ s.keyBusy p (BitVec.ofNat 16 (x.field 10 2)) true (x.field 8 1) (x.field 9 1) (x.field 12 2) = false ∧ s.unreachable (g.nodes.getD (x.field 12 2) 0) = none :=
  ⟨(wFab opSendT), wo, 0, 0, (kFab opSendT), opSendT, grp1, by decide, by decide, by decide, by decide, by decide, by decide, by decide, by decide, by decide, by decide, by decide, by decide, by decide, by decide⟩
theorem witness_recv : ∃ (s : State) (o : OpRef) (p : Pid) (n : Fin 64) (k : Cmd) (x : ListOp) (g : Group), o.cmd.ring = .vf p n ∧ s.nextOp o 6 5 = some (k, x) ∧ x.field 8 1 < 64 ∧ x.field 9 1 < 64 ∧ 0 < x.field 20 4 ∧ x.field 20 4 ≤ 65535 ∧ x.zero 28 32 = true ∧ x.field 14 1 = 0 ∧ x.field 15 1 = 0 ∧ s.groupOf p (BitVec.ofNat 16 (x.field 10 2)) = some g ∧ x.field 12 2 < g.nmemb ∧ x.field 12 2 ≠ g.rank ∧ s.keyBusy p (BitVec.ofNat 16 (x.field 10 2)) false (x.field 8 1) (x.field 9 1) (x.field 12 2) = false ∧ s.unreachable (g.nodes.getD (x.field 12 2) 0) = none :=
  ⟨(wFab opRecvT), wo, 0, 0, (kFab opRecvT), opRecvT, grp1, by decide, by decide, by decide, by decide, by decide, by decide, by decide, by decide, by decide, by decide, by decide, by decide, by decide, by decide⟩
theorem witness_recv_2 : ∃ (s : State) (o : OpRef) (p : Pid) (n : Fin 64) (k : Cmd) (x : ListOp) (g : Group) (c : RelCore) (q : PairNo), o.cmd.ring = .vf p n ∧ s.nextOp o 6 5 = some (k, x) ∧ x.field 8 1 < 64 ∧ x.field 9 1 < 64 ∧ 0 < x.field 20 4 ∧ x.field 20 4 ≤ 65535 ∧ x.zero 28 32 = true ∧ x.field 14 1 = 1 ∧ x.field 15 1 = q.val ∧ x.field 16 4 = c.val ∧ s.groupOf p (BitVec.ofNat 16 (x.field 10 2)) = some g ∧ x.field 12 2 < g.nmemb ∧ x.field 12 2 ≠ g.rank ∧ s.keyBusy p (BitVec.ofNat 16 (x.field 10 2)) false (x.field 8 1) (x.field 9 1) (x.field 12 2) = false ∧ s.unreachable (g.nodes.getD (x.field 12 2) 0) = none :=
  ⟨(wFab opRecvP), wo, 0, 0, (kFab opRecvP), opRecvP, grp1, 63, 15, by decide, by decide, by decide, by decide, by decide, by decide, by decide, by decide, by decide, by decide, by decide, by decide, by decide, by decide, by decide⟩

/-! ### Witnesses for FabricOperationEvents -/

theorem witness_bucketContribution : ∃ (s : State) (o : OpRef) (p : Pid) (i j : Nat) (l : List W32) (r : FabRun) (g : Group) (f : GxFields) (b : List Bucket) (y : Bucket), s.fabRun o = some (p, r, g) ∧ r.kind = .gx f b ∧ b[i]? = some y ∧ y.closed = false ∧ j < g.nmemb ∧ (y.parts.any (·.rank = j) = false) ∧ j ≠ g.rank ∧ l.length = f.len i :=
  ⟨(wGx false), wo, 0, 0, 1, [0], (rGx false), grp1, fGx, [bkt false], (bkt false), by decide, by decide, by decide, by decide, by decide, by decide, by decide, by decide⟩
theorem witness_bucketDeadline : ∃ (s : State) (o : OpRef) (p : Pid) (i : Nat) (r : FabRun) (g : Group) (f : GxFields) (b : List Bucket) (y : Bucket) (t : Nat), s.fabRun o = some (p, r, g) ∧ r.kind = .gx f b ∧ b[i]? = some y ∧ y.openedAt = some t ∧ f.dlUs ≠ 0 ∧ (f.dlUs * 1000 ≤ s.since t) ∧ (y.complete g.nmemb = false) :=
  ⟨(wGx false), wo, 0, 0, (rGx false), grp1, fGx, [bkt false], (bkt false), 0, by decide, by decide, by decide, by decide, by decide, by decide, by decide⟩
theorem witness_lateContribution : ∃ (s : State) (o : OpRef) (p : Pid) (n : Fin 64) (i : Nat) (r : FabRun) (g : Group) (f : GxFields) (b : List Bucket) (y : Bucket), o.cmd.ring = .vf p n ∧ s.fnRuns (.vf p) = true ∧ s.fabRun o = some (p, r, g) ∧ r.kind = .gx f b ∧ b[i]? = some y ∧ y.own = .none ∧ y.closed = true ∧ f.res = false ∧ s.reaches p o (s.ownTiles p f i) (some r.epoch) = .now ∧ ((s.cmd? o.cmd).any (·.waited) = false) :=
  ⟨(wGx true), wo, 0, 0, 0, (rGx true), grp1, fGx, [bkt true], (bkt true), by decide, by decide, by decide, by decide, by decide, by decide, by decide, by decide, rfl, by decide⟩
theorem witness_lateContribution_2 : ∃ (s : State) (o : OpRef) (p : Pid) (n : Fin 64) (i : Nat) (r : FabRun) (g : Group) (f : GxFields) (b : List Bucket) (y : Bucket), o.cmd.ring = .vf p n ∧ s.fnRuns (.vf p) = true ∧ s.fabRun o = some (p, r, g) ∧ r.kind = .gx f b ∧ b[i]? = some y ∧ y.own = .none ∧ y.closed = true ∧ f.res = true ∧ f.drop = false ∧ s.reaches p o (s.ownTiles p f i) (some r.epoch) = .now ∧ ((s.cmd? o.cmd).any (·.waited) = false) :=
  ⟨wGxRes, wo, 0, 0, 0, rGxRes, grp1, fGxRes, [bkt true], (bkt true), by decide, by decide, by decide, by decide, by decide, by decide, by decide, by decide, by decide, rfl, by decide⟩
theorem witness_fabricLanding : ∃ (s : State) (o : OpRef) (p : Pid) (i : Nat) (e : Option Epoch) (d : Bytes) (r : FabRun) (g : Group) (f : GxFields) (b : List Bucket), s.fabRun o = some (p, r, g) ∧ s.takesFabric p = true ∧ r.kind = .gx f b :=
  ⟨(wGx true), wo, 0, 0, none, [], (rGx true), grp1, fGx, [bkt true], by decide, by decide, by decide⟩
theorem witness_fabricLanding_2 : ∃ (s : State) (o : OpRef) (p : Pid) (d : Bytes) (r : FabRun) (g : Group) (a b i n m : Nat) (t : TileNo), s.fabRun o = some (p, r, g) ∧ s.takesFabric p = true ∧ r.kind = .recv a b i n m t none ∧ d.length = n * tileBytes ∧ (s.reaches p o (spanTiles (t, n)) none = .now) ∧ ((s.cmd? o.cmd).any (·.waited) = false) :=
  ⟨wRecvRun, wo, 0, wTileData, rRecv, grp1, 1, 2, 1, 1, 5, 16, by decide, by decide, by decide, by exact (List.length_replicate (n := 65536) (a := (0 : Byte))).trans (by decide), rfl, by decide⟩
theorem witness_sendRecvTimeout : ∃ (s : State) (o : OpRef) (p : Pid) (r : FabRun) (g : Group) (a b i : Nat) (t : TileNo) (n m : Nat) (y : Bool), s.fabRun o = some (p, r, g) ∧ r.kind = .send a b i t n m y ∧ m ≠ 0 ∧ (m * 1000 ≤ s.since r.since) :=
  ⟨wSendRun, wo, 0, rSend, grp1, 1, 2, 1, 16, 1, 5, false, by decide, by decide, by decide, by decide⟩
theorem witness_sendRecvTimeout_2 : ∃ (s : State) (o : OpRef) (p : Pid) (r : FabRun) (g : Group) (a b i n m t : Nat) (y : Option (RelCore × PairNo)), s.fabRun o = some (p, r, g) ∧ r.kind = .recv a b i n m t y ∧ m ≠ 0 ∧ (m * 1000 ≤ s.since r.since) :=
  ⟨wRecvRun, wo, 0, rRecv, grp1, 1, 2, 1, 1, 5, 16, none, by decide, by decide, by decide, by decide⟩
theorem witness_collectivePeerUnreachable : ∃ (s : State) (o : OpRef) (p : Pid) (i j : Nat) (r : FabRun) (g : Group), s.fabRun o = some (p, r, g) ∧ s.unreachable (g.nodes.getD i 0xFFFF) = some j ∧ r.needs g i = true :=
  ⟨wSendLost, wo, 0, 1, 3, rSend, grp1, by decide, by decide, by decide⟩

/-! ### Witnesses for SolverOperationsRun -/

theorem witness_dense : ∃ (s : State) (o : OpRef) (p : Pid) (n : Fin 64) (k : Cmd) (x : ListOp), o.cmd.ring = .vf p n ∧ s.nextOp o 2 1 = some (k, x) ∧ (denseOf x).fieldsOk x = true ∧ (denseOf x).overlaps = false ∧ ((((denseOf x).ranges.map fun r => spanOf r.1 r.2).flatMap spanTiles).find? (fun t => !(s.prt p).mem.reach (s.accepted o.cmd [t]) t) = none) :=
  ⟨(wOp 2 opDense), wo, 0, 0, (kOp 2 opDense), opDense, by decide, by decide, by decide, by decide, by decide⟩
theorem witness_schedReg : ∃ (s : State) (o : OpRef) (p : Pid) (n : Fin 64) (k : Cmd) (x : ListOp), o.cmd.ring = .vf p n ∧ s.nextOp o 2 2 = some (k, x) ∧ x.field 8 2 < 64 ∧ x.zero 10 16 = true ∧ x.zero 22 24 = true ∧ (x.field 16 6 % 64 = 0) ∧ ((spanTiles (spanOf (x.field 16 6) 64)).find? (fun t => !(s.prt p).mem.reach (s.accepted o.cmd [t]) t) = none) :=
  ⟨(wOp 2 opSched), wo, 0, 0, (kOp 2 opSched), opSched, by decide, by decide, by decide, by decide, by decide, by decide, by decide⟩
theorem witness_schedDrop : ∃ (s : State) (o : OpRef) (p : Pid) (n : Fin 64) (k : Cmd) (x : ListOp), o.cmd.ring = .vf p n ∧ s.nextOp o 2 3 = some (k, x) ∧ x.field 8 2 < 64 ∧ x.zero 10 16 = true ∧ s.sparseOn p (x.field 8 2) = [] :=
  ⟨(wOp 2 opDrop), wo, 0, 0, (kOp 2 opDrop), opDrop, by decide, by decide, by decide, by decide, by decide⟩
theorem witness_schedDropRelease : ∃ (s : State) (o : OpRef) (p : Pid) (n : Fin 64) (d : DropWait), o.cmd.ring = .vf p n ∧ ((s.prt p).sol.drops.find? (·.op = o) = some d) ∧ (d.users.any (fun u => (s.activeOp u).isSome) = false) :=
  ⟨wDrops, wo, 0, 0, drop1, by decide, by decide, by decide⟩
theorem witness_sparse : ∃ (s : State) (o : OpRef) (p : Pid) (n : Fin 64) (k : Cmd) (x : ListOp) (h : Sched), o.cmd.ring = .vf p n ∧ s.nextOp o 2 4 = some (k, x) ∧ (sparseOf x).fieldsOk x = true ∧ s.schedOf p (sparseOf x).handle = some h ∧ (sparseOf x).stridesOk h = true ∧ (sparseOf x).overlaps h = false ∧ ((((List.range (sparseOf x).nsys).flatMap (fun j => [(sparseOf x).vSpan h j, (sparseOf x).bSpan h j, (sparseOf x).xSpan h j, (sparseOf x).wSpan h j]) ++ [spanOf (sparseOf x).st (32 * (sparseOf x).nsys), spanOf h.ta h.len]).flatMap spanTiles).find? (fun t => !(s.prt p).mem.reach (s.accepted o.cmd [t]) t) = none) :=
  ⟨wSparse, wo, 0, 0, (kOp 2 opSparse), opSparse, sched1, by decide, by decide, by decide, by decide, by decide, by decide, by decide⟩
theorem witness_solverOpEnd : ∃ (s : State) (o : OpRef) (p : Pid) (k : Cmd) (a : ActiveOp), s.solverOp o 1 = some (p, k, a) ∧ s.solverWaits o p k a = none :=
  ⟨(wAct2 opDense), wo, 0, (kAct2 opDense), (aAct opDense), by decide, by decide⟩
theorem witness_solverOpEnd_2 : ∃ (s : State) (o : OpRef) (p : Pid) (k : Cmd) (a : ActiveOp), s.solverOp o 1 = none ∧ s.solverOp o 2 = some (p, k, a) ∧ (s.prt p).mem.inTenantObj (a.op.field 16 6) (max 64 (schedHdr (s.load p (a.op.field 16 6) 64)).len) = true ∧ (tilesOf (a.op.field 16 6) (max 64 (schedHdr (s.load p (a.op.field 16 6) 64)).len)).findSome? (s.opDeny p a) = none ∧ s.blocked p (tilesOf (a.op.field 16 6) (max 64 (schedHdr (s.load p (a.op.field 16 6) 64)).len)) (s.tagOf o.cmd.ring k.hdr) = false ∧ schedOk ((((s.noteServed o.cmd).loaded p (a.op.field 16 6) (max 64 (schedHdr (s.load p (a.op.field 16 6) 64)).len)).tigerEnergy p a).load p (a.op.field 16 6) (max 64 (schedHdr (s.load p (a.op.field 16 6) 64)).len)) = true :=
  ⟨wSchedEnd, wo, 0, (kAct2 opSched), (aAct opSched), by decide, by decide, by decide, by decide, by decide, by decide +kernel⟩
theorem witness_solverOpEnd_3 : ∃ (s : State) (o : OpRef) (p : Pid) (k : Cmd) (a : ActiveOp) (h : Sched), s.solverOp o 1 = none ∧ s.solverOp o 2 = none ∧ s.solverOp o 4 = some (p, k, a) ∧ s.solverWaits o p k a = none ∧ s.schedOf p (sparseOf a.op).handle = some h :=
  ⟨wSparseEnd, wo, 0, (kAct2 opSparse), (aAct opSparse), sched1, by decide, by decide, by decide, by decide, by decide⟩

/-! ### Witnesses for MoverTransfers -/

theorem witness_h2t : ∃ (s : State) (m : MovNo) (r : RingId) (d : DescRun) (p : Pid) (a : Nat) (b : Bytes), s.transfer (.chan m) = some (r, d) ∧ d.ended = none ∧ d.flushAt = none ∧ d.desc.kind = 0 ∧ s.fnRuns r.fn = true ∧ taOperand r d.desc.dst = some (p, a) ∧ s.lost r.fn = false ∧ b.length = pieceLen (a + d.done) (a + d.desc.len.toNat) ∧ s.admits r p = true ∧ ((s.prt p).mem.deny true [tileOf (a + d.done)] = none) ∧ (s.blocked p [tileOf (a + d.done)] none = false) :=
  ⟨(wMovK 0), 0, mvRing, (dMov 0), 0, (16*65536), [1,2], by decide, by decide, by decide, by decide, by decide, by decide, by decide, by decide, by decide, by decide, by decide⟩
theorem witness_t2h : ∃ (s : State) (m : MovNo) (r : RingId) (d : DescRun) (p : Pid) (a : Nat), s.transfer (.chan m) = some (r, d) ∧ d.ended = none ∧ d.flushAt = none ∧ d.desc.kind = 1 ∧ s.fnRuns r.fn = true ∧ taOperand r d.desc.src = some (p, a) ∧ s.lost r.fn = false ∧ s.admits r p = true ∧ ((s.prt p).mem.deny true [tileOf (a + d.done)] = none) ∧ (s.blocked p [tileOf (a + d.done)] none = false) :=
  ⟨(wMovK 1), 0, mvRing, (dMov 1), 0, (16*65536), by decide, by decide, by decide, by decide, by decide, by decide, by decide, by decide, by decide, by decide⟩
theorem witness_t2t : ∃ (s : State) (m : MovNo) (r : RingId) (d : DescRun) (p q : Pid) (a b : Nat), s.transfer (.chan m) = some (r, d) ∧ d.ended = none ∧ d.flushAt = none ∧ d.desc.kind = 2 ∧ s.fnRuns r.fn = true ∧ d.desc.operands r = [(p, a), (q, b)] ∧ d.buf.length < pieceLen (b + d.done) (b + d.desc.len.toNat) ∧ s.admits r p = true ∧ ((s.prt p).mem.deny true [tileOf (a + d.got)] = none) ∧ (s.blocked p [tileOf (a + d.got)] none = false) :=
  ⟨(wMovK 2), 0, mvRing, (dMov 2), 0, 0, (16*65536), (17*65536), by decide, by decide, by decide, by decide, by decide, by decide, by decide, by decide, by decide, by decide⟩
theorem witness_t2t_2 : ∃ (s : State) (m : MovNo) (r : RingId) (d : DescRun) (p q : Pid) (a b : Nat), s.transfer (.chan m) = some (r, d) ∧ d.ended = none ∧ d.flushAt = none ∧ d.desc.kind = 2 ∧ s.fnRuns r.fn = true ∧ d.desc.operands r = [(p, a), (q, b)] ∧ (pieceLen (b + d.done) (b + d.desc.len.toNat) ≤ d.buf.length) ∧ s.admits r q = true ∧ ((s.prt q).mem.deny true [tileOf (b + d.done)] = none) ∧ (s.blocked q [tileOf (b + d.done)] none = false) :=
  ⟨wMovBuf, 0, mvRing, dMovBuf, 0, 0, (16*65536), (17*65536), by decide, by decide, by decide, by decide, by decide, by decide, by decide, by decide, by decide, by decide⟩
theorem witness_place : ∃ (s : State) (m : MovNo) (r : RingId) (d : DescRun) (p : Pid) (a : Nat) (t : TileNo) (x : Tile) (y : Obj) (l : Place) (u : State), s.transfer (.chan m) = some (r, d) ∧ d.ended = none ∧ d.flushAt = none ∧ d.desc.kind = 3 ∧ s.fnRuns r.fn = true ∧ (d.done + d.skipped * tileBytes < d.desc.len.toNat) ∧ taOperand r d.desc.src = some (p, a) ∧ t = tileOf a + d.done / tileBytes + d.skipped ∧ d.moving = none ∧ s.sledUp = true ∧ s.admits r p = true ∧ (s.prt p).mem.deny true [t] = none ∧ s.blocked p [t] none = false ∧ (u = s.modDesc (.chan m) (fun d => { d with waited := false, quarAt := none })) ∧ u.tile? p t = some x ∧ (u.prt p).mem.objOf t = some y ∧ u.placeTarget p x y d.desc.tier.toNat = some l ∧ x.st = .resident :=
  ⟨(wMovK 3), 0, mvRing, (dMov 3), 0, (16*65536), 16, tRes, obj16, plBoard, uMov3, by decide, by decide, by decide, by decide, by decide, by decide, by decide, by exact rfl, by decide, by decide, by decide, by decide, by decide, by exact rfl, by decide, by decide, rfl, by decide⟩
theorem witness_xfer : ∃ (s : State) (o : OpRef) (k : Cmd) (x : ListOp) (b : Bytes), s.nextOp o 5 1 = some (k, x) ∧ s.descCheck o.cmd.ring (some (x.field 40 8)) (descOf (x.body.take 32)) = (none, false) :=
  ⟨(wOp 5 opXfer), wo, (kOp 5 opXfer), opXfer, [], by decide, by decide⟩
theorem witness_xfer_2 : ∃ (s : State) (o : OpRef) (k : Cmd) (a : ActiveOp) (d : DescRun) (b : Bytes), s.nextOp o 5 1 = none ∧ s.activeOp o = some (k, a) ∧ a.desc = some d ∧ d.ended = none :=
  ⟨(wXfer none), wo, (kXfer none), (aXfer none), (dXfer none), [], by decide, by decide, by decide, by decide⟩
theorem witness_xfer_3 : ∃ (s : State) (o : OpRef) (k : Cmd) (a : ActiveOp) (d : DescRun) (b : Bytes) (t : Status) (w : W32), s.nextOp o 5 1 = none ∧ s.activeOp o = some (k, a) ∧ a.desc = some d ∧ d.ended = some (t, w) ∧ d.moving = none ∧ s.fnRuns o.cmd.ring.fn = true :=
  ⟨(wXfer doneOk), wo, (kXfer doneOk), (aXfer doneOk), (dXfer doneOk), [], .ok, 0, by decide, by decide, by decide, by decide, by decide, by decide⟩
theorem witness_moverFlushTimeout : ∃ (s : State) (m : MovNo) (r : RingId) (d : DescRun) (t : Nat), s.transfer (.chan m) = some (r, d) ∧ d.flushAt = some t ∧ s.lost r.fn = false ∧ (s.fenceTmo r.fn * 1000000 ≤ s.since t) :=
  ⟨wMovFlush, 0, mvRing, dMovFlush, 0, by decide, by decide, by decide, by decide⟩
theorem witness_hostRequestError : ∃ (s : State) (c : CmdRef) (k : Cmd) (t : Nat) (a : Status) (w : W32) (n : Nat), s.cmd? c = some k ∧ s.lost c.ring.fn = false ∧ k.stage = .postFlush t a w :=
  ⟨wFlushing, wc, kFlushing, 0, .ok, 0, 0, by decide, by decide, by decide⟩
theorem witness_hostRequestError_2 : ∃ (s : State) (m : MovNo) (r : RingId) (d : DescRun) (n : Nat), s.transfer (.chan m) = some (r, d) ∧ s.lost r.fn = false ∧ d.ended = none ∧ d.flushAt = none ∧ (d.desc.kind = 0 ∨ d.desc.kind = 1) ∧ d.done ≤ n ∧ n < d.desc.len.toNat :=
  ⟨(wMovK 0), 0, mvRing, (dMov 0), 1, by decide, by decide, by decide, by decide, by decide, by decide, by decide⟩

/-! ### Witnesses for MoverChannelsAndPacing -/

theorem witness_moverDescriptorStart : ∃ (s : State) (r : RingId) (m : MovNo) (b : Bytes), s.chanOf r = some m ∧ (s.ring r).state = .active ∧ (s.ring r).queued = true ∧ s.chans[m].run = none ∧ s.chans[m].st ≠ .halted ∧ b.length = 32 ∧ (s.canRead r.fn ((s.ring r).base + BitVec.ofNat 64 (32 * (s.ring r).dev.idx)) 32 = true) ∧ s.drains r.fn = false ∧ s.fnWorks r.fn = true ∧ s.holdRoom r.fn = true ∧ s.chans[m].st ≠ .paced ∧ s.lowerBell r = false ∧ (s.ring r).mv.paceEn = false :=
  ⟨wMovQueued, mvRing, 0, (List.replicate 32 0), by decide, by decide, by decide, by decide, by decide, by decide, by decide, by decide, by decide, by decide, by decide, by decide, by decide⟩
theorem witness_moverDescriptorStart_2 : ∃ (s t : State) (r : RingId) (m : MovNo) (b : Bytes) (l : Nat), s.chanOf r = some m ∧ (s.ring r).state = .active ∧ (s.ring r).queued = true ∧ s.chans[m].run = none ∧ s.chans[m].st ≠ .halted ∧ b.length = 32 ∧ (s.canRead r.fn ((s.ring r).base + BitVec.ofNat 64 (32 * (s.ring r).dev.idx)) 32 = true) ∧ s.drains r.fn = false ∧ s.fnWorks r.fn = true ∧ s.holdRoom r.fn = true ∧ s.chans[m].st ≠ .paced ∧ s.lowerBell r = false ∧ (s.ring r).mv.paceEn = true ∧ s.level m r = (.is l, t) ∧ (s.ring r).mv.holds l = true :=
  ⟨wMovPaceOn, wMovPaceOn, mvRing, 0, (List.replicate 32 0), 0, by decide, by decide, by decide, by decide, by decide, by decide, by decide, by decide, by decide, by decide, by decide, by decide, by decide, by exact Prod.ext (by decide) rfl, by decide⟩
theorem witness_moverDescriptorEnd : ∃ (s : State) (m : MovNo) (r : RingId) (d : DescRun) (t : Status) (w : W32), s.transfer (.chan m) = some (r, d) ∧ d.ended = some (t, w) ∧ d.moving = none ∧ s.fnRuns r.fn = true :=
  ⟨wMovEnd0, 0, mvRing, dMovEnd0, .ok, 0, by decide, by decide, by decide, by decide⟩
theorem witness_paceLevelPoll : ∃ (s t : State) (m : MovNo) (r : RingId) (l : Nat), s.chans[m].ring = some r ∧ s.chans[m].st = .paced ∧ (s.ring r).mv.paceEn = true ∧ (s.ring r).mv.byWord = true ∧ s.fnWorks r.fn = true ∧ 2000 ≤ s.since s.chans[m].polledAt ∧ s.level m r = (.is l, t) ∧ (s.ring r).mv.frees l = true :=
  ⟨wMovPaced, tMovPaced, 0, mvRing, 0, by decide, by decide, by decide, by decide, by decide, by decide, by exact Prod.ext (by decide) rfl, by decide⟩
theorem witness_paceRelease : ∃ (s : State) (m : MovNo) (r : RingId), s.chans[m].ring = some r ∧ s.chans[m].st = .paced ∧ (s.ring r).mv.paceEn = false :=
  ⟨wMovPacedOff, 0, mvRing, by decide, by decide, by decide⟩
theorem witness_paceRelease_2 : ∃ (s t : State) (m : MovNo) (r : RingId) (l : Nat), s.chans[m].ring = some r ∧ s.chans[m].st = .paced ∧ (s.ring r).mv.paceEn = true ∧ (s.ring r).mv.byWord = false ∧ s.level m r = (.is l, t) ∧ (s.ring r).mv.frees l = true :=
  ⟨wMovPacedRing, wMovPacedRing, 0, mvRing, 0, by decide, by decide, by decide, by decide, by exact Prod.ext (by decide) rfl, by decide⟩
theorem witness_mvPaceWrite : ∃ (s : State) (r : RingId) (v : W32), s.open_ r.fn = true ∧ (s.ring r).isKind 2 = true ∧ (bitOf v.toNat 31 = false ∨ ((s.ring r).mv.low.toNat < (s.ring r).mv.high.toNat ∧ (bitsOf v.toNat 28 2 ≠ 2 ∨ (s.ring r).mv.lvl.toNat % 4 = 0))) :=
  ⟨wMovQueued, mvRing, 0x7FFFFFFF, by decide, by decide, by decide⟩
theorem witness_mvCtlReset : ∃ (s : State) (r : RingId) (m : MovNo), s.open_ r.fn = true ∧ (s.ring r).isKind 2 = true ∧ s.chanOf r = some m ∧ s.chans[m].st = .halted :=
  ⟨wMovHalted, mvRing, 0, by decide, by decide, by decide, by decide⟩
theorem witness_movChKill : ∃ (s : State) (m : MovNo), s.pfOpen = true ∧ s.chans[m].bound = true ∧ s.chans[m].st ≠ .halted :=
  ⟨wMovQueued, 0, by decide, by decide, by decide⟩
theorem witness_movQuotaWrite : ∃ (s : State) (p : Pid) (v : W32), s.pfOpen = true ∧ ((s.life p).st = .empty ∨ (s.life p).st = .configuring) :=
  ⟨wConf, 0, 0x3F, by decide, by decide⟩
theorem witness_movQuotaWrite_2 : ∃ (s : State) (v : W32), s.pfOpen = true ∧ (s.quotasHeld + min 32 (v.toNat % 64) ≤ 32) ∧ s.chansHeld .pf ≤ min 32 (v.toNat % 64) :=
  ⟨wPf, 32, by decide, by decide, by decide⟩

/-! ### Witnesses for ClocksQuadsAndRetention -/

theorem witness_clkTimeSlewWrite : ∃ (s : State) (v : W32), s.pfOpen = true :=
  ⟨wPf, 0xFFFF, by decide⟩
theorem witness_clkTimeSetGo : ∃ (s : State) (v : W32), s.pfOpen = true ∧ v.getLsbD 0 = true ∧ s.sec.tenantKeys = false :=
  ⟨wPf, 1, by decide, by decide, by decide⟩
theorem witness_clkSscWrite : ∃ (s : State) (v : W32), s.pfOpen = true :=
  ⟨wPf, 0xF, by decide⟩
theorem witness_millisecondBoundary : ∃ (s : State) (x : Samples), s.sled.stby = true ∧ s.pwr.lastMs < s.pwr.time.toNat / 1000000 :=
  ⟨wMs, xSamples, by decide, by decide⟩
theorem witness_accessWake : ∃ (s : State) (q : Quad), s.quads[q].owner.isSome = true ∧ s.quads[q].st.asleep = true ∧ s.quads[q].toward ≠ some .run ∧ s.sledUp = true :=
  ⟨wNapQuad, 0, by decide, by decide, by decide, by decide⟩
theorem witness_accessWakeIdle : ∃ (s : State) (p : Pid) (q : Quad) (t : Nat), s.quads[q].owner = some p ∧ s.quads[q].access = some t ∧ s.quads[q].st = .run ∧ s.quads[q].toward = none ∧ 10000 ≤ s.since t :=
  ⟨wWokenQuad, 0, 0, 0, by decide, by decide, by decide, by decide, by decide⟩
theorem witness_quadTransitionComplete : ∃ (s : State) (p : Pid) (q : Quad) (t : QState), s.quads[q].owner = some p ∧ s.quads[q].toward = some t :=
  ⟨wQuadGoes, 0, 0, .nap, by decide, by decide⟩
theorem witness_retentionEntry : ∃ (s : State) (t : Nat), s.pwr.retSince = some t ∧ s.mayRetain = true ∧ 10000000 ≤ s.since t :=
  ⟨wMayRetain, 0, by decide, by decide, by decide⟩
theorem witness_retentionExit : ∃ (s : State), s.pwr.retained = true ∧ s.pwr.retExit = none :=
  ⟨wRetained, by decide, by decide⟩
theorem witness_retentionExitComplete : ∃ (s : State) (t : Nat), s.pwr.retExit = some t :=
  ⟨wRetExit, 0, by decide⟩
theorem witness_clkRetCtlWrite : ∃ (s : State) (v : W32), s.pfOpen = true :=
  ⟨wPf, 1, by decide⟩

/-! ### Witnesses for FabricPortSettings -/

theorem witness_portEnable : ∃ (s : State) (a : PortNo), s.pfOpen = true ∧ s.ports[a].en = false :=
  ⟨(wPort pOff), 7, by decide, by decide⟩
theorem witness_portDisable : ∃ (s : State) (a : PortNo), s.pfOpen = true ∧ s.ports[a].en = true :=
  ⟨(wPort pOn), 7, by decide, by decide⟩
theorem witness_laneMaskWrite : ∃ (s : State) (a : PortNo) (b : BitVec 8), s.pfOpen = true ∧ s.ports[a].striped = false :=
  ⟨(wPort pOff), 7, 0xFF, by decide, by decide⟩
theorem witness_retrain : ∃ (s : State) (a : PortNo), s.pfOpen = true ∧ s.ports[a].st = .active :=
  ⟨(wPort pActive), 7, by decide, by decide⟩
theorem witness_portModuleReady : ∃ (s : State) (a : PortNo), s.sled.cages[a].present = true ∧ s.sled.cages[a].denied = false ∧ s.sled.cages[a].off = false ∧ s.ports[a].modReady = false :=
  ⟨wCage, 7, by decide, by decide, by decide, by decide⟩
theorem witness_fabLclr : ∃ (s : State) (a : PortNo) (b : BitVec 8), s.pfOpen = true :=
  ⟨(wPort pLocked), 7, 1, by decide⟩
theorem witness_fabLaneUeMaxWrite : ∃ (s : State) (a : PortNo) (v : W32), s.pfOpen = true :=
  ⟨(wPort pOff), 7, 0xFFFF, by decide⟩

/-! ### Witnesses for FabricPortTraining -/

theorem witness_trainingTimerExpire : ∃ (s : State) (a : PortNo) (n : Nat), trainNs s.ports[a].st = some n ∧ (n ≤ s.since s.ports[a].since ∨ s.ports[a].lockLost s.pwr.clk = true) :=
  ⟨(wPort pDetect), 7, 19800000, by decide, by decide⟩
theorem witness_backoffEnd : ∃ (s : State) (a : PortNo), s.ports[a].st = .backoff ∧ backoffNs s.ports[a].failN.toNat ≤ s.since s.ports[a].since :=
  ⟨(wPort pBackoff), 7, by decide, by decide⟩
theorem witness_partnerSignalSeen : ∃ (s : State) (a : PortNo), s.ports[a].st = .backoff ∧ 6 ≤ s.ports[a].count Lane.trainable :=
  ⟨(wPort pBackoff), 7, by decide, by decide⟩
theorem witness_detectLock : ∃ (s : State) (a : PortNo) (b : BitVec 8), s.ports[a].st = .detect ∧ 6 ≤ s.ports[a].among b :=
  ⟨(wPort pDetect), 7, 0x3F, by decide, by decide⟩
theorem witness_detectLock_2 : ∃ (s : State) (a : PortNo) (b : BitVec 8), s.ports[a].st = .detect ∧ s.ports[a].among b < 6 :=
  ⟨(wPort pDetect), 7, 0x1F, by decide, by decide⟩
theorem witness_tuneComplete : ∃ (s : State) (a : PortNo) (b : BitVec 8), s.ports[a].st = .tune ∧ 6 ≤ s.ports[a].among b :=
  ⟨(wPort pTune), 7, 0x3F, by decide, by decide⟩
theorem witness_alignComplete : ∃ (s : State) (a : PortNo) (b : BitVec 8), s.ports[a].st = .align ∧ 6 ≤ s.ports[a].among b :=
  ⟨(wPort pAlign), 7, 0x3F, by decide, by decide⟩

/-! ### Witnesses for FabricLanesAndReplay -/

theorem witness_laneLockLoss : ∃ (s : State) (a : PortNo) (l : LaneNo), (s.ports[a].lanes[l]).st = .active ∧ s.ports[a].striped = true :=
  ⟨(wPort pActive), 7, 7, by decide, by decide⟩
theorem witness_laneLockLoss_2 : ∃ (s : State) (a : PortNo) (l : LaneNo), ((s.ports[a].lanes[l]).st ≠ .active ∨ s.ports[a].striped = false) :=
  ⟨(wPort pTune), 7, 7, by decide⟩
theorem witness_partnerLaneNotice : ∃ (s : State) (a : PortNo) (l : LaneNo), (s.ports[a].lanes[l]).st = .active ∧ s.ports[a].striped = true :=
  ⟨(wPort pActive), 7, 7, by decide, by decide⟩
theorem witness_fecWindowEnd : ∃ (s : State) (a : PortNo) (u : Vector Nat 8) (n : Nat), s.ports[a].ueMax = 0 :=
  ⟨(wPort pActive0), 7, (Vector.replicate 8 9), 9, by decide⟩
theorem witness_fecWindowEnd_2 : ∃ (s : State) (a : PortNo) (u : Vector Nat 8) (n : Nat), s.ports[a].ueMax ≠ 0 :=
  ⟨(wPort pActive), 7, (Vector.replicate 8 9), 9, by decide⟩
theorem witness_restripeAgreed : ∃ (s : State) (a : PortNo), s.ports[a].st = .restripe :=
  ⟨(wPort pRestripe), 7, by decide⟩
theorem witness_restripeTimeout : ∃ (s : State) (a : PortNo), s.ports[a].st = .restripe ∧ 1500 ≤ s.since s.ports[a].since :=
  ⟨(wPort pRestripe), 7, by decide, by decide⟩
theorem witness_laneLockRegained : ∃ (s : State) (a : PortNo) (l : LaneNo), (s.ports[a].lanes[l]).st = .out :=
  ⟨(wPort pOut), 7, 7, by decide⟩
theorem witness_laneProbationEnd : ∃ (s : State) (a : PortNo) (l : LaneNo), (s.ports[a].lanes[l]).st = .probation ∧ s.ports[a].st = .active ∧ 10000000000 ≤ s.since (s.ports[a].lanes[l]).since ∧ 3 ≤ ((s.ports[a].lanes[l]).recent s.pwr.time.toNat).length :=
  ⟨(wPort pProb3), 7, 7, by decide, by decide, by decide, by decide⟩
theorem witness_laneProbationEnd_2 : ∃ (s : State) (a : PortNo) (l : LaneNo), (s.ports[a].lanes[l]).st = .probation ∧ s.ports[a].st = .active ∧ 10000000000 ≤ s.since (s.ports[a].lanes[l]).since ∧ ((s.ports[a].lanes[l]).recent s.pwr.time.toNat).length < 3 :=
  ⟨(wPort pProb), 7, 7, by decide, by decide, by decide, by decide⟩
theorem witness_replayRequest : ∃ (s : State) (a : PortNo) (n : Nat), s.ports[a].st = .active :=
  ⟨(wPort pActive), 7, 0, by decide⟩
theorem witness_ackTimeout : ∃ (s : State) (a : PortNo), s.ports[a].st = .active ∧ s.ports[a].retry ≠ [] ∧ 10000 ≤ s.since s.ports[a].ackAt :=
  ⟨(wPort pRetry), 7, by decide, by decide, by decide⟩

/-! ### Witnesses for FabricNeighboursAndManager -/

theorem witness_descriptorReceived : ∃ (s : State) (a : PortNo) (d : Bytes), s.ports[a].st = .active ∧ s.refusal d = none :=
  ⟨(wPort pActive), 7, dscOk, by decide, by exact dscOk_taken _ (by decide)⟩
theorem witness_descriptorReceived_2 : ∃ (s : State) (a : PortNo) (d : Bytes), s.ports[a].st = .exchange ∧ 6 ≤ s.ports[a].held ∧ s.refusal d = none :=
  ⟨(wPort pExchange), 7, dscOk, by decide, by decide, by exact dscOk_taken _ (by decide)⟩
theorem witness_descriptorReceived_3 : ∃ (s : State) (a : PortNo) (d : Bytes) (b : BitVec 4), s.ports[a].st = .exchange ∧ s.refusal d = some b :=
  ⟨(wPort pExchange), 7, [], 1, by decide, by decide⟩
theorem witness_descriptorSend : ∃ (s : State) (a : PortNo), (s.ports[a].st = .exchange ∨ s.ports[a].st = .active) :=
  ⟨(wPort pExchange), 7, by decide⟩
theorem witness_candidateForget : ∃ (s : State) (a : PortNo), s.ports[a].nbr.cand.isSome = true ∧ 300000000 ≤ s.since s.ports[a].nbr.candAt :=
  ⟨(wPort pCand), 7, by decide, by decide⟩
theorem witness_fmStable : ∃ (s : State), s.net.best.isSome = true ∧ s.net.stable = false ∧ 200000000 ≤ s.since s.net.bestAt :=
  ⟨wFmBest, by decide, by decide, by decide⟩
theorem witness_fabFmCtlWrite : ∃ (s : State) (v : W32), s.pfOpen = true :=
  ⟨wPf, 0x800000FF, by decide⟩
theorem witness_remoteAccess : ∃ (s : State) (a : W64) (off : Nat) (v : W32) (b : Bytes), s.boot.hostReady = true ∧ s.boot.form = .normal ∧ s.net.remoteEn = true ∧ a ≠ 0 ∧ a = s.net.fmSerial ∧ 0x308000 ≤ off ∧ off < 0x320000 ∧ (off % 4 = 0) :=
  ⟨wRemote, 0x1234, 0x31FFFC, 5, [], by decide, by decide, by decide, by decide, by decide, by decide, by decide, by decide⟩
theorem witness_remoteAccess_2 : ∃ (s : State) (a : W64) (off : Nat) (v : W32) (b : Bytes), s.boot.hostReady = true ∧ s.boot.form = .normal ∧ s.net.remoteEn = true ∧ a ≠ 0 ∧ a = s.net.fmSerial ∧ 0x308000 ≤ off ∧ off < 0x320000 ∧ (off % 4 = 0) :=
  ⟨wRemote, 0x1234, 0x308000, 5, [], by decide, by decide, by decide, by decide, by decide, by decide, by decide, by decide⟩
theorem witness_fabApply : ∃ (s : State) (v : W32), s.pfOpen = true ∧ v = s.net.gen + 1 ∧ s.net.staged.valid = true :=
  ⟨wPf, 1, by decide, by decide, by decide⟩
theorem witness_fabApply_2 : ∃ (s : State) (v : W32), s.pfOpen = true ∧ (v ≠ s.net.gen + 1 ∨ s.net.staged.valid = false) :=
  ⟨wPf, 0, by decide, by decide⟩
theorem witness_nodeLostDeclare : ∃ (s : State) (n : W16) (x : (W16 × Nat × Nat)) (i : Fin 64), (s.net.unreach.find? (·.1 = n) = some x) ∧ ((List.finRange 64).find? (fun i => !s.net.staged.lostValid.getLsbD i.val) = some i) ∧ s.net.isFm = true ∧ s.net.hostFm = false ∧ (if s.net.lostHold = 0 then 100 else s.net.lostHold.toNat) * 1000000 ≤ s.since x.2.2 ∧ s.net.staged.lostList.contains n = false :=
  ⟨wNodeGone, 5, (5,3,0), 0, by decide, by decide, by decide, by decide, by decide, by decide⟩

/-! ### Witnesses for FabricPacketsAndGroups -/

theorem witness_fabricPacketReceive : ∃ (s : State) (a : PortNo) (n : Nat) (h : PacketHdr), s.ports[a].st = .active :=
  ⟨(wPort pActive), 7, 0, pkt1, by decide⟩
theorem witness_fabricPacketReceive_2 : ∃ (s : State) (a : PortNo) (n : Nat) (h : PacketHdr), s.ports[a].st = .active ∧ n = s.ports[a].rxNext :=
  ⟨(wPort pActive), 7, 0, pkt1, by decide, by decide⟩
theorem witness_fabricPacketReceive_3 : ∃ (s : State) (a : PortNo) (n : Nat) (h : PacketHdr), s.ports[a].st = .active ∧ n < s.ports[a].rxNext :=
  ⟨(wPort pActive5), 7, 4, pkt1, by decide, by decide⟩
theorem witness_fabricPacketReceive_4 : ∃ (s : State) (a : PortNo) (n : Nat) (h : PacketHdr), s.ports[a].st = .active ∧ s.ports[a].rxNext < n :=
  ⟨(wPort pActive5), 7, 6, pkt1, by decide, by decide⟩
theorem witness_e2eResend : ∃ (s : State) (k : Nat) (e : E2E), s.net.e2e[k]? = some e ∧ 1000000 ≤ s.since e.sentAt ∧ s.net.resend ≠ onesOf 32 :=
  ⟨wE2e, 0, e2e1, by decide, by decide, by decide⟩
theorem witness_e2eTimeout : ∃ (s : State) (k : Nat) (e : E2E), s.net.e2e[k]? = some e ∧ (s.net.tmoMs * 1000000 ≤ s.since e.firstAt) :=
  ⟨wE2e, 0, e2e1, by decide, by decide⟩
theorem witness_fabGrpLoad : ∃ (s : State) (v : W32) (p : Pid) (b : Bytes), s.pfOpen = true ∧ bitsOf v.toNat 30 2 = 1 ∧ s.net.grpBusy = false ∧ v.getLsbD 24 = false ∧ s.lost .pf = false ∧ 32 ≤ b.length ∧ s.recordOk b = true ∧ leAt b 8 1 = p.val ∧ (s.life p).st.holds = true ∧ leAt b 14 2 = (s.life p).slice.toNat ∧ (s.prt p).gx.groups.toList.all Option.isSome = false ∧ s.groupOf p (BitVec.ofNat 16 (leAt b 6 2)) = none :=
  ⟨wGrpLoad, 0x40000000, 0, grpRec, by decide, by decide, by decide, by decide, by decide, by decide, by decide +kernel, by decide, by decide, by decide, by decide, by decide⟩
theorem witness_fabGrpRemove : ∃ (s : State) (v : W32) (g : Group) (p : Pid), s.pfOpen = true ∧ bitsOf v.toNat 30 2 = 2 ∧ s.net.grpBusy = false ∧ bitsOf v.toNat 16 4 = p.val ∧ s.groupOf p (v.truncate 16) = some g :=
  ⟨(wFab opGx), 0x80000001, grp1, 0, by decide, by decide, by decide, by decide, by decide⟩

/-! ### Witnesses for SuppliesAndPowerFailure -/

theorem witness_pllUnlock : ∃ (s : State) (a : Fin 48), s.pllLock a.val = true ∧ a.val < 28 :=
  ⟨wRun, 4, by decide, by decide⟩
theorem witness_pllUnlock_2 : ∃ (s : State), s.pllLock 28 = true :=
  ⟨wRun, by decide⟩
theorem witness_pllUnlock_3 : ∃ (s : State) (a : Fin 48), s.pllLock a.val = true ∧ 32 ≤ a.val :=
  ⟨(wPort pActive), 47, by decide, by decide⟩
theorem witness_thermtrip : ∃ (s : State), s.pwr.pkgUp = true :=
  ⟨wPf, by decide⟩
theorem witness_supplyFault : ∃ (s : State) (a : Fin 14), s.sled.stby = true ∧ a.val < s.sled.railsUp ∧ s.sled.faultBoot = false :=
  ⟨wPf, 13, by decide, by decide, by decide⟩
theorem witness_powerFailWarn : ∃ (s : State) (a : W16), s.pwr.pkgUp = true ∧ s.pwr.pfail = false :=
  ⟨wPf, 0x1234, by decide, by decide⟩
theorem witness_powerFailRecover : ∃ (s : State), s.pwr.pkgUp = true ∧ s.pwr.pfail = true ∧ s.since s.pwr.pfailAt < 4000000 :=
  ⟨wPfail0, by decide, by decide, by decide⟩
theorem witness_powerFailShutdown : ∃ (s : State), s.pwr.pkgUp = true ∧ s.pwr.pfail = true ∧ 4000000 ≤ s.since s.pwr.pfailAt :=
  ⟨wPfail4, by decide, by decide, by decide⟩
theorem witness_inputGood : ∃ (s t : State), s.sled.stby = true ∧ s.sled.inputGood = false ∧ s.sled.therm = false ∧ t = { s with sled := { s.sled with inputGood := true, prsnt := true } }.powerUp :=
  ⟨State.reset, tInputGood, by decide, by decide, by decide, by exact rfl⟩
theorem witness_standbyLoss : ∃ (s : State), s.sled.stby = true :=
  ⟨wPf, by decide⟩
theorem witness_standbyApply : ∃ (s : State), s.sled.stby = false :=
  ⟨wStbyOff, by decide⟩

/-! ### Witnesses for ResetScopesAct -/

theorem witness_tntCoreRst : ∃ (s : State) (p : Pid) (v : W32) (a : Core), s.vfFull p = true ∧ (v.toNat / 64 = 0xC3 * 2 ^ 18) ∧ (s.absCore p (v.toNat % 64) = some a) :=
  ⟨wRun, 0, 0xC3000003, 3, by decide, by decide, by decide⟩
theorem witness_sysRstCore : ∃ (s : State) (p : Pid) (k : Core) (c : RelCore), s.quads[quadOf k].owner = some p ∧ ((List.finRange 64).find? (fun r => s.absCore p r.val = some k) = some c) ∧ s.pfServes 0x100 = true :=
  ⟨wRun, 0, 3, 3, by decide, by decide, by decide⟩
theorem witness_sysRstPartition : ∃ (s : State) (p : Pid), s.pfServes 0x100 = true :=
  ⟨wRun, 0, by decide⟩
theorem witness_pwdReset : ∃ (s : State) (p : Pid) (v : W32), s.vfFull p = true ∧ (v.toNat % 65536 = 0xD1E5) :=
  ⟨wRun, 0, 0xFFFFD1E5, by decide, by decide⟩
theorem witness_sysRstWarm : ∃ (s : State), s.pfServes 0x100 = true :=
  ⟨wRun, by decide⟩
theorem witness_sysRstCold : ∃ (s : State), s.pfServes 0x100 = true :=
  ⟨wRun, by decide⟩

/-! ### Witnesses for WatchdogsServeAndExpire -/

theorem witness_watchdogWarning : ∃ (s : State), s.dogAwake .pf = true ∧ s.wdg.st = .running ∧ s.wdg.warnMs ≠ 0 ∧ (s.wdg.periodMs - s.wdg.warnMs ≤ s.dogMs .pf) :=
  ⟨wDogLate, by decide, by decide, by decide, by decide⟩
theorem witness_watchdogWarning_2 : ∃ (s : State) (p : Pid), s.dogAwake (.vf p) = true ∧ (s.prt p).pwd.st = .running ∧ (s.prt p).pwd.warnMs ≠ 0 ∧ ((s.prt p).pwd.periodMs - (s.prt p).pwd.warnMs ≤ s.dogMs (.vf p)) :=
  ⟨wPwdLate, 0, by decide, by decide, by decide, by decide⟩
theorem witness_deviceWatchdogExpire : ∃ (s : State), s.dogExpires .pf = true :=
  ⟨wDogLate, by decide⟩
theorem witness_partitionWatchdogExpire : ∃ (s : State) (p : Pid), s.dogExpires (.vf p) = true :=
  ⟨wPwdLate, 0, by decide⟩
theorem witness_mcWatchdogExpire : ∃ (s : State), s.pwr.pkgUp = true ∧ 3 ≤ s.boot.milestone.toNat :=
  ⟨wPf, by decide, by decide⟩
theorem witness_watchdogServe : ∃ (s : State) (fn : Fn) (v : W32), s.dogOpen fn = true ∧ ((s.dog fn).st = .running ∨ (s.dog fn).st = .warning) ∧ s.armLapsed fn = false ∧ (v.toNat % 65536 = 0xA5E1) :=
  ⟨wDogLate, .pf, 0xFFFFA5E1, by decide, by decide, by decide, by decide⟩
theorem witness_watchdogServe_2 : ∃ (s : State) (fn : Fn) (v : W32) (t : Nat), s.dogOpen fn = true ∧ ((s.dog fn).st = .running ∨ (s.dog fn).st = .warning) ∧ s.armLapsed fn = false ∧ (v.toNat % 65536 = 0x1E5A) ∧ (s.dog fn).armedAt = some t :=
  ⟨wDogArmed, .pf, 0xFFFF1E5A, (10^12), by decide, by decide, by decide, by decide, by decide⟩
theorem witness_watchdogServe_3 : ∃ (s : State) (fn : Fn) (v : W32), s.dogOpen fn = true ∧ ((s.dog fn).st = .running ∨ (s.dog fn).st = .warning) ∧ s.armLapsed fn = false ∧ (v.toNat % 65536 ≠ 0xA5E1) ∧ (v.toNat % 65536 ≠ 0x1E5A ∨ (s.dog fn).armedAt = none) :=
  ⟨wDogLate, .pf, 0x1E5A, by decide, by decide, by decide, by decide, by decide⟩
theorem witness_serveArmTimeout : ∃ (s : State) (fn : Fn), s.armLapsed fn = true :=
  ⟨wDogLapsed, .pf, by decide⟩
theorem witness_watchdogEnableWrite : ∃ (s : State) (fn : Fn) (v : W32), s.dogOpen fn = true ∧ (s.dog fn).lock = false ∧ v.getLsbD 31 = false :=
  ⟨wDogLate, .pf, 0x7FFFFFFF, by decide, by decide, by decide⟩
theorem witness_watchdogEnableWrite_2 : ∃ (s : State) (fn : Fn) (v : W32), s.dogOpen fn = true ∧ (s.dog fn).lock = false ∧ v.getLsbD 31 = true ∧ (s.dog fn).st = .disabled :=
  ⟨wPf, .pf, 0x80000000, by decide, by decide, by decide, by decide⟩
theorem witness_wdgLock : ∃ (s : State), s.pfServes 0x30000 = true :=
  ⟨wPf, by decide⟩

/-! ### Witnesses for HostLossAndReattach -/

theorem witness_tntAttachGo : ∃ (s : State) (p : Pid), s.vfAttach p = true ∧ s.exitRetention.attachResult p = 1 :=
  ⟨wDetached, 0, by decide, by decide⟩
theorem witness_lnkOpAttach : ∃ (s : State) (v : W32) (t : State), s.pfOpen = true ∧ v.getLsbD 0 = true ∧ s.lost .pf = true ∧ (v.getLsbD 1 = true ∨ s.exitRetention.op.fn.loss.keepOk = false) ∧ t = { s.exitRetention with link := { s.exitRetention.link with attachSts := 5, opStopAt := none }, wdg := s.exitRetention.wdg.resume s.exitRetention.pwr.time.toNat }.attachFn .pf true :=
  ⟨(wOpLost false), 1, tAttachReset, by decide, by decide, by decide, by decide, by exact rfl⟩
theorem witness_lnkOpAttach_2 : ∃ (s : State) (v : W32) (t : State), s.pfOpen = true ∧ v.getLsbD 0 = true ∧ s.lost .pf = true ∧ v.getLsbD 1 = false ∧ s.exitRetention.op.fn.loss.keepOk = true ∧ (t = ({ s.exitRetention with link := { s.exitRetention.link with attachSts := 1, opStopAt := none }, wdg := s.exitRetention.wdg.resume s.exitRetention.pwr.time.toNat }.modLoss .pf fun l => { l with lost := false, rebased := false, mvDropped := 0, cmdDropped := 0 }).post .pf ⟨0x0602, 16, 0, 0⟩) :=
  ⟨(wOpLost true), 1, tAttachKeep, by decide, by decide, by decide, by decide, by decide, by exact rfl⟩
theorem witness_lnkOpAttach_3 : ∃ (s : State) (v : W32), s.pfOpen = true ∧ v.getLsbD 0 = true ∧ s.lost .pf = false :=
  ⟨wPf, 1, by decide, by decide, by decide⟩
theorem witness_pfHeartbeatTimeout : ∃ (s : State), s.hbOver .pf = true :=
  ⟨wHb, by decide⟩
theorem witness_vfHeartbeatTimeout : ∃ (s : State) (p : Pid), s.hbOver (.vf p) = true ∧ ((s.life p).st = .running ∨ (s.life p).st = .napping ∨ (s.life p).st = .suspended) :=
  ⟨wHbV, 0, by decide, by decide⟩
theorem witness_heartbeatTmoWrite : ∃ (s : State) (fn : Fn) (v : W32), s.pfOpen = true :=
  ⟨wPf, .pf, 0xFFFF, by decide⟩
theorem witness_vfFlr : ∃ (s : State) (p : Pid), s.vfPresent p = true :=
  ⟨wRun, 0, by decide⟩
theorem witness_vfBusMasterDisable : ∃ (s : State) (p : Pid), s.vfPresent p = true :=
  ⟨wRun, 0, by decide⟩
theorem witness_vfD3hot : ∃ (s : State) (p : Pid), s.vfPresent p = true :=
  ⟨wRun, 0, by decide⟩
theorem witness_vfRemoved : ∃ (s : State) (p : Pid), s.vfPresent p = true :=
  ⟨wRun, 0, by decide⟩
theorem witness_vfEnable : ∃ (s : State) (i : Nat), s.pfOpen = true ∧ i ≤ 16 ∧ s.link.vfEnable = false :=
  ⟨wNoVf, 16, by decide, by decide, by decide⟩
theorem witness_pfFlr : ∃ (s : State), s.pfOpen = true :=
  ⟨wPf, by decide⟩
theorem witness_pfBusMasterDisable : ∃ (s : State), s.pfOpen = true :=
  ⟨wPf, by decide⟩
theorem witness_pfD3hot : ∃ (s : State), s.pfOpen = true :=
  ⟨wPf, by decide⟩
theorem witness_operatorStopTimeout : ∃ (s : State) (t : Nat), s.link.opStopAt = some t ∧ s.lost .pf = true ∧ 100000000 ≤ s.since t :=
  ⟨wOpStop, 0, by decide, by decide, by decide⟩

/-! ### Witnesses for HostLinkEvents -/

theorem witness_perstNDeassert : ∃ (s : State) (b : Bool), s.link.perst = true :=
  ⟨State.reset, true, by decide⟩
theorem witness_hotReset : ∃ (s : State), s.link.up = true :=
  ⟨wPf, by decide⟩
theorem witness_linkDisable : ∃ (s : State), s.link.up = true :=
  ⟨wPf, by decide⟩
theorem witness_surpriseLinkDown : ∃ (s : State), s.link.up = true :=
  ⟨wPf, by decide⟩
theorem witness_linkUp : ∃ (s : State) (i j : Nat) (b : Bool), s.link.training = true ∧ linkForm i j = true :=
  ⟨wTraining, 16, 6, true, by decide, by decide⟩
theorem witness_linkChanged : ∃ (s : State) (i j : Nat), s.link.up = true ∧ linkForm i j = true ∧ (i ≠ s.link.width ∨ j ≠ s.link.rate) :=
  ⟨wPf, 8, 1, by decide, by decide, by decide⟩
theorem witness_ideInsecure : ∃ (s : State) (a b : Bool), s.sec.ide = true ∧ (a = true ∨ b = true) ∧ s.link.ideReq = true :=
  ⟨wIde, true, false, by decide, by decide, by decide⟩
theorem witness_hdmDecoderCommit : ∃ (s : State) (a : W64), s.pfOpen = true ∧ s.link.cxl = true ∧ (a.toNat % 2 ^ 28 = 0) :=
  ⟨wCxl, 0x10000000, by decide, by decide, by decide⟩

/-! ### Witnesses for BootMilestonesInOrder -/

theorem witness_bootMilestone : ∃ (s : State) (b : BootInput), s.sled.stby = true ∧ s.boot.hostReady = false ∧ b.supplyOk = false :=
  ⟨State.reset, bIn0, by decide, by decide, by decide⟩
theorem witness_bootMilestone_2 : ∃ (s : State) (b : BootInput), s.sled.stby = true ∧ s.boot.hostReady = false ∧ b.supplyOk = true ∧ s.boot.milestone.toNat = 0 :=
  ⟨(wMile 0), bIn1, by decide, by decide, by decide, by decide⟩
theorem witness_bootMilestone_3 : ∃ (s : State) (b : BootInput), s.sled.stby = true ∧ s.boot.hostReady = false ∧ b.supplyOk = true ∧ s.boot.milestone.toNat = 1 ∧ s.pwr.pkgUp = true ∧ s.sled.inputGood = true ∧ s.sled.railsUp = 14 ∧ s.sled.therm = false :=
  ⟨(wMile 1), bIn1, by decide, by decide, by decide, by decide, by decide, by decide, by decide, by decide⟩
theorem witness_bootMilestone_4 : ∃ (s : State) (b : BootInput), s.sled.stby = true ∧ s.boot.hostReady = false ∧ b.supplyOk = true ∧ s.boot.milestone.toNat = 2 :=
  ⟨(wMile 2), bIn1, by decide, by decide, by decide, by decide⟩
theorem witness_bootMilestone_5 : ∃ (s : State) (b : BootInput), s.sled.stby = true ∧ s.boot.hostReady = false ∧ b.supplyOk = true ∧ s.boot.milestone.toNat = 3 :=
  ⟨(wMile 3), bIn1, by decide, by decide, by decide, by decide⟩
theorem witness_bootMilestone_6 : ∃ (s : State) (b : BootInput), s.sled.stby = true ∧ s.boot.hostReady = false ∧ b.supplyOk = true ∧ s.boot.milestone.toNat = 4 :=
  ⟨(wMile 4), bIn1, by decide, by decide, by decide, by decide⟩
theorem witness_bootMilestone_7 : ∃ (s : State) (b : BootInput), s.sled.stby = true ∧ s.boot.hostReady = false ∧ b.supplyOk = true ∧ s.boot.milestone.toNat = 5 :=
  ⟨(wMile 5), bIn1, by decide, by decide, by decide, by decide⟩
theorem witness_bootMilestone_8 : ∃ (s : State) (b : BootInput), s.sled.stby = true ∧ s.boot.hostReady = false ∧ b.supplyOk = true ∧ s.boot.milestone.toNat = 6 :=
  ⟨(wMile 6), bIn1, by decide, by decide, by decide, by decide⟩
theorem witness_bootMilestone_9 : ∃ (s : State) (b : BootInput), s.sled.stby = true ∧ s.boot.hostReady = false ∧ b.supplyOk = true ∧ s.boot.milestone.toNat = 7 :=
  ⟨(wMile 7), bIn1, by decide, by decide, by decide, by decide⟩
theorem witness_bootMilestone_10 : ∃ (s : State) (b : BootInput), s.sled.stby = true ∧ s.boot.hostReady = false ∧ b.supplyOk = true ∧ s.boot.milestone.toNat = 8 :=
  ⟨(wMile 8), bIn1, by decide, by decide, by decide, by decide⟩
theorem witness_bootMilestone_11 : ∃ (s : State) (b : BootInput), s.sled.stby = true ∧ s.boot.hostReady = false ∧ b.supplyOk = true ∧ s.boot.milestone.toNat = 9 :=
  ⟨(wMile 9), bIn1, by decide, by decide, by decide, by decide⟩

/-! ### Witnesses for FlashUpdateCommands -/

theorem witness_dlBegin : ∃ (s : State) (i : Fin 3) (m : FlashIo) (t : State), s.pfServes 0x40000 = true ∧ s.flash.pldm = .idle ∧ s.pwr.pfail = false ∧ i ≠ slotRegion s.flash.js.active ∧ s.flash.runSlot ≠ some i ∧ s.flash.js.pending = none ∧ s.append (.slotEmpty i) m = (t, true) :=
  ⟨wFls, 2, .ok, tFlsBegin, by decide, by decide, by decide, by decide, by decide, by decide, by first | exact Prod.ext rfl (by decide) | exact Prod.ext rfl rfl⟩
theorem witness_dlWrite : ∃ (s : State) (i : Fin 3) (m : FlashIo) (d : Bytes) (x : Download), s.pfServes 0x40000 = true ∧ s.flash.pldm = .idle ∧ s.pwr.pfail = false ∧ s.flash.loading i = some x ∧ x.verified = false ∧ badChunk s.flash.dlLen.toNat (512 ≤ x.fill && x.fill + s.flash.dlLen.toNat = 512 + bodyLen s.flash.images[i]) = false ∧ (512 ≤ x.fill && 512 + bodyLen s.flash.images[i] < x.fill + s.flash.dlLen.toNat) = false ∧ (x.fill + s.flash.dlLen.toNat ≤ regionSize i) ∧ s.lost .pf = false ∧ d.length = s.flash.dlLen.toNat ∧ m ≠ .fails :=
  ⟨wFlsDl, 1, .ok, (List.replicate 256 7), dl0, by decide, by decide, by decide, by decide, by decide, by decide, by decide, by decide, by decide, by decide, by decide⟩
theorem witness_verify : ∃ (s : State) (i : Fin 3) (m : FlashIo) (x : Download), s.pfServes 0x40000 = true ∧ s.flash.pldm = .idle ∧ s.pwr.pfail = false ∧ s.flash.loading i = some x ∧ x.verified = false ∧ x.fill = 512 + bodyLen s.flash.images[i] :=
  ⟨wFlsAll, 1, .ok, dlAll, by decide, by decide, by decide, by decide, by decide, by decide⟩
theorem witness_activate : ∃ (s : State) (i : Fin 3) (m : FlashIo) (x : Download) (t : State), s.pfServes 0x40000 = true ∧ s.flash.pldm = .idle ∧ s.pwr.pfail = false ∧ s.flash.loading i = some x ∧ x.verified = true ∧ i ≠ 2 ∧ (s.append (.activate i (imageEpoch s.flash.images[i]) (imageVer s.flash.images[i]) (s.flash.trialCtl &&& 0x8000FFFF) 0 (imageDigest s.flash.images[i])) m = (t, true)) :=
  ⟨wFlsVer, 1, .ok, dlVer, tFlsVer, by decide, by decide, by decide, by decide, by decide, by decide, by first | exact Prod.ext rfl (by decide) | exact Prod.ext rfl rfl⟩
theorem witness_activate_2 : ∃ (s : State) (m : FlashIo) (x : Download) (t : State), s.pfServes 0x40000 = true ∧ s.flash.pldm = .idle ∧ s.pwr.pfail = false ∧ s.flash.loading 2 = some x ∧ x.verified = true ∧ s.append (.activate 2 (imageEpoch s.flash.images[(2 : Fin 3)]) (imageVer s.flash.images[(2 : Fin 3)]) 0 (min (s.flash.js.slots[slotRegion s.flash.js.active]).epoch.toNat (imageEpoch s.flash.images[(2 : Fin 3)]).toNat) (imageDigest s.flash.images[(2 : Fin 3)])) m = (t, true) :=
  ⟨wFlsRec, .ok, dlRec, tFlsRec, by decide, by decide, by decide, by decide, by decide, by first | exact Prod.ext rfl (by decide) | exact Prod.ext rfl rfl⟩
theorem witness_restart : ∃ (s : State) (a : BitVec 2), s.pfServes 0x40000 = true ∧ s.flash.pldm = .idle ∧ s.pwr.pfail = false :=
  ⟨wFls, 0, by decide, by decide, by decide⟩
theorem witness_confirm : ∃ (s : State) (a : BitVec 2) (m : FlashIo) (b : Fin 2) (t : State), s.pfServes 0x40000 = true ∧ s.flash.pldm = .idle ∧ s.pwr.pfail = false ∧ s.flash.booted = 3 ∧ s.flash.js.pending = some b ∧ s.append (.confirm b (s.flash.js.target b)) m = (t, true) :=
  ⟨wTrial, 0, .ok, 1, tConfirm, by decide, by decide, by decide, by decide, by decide, by first | exact Prod.ext rfl (by decide) | exact Prod.ext rfl rfl⟩
theorem witness_rollback : ∃ (s : State) (a : BitVec 2) (m : FlashIo) (b : Fin 2) (t : State), s.pfServes 0x40000 = true ∧ s.flash.pldm = .idle ∧ s.pwr.pfail = false ∧ s.flash.js.pending = some b ∧ s.append (.rollback b 4) m = (t, true) :=
  ⟨wTrial, 0, .ok, 1, tRollback, by decide, by decide, by decide, by decide, by first | exact Prod.ext rfl (by decide) | exact Prod.ext rfl rfl⟩
theorem witness_abort : ∃ (s : State) (i : Fin 3) (x : Download), s.pfServes 0x40000 = true ∧ s.flash.pldm = .idle ∧ s.pwr.pfail = false ∧ s.flash.loading i = some x :=
  ⟨wFlsDl, 1, dl0, by decide, by decide, by decide, by decide⟩
theorem witness_trialTimerExpire : ∃ (s : State) (m : FlashIo) (t : Nat), s.flash.trialAt = some t ∧ (s.flash.js.trial.toNat % 65536 ≠ 0) ∧ ((s.flash.js.trial.toNat % 65536) * 1000000000 ≤ s.since t) ∧ s.pwr.pfail = false :=
  ⟨wTrial, .ok, 0, by decide, by decide, by decide, by decide⟩
theorem witness_flsSeal : ∃ (s : State) (v : W32) (t : Nat), s.pfServes 0x40000 = true ∧ (v.toNat % 65536 = 0x5EA1) ∧ s.flash.js.pending = none ∧ s.pwr.pfail = false ∧ s.flash.sealAt = some t ∧ s.since t ≤ 10000000 :=
  ⟨wSealed, 0xFFFF5EA1, (10^12), by decide, by decide, by decide, by decide, by decide, by decide⟩
theorem witness_flsSeal_2 : ∃ (s : State) (v : W32), s.pfServes 0x40000 = true ∧ (v.toNat % 65536 = 0x5EA1) ∧ s.flash.js.pending = none ∧ s.pwr.pfail = false ∧ s.flash.sealAt = none :=
  ⟨wFls, 0xFFFF5EA1, by decide, by decide, by decide, by decide, by decide⟩

/-! ### Witnesses for ConfigurationStoreEdits -/

theorem witness_flsCfgPut : ∃ (s : State) (a : W16) (m : FlashIo) (t : State), s.pfServes 0x40000 = true ∧ s.pwr.pfail = false ∧ cfgWritable a.toNat = true ∧ 0 < s.flash.cfgLen.toNat ∧ s.flash.cfgLen.toNat ≤ 1024 ∧ (CfgRec.mk a (s.flash.cfgBuf.toList.take s.flash.cfgLen.toNat)).wrongLen = false ∧ (storeLen (s.flash.store.filter (fun x => !(x.typ = a && x.key = (CfgRec.mk a (s.flash.cfgBuf.toList.take s.flash.cfgLen.toNat)).key)) ++ [CfgRec.mk a (s.flash.cfgBuf.toList.take s.flash.cfgLen.toNat)]) ≤ 4 * 2 ^ 20 - 64) ∧ (s.rewrite (s.flash.store.filter (fun x => !(x.typ = a && x.key = (CfgRec.mk a (s.flash.cfgBuf.toList.take s.flash.cfgLen.toNat)).key)) ++ [CfgRec.mk a (s.flash.cfgBuf.toList.take s.flash.cfgLen.toNat)]) m = (t, true)) :=
  ⟨wCfgPut, 0x8000, .ok, tCfgPut, by decide, by decide, by decide, by decide, by decide, by decide, by decide, by first | exact Prod.ext rfl (by decide) | exact Prod.ext rfl rfl⟩
theorem witness_flsCfgDel : ∃ (s : State) (a : W16) (m : FlashIo) (t : State), s.pfServes 0x40000 = true ∧ s.pwr.pfail = false ∧ cfgWritable a.toNat = true ∧ (s.flash.store.any (fun x => x.typ = a && (x.key = none || x.key = some (s.flash.cfgKey.toNat % 16))) = true) ∧ (storeLen (s.flash.store.filter fun x => !(x.typ = a && (x.key = none || x.key = some (s.flash.cfgKey.toNat % 16)))) ≤ 4 * 2 ^ 20 - 64) ∧ (s.rewrite (s.flash.store.filter fun x => !(x.typ = a && (x.key = none || x.key = some (s.flash.cfgKey.toNat % 16)))) m = (t, true)) :=
  ⟨wCfgDel, 0x8000, .ok, tCfgDel, by decide, by decide, by decide, by decide, by decide, by first | exact Prod.ext rfl (by decide) | exact Prod.ext rfl rfl⟩
theorem witness_flsCfgRead : ∃ (s : State) (i : W16), s.pfServes 0x40000 = true ∧ s.flash.store[i.toNat]? = none :=
  ⟨wFls, 0xFFFF, by decide, by decide⟩
theorem witness_flsCfgRead_2 : ∃ (s : State) (i : W16) (r : CfgRec), s.pfServes 0x40000 = true ∧ s.flash.store[i.toNat]? = some r :=
  ⟨wCfgDel, 0, cfgRec1, by decide, by decide⟩

/-! ### Witnesses for PldmFirmwareUpdate -/

theorem witness_queryDeviceIdentifiers : ∃ (s : State), s.pldmUp = true :=
  ⟨wFls, by decide⟩
theorem witness_getFirmwareParameters : ∃ (s : State), s.pldmUp = true :=
  ⟨wFls, by decide⟩
theorem witness_getStatus : ∃ (s : State), s.pldmUp = true :=
  ⟨wFls, by decide⟩
theorem witness_requestUpdate : ∃ (s : State), s.pldmUp = true ∧ s.flash.pldm = .idle ∧ s.flash.dl = none ∧ s.pwr.pfail = false :=
  ⟨wFls, by decide, by decide, by decide, by decide⟩
theorem witness_passComponentTable : ∃ (s : State), s.pldmUp = true ∧ s.flash.pldm = .requested :=
  ⟨(wPldm .requested), by decide, by decide⟩
theorem witness_updateComponent : ∃ (s : State) (a : W16) (m : FlashIo) (i : Fin 3) (t : State), s.pldmUp = true ∧ s.flash.pldm = .table ∧ s.flash.component a = some i ∧ s.pwr.pfail = false ∧ s.dlBegin i true m = (t, 0) :=
  ⟨(wPldm .table), 2, .ok, 2, tPldmBegin, by decide, by decide, by decide, by decide, by first | exact Prod.ext rfl (by decide) | exact Prod.ext rfl rfl⟩
theorem witness_firmwareDataReceived : ∃ (s : State) (d : Bytes) (m : FlashIo) (x : Download) (t : State) (y : Download), s.pldmUp = true ∧ s.flash.pldm = .component ∧ s.pwr.pfail = false ∧ s.flash.dl = some x ∧ x.verified = false ∧ s.dlWrite x.target d.length d false m = (t, 0) ∧ t.flash.loading x.target = some y ∧ (y.fill < 512 ∨ y.fill ≠ 512 + bodyLen t.flash.images[x.target]) :=
  ⟨wPldmDl, [1], .ok, dlP, tPldmDl, dlP1, by decide, by decide, by decide, by decide, by decide, by first | exact Prod.ext rfl (by decide) | exact Prod.ext rfl rfl, by decide, by decide⟩
theorem witness_activateFirmware : ∃ (s : State), s.pldmUp = true ∧ s.flash.pldm = .component ∧ s.flash.dl = none ∧ s.pwr.pfail = false :=
  ⟨(wPldm .component), by decide, by decide, by decide, by decide⟩
theorem witness_cancelUpdateComponent : ∃ (s : State), s.pldmUp = true ∧ s.flash.pldm = .component :=
  ⟨(wPldm .component), by decide, by decide⟩
theorem witness_cancelUpdate : ∃ (s : State), s.pldmUp = true ∧ s.flash.pldm ≠ .idle :=
  ⟨(wPldm .component), by decide, by decide⟩

/-! ### Witnesses for CagesButtonsAndAlerts -/

theorem witness_coldRstN : ∃ (s : State) (n : Nat), s.sled.stby = true ∧ 1000000 ≤ n :=
  ⟨wPf, 1000000, by decide, by decide⟩
theorem witness_serviceButtonPress : ∃ (s : State), s.sled.stby = true :=
  ⟨wPf, by decide⟩
theorem witness_serviceButtonHold : ∃ (s : State), s.sled.stby = true :=
  ⟨wPf, by decide⟩
theorem witness_cageModuleInsert : ∃ (s : State) (a : PortNo) (n : Nat) (b : BitVec 8), (s.sled.cages[a]).present = false :=
  ⟨wPf, 7, 6, 25, by decide⟩
theorem witness_cageModuleInsert_2 : ∃ (s : State) (a : PortNo) (n : Nat) (b : BitVec 8) (t : State), (s.sled.cages[a]).present = false ∧ (t = ((s.modCage a (fun _ => { Cage.reset with present := true, passive := false, ready := false, cls := n, temp := b })).modPort a (fun P => { P with modPres := true })).grantAll) :=
  ⟨wPf, 7, 6, 25, tInsert, by decide, by exact rfl⟩
theorem witness_cageModuleRemove : ∃ (s : State) (a : PortNo), (s.sled.cages[a]).present = true :=
  ⟨wCage, 7, by decide⟩
theorem witness_cageOverpower : ∃ (s : State) (a : PortNo), (s.sled.cages[a]).present = true ∧ (s.sled.cages[a]).off = false :=
  ⟨wCage, 7, by decide, by decide⟩
theorem witness_moduleAdvertisementChange : ∃ (s : State) (a : PortNo) (n : Nat) (t : State), (s.sled.cages[a]).present = true ∧ (s.sled.cages[a]).passive = false ∧ (s.sled.cages[a]).off = false ∧ (t = (s.modCage a (fun c => { c with cls := n, granted := false })).grantAll) :=
  ⟨wCage, 7, 6, tAdvert, by decide, by decide, by decide, by exact rfl⟩
theorem witness_smbusAlertResponse : ∃ (s : State), s.sled.stby = true ∧ s.sled.alert = true :=
  ⟨wAlert, by decide, by decide⟩

/-! ### Witnesses for RegisterReadsAndWrites -/

theorem witness_registerWrite : ∃ (s : State) (n : Nat) (v : W32), (n % 4 = 0) ∧ n < 0x10000000 :=
  ⟨wPf, 0x30, 0xFFFFFFFF, by decide, by decide⟩
theorem witness_registerWrite_2 : ∃ (s : State) (p : Pid) (n : Nat) (v : W32), (n % 4 = 0) ∧ n < 0x10000000 :=
  ⟨wRun, 0, 0x70000, 0xFFFFFFFF, by decide, by decide⟩
theorem witness_registerWrite_3 : ∃ (s : State) (fn : Fn) (n : Nat) (v : W32), (n % 4 = 0) ∧ 0x10000000 ≤ n ∧ s.present fn = true :=
  ⟨wPf, .pf, 0x100003FC, 1, by decide, by decide, by decide⟩
theorem witness_rcCounterRead : ∃ (s t : State) (fn : Fn) (n : Nat) (v : W32), (n % 4 = 0) ∧ s.serves fn n = true ∧ s.counter fn n = some (v, t) :=
  ⟨(wPort pActive), tCounter, .pf, 0x307108, 0, by decide, by decide, by exact someOf (by decide)⟩
theorem witness_lowWordRead : ∃ (s : State) (fn : Fn) (n : Nat) (a : W64), (n % 4 = 0) ∧ s.serves fn n = true ∧ meterAt fn n = none ∧ s.pair64 fn n = some a ∧ (¬ (fn = .pf ∧ n = 0x20000)) :=
  ⟨wPf, .pf, 8, Config.serial, by decide, by decide, by decide, rfl, by decide⟩
theorem witness_lowWordRead_2 : ∃ (s : State), s.pfServes 0x20000 = true :=
  ⟨wPf, by decide⟩
theorem witness_lowWordRead_3 : ∃ (s : State) (fn : Fn) (n : Nat), (n % 4 = 0) ∧ s.serves fn n = true ∧ s.counter fn n = none ∧ tokenAt fn n = false ∧ meterAt fn n = none ∧ (n < 4 ∨ meterAt fn (n - 4) = none) ∧ s.pair64 fn n = none ∧ (n < 4 ∨ s.pair64 fn (n - 4) = none) :=
  ⟨wPf, .pf, 0x30, by decide, by decide, by decide, by decide, by decide, by decide, by decide, by decide⟩
theorem witness_meterLatchRead : ∃ (s : State) (p : Pid), s.pfServes 0x60100 = true :=
  ⟨wPf, 15, by decide⟩
theorem witness_meterLatchRead_2 : ∃ (s : State) (p : Pid), s.vfFull p = true :=
  ⟨wRun, 0, by decide⟩

/-! ### Witnesses for MetersMeasurementsAndSlots -/

theorem witness_meterRecordSigned : ∃ (s : State) (f : FormedRec) (l : List FormedRec), s.mtr.forming = f :: l ∧ f.unsigned = false ∧ s.sec.rngFail = false :=
  ⟨wForming, formed1, [], by decide, by decide, by decide⟩
theorem witness_meterRecordSigned_2 : ∃ (s : State) (f : FormedRec) (l : List FormedRec), s.mtr.forming = f :: l ∧ f.unsigned = true :=
  ⟨wFormingU, formedU, [], by decide, by decide⟩
theorem witness_mtrIvlWrite : ∃ (s : State) (p : Pid) (v : W32), s.pfServes 0x60040 = true :=
  ⟨wPf, 15, 0x3F, by decide⟩
theorem witness_entropyFault : ∃ (s : State), s.sec.rngFail = false :=
  ⟨wPf, by decide⟩
theorem witness_entropyFault_2 : ∃ (s : State), s.sec.rngFail = false ∧ s.boot.afterCold = true ∧ s.boot.hostReady = false :=
  ⟨State.reset, by decide, by decide, by decide⟩
theorem witness_tntMeasGo : ∃ (s : State) (p : Pid) (v : W32), s.vfFull p = true ∧ v.getLsbD 0 = true :=
  ⟨wRun, 0, 1, by decide, by decide⟩
theorem witness_secFslotsWrite : ∃ (s : State) (p : Pid) (v : W32), s.pfServes 0x50040 = true ∧ ((s.life p).st = .empty ∨ (s.life p).st = .configuring ∨ ((s.life p).st = .ready ∧ (s.life p).timingAct = false)) :=
  ⟨wConf, 0, 0x3F, by decide, by decide⟩

/-! ### Witnesses for SpdmRequestsAreAnswered -/

theorem witness_spdmGetVersion : ∃ (s : State) (r : Responder), s.answers r = true :=
  ⟨wPf, .pf, by decide⟩
theorem witness_spdmGetCapabilities : ∃ (s : State) (r : Responder), s.answers r = true ∧ s.conn r = .version :=
  ⟨(wConn .version), .pf, by decide, by decide⟩
theorem witness_spdmNegotiateAlgorithms : ∃ (s : State) (r : Responder), s.answers r = true ∧ s.conn r = .capabilities :=
  ⟨(wConn .capabilities), .pf, by decide, by decide⟩
theorem witness_spdmGetDigests : ∃ (s : State) (r : Responder), s.answers r = true ∧ s.conn r = .negotiated :=
  ⟨(wConn .negotiated), .pf, by decide, by decide⟩
theorem witness_spdmGetCertificate : ∃ (s : State) (r : Responder) (i j : Nat), s.answers r = true ∧ s.conn r = .negotiated :=
  ⟨(wConn .negotiated), .pf, 0, 16, by decide, by decide⟩
theorem witness_spdmGetCertificate_2 : ∃ (s : State) (r : Responder) (n i j : Nat), s.answers r = true ∧ s.conn r = .negotiated ∧ n ≠ 0 :=
  ⟨(wConn .negotiated), .pf, 1, 0, 16, by decide, by decide, by decide⟩
theorem witness_spdmChallenge : ∃ (s : State) (r : Responder), s.answers r = true ∧ s.conn r = .negotiated ∧ s.sec.rngFail = false :=
  ⟨(wConn .negotiated), .pf, by decide, by decide, by decide⟩
theorem witness_spdmGetMeasurements : ∃ (s : State) (r : Responder) (i : Nat) (b : Bool), s.answers r = true ∧ s.conn r = .negotiated ∧ (i ∈ measScope r) ∧ i ≠ 0 ∧ i ≠ 0xFF :=
  ⟨(wConn .negotiated), .pf, 4, false, by decide, by decide, by decide, by decide, by decide⟩
theorem witness_spdmKeyExchange : ∃ (s : State), s.answers .pf = true ∧ s.conn .pf = .negotiated ∧ s.sec.rngFail = false :=
  ⟨(wConn .negotiated), by decide, by decide, by decide⟩
theorem witness_spdmFinish : ∃ (s : State) (x : SpdmSession), s.answers .pf = true ∧ s.conn .pf = .negotiated ∧ s.sec.session = some x ∧ x.established = false :=
  ⟨(wSess false), (sess false), by decide, by decide, by decide, by decide⟩
theorem witness_spdmHeartbeat : ∃ (s : State) (x : SpdmSession), s.answers .pf = true ∧ s.conn .pf = .negotiated ∧ s.sec.session = some x ∧ x.established = true :=
  ⟨(wSess true), (sess true), by decide, by decide, by decide, by decide⟩
theorem witness_spdmKeyUpdate : ∃ (s : State) (x : SpdmSession), s.answers .pf = true ∧ s.conn .pf = .negotiated ∧ s.sec.session = some x ∧ x.established = true :=
  ⟨(wSess true), (sess true), by decide, by decide, by decide, by decide⟩
theorem witness_spdmEndSession : ∃ (s : State) (x : SpdmSession), s.answers .pf = true ∧ s.conn .pf = .negotiated ∧ s.sec.session = some x ∧ x.established = true :=
  ⟨(wSess true), (sess true), by decide, by decide, by decide, by decide⟩
theorem witness_spdmVendorDefinedRequest : ∃ (s : State) (x : SpdmSession), s.answers .pf = true ∧ s.conn .pf = .negotiated ∧ s.sec.session = some x ∧ x.established = true :=
  ⟨(wSess true), (sess true), by decide, by decide, by decide, by decide⟩

/-! ### Witnesses for JtagInstructionsLoad -/

theorem witness_jtagExtest : ∃ (s : State) (a : BitVec 8), s.sec.tenantKeys = false :=
  ⟨State.reset, 0xFF, by decide⟩
theorem witness_jtagExtest_2 : ∃ (s : State) (a : BitVec 8), s.sec.tenantKeys = true :=
  ⟨wKeys, 0xFF, by decide⟩
theorem witness_jtagClamp : ∃ (s : State) (a : BitVec 8), s.sec.tenantKeys = false :=
  ⟨State.reset, 0xFF, by decide⟩
theorem witness_jtagClamp_2 : ∃ (s : State) (a : BitVec 8), s.sec.tenantKeys = true :=
  ⟨wKeys, 0xFF, by decide⟩
theorem witness_jtagHighz : ∃ (s : State) (a : BitVec 8), s.sec.tenantKeys = false :=
  ⟨State.reset, 0xFF, by decide⟩
theorem witness_jtagHighz_2 : ∃ (s : State) (a : BitVec 8), s.sec.tenantKeys = true :=
  ⟨wKeys, 0xFF, by decide⟩

/-! ### Witnesses for CommandsTurnedAway -/

theorem witness_start_2 : ∃ (s : State) (p : Pid), s.pfOpen = true ∧ (s.exitRetention.life p).exec ≠ none :=
  ⟨wSuspending, 0, by decide, by decide⟩
theorem witness_start_3 : ∃ (s : State) (p : Pid), s.pfOpen = true ∧ (s.exitRetention.life p).exec = none ∧ (s.exitRetention.life p).st ≠ .ready :=
  ⟨wRun, 0, by decide, by decide, by decide⟩
theorem witness_sysRstPartition_2 : ∃ (s : State) (p : Pid), (s.life p).st ≠ .running ∧ (s.life p).st ≠ .napping ∧ (s.life p).st ≠ .suspended :=
  ⟨wReady, 0, by decide, by decide, by decide⟩
theorem witness_pwdReset_2 : ∃ (s : State) (p : Pid) (v : W32), (s.life p).st ≠ .running ∧ (s.life p).st ≠ .napping ∧ (s.life p).st ≠ .suspended :=
  ⟨wReady, 0, 0xD1E5, by decide, by decide, by decide⟩
theorem witness_watchdogServe_4 : ∃ (s : State) (fn : Fn) (v : W32), ((s.dog fn).st = .disabled ∨ (s.dog fn).st = .paused) :=
  ⟨wPf, .pf, 0xA5E1, by decide⟩
theorem witness_movChKill_2 : ∃ (s : State) (m : MovNo), (s.chans[m]).bound = false :=
  ⟨wPf, 31, by decide⟩
theorem witness_lnkOpAttach_4 : ∃ (s : State) (v : W32), s.pfOpen = true ∧ v.getLsbD 0 = true ∧ s.lost .pf = false :=
  ⟨wPf, 3, by decide, by decide, by decide⟩
theorem witness_partitionWindowRead_2 : ∃ (s : State) (p : Pid) (off : Nat), s.windowsUp = true ∧ off < 2 ^ 28 ∧ ((s.prt p).win.en = false ∨ ((s.life p).st ≠ .ready ∧ (s.life p).st ≠ .running ∧ (s.life p).st ≠ .napping ∧ (s.life p).st ≠ .suspended) ∨ (s.prt p).mem.windowReach ((s.prt p).win.base.toNat * 2 ^ 28 + off / 64 * 64) = false) :=
  ⟨wCxl, 0, 0x0FFFFFFF, by decide, by decide, by decide⟩
theorem witness_partitionWindowWrite_2 : ∃ (s : State) (p : Pid) (off : Nat) (data : Bytes) (en : W64), s.windowsUp = true ∧ off < 2 ^ 28 ∧ ((s.prt p).win.en = false ∨ ((s.life p).st ≠ .ready ∧ (s.life p).st ≠ .running ∧ (s.life p).st ≠ .napping ∧ (s.life p).st ≠ .suspended) ∨ (s.prt p).mem.windowReach ((s.prt p).win.base.toNat * 2 ^ 28 + off / 64 * 64) = false) :=
  ⟨wCxl, 0, 0x0FFFFFFF, (List.replicate 64 1), 1, by decide, by decide, by decide⟩
theorem witness_tntEpochWrite_2 : ∃ (s : State) (p : Pid) (v : W32), (s.life p).st ≠ .ready :=
  ⟨wRun, 0, 7, by decide⟩
theorem witness_doorbellWrite_2 : ∃ (s : State) (r : RingId) (v : W32), (s.ring r).state ≠ .active :=
  ⟨wRun, (.vf 0 0), 1, by decide⟩
theorem witness_objDefine_2 : ∃ (s : State) (c : CmdRef) (p : Pid) (n : Fin 64) (k : Cmd) (d : W32), s.inline_ c 4 0x40 = some k ∧ c.ring = .vf p n ∧ s.defineBad p k.operands = some d :=
  ⟨wDefineBad, wc, 0, 0, wkDefineBad, 1, by decide, by decide, by decide⟩
theorem witness_portEnable_2 : ∃ (s : State) (a : PortNo), (s.ports[a]).en = true :=
  ⟨wPort pEn, 7, by decide⟩
theorem witness_suStart_3 : ∃ (s : State) (u : UnitRef) (b : Bool), s.suOpen u = true ∧ (((s.unit u).st ≠ .loaded ∧ (s.unit u).st ≠ .done) ∨ (b = true ∧ (s.prt u.pid).rt.en = false)) :=
  ⟨wRun, wu, true, by decide, by decide⟩

/-! ### Statements with hypotheses that are not about one command -/

theorem witness_EmptyQueueTicks : ∃ s : State, s.pending = [] := ⟨State.reset, rfl⟩

theorem witness_StepRunsFrontCommand : ∃ (c : Instr) (rest : List Instr) (s : State), s.pending = c :: rest :=
  ⟨.inputGood, [.hotReset], State.reset.withPending [.inputGood, .hotReset], rfl⟩

theorem reset_inv : State.reset.Inv := ⟨by unfold State.memOk; decide, by unfold State.fusesOk; decide⟩

theorem witness_EveryStepKeepsInvariant : ∃ s t : State, s.Inv ∧ step s = .next t := ⟨State.reset, State.reset.tick, reset_inv, rfl⟩

theorem witness_FusesNeverDecrease : ∃ s t : State, s.flash.fuses ≤ 64 ∧ RunsTo s t :=
  ⟨State.reset, State.reset.tick, by decide, .step .refl rfl⟩

theorem witness_OutputsOnlyGrow : ∃ s t : State, RunsTo s t := ⟨State.reset, State.reset.tick, .step .refl rfl⟩

theorem witness_QueueIsFirstInFirstOut : ∃ (cs : List Instr) (k : Nat), k ≤ cs.length := ⟨[.inputGood, .hotReset], 2, by decide⟩

/-- Distances 0, 1, 2^31 − 1 and 2^31: each clause at its boundaries. -/
theorem witness_EpochsCompareSerially : ∃ a b c d e : Epoch,
    (a.toNat + 2 ^ 32 - a.toNat) % 2 ^ 32 = 0 ∧ (b.toNat + 2 ^ 32 - a.toNat) % 2 ^ 32 = 1 ∧
    (c.toNat + 2 ^ 32 - a.toNat) % 2 ^ 32 = 2 ^ 31 - 1 ∧ (d.toNat + 2 ^ 32 - a.toNat) % 2 ^ 32 = 2 ^ 31 ∧
    (e.toNat + 2 ^ 32 - a.toNat) % 2 ^ 32 = 2 ^ 32 - 1 :=
  ⟨0xFFFFFFFF, 0, 0x7FFFFFFE, 0x7FFFFFFF, 0xFFFFFFFE, by decide⟩

theorem witness_ColdResetInput : ∃ (s : State) (a b : Nat), s.sled.stby = true ∧ a = 1000000 ∧ 1000000 ≤ a ∧ b = 999999 ∧ b < 1000000 :=
  ⟨State.reset, 1000000, 999999, by decide⟩

theorem witness_WindowWriteStores :
    ∃ (s : State) (p : Pid) (off ta : Nat) (o : Obj) (x : Tile),
      s.memOk ∧ s.windowsUp = true ∧ off < 2 ^ 28 ∧ ta = (s.prt p).win.base.toNat * 2 ^ 28 + off / 64 * 64 ∧
      (s.prt p).win.en = true ∧
      ((s.life p).st = .ready ∨ (s.life p).st = .running ∨ (s.life p).st = .napping ∨ (s.life p).st = .suspended) ∧
      ta < 2 ^ 48 ∧ (s.prt p).mem.objOf (tileOf ta) = some o ∧ o.steward = false ∧ o.releasing = none ∧
      s.tile? p (tileOf ta) = some x ∧ x.tag = none ∧ x.st ≠ .poisoned ∧ s.lineUp p ta = true :=
  ⟨wWin, 0, 2 ^ 28 - 1, 2 ^ 28 - 64, { wObj with base := 4095, tiles := 1 }, tile 4095, by unfold State.memOk; decide, by decide, by decide, by decide,
    by decide, by decide, by decide, by decide, rfl, rfl, by decide, rfl, by decide, by decide⟩

theorem witness_TokenWordsAreRevealedOnce :
    ∃ (s : State) (p : Pid) (k : Fin 4), s.pfOpen = true ∧ (s.prt p).tok.prtUnread.getLsbD k.val = true :=
  ⟨wPf.modPrt 0 fun P => { P with tok := { P.tok with prtUnread := 0xF } }, 0, 3, by decide⟩

theorem witness_CanonicalMemoriesAreData :
    ∃ m n : List Host.Cell, Memory.wf m = true ∧ Memory.wf n = true ∧ (∀ a, readByte m a = readByte n a) ∧ m ≠ [] :=
  ⟨[⟨5, 1⟩, ⟨7, 2⟩], [⟨5, 1⟩, ⟨7, 2⟩], by decide, by decide, fun _ => rfl, by decide⟩

/-! ### Ill-formed commands, one for each check, and well-formed ones -/

theorem test_wf_accepts : [Instr.inputGood, .partitionWindowRead 0 (2 ^ 28 - 1), .partitionWindowWrite 0 0 (le 64 0) 0,
    .operatorWindowRead (2 ^ 30 - 1), .barWidthError (.vf 0) (2 ^ 20 - 1) true, .barWidthError .pf (2 ^ 26 - 1) false, .prtCmdReserved 0 9,
    .prtCmdReserved 0 0, .linkChanged 16 6, .linkUp 1 1 true, .vfEnable 16, .remoteAccess 0 true 0x1FFFFFFC 0 []].all Instr.wf = true := by decide
theorem test_wf_prt_cmd_1 : Instr.wf (.prtCmdReserved 0 1) = false := by decide
theorem test_wf_prt_cmd_8 : Instr.wf (.prtCmdReserved 0 8) = false := by decide
theorem test_wf_window_read : Instr.wf (.partitionWindowRead 0 (2 ^ 28)) = false := by decide
theorem test_wf_window_write : Instr.wf (.partitionWindowWrite 0 0 (le 63 0) 0) = false := by decide
theorem test_wf_window_write_off : Instr.wf (.partitionWindowWrite 0 (2 ^ 28) (le 64 0) 0) = false := by decide
theorem test_wf_op_read : Instr.wf (.operatorWindowRead (2 ^ 30)) = false := by decide
theorem test_wf_op_write : Instr.wf (.operatorWindowWrite 0 (le 65 0) 0) = false := by decide
theorem test_wf_window_control : Instr.wf (.windowControlWrite .pf 0x50012 0) = false := by decide
theorem test_wf_bar_width : Instr.wf (.barWidthError (.vf 3) (2 ^ 20) true) = false := by decide
theorem test_wf_ring_config : Instr.wf (.ringConfigWrite (.vf 0 0) (2 ^ 29) 0) = false := by decide
theorem test_wf_entry : Instr.wf (.commandConsume (.vf 0 0) (le 63 0)) = false := by decide
/-- There are bytes of every length. -/
theorem longer (n : Nat) : ∃ l : Bytes, n < l.length := ⟨List.replicate (n + 1) 0, by rw [List.length_replicate]; omega⟩
theorem test_wf_exec_list (l : Bytes) (h : 2 ^ 20 < l.length) : Instr.wf (.execList wc l) = false :=
  decide_eq_false (Nat.not_le_of_lt h)
theorem test_wf_update (l : Bytes) (h : 2 ^ 20 < l.length) : Instr.wf (.updateCommand wc l) = false :=
  decide_eq_false (Nat.not_le_of_lt h)
theorem test_wf_tiles : [Instr.moveCopyBegin 0 (2 ^ 32), .moveComplete 0 (2 ^ 32), .moveDestinationFail 0 (2 ^ 32), .backgroundPromotion 0 (2 ^ 32),
    .tierAccessFail 0 (2 ^ 32) (.cmd wc) .uncorrectable 0, .tierAccessLate 0 (2 ^ 32) (.cmd wc) 0].any Instr.wf = false := by decide
theorem test_wf_offsets : [Instr.tierSettingWrite 2 0, .remoteAccess 0 true 1 0 [], .lowWordRead .pf 0x22, .rcCounterRead .pf (2 ^ 29),
    .registerWrite (.vf 0) 3 0].any Instr.wf = false := by decide
theorem test_wf_mover_desc : Instr.wf (.moverDescriptorStart (.vf 0 0) (le 31 0)) = false := by decide
theorem test_wf_link : [Instr.linkChanged 0 5, .linkChanged 17 5, .linkChanged 16 0, .linkUp 16 7 true].any Instr.wf = false := by decide
theorem test_wf_descriptor : Instr.wf (.descriptorReceived 0 (le 65 0)) = false := by decide
theorem test_wf_group (l : Bytes) (h : 8224 < l.length) : Instr.wf (.fabGrpLoad 0 l) = false :=
  decide_eq_false (Nat.not_le_of_lt h)
theorem test_wf_download (l : Bytes) (h : 2 ^ 20 < l.length) : Instr.wf (.dlWrite 0 l .ok) = false :=
  decide_eq_false (Nat.not_le_of_lt h)
theorem test_wf_vf_enable : Instr.wf (.vfEnable 17) = false := by decide

/-! ### Decoding: the table gives no row bits -/

theorem test_no_word : decodeTableWord 32 0 = none := rfl
theorem test_fetch_word (s : State) : s.withFetchWord 32 0 = s := rfl

/-! ### The spec's worked cases -/

/-- 05_stag_and_vector_numerics.md, Worked case: conversions and a per-tile scale, points 1 and 2. -/
theorem test_convert :
    [(encodeElem 1 false (val32 0x3F808000)), encodeElem 1 false (val32 0x3F818000), encodeElem 1 false (val32 0x7F7FFFFF),
      encodeElem 1 true (val32 0x7F7FFFFF), encodeElem 2 false (.ofInt 70000 0), encodeElem 2 true (.ofInt 70000 0),
      encodeElem 4 false (.ofInt 70000 0), encodeElem 4 true (.ofInt 70000 0)]
    = [0x3F80, 0x3F82, 0x7F80, 0x7F7F, 0x7C00, 0x7BFF, 0x7C, 0x7B] := by decide
/-- The same, points 3 and 4: the finite amax 1,000 gives e = 2, and the E4M3 bytes that the five elements become. -/
theorem test_convert_scaled :
    autoScale e4m3 [.ofInt 1000 0, val32 0x40533333, val32 0xBA83126F, .nan, .inf false] = 2 ∧
    [Val.ofInt 1000 0, val32 0x40533333, val32 0xBA83126F, .nan, .inf false].map (fun v => encodeElem 3 true (v.scale (-2)))
      = [0x78, 0x35, 0x80, 0x7F, 0x7E] := by decide
/-- 08_scarab_activation_steward.md, Worked case: squeezing one BF16 tile. -/
theorem test_squeeze :
    autoScale e4m3 ([0x4040, 0xBFA8, 0x3C40, 0x3700].map bf16.decode) = -7 ∧
    [0x4040, 0xBFA8, 0x3C40, 0x3700].map (fun b => squeezed 1 (-7) (bf16.decode b)) = [0x4040, 0xBFA0, 0x3C40, 0x0000] := by decide

/-- The UPD_HYPER of 09_weevil_and_training_numerics.md, Worked case: one AdamW element. -/
def adamw : UpdHyper := ⟨1, false, false, 0x3A800000, 0x3F600000, 0x3F7E0000, 0x35800000, 0x3D800000, 0, 0⟩
/-- The same case, points 1 to 6: u after the weight decay is 1.0625 − 2^−19, and the moments are those stored. -/
theorem test_adamw_direction :
    let d := adamw.direction (adamw.consts 1) (bf16.decode 0x3F80) .zero .zero (bf16.decode 0x3F00)
    (d.1.bits32, d.2.1.bits32, d.2.2.bits32) = (0x3F87FFF0, 0x3D800000, 0x3B000000) := by decide
/-- The same case, point 6: w' = 0x3F7F_BC00. -/
theorem test_adamw_weight :
    let d := adamw.direction (adamw.consts 1) (bf16.decode 0x3F80) .zero .zero (bf16.decode 0x3F00)
    (rsub (bf16.decode 0x3F80) (rmul (val32 adamw.lr) d.1)).bits32 = 0x3F7FBC00 := by decide

/-- 16_isolation_and_security.md, Worked case: slot positions. -/
theorem test_slots :
    let S := (State.reset.sec.claim 3 8).claim 7 6
    ((List.finRange 64).filter fun i => S.wheel[i] = some 3).map Fin.val = [0, 8, 16, 24, 32, 40, 48, 56] ∧
    ((List.finRange 64).filter fun i => S.wheel[i] = some 7).map Fin.val = [1, 10, 21, 33, 42, 53] ∧ S.used = 14 := by decide

/-- 22_register_reference.md, Worked case: finding registers and reading a snapshot. -/
def ch22 : State :=
  let run (q : Nat) (P : Prt) : Prt := { P with life := { P.life with st := .running, quads := BitVec.ofNat 16 q, quadsAct := BitVec.ofNat 16 q } }
  let own (q : Nat) : Pid := if q < 4 then 3 else if q = 4 then 5 else 0
  (({ wPf with quads := Vector.ofFn fun q : Fin 16 => ⟨some (own q.val), .run, none, none, 2000⟩ }.modPrt 0 (run 0xFFE0)).modPrt 3
    (run 0x000F)).modPrt 5 (run 0x0010)
theorem test_part_sts : ch22.partSts = 0x00303003 := by decide
theorem test_core_own : ch22.word .pf 0x211000 = 0x80050001 := by decide

end Sys2Proof.Tests
end

section
/-! PROOFS. Chapter 0: the order of epochs (R7, R8) and the status byte of a completion (R9). -/

namespace Sys2Proof

/-! ### Epochs by their distance (R7, R8) -/

/-- The spelling of `d` in R7, on natural numbers. -/
theorem Epoch.dist_eq_mod (a b : Epoch) : Epoch.dist a b = (a.toNat + 2 ^ 32 - b.toNat) % 2 ^ 32 := by
  have hb : b.toNat < 2 ^ 32 := b.isLt
  rw [Epoch.dist, BitVec.toNat_sub]
  omega

theorem Epoch.dist_eq_zero_iff (a b : Epoch) : Epoch.dist a b = 0 ↔ a = b := by
  have ha : a.toNat < 2 ^ 32 := a.isLt
  have hb : b.toNat < 2 ^ 32 := b.isLt
  rw [Epoch.dist_eq_mod, ← BitVec.toNat_inj]
  omega

theorem Epoch.dist_add_left (b k : Epoch) : Epoch.dist (b + k) b = k.toNat := by
  rw [Epoch.dist, BitVec.add_comm, BitVec.add_sub_cancel]

theorem Epoch.ahead_iff (a b : Epoch) : Epoch.ahead a b = true ↔ 1 ≤ Epoch.dist a b ∧ Epoch.dist a b ≤ 2 ^ 31 - 1 := by
  simp [Epoch.ahead]

theorem Epoch.behind_iff (a b : Epoch) : Epoch.behind a b = true ↔ 2 ^ 31 - 1 < Epoch.dist a b := by
  have key : Epoch.behind a b = true ↔ Epoch.dist a b ≠ 0 ∧ ¬ (1 ≤ Epoch.dist a b ∧ Epoch.dist a b ≤ 2 ^ 31 - 1) := by
    rw [← Epoch.ahead_iff, Ne, Epoch.dist_eq_zero_iff]
    simp [Epoch.behind]
  rw [key]
  omega

/-- Nothing is both ahead and behind. -/
theorem Epoch.behind_eq_false_of_ahead {a b : Epoch} (h : Epoch.ahead a b = true) : Epoch.behind a b = false := by
  rw [Epoch.ahead_iff] at h
  rw [← Bool.not_eq_true, Epoch.behind_iff]
  omega

theorem Epoch.ahead_eq_false_of_behind {a b : Epoch} (h : Epoch.behind a b = true) : Epoch.ahead a b = false := by
  rw [← Bool.not_eq_true]
  exact fun ha => Bool.eq_false_iff.mp (Epoch.behind_eq_false_of_ahead ha) h

/-- R8: half of the number circle away is stale. -/
theorem Epoch.behind_add_half (b : Epoch) : Epoch.behind (b + 0x80000000) b = true := by
  rw [Epoch.behind_iff, Epoch.dist_add_left]
  decide

end Sys2Proof

namespace Sys2Proof.Machine

/-! ### The status byte of a completion (R9, Table 3-9) -/

/-- R9: no status has a reserved code. -/
theorem Status.code_le (st : Status) : st.code ≤ 0x14 := by
  cases st <;> decide

@[simp] theorem length_leBytes (n v : Nat) : (leBytes n v).length = n := by
  induction n generalizing v with
  | zero => rfl
  | succ n ih => simp [leBytes, ih]

@[simp] theorem length_leVec {w : Nat} (n : Nat) (v : BitVec w) : (leVec n v).length = n :=
  length_leBytes n v.toNat

@[simp] theorem leVec_one (v : Byte) : leVec 1 v = [v] := by
  simp [leVec, leBytes]

theorem Completion.length_bytes (c : Completion) (phase : Bool) (time : Nat) : (c.bytes phase time).length = 16 := by
  simp [Completion.bytes]

/-- Table 3-9: after the two bytes of the tag stands the status. -/
theorem Completion.bytes_status (c : Completion) (phase : Bool) (time : Nat) :
    (c.bytes phase time)[2]? = some c.status.code := by
  simp only [Completion.bytes, leVec_one, List.append_assoc]
  rw [List.getElem?_append_right (by simp)]
  simp

end Sys2Proof.Machine

open Sys2Proof Sys2Proof.Machine

/-- Settles O10: each clause is read off the distance, which R7 writes as a remainder. -/
theorem epochsCompareSerially : Obligations.EpochsCompareSerially := by
  unfold Obligations.EpochsCompareSerially
  refine ⟨fun a b => ?_, fun b => ?_, by decide⟩
  · rw [← Epoch.dist_eq_mod]
    refine ⟨(Epoch.dist_eq_zero_iff a b).mp, fun h => ?_, fun h => ?_⟩
    · have ha : Epoch.ahead a b = true := (Epoch.ahead_iff a b).mpr h
      exact ⟨ha, Epoch.behind_eq_false_of_ahead ha⟩
    · have hb : Epoch.behind a b = true := (Epoch.behind_iff a b).mpr h
      exact ⟨hb, Epoch.ahead_eq_false_of_behind hb⟩
  · exact ⟨Epoch.behind_add_half b, Epoch.ahead_eq_false_of_behind (Epoch.behind_add_half b)⟩

/-- Settles O12: byte 2 is the status's own code, and no code is reserved. -/
theorem completionStatusCodes : Obligations.CompletionStatusCodes := by
  unfold Obligations.CompletionStatusCodes
  intro c phase time
  exact ⟨c.length_bytes phase time, c.status.code, c.bytes_status phase time, rfl, c.status.code_le⟩
end

section
/-! PROOFS. Chapter 9: the random words of a group of eight elements and the generator's known answer (R267, R268). -/

namespace Sys2Proof.Machine

/-! ### The generator's halves over a group (R267) -/

/-- R267: the word of element `8 q + r` is that of `r`, and its half goes by the parity of `r`. -/
theorem rndOf_eight_mul_add {seed : W64} {q purpose : Nat} {epoch : Epoch} {stream : W32} {x0 x1 x2 x3 : Nat}
    (hx : philox seed q purpose epoch stream = (x0, x1, x2, x3)) {r : Nat} (hr : r < 8) :
    rndOf seed (8 * q + r) purpose epoch stream =
      ([x0, x1, x2, x3].flatMap fun x => [x % 65536, x / 65536]).getD r 0 := by
  have hq : (8 * q + r) / 8 = q := by omega
  have hword : (8 * q + r) % 8 = r := by omega
  have hhalf : (8 * q + r) % 2 = r % 2 := by omega
  simp only [rndOf, hq, hword, hhalf, hx]
  match r, hr with
  | 0, _ | 1, _ | 2, _ | 3, _ | 4, _ | 5, _ | 6, _ | 7, _ => rfl

/-- R267: in the order of their indices, the elements of group `q` receive the low and the high half of each word in turn. -/
theorem map_rndOf_group {seed : W64} {q purpose : Nat} {epoch : Epoch} {stream : W32} {x0 x1 x2 x3 : Nat}
    (hx : philox seed q purpose epoch stream = (x0, x1, x2, x3)) :
    (List.range 8).map (fun r => rndOf seed (8 * q + r) purpose epoch stream) =
      [x0, x1, x2, x3].flatMap fun x => [x % 65536, x / 65536] := by
  rw [List.map_congr_left fun r hr => rndOf_eight_mul_add hx (List.mem_range.mp hr)]
  rfl

/-- R268: the ten rounds from the zero key and the zero counter. -/
theorem philox_zero : philox 0 0 0 0 0 = (0x6627E8D5, 0xE169C58D, 0xBC57AC4C, 0x9B00DBD8) := by
  decide

end Sys2Proof.Machine

open Sys2Proof Sys2Proof.Machine

/-- Settles O11: the words by running the ten rounds, and the elements' values as the halves of those words in turn. -/
theorem philoxKnownAnswer : Obligations.PhiloxKnownAnswer := by
  unfold Obligations.PhiloxKnownAnswer
  have hvalues := map_rndOf_group philox_zero
  simp only [Nat.mul_zero, Nat.zero_add] at hvalues
  exact ⟨philox_zero, hvalues⟩
end

section
/-! PROOFS. Chapter 21: the cold reset input of the sideband connector (R560). -/

namespace Sys2Proof.Machine

/-! ### COLD_RST_N on both sides of 1 ms (R560, Table 19-6) -/

/-- The machine gives the command the meaning of the reset input. -/
theorem exec_coldRstN (lowNs : Nat) (s : State) : exec (.coldRstN lowNs) s = execColdRstN lowNs s := rfl

/-- R560: a low level of 1 ms or more is taken. -/
theorem execColdRstN_of_le {s : State} {lowNs : Nat} (hstby : s.sled.stby = true) (hlow : 1000000 ≤ lowNs) :
    execColdRstN lowNs s = .next (s.coldReset 0x03) := by
  simp [execColdRstN, hstby, hlow]

/-- R560: a low level below 1 ms has no effect, whatever the rails. -/
theorem execColdRstN_of_lt (s : State) {lowNs : Nat} (hlow : lowNs < 1000000) : execColdRstN lowNs s = .next s := by
  simp [execColdRstN, Nat.not_le_of_lt hlow]

/-- Table 19-6: after a sled cold reset the cause register reads the cause that was given. -/
@[simp] theorem State.coldReset_cause (s : State) (cause : BitVec 8) : (s.coldReset cause).boot.cause = cause := rfl

end Sys2Proof.Machine

open Sys2Proof Sys2Proof.Machine

/-- Settles O13: the level is taken from 1 ms on, and the reset that follows records the input's own cause. -/
theorem coldResetInput : Obligations.ColdResetInput := by
  unfold Obligations.ColdResetInput
  intro s lowNs hstby
  rw [exec_coldRstN]
  exact ⟨fun hlow => ⟨execColdRstN_of_le hstby hlow, s.coldReset_cause 0x03⟩, execColdRstN_of_lt s⟩
end

section
/-! PROOFS. The machine as a whole: what every step keeps, along every run (chapter 0; R529; log entries 1 to 4 and 8). -/

namespace Sys2Proof.Machine

/-! ### Steps and the queue (log entries 1 and 8) -/

theorem step_of_pending_nil {s : State} (h : s.pending = []) : step s = .next s.tick := by
  rw [step, h]

theorem step_of_pending_cons {s : State} {c : Instr} {rest : List Instr} (h : s.pending = c :: rest) :
    step s = exec c (s.withPending rest) := by
  rw [step, h]

/-! ### What a command keeps, whichever it is -/

/-- Every command answers a next state that keeps what the state had. -/
theorem exec_keeps {s : State} : ∀ c : Instr, ∃ t, exec c s = .next t ∧ Keeps s t
  | .create _ => Keeps.execCreate
  | .commit _ => Keeps.execCommit
  | .abandon _ => Keeps.execAbandon
  | .start _ => Keeps.execStart
  | .suspend _ => Keeps.execSuspend
  | .suspendHaltComplete _ => Keeps.execSuspendHaltComplete
  | .resume _ => Keeps.execResume
  | .destroy _ => Keeps.execDestroy
  | .resize _ => Keeps.execResize
  | .resizeComplete _ => Keeps.execResizeComplete
  | .prtCmdReserved _ _ => Keeps.execPrtCmdReserved
  | .drainTimeout _ => Keeps.execDrainTimeout
  | .drainComplete _ => Keeps.execDrainComplete
  | .keyRetire _ => Keeps.execKeyRetire
  | .scrubComplete _ => Keeps.execScrubComplete
  | .idleTimeout _ => Keeps.execIdleTimeout
  | .tntNap _ => Keeps.execTntNap
  | .prtStagedWrite _ _ _ => Keeps.execPrtStagedWrite
  | .prtModeWrite _ _ _ => Keeps.execPrtModeWrite
  | .prtTokenRead _ _ => Keeps.execPrtTokenRead
  | .tntConsentWrite _ _ => Keeps.execTntConsentWrite
  | .tntTokenRotate _ => Keeps.execTntTokenRotate
  | .tntTokenRead _ _ => Keeps.execTntTokenRead
  | .tntAttachGo _ => Keeps.execTntAttachGo
  | .attachLockoutEnd _ => Keeps.execAttachLockoutEnd
  | .objDefine _ => Keeps.execObjDefine
  | .objHint _ => Keeps.execObjHint
  | .objRelease _ => Keeps.execObjRelease
  | .objReleaseDrained _ => Keeps.execObjReleaseDrained
  | .objQuery _ => Keeps.execObjQuery
  | .partitionWindowRead _ _ => Keeps.execPartitionWindowRead
  | .partitionWindowWrite _ _ _ _ => Keeps.execPartitionWindowWrite
  | .operatorWindowRead _ => Keeps.execOperatorWindowRead
  | .operatorWindowWrite _ _ _ => Keeps.execOperatorWindowWrite
  | .windowControlWrite _ _ _ => Keeps.execWindowControlWrite
  | .barWidthError _ _ _ => Keeps.execBarWidthError
  | .sysErrClear _ _ => Keeps.execSysErrClear
  | .hostRequestError _ _ => Keeps.execHostRequestError
  | .ringConfigWrite _ _ _ => Keeps.execRingConfigWrite
  | .ringEnable _ => Keeps.execRingEnable
  | .ringDisable _ => Keeps.execRingDisable
  | .ringEntryAccessFail _ _ => Keeps.execRingEntryAccessFail
  | .doorbellWrite _ _ => Keeps.execDoorbellWrite
  | .dbCancel _ _ => Keeps.execDbCancel
  | .cancelMatchingDone _ => Keeps.execCancelMatchingDone
  | .commandConsume _ _ => Keeps.execCommandConsume
  | .commandReadyStart _ => Keeps.execCommandReadyStart
  | .commandPromotion _ => Keeps.execCommandPromotion
  | .indexWriteback _ => Keeps.execIndexWriteback
  | .irqModerationTimeout _ => Keeps.execIrqModerationTimeout
  | .msixUnmask _ _ _ _ => Keeps.execMsixUnmask
  | .mbInPost _ _ => Keeps.execMbInPost
  | .mbOutRelease _ _ => Keeps.execMbOutRelease
  | .mailboxOutboundPlace _ => Keeps.execMailboxOutboundPlace
  | .servicePing _ => Keeps.execServicePing
  | .serviceHeartbeat _ => Keeps.execServiceHeartbeat
  | .serviceTime _ => Keeps.execServiceTime
  | .serviceUnknown _ => Keeps.execServiceUnknown
  | .execList _ _ => Keeps.execExecList
  | .controlNop _ => Keeps.execControlNop
  | .controlFence _ => Keeps.execControlFence
  | .flushReadDone _ => Keeps.execFlushReadDone
  | .fenceTimeout _ => Keeps.execFenceTimeout
  | .barCfg _ => Keeps.execBarCfg
  | .epochCommit _ => Keeps.execEpochCommit
  | .epochRevoke _ => Keeps.execEpochRevoke
  | .jobEpochDecision _ _ _ => Keeps.execJobEpochDecision
  | .tntEpochWrite _ _ => Keeps.execTntEpochWrite
  | .listNop _ => Keeps.execListNop
  | .mbRecv _ => Keeps.execMbRecv
  | .mbRecvTimeout _ => Keeps.execMbRecvTimeout
  | .mbSend _ => Keeps.execMbSend
  | .barArrive _ => Keeps.execBarArrive
  | .timestamp _ => Keeps.execTimestamp
  | .writeValue _ => Keeps.execWriteValue
  | .barrierArrival _ => Keeps.execBarrierArrival
  | .fabricBarrierRelease _ _ => Keeps.execFabricBarrierRelease
  | .barrierTimeout _ _ => Keeps.execBarrierTimeout
  | .matmul _ => Keeps.execMatmul
  | .convert _ => Keeps.execConvert
  | .vecEw _ => Keeps.execVecEw
  | .vecRed _ => Keeps.execVecRed
  | .computeOpEnd _ => Keeps.execComputeOpEnd
  | .suLoad _ => Keeps.execSuLoad
  | .suLoadDone _ => Keeps.execSuLoadDone
  | .suStart _ _ => Keeps.execSuStart
  | .suStop _ => Keeps.execSuStop
  | .streamNop _ => Keeps.execStreamNop
  | .seti _ => Keeps.execSeti
  | .adds _ => Keeps.execAdds
  | .addi _ => Keeps.execAddi
  | .fadd _ => Keeps.execFadd
  | .loop _ => Keeps.execLoop
  | .endl _ => Keeps.execEndl
  | .mov _ => Keeps.execMov
  | .movEnd _ _ => Keeps.execMovEnd
  | .swap _ => Keeps.execSwap
  | .waitf _ => Keeps.execWaitf
  | .waitv _ => Keeps.execWaitv
  | .rel _ => Keeps.execRel
  | .sig _ => Keeps.execSig
  | .wsig _ => Keeps.execWsig
  | .streamBar _ => Keeps.execStreamBar
  | .dline _ => Keeps.execDline
  | .fend _ => Keeps.execFend
  | .streamEnd _ => Keeps.execStreamEnd
  | .streamEpoch _ => Keeps.execStreamEpoch
  | .pairBind _ => Keeps.execPairBind
  | .pairBindDone _ => Keeps.execPairBindDone
  | .pairUnbind _ => Keeps.execPairUnbind
  | .pairReset _ => Keeps.execPairReset
  | .pairAutoSwap _ => Keeps.execPairAutoSwap
  | .pairWaitTimeout _ => Keeps.execPairWaitTimeout
  | .rtCtlWrite _ _ => Keeps.execRtCtlWrite
  | .frameStart _ => Keeps.execFrameStart
  | .frameEarlyWake _ => Keeps.execFrameEarlyWake
  | .deadlinePass _ => Keeps.execDeadlinePass
  | .moveCopyBegin _ _ => Keeps.execMoveCopyBegin
  | .moveComplete _ _ => Keeps.execMoveComplete
  | .moveDestinationFail _ _ => Keeps.execMoveDestinationFail
  | .backgroundPromotion _ _ => Keeps.execBackgroundPromotion
  | .tierAccessFail _ _ _ _ _ => Keeps.execTierAccessFail
  | .tierAccessLate _ _ _ _ => Keeps.execTierAccessLate
  | .memoryUnitDown _ => Keeps.execMemoryUnitDown
  | .tileClear _ => Keeps.execTileClear
  | .readAheadExpire _ _ => Keeps.execReadAheadExpire
  | .tierSettingWrite _ _ => Keeps.execTierSettingWrite
  | .stagingQuotaWrite _ _ => Keeps.execStagingQuotaWrite
  | .planLoad _ => Keeps.execPlanLoad
  | .planUnload _ => Keeps.execPlanUnload
  | .runBegin _ => Keeps.execRunBegin
  | .mark _ => Keeps.execMark
  | .runEnd _ => Keeps.execRunEnd
  | .instanceCloseComplete _ _ _ => Keeps.execInstanceCloseComplete
  | .fetchbackEvaluate _ => Keeps.execFetchbackEvaluate
  | .fetchbackIssue _ _ _ => Keeps.execFetchbackIssue
  | .injectedSegmentEnd _ _ _ _ => Keeps.execInjectedSegmentEnd
  | .scarabTaskIssue => Keeps.execScarabTaskIssue
  | .quarantineWaitTimeout _ => Keeps.execQuarantineWaitTimeout
  | .scarabSettingWrite _ _ => Keeps.execScarabSettingWrite
  | .updateCommand _ _ => Keeps.execUpdateCommand
  | .normPassEnd _ => Keeps.execNormPassEnd
  | .decisionContribution _ _ _ _ _ _ _ _ _ => Keeps.execDecisionContribution
  | .reductionTimeout _ _ => Keeps.execReductionTimeout
  | .verdict _ _ _ _ => Keeps.execVerdict
  | .decisionPointUnreachable _ => Keeps.execDecisionPointUnreachable
  | .trustPassEnd _ => Keeps.execTrustPassEnd
  | .applyPassEnd _ => Keeps.execApplyPassEnd
  | .gx _ => Keeps.execGx
  | .allgather _ => Keeps.execAllgather
  | .bcast _ => Keeps.execBcast
  | .send _ => Keeps.execSend
  | .recv _ => Keeps.execRecv
  | .bucketContribution _ _ _ _ => Keeps.execBucketContribution
  | .bucketDeadline _ _ => Keeps.execBucketDeadline
  | .lateContribution _ _ => Keeps.execLateContribution
  | .fabricLanding _ _ _ _ => Keeps.execFabricLanding
  | .sendRecvTimeout _ => Keeps.execSendRecvTimeout
  | .collectivePeerUnreachable _ _ _ => Keeps.execCollectivePeerUnreachable
  | .dense _ => Keeps.execDense
  | .schedReg _ => Keeps.execSchedReg
  | .schedDrop _ => Keeps.execSchedDrop
  | .schedDropRelease _ => Keeps.execSchedDropRelease
  | .sparse _ => Keeps.execSparse
  | .h2t _ _ => Keeps.execH2t
  | .t2h _ => Keeps.execT2h
  | .t2t _ => Keeps.execT2t
  | .place _ => Keeps.execPlace
  | .xfer _ _ => Keeps.execXfer
  | .moverDescriptorStart _ _ => Keeps.execMoverDescriptorStart
  | .moverFlushTimeout _ => Keeps.execMoverFlushTimeout
  | .paceLevelPoll _ => Keeps.execPaceLevelPoll
  | .paceRelease _ => Keeps.execPaceRelease
  | .mvPaceWrite _ _ => Keeps.execMvPaceWrite
  | .mvCtlReset _ => Keeps.execMvCtlReset
  | .movChKill _ => Keeps.execMovChKill
  | .movQuotaWrite _ _ => Keeps.execMovQuotaWrite
  | .perstNAssert => Keeps.execPerstNAssert
  | .perstNDeassert _ => Keeps.execPerstNDeassert
  | .hotReset => Keeps.execHotReset
  | .linkDisable => Keeps.execLinkDisable
  | .surpriseLinkDown => Keeps.execSurpriseLinkDown
  | .linkChanged _ _ => Keeps.execLinkChanged
  | .pfHeartbeatTimeout => Keeps.execPfHeartbeatTimeout
  | .vfHeartbeatTimeout _ => Keeps.execVfHeartbeatTimeout
  | .heartbeatTmoWrite _ _ => Keeps.execHeartbeatTmoWrite
  | .vfFlr _ => Keeps.execVfFlr
  | .vfBusMasterDisable _ => Keeps.execVfBusMasterDisable
  | .vfD3hot _ => Keeps.execVfD3hot
  | .vfRemoved _ => Keeps.execVfRemoved
  | .pfFlr => Keeps.execPfFlr
  | .pfBusMasterDisable => Keeps.execPfBusMasterDisable
  | .pfD3hot => Keeps.execPfD3hot
  | .ideInsecure _ _ => Keeps.execIdeInsecure
  | .hostLineInvalidate _ _ => Keeps.execHostLineInvalidate
  | .hdmDecoderCommit _ _ => Keeps.execHdmDecoderCommit
  | .operatorStopTimeout => Keeps.execOperatorStopTimeout
  | .lnkOpAttach _ => Keeps.execLnkOpAttach
  | .portEnable _ => Keeps.execPortEnable
  | .portDisable _ => Keeps.execPortDisable
  | .laneMaskWrite _ _ => Keeps.execLaneMaskWrite
  | .retrain _ => Keeps.execRetrain
  | .portModuleReady _ => Keeps.execPortModuleReady
  | .trainingTimerExpire _ => Keeps.execTrainingTimerExpire
  | .backoffEnd _ => Keeps.execBackoffEnd
  | .partnerSignalSeen _ => Keeps.execPartnerSignalSeen
  | .detectLock _ _ => Keeps.execDetectLock
  | .tuneComplete _ _ => Keeps.execTuneComplete
  | .alignComplete _ _ => Keeps.execAlignComplete
  | .descriptorReceived _ _ => Keeps.execDescriptorReceived
  | .laneLockLoss _ _ => Keeps.execLaneLockLoss
  | .partnerLaneNotice _ _ => Keeps.execPartnerLaneNotice
  | .fecWindowEnd _ _ _ => Keeps.execFecWindowEnd
  | .restripeAgreed _ => Keeps.execRestripeAgreed
  | .restripeTimeout _ => Keeps.execRestripeTimeout
  | .laneLockRegained _ _ => Keeps.execLaneLockRegained
  | .laneProbationEnd _ _ => Keeps.execLaneProbationEnd
  | .fabLclr _ _ => Keeps.execFabLclr
  | .fabLaneUeMaxWrite _ _ => Keeps.execFabLaneUeMaxWrite
  | .fabricPacketReceive _ _ _ _ => Keeps.execFabricPacketReceive
  | .replayRequest _ _ => Keeps.execReplayRequest
  | .ackTimeout _ => Keeps.execAckTimeout
  | .descriptorSend _ => Keeps.execDescriptorSend
  | .candidateForget _ => Keeps.execCandidateForget
  | .fmStable => Keeps.execFmStable
  | .fabFmCtlWrite _ => Keeps.execFabFmCtlWrite
  | .remoteAccess _ _ _ _ _ => Keeps.execRemoteAccess
  | .fabApply _ => Keeps.execFabApply
  | .e2eResend _ => Keeps.execE2eResend
  | .e2eTimeout _ => Keeps.execE2eTimeout
  | .nodeLostDeclare _ => Keeps.execNodeLostDeclare
  | .fabGrpLoad _ _ => Keeps.execFabGrpLoad
  | .fabGrpRemove _ => Keeps.execFabGrpRemove
  | .entropyFault _ => Keeps.execEntropyFault
  | .spdmGetVersion _ => Keeps.execSpdmGetVersion
  | .spdmGetCapabilities _ => Keeps.execSpdmGetCapabilities
  | .spdmNegotiateAlgorithms _ => Keeps.execSpdmNegotiateAlgorithms
  | .spdmGetDigests _ => Keeps.execSpdmGetDigests
  | .spdmGetCertificate _ _ _ _ => Keeps.execSpdmGetCertificate
  | .spdmChallenge _ _ => Keeps.execSpdmChallenge
  | .spdmGetMeasurements _ _ _ => Keeps.execSpdmGetMeasurements
  | .spdmKeyExchange _ => Keeps.execSpdmKeyExchange
  | .spdmFinish _ => Keeps.execSpdmFinish
  | .spdmHeartbeat _ => Keeps.execSpdmHeartbeat
  | .spdmKeyUpdate _ => Keeps.execSpdmKeyUpdate
  | .spdmEndSession _ => Keeps.execSpdmEndSession
  | .spdmVendorDefinedRequest _ _ => Keeps.execSpdmVendorDefinedRequest
  | .jtagBypass => Keeps.execJtagBypass
  | .jtagIdcode => Keeps.execJtagIdcode
  | .jtagSamplePreload => Keeps.execJtagSamplePreload
  | .jtagExtest _ => Keeps.execJtagExtest
  | .jtagClamp _ => Keeps.execJtagClamp
  | .jtagHighz _ => Keeps.execJtagHighz
  | .tntMeasGo _ _ => Keeps.execTntMeasGo
  | .secFslotsWrite _ _ => Keeps.execSecFslotsWrite
  | .millisecondBoundary _ => Keeps.execMillisecondBoundary
  | .meterIntervalBoundary _ => Keeps.execMeterIntervalBoundary
  | .meterRecordSigned => Keeps.execMeterRecordSigned
  | .mtrIvlWrite _ _ => Keeps.execMtrIvlWrite
  | .meterLatchRead _ _ => Keeps.execMeterLatchRead
  | .lowWordRead _ _ => Keeps.execLowWordRead
  | .rcCounterRead _ _ => Keeps.execRcCounterRead
  | .clkTimeSlewWrite _ => Keeps.execClkTimeSlewWrite
  | .clkTimeSetGo _ => Keeps.execClkTimeSetGo
  | .clkSscWrite _ => Keeps.execClkSscWrite
  | .pllUnlock _ => Keeps.execPllUnlock
  | .accessWake _ => Keeps.execAccessWake
  | .accessWakeIdle _ => Keeps.execAccessWakeIdle
  | .quadTransitionComplete _ => Keeps.execQuadTransitionComplete
  | .retentionEntry => Keeps.execRetentionEntry
  | .retentionExit => Keeps.execRetentionExit
  | .retentionExitComplete => Keeps.execRetentionExitComplete
  | .clkRetCtlWrite _ => Keeps.execClkRetCtlWrite
  | .thermtrip => Keeps.execThermtrip
  | .supplyFault _ => Keeps.execSupplyFault
  | .powerFailWarn _ => Keeps.execPowerFailWarn
  | .powerFailRecover => Keeps.execPowerFailRecover
  | .powerFailShutdown => Keeps.execPowerFailShutdown
  | .tntCoreRst _ _ => Keeps.execTntCoreRst
  | .sysRstCore _ => Keeps.execSysRstCore
  | .sysRstPartition _ => Keeps.execSysRstPartition
  | .sysRstWarm => Keeps.execSysRstWarm
  | .sysRstCold => Keeps.execSysRstCold
  | .pwdReset _ _ => Keeps.execPwdReset
  | .watchdogWarning _ => Keeps.execWatchdogWarning
  | .deviceWatchdogExpire => Keeps.execDeviceWatchdogExpire
  | .partitionWatchdogExpire _ => Keeps.execPartitionWatchdogExpire
  | .mcWatchdogExpire => Keeps.execMcWatchdogExpire
  | .watchdogServe _ _ => Keeps.execWatchdogServe
  | .serveArmTimeout _ => Keeps.execServeArmTimeout
  | .watchdogEnableWrite _ _ => Keeps.execWatchdogEnableWrite
  | .wdgLock => Keeps.execWdgLock
  | .standbyApply => Keeps.execStandbyApply
  | .bootMilestone _ => Keeps.execBootMilestone
  | .dlBegin _ _ => Keeps.execDlBegin
  | .dlWrite _ _ _ => Keeps.execDlWrite
  | .verify _ _ => Keeps.execVerify
  | .activate _ _ => Keeps.execActivate
  | .restart target => Keeps.execRestart (a0 := target)
  | .confirm target _ => Keeps.execConfirm (a0 := target)
  | .rollback target _ => Keeps.execRollback (a0 := target)
  | .abort _ => Keeps.execAbort
  | .trialTimerExpire _ => Keeps.execTrialTimerExpire
  | .flsSeal _ => Keeps.execFlsSeal
  | .flsCfgPut _ _ => Keeps.execFlsCfgPut
  | .flsCfgDel _ _ => Keeps.execFlsCfgDel
  | .flsCfgRead _ => Keeps.execFlsCfgRead
  | .queryDeviceIdentifiers => Keeps.execQueryDeviceIdentifiers
  | .getFirmwareParameters => Keeps.execGetFirmwareParameters
  | .getStatus => Keeps.execGetStatus
  | .requestUpdate => Keeps.execRequestUpdate
  | .passComponentTable => Keeps.execPassComponentTable
  | .updateComponent _ _ => Keeps.execUpdateComponent
  | .firmwareDataReceived _ _ => Keeps.execFirmwareDataReceived
  | .activateFirmware => Keeps.execActivateFirmware
  | .cancelUpdateComponent => Keeps.execCancelUpdateComponent
  | .cancelUpdate => Keeps.execCancelUpdate
  | .pbPrsntDeassert => Keeps.execPbPrsntDeassert
  | .inputGood => Keeps.execInputGood
  | .coldRstN _ => Keeps.execColdRstN
  | .serviceButtonPress => Keeps.execServiceButtonPress
  | .serviceButtonHold => Keeps.execServiceButtonHold
  | .cageModuleInsert _ _ _ _ => Keeps.execCageModuleInsert
  | .cageModuleRemove _ => Keeps.execCageModuleRemove
  | .cageOverpower _ => Keeps.execCageOverpower
  | .smbusAlertResponse => Keeps.execSmbusAlertResponse
  | .registerWrite _ _ _ => Keeps.execRegisterWrite
  | .solverOpEnd _ => Keeps.execSolverOpEnd
  | .moverDescriptorEnd _ => Keeps.execMoverDescriptorEnd
  | .linkUp _ _ _ => Keeps.execLinkUp
  | .vfEnable _ => Keeps.execVfEnable
  | .standbyLoss => Keeps.execStandbyLoss
  | .moduleAdvertisementChange _ _ => Keeps.execModuleAdvertisementChange

theorem exec_eq_next_keeps {c : Instr} {s t : State} (h : exec c s = .next t) : Keeps s t := by
  obtain ⟨u, hu, hk⟩ := exec_keeps (s := s) c
  rw [hu] at h
  cases h
  exact hk

/-! ### What a step keeps beside the queue -/

/-- `Keeps` without the queue, which a step shortens. -/
structure Grows (s t : State) : Prop where
  frees : s.nfree ≤ t.nfree
  outs  : s.out <+: t.out
  mem   : s.memOk → t.memOk
  fuse  : s.flash.fuses ≤ 64 → s.flash.fuses ≤ t.flash.fuses ∧ t.flash.fuses ≤ 64

theorem Keeps.grows {s t : State} (h : Keeps s t) : Grows s t := ⟨h.frees, h.outs, h.mem, h.fuse⟩

theorem Grows.refl {s : State} : Grows s s := Keeps.refl.grows

theorem Grows.trans {s t u : State} (h : Grows s t) (k : Grows t u) : Grows s u where
  frees := Nat.le_trans h.frees k.frees
  outs := h.outs.trans k.outs
  mem m := k.mem (h.mem m)
  fuse f :=
    have ht := h.fuse f
    have hu := k.fuse ht.2
    ⟨Nat.le_trans ht.1 hu.1, hu.2⟩

/-- Taking a command off the queue changes the queue alone. -/
theorem Grows.withPending (s : State) (q : List Instr) : Grows s (s.withPending q) :=
  ⟨Nat.le_refl _, List.prefix_rfl, id, fun h => ⟨Nat.le_refl _, h⟩⟩

theorem step_grows {s t : State} (h : step s = .next t) : Grows s t := by
  cases hq : s.pending with
  | nil =>
    rw [step_of_pending_nil hq] at h
    cases h
    exact (Keeps.tick .refl).grows
  | cons c rest =>
    rw [step_of_pending_cons hq] at h
    exact (Grows.withPending s rest).trans (exec_eq_next_keeps h).grows

theorem RunsTo.grows {s t : State} (h : RunsTo s t) : Grows s t := by
  induction h with
  | refl => exact .refl
  | step _ hstep ih => exact ih.trans (step_grows hstep)

/-! ### The queue along a run (log entry 1) -/

/-- A step with commands waiting takes the first of them off the queue, and nothing else. -/
theorem step_withPending_cons (c : Instr) (rest : List Instr) (s : State) :
    ∃ t, step (s.withPending (c :: rest)) = .next t ∧ t.pending = rest := by
  obtain ⟨t, ht, hk⟩ := exec_keeps (s := s.withPending rest) c
  exact ⟨t, ht, hk.queue⟩

theorem run_succ_of_step {M : Host.Core} {s t : M.State} {k : Nat} (h : M.step s = .next t) : M.run (k + 1) s = M.run k t := by
  rw [Host.Core.run, h]

theorem State.withPending_self (s : State) : s.withPending s.pending = s := rfl

theorem run_withPending (cs : List Instr) (k : Nat) (s : State) (hk : k ≤ cs.length) :
    ∃ t, Host.Core.run core k (s.withPending cs) = .next t ∧ t.pending = cs.drop k := by
  induction k generalizing cs s with
  | zero => exact ⟨_, rfl, rfl⟩
  | succ k ih =>
    match cs, hk with
    | c :: rest, hk =>
      obtain ⟨t, hstep, hq⟩ := step_withPending_cons c rest s
      obtain ⟨u, hrun, hu⟩ := ih rest t (Nat.le_of_succ_le_succ hk)
      rw [← hq, t.withPending_self] at hrun
      refine ⟨u, ?_, hu⟩
      rw [run_succ_of_step (M := core) (s := s.withPending (c :: rest)) (t := t) hstep]
      exact hrun

end Sys2Proof.Machine

open Sys2Proof Sys2Proof.Machine

/-- Settles O6: a step keeps memory and fuses each by itself. -/
theorem everyStepKeepsInvariant : Obligations.EveryStepKeepsInvariant := by
  unfold Obligations.EveryStepKeepsInvariant
  intro s t hinv hstep
  obtain ⟨hmem, hfuses⟩ := hinv
  have hg := step_grows hstep
  exact ⟨hg.mem hmem, (hg.fuse hfuses).2⟩

/-- Settles O7 (R529): no step unblows a fuse, and a run is steps. -/
theorem fusesNeverDecrease : Obligations.FusesNeverDecrease := by
  unfold Obligations.FusesNeverDecrease
  intro s t hfuses hrun
  exact hrun.grows.fuse hfuses

/-- Settles O8, by induction on the steps: each command leaves the queue it was given. -/
theorem queueIsFirstInFirstOut : Obligations.QueueIsFirstInFirstOut := by
  unfold Obligations.QueueIsFirstInFirstOut
  exact run_withPending

/-- Settles O9. -/
theorem outputsOnlyGrow : Obligations.OutputsOnlyGrow := by
  unfold Obligations.OutputsOnlyGrow
  intro s t hrun
  exact ⟨hrun.grows.outs, hrun.grows.frees⟩

/-- Settles O1. -/
theorem stepRunsFrontCommand : Obligations.StepRunsFrontCommand := by
  unfold Obligations.StepRunsFrontCommand
  exact ⟨fun _ _ => step_of_pending_cons rfl, fun _ _ _ => step_of_pending_cons⟩

/-- Settles O2. -/
theorem emptyQueueTicks : Obligations.EmptyQueueTicks := by
  unfold Obligations.EmptyQueueTicks
  exact fun _ => step_of_pending_nil

/-- Settles O3: what every command keeps it keeps in a next state. -/
theorem everyCommandCompletes : Obligations.EveryCommandCompletes := by
  unfold Obligations.EveryCommandCompletes
  intro c s
  obtain ⟨t, ht, -⟩ := exec_keeps (s := s) c
  exact ⟨t, ht⟩

/-- Settles O4: each register is read off the reset state, partition by partition where there are several. -/
theorem resetValues : Obligations.ResetValues := by
  unfold Obligations.ResetValues
  refine ⟨by decide, by decide, by decide, fun r => ?_, by decide, by decide, by decide, by decide, by decide, by decide⟩
  cases r with
  | pf n => exact ⟨by revert n; decide, rfl⟩
  | vf p n => exact ⟨by revert p n; decide, rfl⟩

/-- Settles O5. -/
theorem resetHasInvariant : Obligations.ResetHasInvariant := by
  unfold Obligations.ResetHasInvariant
  have hmem : State.reset.memOk := by unfold State.memOk; decide
  have hfuses : State.reset.fusesOk := by unfold State.fusesOk; decide
  exact ⟨hmem, hfuses⟩
end

section
/-! PROOFS. Chapters 2 and 7: memories as data, what a store leaves, and a window write (R45, R62, R63); chapter 1: the token words (R32). -/

namespace Sys2Proof.Machine

/-! ### Canonical memories (R45) -/

/-- The listed cells of a canonical memory are the addresses that read a byte other than 0. -/
theorem mem_iff_readByte {m : List Host.Cell} (h : Memory.wf m = true) (a : Nat) (v : Byte) :
    (a, v) ∈ m ↔ v ≠ 0 ∧ readByte m a = v := by
  obtain ⟨hne, hlt⟩ := (wf_iff m).mp h
  clear h
  induction m with
  | nil =>
    refine ⟨fun hm => by simp at hm, fun ⟨hv, hr⟩ => absurd hr.symm hv⟩
  | cons c r ih =>
    obtain ⟨hc, hr⟩ := List.pairwise_cons.mp hlt
    have ih := ih (fun d hd => hne d (List.mem_cons_of_mem c hd)) hr
    rw [readByte, List.mem_cons, Prod.ext_iff]
    by_cases hk : c.1 = a
    · subst hk
      have hnot : (c.1, v) ∉ r := fun hm => Nat.lt_irrefl c.1 (hc (c.1, v) hm)
      have hc0 : c.2 ≠ 0 := hne c (by simp)
      rw [if_pos rfl]
      constructor
      · rintro (⟨-, rfl⟩ | hm)
        · exact ⟨hc0, rfl⟩
        · exact absurd hm hnot
      · rintro ⟨-, rfl⟩
        exact .inl ⟨rfl, rfl⟩
    · rw [if_neg hk, ← ih]
      exact ⟨fun hm => hm.resolve_left fun e => hk e.1.symm, .inr⟩

/-- A canonical memory is determined by what it reads: its cells are those, in the one order. -/
theorem eq_of_readByte_eq {m n : List Host.Cell} (hm : Memory.wf m = true) (hn : Memory.wf n = true)
    (h : ∀ a, readByte m a = readByte n a) : m = n := by
  have hsort {l : List Host.Cell} (hl : Memory.wf l = true) := ((wf_iff l).mp hl).2
  have hnodup {l : List Host.Cell} (hl : Memory.wf l = true) : l.Nodup :=
    (hsort hl).imp fun hlt e => absurd (e ▸ hlt) (Nat.lt_irrefl _)
  have hperm : m.Perm n := (List.perm_ext_iff_of_nodup (hnodup hm) (hnodup hn)).mpr fun c => by
    rw [mem_iff_readByte hm, mem_iff_readByte hn, h]
  exact hperm.eq_of_pairwise (fun c d _ _ hcd hdc => absurd (Nat.lt_trans hcd hdc) (Nat.lt_irrefl _)) (hsort hm) (hsort hn)

/-! ### What a store leaves of the memories -/

/-- The bytes of partition `p` and the whole memory of every other partition stay. -/
structure SameBytes (p : Pid) (s t : State) : Prop where
  bytes  : (t.prt p).mem.bytes = (s.prt p).mem.bytes
  others : ∀ q, q ≠ p → (t.prt q).mem = (s.prt q).mem

variable {p : Pid}

theorem SameBytes.refl {s : State} : SameBytes p s s := ⟨rfl, fun _ _ => rfl⟩

theorem SameBytes.trans {s t u : State} (h : SameBytes p s t) (k : SameBytes p t u) : SameBytes p s u :=
  ⟨k.bytes.trans h.bytes, fun q hq => (k.others q hq).trans (h.others q hq)⟩

theorem SameBytes.of_mem {s t : State} (h : ∀ q, (t.prt q).mem = (s.prt q).mem) : SameBytes p s t :=
  ⟨congrArg _ (h p), fun q _ => h q⟩

theorem SameBytes.foldl {α : Type} {s t : State} {l : List α} {f : State → α → State} (h : SameBytes p s t)
    (hf : ∀ t x, SameBytes p t (f t x)) : SameBytes p s (l.foldl f t) := by
  induction l generalizing t with
  | nil => exact h
  | cons x r ih => exact ih (h.trans (hf t x))

theorem State.modMem_sameBytes {s : State} {f : Memory → Memory} (h : ∀ m, (f m).bytes = m.bytes) :
    SameBytes p s (s.modMem p f) where
  bytes := by rw [State.mem_modMem, if_pos rfl, h]
  others q hq := by rw [State.mem_modMem, if_neg (Ne.symm hq)]

theorem State.modTile_sameBytes {s : State} {t : TileNo} {f : Tile → Tile} : SameBytes p s (s.modTile p t f) :=
  State.modMem_sameBytes fun _ => rfl

theorem State.touchQuad_sameBytes {s : State} {x : Home} : SameBytes p s (s.touchQuad x) := by
  cases x with
  | tileMem c => exact .of_mem fun _ => rfl
  | _ => exact .refl

theorem State.sharedEnergy_sameBytes {s : State} {n : Nat} : SameBytes p s (s.sharedEnergy p n) :=
  .of_mem fun _ => State.sharedEnergy_keeps (·.mem) fun _ _ => rfl

theorem State.touch_sameBytes {s : State} {t : TileNo} {n : Nat} {write : Bool} : SameBytes p s (s.touch p t n write) := by
  unfold State.touch
  split
  · exact .refl
  · refine .trans ?_ State.sharedEnergy_sameBytes
    split
    · exact (State.modTile_sameBytes.trans State.touchQuad_sameBytes).trans (State.modMem_sameBytes fun _ => rfl)
    · exact State.modTile_sameBytes.trans State.touchQuad_sameBytes

theorem State.resize_sameBytes {s : State} {t : TileNo} : SameBytes p s (s.resize p t) := State.modTile_sameBytes

/-- A store writes its bytes; the tiles' states, ages and sectors that follow leave every byte. -/
theorem State.store_sameBytes {s : State} {ta : Nat} {b : Bytes} {tag : Option Epoch} :
    SameBytes p (s.modMem p fun m => { m with bytes := writeBytes m.bytes ta b }) (s.store p ta b tag) :=
  .foldl (.foldl .refl fun _ _ => State.modTile_sameBytes.trans State.touch_sameBytes) fun _ _ => State.resize_sameBytes

theorem State.store_bytes {s : State} {ta : Nat} {b : Bytes} {tag : Option Epoch} :
    ((s.store p ta b tag).prt p).mem.bytes = writeBytes (s.prt p).mem.bytes ta b := by
  rw [State.store_sameBytes.bytes, State.mem_modMem, if_pos rfl]

theorem State.store_mem_of_ne {s : State} {ta : Nat} {b : Bytes} {tag : Option Epoch} {q : Pid} (hq : q ≠ p) :
    ((s.store p ta b tag).prt q).mem = (s.prt q).mem := by
  rw [State.store_sameBytes.others q hq, State.mem_modMem, if_neg (Ne.symm hq)]

/-! ### Host bytes leave what decides an access (R66, R187) -/

theorem State.hostBytes_eq_prts (s : State) (fn : Fn) (n : Nat) : ∃ v, s.hostBytes fn n = { s with prts := v } := by
  cases fn with
  | pf => exact ⟨s.prts, rfl⟩
  | vf p =>
    unfold State.hostBytes State.sharedEnergy State.energy State.accrue
    repeat' split
    all_goals exact ⟨_, rfl⟩

theorem State.hostBytes_lineUp {s : State} {fn : Fn} {n : Nat} (ta : Nat) :
    (s.hostBytes fn n).lineUp p ta = s.lineUp p ta := by
  have hmem : ((s.hostBytes fn n).prt p).mem = (s.prt p).mem := State.hostBytes_mem
  obtain ⟨v, hv⟩ := s.hostBytes_eq_prts fn n
  unfold State.lineUp State.canAccess State.rangeUp State.tile?
  rw [hmem, hv]
  rfl

/-! ### A line merged with the enables of a write (R63) -/

theorem length_mergeLine (old b : Bytes) (en : W64) : (mergeLine old b en).length = 64 := by
  simp [mergeLine]

theorem getD_mergeLine {old b : Bytes} {en : W64} {i : Nat} (hi : i < 64) :
    (mergeLine old b en).getD i 0 = if en.getLsbD i then byteAt b i else byteAt old i := by
  simp [mergeLine, List.getD_eq_getElem?_getD, hi]

theorem byteAt_readBytes {m : List Host.Cell} {a n i : Nat} (hi : i < n) : byteAt (readBytes m a n) i = readByte m (a + i) := by
  simp [byteAt, readBytes, List.getD_eq_getElem?_getD, hi]

/-- What a line reads once the enabled bytes of a write are merged into it. -/
theorem readByte_writeBytes_mergeLine {m : List Host.Cell} (h : Memory.wf m = true) {ta i : Nat} (hi : i < 64) (b : Bytes) (en : W64) :
    readByte (writeBytes m ta (mergeLine (readBytes m ta 64) b en)) (ta + i) =
      if en.getLsbD i then byteAt b i else readByte m (ta + i) := by
  rw [readByte_writeBytes h, length_mergeLine, if_pos (by omega), Nat.add_sub_cancel_left, getD_mergeLine hi, byteAt_readBytes hi]

/-! ### A window write that waits for nothing (R62, R63) -/

/-- The bytes that a served write leaves: with no enable set nothing is stored, which merges to the line as it was. -/
theorem State.serveWindow_write {s : State} {w : WinAccess} {b : Bytes} {en : W64} {x : Tile} (hd : w.data = some (b, en))
    (ht : s.tile? p (tileOf w.ta) = some x) (hx : x.st ≠ .poisoned) :
    s.serveWindow p w = if en = 0 then s else s.store p w.ta (mergeLine (s.load p w.ta 64) b en) none := by
  rw [State.serveWindow, ht]
  simp only [if_neg hx, hd]

theorem Memory.windowReach_of {m : Memory} {ta : Nat} {o : Obj} {x : Tile} (ho : m.objOf (tileOf ta) = some o)
    (hx : m.tile? (tileOf ta) = some x) (hta : ta < 2 ^ 48) (hs : o.steward = false) (hr : o.releasing = none) (htag : x.tag = none) :
    m.windowReach ta = true := by
  unfold Memory.windowReach
  rw [ho, hx]
  simpa [hs, hr, htag] using hta

/-- The host's bytes of a window access: a whole line read, or the enabled bytes of a write. -/
def windowBytes : Option (Bytes × W64) → Nat
  | none => 64
  | some (_, en) => ((List.range 64).filter fun i => en.getLsbD i).length

/-- R63: a partition window access that is admitted is served or waits. -/
theorem State.partWindow_of_admitted {s : State} {off : Nat} {data : Option (Bytes × W64)} (hup : s.windowsUp = true)
    (hoff : off < 2 ^ 28) (hen : (s.prt p).win.en = true)
    (hst : (s.life p).st = .ready ∨ (s.life p).st = .running ∨ (s.life p).st = .napping ∨ (s.life p).st = .suspended)
    (hreach : (s.prt p).mem.windowReach ((s.prt p).win.base.toNat * 2 ^ 28 + off / 64 * 64) = true) :
    s.partWindow p off data =
      (s.hostBytes (.vf p) (windowBytes data)).windowAccess p
        ⟨false, (s.prt p).win.base.toNat * 2 ^ 28 + off / 64 * 64, data⟩ := by
  unfold State.partWindow
  simp only [hup, Bool.not_true, Bool.false_or, decide_eq_true_eq, if_neg (Nat.not_le_of_lt hoff), State.hostBytes_life,
    State.hostBytes_mem, hen, hreach, Bool.and_true, Bool.true_and]
  rcases hst with h | h | h | h <;> simp only [h, if_true] <;> cases data <;> rfl

end Sys2Proof.Machine

open Sys2Proof Sys2Proof.Machine

/-- Settles O16. -/
theorem canonicalMemoriesAreData : Obligations.CanonicalMemoriesAreData := by
  unfold Obligations.CanonicalMemoriesAreData
  exact fun _ _ => eq_of_readByte_eq

/-- Settles O14: the write is admitted and waits for nothing, so it is one store of the merged line. -/
theorem windowWriteStores : Obligations.WindowWriteStores := by
  unfold Obligations.WindowWriteStores
  intro s p off ta data en o x hok hup hoff hta hen hst hlim ho hs hr hx htag hpois hline
  have hreach := Memory.windowReach_of ho hx hlim hs hr htag
  have hadm := State.partWindow_of_admitted (data := some (data, en)) hup hoff hen hst (hta ▸ hreach)
  rw [← hta] at hadm
  generalize hu : s.hostBytes (.vf p) (windowBytes (some (data, en))) = u at hadm
  have hmem (q : Pid) : (u.prt q).mem = (s.prt q).mem := hu ▸ State.hostBytes_mem
  have hup' : u.lineUp p ta = true := hu ▸ (State.hostBytes_lineUp ta).trans hline
  have hux : u.tile? p (tileOf ta) = some x := by rw [State.tile?, hmem]; exact hx
  have hserve : exec (.partitionWindowWrite p off data en) s =
      .next (if en = 0 then u else u.store p ta (mergeLine (u.load p ta 64) data en) none) := by
    have haccess : u.windowAccess p ⟨false, ta, some (data, en)⟩ = u.serveWindow p ⟨false, ta, some (data, en)⟩ :=
      if_pos hup'
    exact congrArg _ (hadm.trans (haccess.trans (State.serveWindow_write rfl hux hpois)))
  refine ⟨_, hserve, ?_⟩
  have hload : u.load p ta 64 = readBytes (s.prt p).mem.bytes ta 64 := by rw [State.load, hmem]
  split
  · next hzero =>
    subst hzero
    exact ⟨fun i _ => by simp [hmem], fun a _ => by rw [hmem], fun q _ => hmem q⟩
  · rw [State.store_bytes, hload, hmem]
    refine ⟨fun i hi => readByte_writeBytes_mergeLine (hok p) hi data en, fun a ha => ?_, fun q hq => ?_⟩
    · rw [readByte_writeBytes (hok p), length_mergeLine, if_neg (by omega)]
    · rw [State.store_mem_of_ne hq, hmem]
end

section
/-! PROOFS. Chapter 1: partitions, their commands, their page, their token words and their lifecycle (R13 to R42). -/

namespace Sys2Proof.Machine

variable {s : State} {p : Pid}

/-! ### PRT commands (R18, R20) -/

/-- R18: a PRT command that is taken is carried out on the state in which its code stands in the page. -/
theorem State.PrtTakes.prtCmd {code : BitVec 4} {accepts : PState → Bool} {f : State → State} (h : s.PrtTakes p accepts) :
    s.prtCmd p code accepts f = f (s.prtTaken p code) := by
  obtain ⟨hopen, hidle, haccepts⟩ := h
  simp [State.prtCmd, State.prtTaken, hopen, hidle, haccepts]

/-! ### Token words (R32) -/

/-- The state after a served read of a word of PRT_TOKEN. -/
def State.prtTokenRead (s : State) (p : Pid) (k : Fin 4) : State :=
  (s.modPrt p fun P => { P with tok := { P.tok with prtUnread := P.tok.prtUnread &&& ~~~(wordBit k) } }).emit
    (.regValue .pf (0x10000 + 0x1000 * p.val + 0x30 + 4 * k.val)
      (if (s.prt p).tok.prtUnread.getLsbD k.val then tokenWord (s.prt p).tok.token k else 0))

theorem exec_prtTokenRead {k : Fin 4} (hopen : s.pfOpen = true) : exec (.prtTokenRead p k) s = .next (s.prtTokenRead p k) := by
  change execPrtTokenRead p k s = _
  simp [execPrtTokenRead, State.prtTokenRead, hopen]

theorem State.prtTokenRead_out (s : State) (p : Pid) (k : Fin 4) :
    (s.prtTokenRead p k).out = s.out ++ [.regValue .pf (0x10000 + 0x1000 * p.val + 0x30 + 4 * k.val)
      (if (s.prt p).tok.prtUnread.getLsbD k.val then tokenWord (s.prt p).tok.token k else 0)] := rfl

theorem State.prtTokenRead_tok (s : State) (p : Pid) (k : Fin 4) :
    ((s.prtTokenRead p k).prt p).tok = { (s.prt p).tok with prtUnread := (s.prt p).tok.prtUnread &&& ~~~(wordBit k) } := by
  change ((s.modPrt p _).prt p).tok = _
  rw [State.prt_modPrt, if_pos rfl]

theorem State.prtTokenRead_unread (s : State) (p : Pid) (k : Fin 4) :
    ((s.prtTokenRead p k).prt p).tok.prtUnread = (s.prt p).tok.prtUnread &&& ~~~(wordBit k) := by
  rw [State.prtTokenRead_tok]

theorem State.prtTokenRead_token (s : State) (p : Pid) (k : Fin 4) :
    ((s.prtTokenRead p k).prt p).tok.token = (s.prt p).tok.token := by
  rw [State.prtTokenRead_tok]

theorem getLsbD_clear_wordBit_self (m : BitVec 4) (k : Fin 4) : (m &&& ~~~(wordBit k)).getLsbD k.val = false := by
  revert m k; decide

theorem getLsbD_clear_wordBit_of_ne {m : BitVec 4} {j k : Fin 4} (h : j ≠ k) :
    (m &&& ~~~(wordBit k)).getLsbD j.val = m.getLsbD j.val := by
  revert m j k; decide

end Sys2Proof.Machine

open Sys2Proof Sys2Proof.Machine

/-- Settles O15 (R32): a read marks its own word as read, puts out the word where it was unread, and changes nothing else of the token. -/
theorem tokenWordsAreRevealedOnce : Obligations.TokenWordsAreRevealedOnce := by
  unfold Obligations.TokenWordsAreRevealedOnce
  intro s p k hopen
  have hread : (s.prtTokenRead p k).pfOpen = true := hopen
  refine ⟨_, _, exec_prtTokenRead hopen, exec_prtTokenRead hread, fun hunread => ?_, ?_, ?_, ?_, fun j hj => ?_⟩
  · rw [State.prtTokenRead_out, if_pos hunread]
  · rw [State.prtTokenRead_out, State.prtTokenRead_unread, getLsbD_clear_wordBit_self, if_neg Bool.false_ne_true]
  · rw [State.prtTokenRead_token]
  · rw [State.prtTokenRead_token, State.prtTokenRead_token]
  · rw [State.prtTokenRead_unread, State.prtTokenRead_unread, getLsbD_clear_wordBit_of_ne hj, getLsbD_clear_wordBit_of_ne hj]

/-- Settles O17: a command that is taken is carried out on the state in which its code stands in the page. -/
theorem prtCommandsTakeEffect : Obligations.PrtCommandsTakeEffect := by
  unfold Obligations.PrtCommandsTakeEffect
  refine ⟨?_, ?_, ?_, ?_, ?_, ?_, ?_, ?_, ?_⟩
  · -- CREATE (R21)
    intro s p htakes
    change execCreate p s = _
    rw [execCreate, htakes.prtCmd]
  · -- COMMIT (R15)
    intro s p htakes hcheck
    change execCommit p s = _
    rw [execCommit, htakes.prtCmd]
    simp only [hcheck]
  · -- ABANDON (R21)
    intro s p htakes
    change execAbandon p s = _
    rw [execAbandon, htakes.prtCmd]
  · -- START (R21)
    intro s p htakes
    change execStart p s = _
    rw [execStart, htakes.prtCmd]
  · -- SUSPEND (R24)
    intro s p htakes
    change execSuspend p s = _
    rw [execSuspend, htakes.prtCmd]
  · -- RESUME (R21)
    intro s p htakes
    change execResume p s = _
    rw [execResume, htakes.prtCmd]
  · -- DESTROY (R23)
    intro s p htakes
    change execDestroy p s = _
    rw [execDestroy, htakes.prtCmd]
  · -- RESIZE (R37)
    intro s p htakes hchange hcheck
    change execResize p s = _
    rw [execResize, htakes.prtCmd]
    simp only [if_neg hchange, hcheck]
  · -- PRT_CMD_RESERVED (R18)
    intro s p code hopen hcode
    unfold exec execPrtCmdReserved
    simp [hopen, hcode]

/-- Settles O18: each event acts where its condition holds. -/
theorem partitionLifecycleEvents : Obligations.PartitionLifecycleEvents := by
  unfold Obligations.PartitionLifecycleEvents
  refine ⟨?_, ?_, ?_, ?_, ?_, ?_, ?_, ?_, ?_⟩
  · -- SUSPEND_HALT_COMPLETE (R24)
    intro s p hexec hbusy
    unfold exec execSuspendHaltComplete State.suspended
    simp [hexec, hbusy]
  · -- RESIZE_COMPLETE (R37)
    intro s p q f b t k hexec hresizeOver
    unfold exec execResizeComplete
    simp [hexec, hresizeOver]
  · -- DRAIN_TIMEOUT (R24)
    intro s p hdrainOver hst
    unfold exec execDrainTimeout
    simp [hdrainOver, hst]
  · -- DRAIN_COMPLETE (R26)
    intro s p hst hengineBusy hqueuedLeft hall
    unfold exec execDrainComplete
    simp [hst, hengineBusy, hqueuedLeft, hall]
  · -- KEY_RETIRE (R442)
    intro s p hst hkeyRetired hkeyIdle
    unfold exec execKeyRetire
    simp [hst, hkeyRetired, hkeyIdle]
  · -- SCRUB_COMPLETE (R28)
    intro s p hst hkeyRetired
    unfold exec execScrubComplete
    simp [hst, hkeyRetired]
  · -- IDLE_TIMEOUT (R21)
    intro s p hidleUs hidle hst hexec hhalting
    unfold exec execIdleTimeout
    simp only [hidleUs, hidle, hst, hexec, hhalting, decide_false, Bool.not_true, Bool.or_false, Bool.false_eq_true, if_false]
  · -- TNT_NAP (R21)
    intro s p hvfFull hst hexec hhalting hhasWork
    unfold exec execTntNap
    simp [hvfFull, hst, hexec, hhalting, hhasWork]
  · -- ATTACH_LOCKOUT_END (R35)
    intro s p t hlockedAt hsince
    unfold exec execAttachLockoutEnd
    simp [hlockedAt, hsince]

/-- Settles O19: a write or read that is served takes its own branch. -/
theorem partitionPageWrites : Obligations.PartitionPageWrites := by
  unfold Obligations.PartitionPageWrites
  refine ⟨?_, ?_, ?_, ?_, ?_, ?_, ?_, ?_, ?_, ?_⟩
  · -- PRT_STAGED_WRITE (R16)
    intro s p v hopen hsettable
    unfold exec execPrtStagedWrite
    simp [hopen, hsettable]
  · -- PRT_STAGED_WRITE (R16)
    intro s p v hopen hsettable
    unfold exec execPrtStagedWrite
    simp [hopen, hsettable]
  · -- PRT_STAGED_WRITE (R16)
    intro s p v hopen hsettable
    unfold exec execPrtStagedWrite
    simp [hopen, hsettable]
  · -- PRT_MODE_WRITE (R17)
    intro s p v hopen hsettable
    unfold exec execPrtModeWrite
    simp [hopen, hsettable]
  · -- PRT_MODE_WRITE (R17)
    intro s p v hopen hst
    unfold exec execPrtModeWrite
    simp [hopen, hst, PState.settable]
  · -- PRT_MODE_WRITE (R17)
    intro s p v hopen hsettable
    unfold exec execPrtModeWrite
    simp [hopen, hsettable]
  · -- PRT_TOKEN_READ (R32)
    intro s p k hopen
    unfold exec execPrtTokenRead
    simp [hopen]
  · -- TNT_TOKEN_READ (R33)
    intro s p k hvfFull
    unfold exec execTntTokenRead
    simp [hvfFull]
  · -- TNT_TOKEN_ROTATE (R33)
    intro s p hvfFull
    unfold exec execTntTokenRotate
    simp [hvfFull]
  · -- TNT_CONSENT_WRITE (R30)
    intro s p v hfull hconsent
    unfold exec execTntConsentWrite
    simp only [hfull, Bool.true_and, bne_iff_ne]
    rw [if_pos hconsent]
end

section
/-! PROOFS. Chapter 2: objects and windows (R52 to R67). -/

namespace Sys2Proof.Machine

/-! ### The operator window (R63) -/

/-- R63: an operator window access that is admitted is served or waits. -/
theorem State.operWindow_of_admitted {s : State} {p : Pid} {off : Nat} {data : Option (Bytes × W64)} (hup : s.windowsUp = true)
    (hoff : off < 2 ^ 30) (hen : s.exitRetention.op.win.en = true) (hpid : s.exitRetention.op.win.pid.toNat = p.val)
    (hcommitted : (s.exitRetention.life p).st.committed = true) (hconsent : (s.exitRetention.prt p).tok.consent = true)
    (hreach : (s.exitRetention.prt p).mem.windowReach (s.exitRetention.op.win.base.toNat * 2 ^ 30 + off / 64 * 64) = true) :
    s.operWindow off data = s.exitRetention.windowAccess p
      ⟨true, s.exitRetention.op.win.base.toNat * 2 ^ 30 + off / 64 * 64, data⟩ := by
  have hnamed : s.exitRetention.op.win.en = true ∧ s.exitRetention.op.win.pid.toNat < 16 := ⟨hen, hpid ▸ p.isLt⟩
  have hp : (⟨s.exitRetention.op.win.pid.toNat, hnamed.2⟩ : Pid) = p := Fin.ext hpid
  unfold State.operWindow
  simp only [hup, Nat.not_le_of_lt hoff, dif_pos hnamed, hp, hcommitted, hconsent, hreach, decide_false, Bool.not_true, Bool.or_self,
    Bool.false_eq_true, if_false, if_true]

end Sys2Proof.Machine

open Sys2Proof Sys2Proof.Machine

/-- Settles O20: an object command that no rule refuses is carried out on the tiles of its object. -/
theorem objectCommandsTakeEffect : Obligations.ObjectCommandsTakeEffect := by
  unfold Obligations.ObjectCommandsTakeEffect
  refine ⟨?_, ?_, ?_, ?_, ?_, ?_⟩
  · -- OBJ_DEFINE (R52)
    intro s c p n k hinline hring hbad hroom hhint hfit htiles
    change execObjDefine c s = _
    unfold State.defined at htiles ⊢
    simp only [execObjDefine, hinline, hring, State.objDefine, hbad, Nat.not_le_of_lt hroom, hhint, hfit, htiles, decide_false,
      Bool.false_and, Bool.not_true, Bool.false_eq_true, if_false]
  · -- OBJ_HINT (R54)
    intro s c p n k o hinline hring hoperands hlt hpin htarget hsteward hhint hcore hbound hmoving
    change execObjHint c s = _
    have h6 : BitVec.ofNat 3 (leAt k.operands 4 4) ≠ 6 := fun h => absurd (h ▸ hlt) (by decide)
    have h7 : BitVec.ofNat 3 (leAt k.operands 4 4) ≠ 7 := fun h => absurd (h ▸ hlt) (by decide)
    simp only [execObjHint, hinline, hring, State.objHint, hoperands, h6, h7, htarget, hsteward, hpin, hhint, hcore, hbound, hmoving,
      State.applyHint, bne_iff_ne.mpr hpin]
    simp
  · -- OBJ_RELEASE (R55)
    intro s c p n k o hinline hring hoperands htarget hsteward hbound hschedule
    change execObjRelease c s = _
    simp only [execObjRelease, hinline, hring, State.objRelease]
    simp [hoperands, htarget, hsteward, hbound, hschedule]
  · -- OBJ_RELEASE_DRAINED (R55)
    intro s c p n o hring hreleased hidle
    change execObjReleaseDrained c s = _
    simp [execObjReleaseDrained, hring, State.releaseEnd, hreleased, hidle]
  · -- OBJ_QUERY (R57)
    intro s c p n k o hinline hring hoperands htarget halign hlost
    change execObjQuery c s = _
    simp only [execObjQuery, hinline, State.objQuery, hring] at hlost ⊢
    simp [hoperands, htarget, halign, hlost]
  · -- TILE_CLEAR (R205)
    intro s c p n k o hinline hring hattr hbase hzero halign hpos hmax htarget hsteward hlo hhi
    change execTileClear c s = _
    simp only [execTileClear, hinline, hring, State.tileClear, hattr, hbase, hzero, halign, Nat.ne_of_gt hpos, Nat.not_lt_of_le hmax,
      htarget]
    simp [hsteward, Nat.not_lt_of_le hlo, Nat.not_lt_of_le hhi]

/-- Settles O21: an access that R63 or R64 admits is served at its target address; a width error only latches. -/
theorem windowAccesses : Obligations.WindowAccesses := by
  unfold Obligations.WindowAccesses
  refine ⟨?_, ?_, ?_, ?_, ?_, ?_, ?_, ?_, ?_, ?_, ?_⟩
  · -- PARTITION_WINDOW_READ (R63)
    intro s p off hup hoff hen hst hreach
    exact congrArg Host.Outcome.next (State.partWindow_of_admitted hup hoff hen hst hreach)
  · -- PARTITION_WINDOW_WRITE (R63)
    intro s p off data en hup hoff hen hst hreach
    exact congrArg Host.Outcome.next (State.partWindow_of_admitted hup hoff hen hst hreach)
  · -- OPERATOR_WINDOW_READ (R63)
    intro s p off hup hoff hen hpid hcommitted hconsent hreach
    exact congrArg Host.Outcome.next (State.operWindow_of_admitted hup hoff hen hpid hcommitted hconsent hreach)
  · -- OPERATOR_WINDOW_WRITE (R63)
    intro s p off data en hup hoff hen hpid hcommitted hconsent hreach
    exact congrArg Host.Outcome.next (State.operWindow_of_admitted hup hoff hen hpid hcommitted hconsent hreach)
  · -- WINDOW_CONTROL_WRITE (R67)
    intro s p v hopen
    unfold exec execWindowControlWrite
    simp [hopen]
  · -- WINDOW_CONTROL_WRITE (R67)
    intro s p v hopen
    unfold exec execWindowControlWrite
    simp [hopen]
  · -- WINDOW_CONTROL_WRITE (R67)
    intro s v hopen
    unfold exec execWindowControlWrite
    simp [hopen]
  · -- WINDOW_CONTROL_WRITE (R67)
    intro s v hopen
    unfold exec execWindowControlWrite
    simp [hopen]
  · -- BAR_WIDTH_ERROR (R61)
    intro s fn off hpresent hbarWidth
    unfold exec execBarWidthError
    simp [hpresent]
  · -- SYS_ERR_CLEAR (R579)
    intro s v hserves hbit
    unfold exec execSysErrClear
    simp [hserves, hbit]
  · -- SYS_ERR_CLEAR (R579)
    intro s p v hvfFull hbit
    unfold exec execSysErrClear
    simp [hvfFull, hbit]
end

section
/-! PROOFS. Chapter 3: rings, doorbells, interrupts and mailboxes (R74 to R100). -/

namespace Sys2Proof.Machine

/-- Table 3-1: a ring is of one kind. -/
theorem Ring.isKind_eq_false_of_ne {R : Ring} {i j : Nat} (h : R.isKind i = true) (hij : i ≠ j) : R.isKind j = false := by
  simp only [Ring.isKind, decide_eq_true_eq, decide_eq_false_iff_not] at h ⊢
  exact fun hj => hij (h.symm.trans hj)

/-- A host write takes no device time. -/
theorem State.hostWrite_pwr (s : State) (fn : Fn) (iova : W64) (b : Bytes) : (s.hostWrite fn iova b).pwr = s.pwr := by
  obtain ⟨v, hv⟩ := s.hostBytes_eq_prts fn b.length
  rw [State.hostWrite, hv]
  rfl

end Sys2Proof.Machine

open Sys2Proof Sys2Proof.Machine

/-- Settles O22: each event of a ring acts in the ring state that its clause names. -/
theorem ringsAndDoorbells : Obligations.RingsAndDoorbells := by
  unfold Obligations.RingsAndDoorbells
  refine ⟨?_, ?_, ?_, ?_, ?_, ?_, ?_, ?_, ?_, ?_, ?_, ?_, ?_, ?_, ?_⟩
  · -- RING_CONFIG_WRITE (R74)
    intro s r off v hopen
    unfold exec execRingConfigWrite
    simp [hopen]
  · -- RING_ENABLE (R75)
    intro s r hopen hstate hvalid
    unfold exec execRingEnable State.ringEnable
    simp [hopen, hstate, hvalid]
  · -- RING_DISABLE (R76)
    intro s r hopen hstate hkind
    unfold exec execRingDisable State.ringDisable
    simp [hopen, hstate, hkind, Ring.isKind_eq_false_of_ne hkind (j := 2) (by decide)]
  · -- RING_ENTRY_ACCESS_FAIL (R76)
    intro s r hstate hlost hqueued
    unfold exec execRingEntryAccessFail State.ringAccessFail
    simp [hstate, hlost, hqueued]
  · -- RING_ENTRY_ACCESS_FAIL (R76)
    intro s r hstate hlost hkind hdev
    unfold exec execRingEntryAccessFail State.ringAccessFail
    simp [hstate, hlost, hkind, hdev]
  · -- RING_ENTRY_ACCESS_FAIL (R76)
    intro s r hstate hlost hiwbEn
    unfold exec execRingEntryAccessFail State.ringAccessFail
    simp [hstate, hlost, hiwbEn]
  · -- DOORBELL_WRITE (R87)
    intro s r v n hopen hlost hstate hidx hclaims
    unfold exec execDoorbellWrite State.doorbell
    simp [hopen, hlost, hstate, Nat.not_le_of_lt hidx, hclaims]
  · -- DB_CANCEL (R94)
    intro s r v hopen hlost hkind hstate hall
    unfold exec execDbCancel State.dbCancel
    simp only [hopen, hlost, hkind, hstate, hall]
    simp
  · -- CANCEL_MATCHING_DONE (R95)
    intro s r hcancels hany
    unfold exec execCancelMatchingDone State.cancelDone
    simp [hcancels, hany]
  · -- COMMAND_CONSUME (R80)
    intro s r e hconsumable hconsumeOutcome
    unfold exec execCommandConsume State.consume
    simp [hconsumable, hconsumeOutcome]
  · -- COMMAND_READY_START (R108)
    intro s r k hhead hconditions hneedsFlush hengine
    unfold exec execCommandReadyStart State.readyStart
    simp [hhead, hconditions, hneedsFlush, hengine]
  · -- COMMAND_READY_START (R108)
    intro s r k hhead hconditions hflush hengine hfree hwinner
    have hclass : k.hdr.engine.toNat ≠ 0 := fun h => hengine (BitVec.eq_of_toNat_eq h)
    unfold exec execCommandReadyStart State.readyStart
    simp only [hhead, hconditions, hflush, hclass, hfree, hwinner]
    simp
  · -- COMMAND_PROMOTION (R110)
    intro s c k t hcmd hstage hlevel hreadyAt hsince
    unfold exec execCommandPromotion State.promote
    simp [hcmd, hstage, hlevel, hreadyAt, hsince]
  · -- INDEX_WRITEBACK (R81)
    intro s r hstate hen hdue hlost hlast
    unfold exec execIndexWriteback State.indexWriteback
    simp [hstate, hen, hdue, hlost, hlast, State.hostWrite_pwr]
  · -- IRQ_MODERATION_TIMEOUT (R90)
    intro s r t hfirst htime hpassed
    unfold exec execIrqModerationTimeout State.irqTimeout
    simp only [hfirst, bne_iff_ne.mpr htime, hpassed, decide_true, Bool.and_self, if_true]

/-- Settles O23: a post, a release or a placement with room in its mailbox is carried out. -/
theorem mailboxMessages : Obligations.MailboxMessages := by
  unfold Obligations.MailboxMessages
  refine ⟨?_, ?_, ?_, ?_, ?_, ?_, ?_, ?_, ?_⟩
  · -- MSIX_UNMASK (R91)
    intro s fn v addr data hpending
    unfold exec execMsixUnmask State.msixUnmask
    simp only [hpending, Bool.false_eq_true, if_false]
  · -- MSIX_UNMASK (R91)
    intro s fn v addr data hpending
    unfold exec execMsixUnmask State.msixUnmask
    simp only [hpending, if_true]
  · -- MB_IN_POST (R98)
    intro s v hopen hbit hmailHeaderErr
    unfold exec execMbInPost State.mailPost
    simp [hopen, hbit, hmailHeaderErr]
  · -- MB_OUT_RELEASE (R100)
    intro s fn v hopen
    unfold exec execMbOutRelease
    simp [hopen]
  · -- MAILBOX_OUTBOUND_PLACE (R100)
    intro s fn m rest i hwaiting hcanSend hslot hsender
    unfold exec execMailboxOutboundPlace State.outboundPlace
    simp [hwaiting, hcanSend, hslot, hsender]
  · -- SERVICE_PING (R99)
    intro s fn i b hserviceMsg hmsgType
    unfold exec execServicePing
    simp [hserviceMsg, hmsgType]
  · -- SERVICE_HEARTBEAT (R370)
    intro s fn i b hserviceMsg hmsgType
    unfold exec execServiceHeartbeat
    simp [hserviceMsg, hmsgType]
  · -- SERVICE_TIME (R99)
    intro s fn i b hserviceMsg hmsgType
    unfold exec execServiceTime
    simp [hserviceMsg, hmsgType]
  · -- SERVICE_UNKNOWN (R99)
    intro s fn i b hmsg htype
    have h1 : msgType b ≠ 1 := fun h => absurd (h ▸ htype) (by decide)
    have h2 : msgType b ≠ 2 := fun h => absurd (h ▸ htype) (by decide)
    have h3 : msgType b ≠ 3 := fun h => absurd (h ▸ htype) (by decide)
    unfold exec execServiceUnknown
    simp only [hmsg, h1, h2, h3, decide_false, Bool.or_self, Bool.false_eq_true, if_false]
end

section
/-! PROOFS. Chapter 4: control commands, lists, barriers and epochs (R103 to R125). -/

open Sys2Proof Sys2Proof.Machine

/-- Settles O24: a control command at the head of its queue takes its own branch. -/
theorem controlClassCommands : Obligations.ControlClassCommands := by
  unfold Obligations.ControlClassCommands
  refine ⟨?_, ?_, ?_, ?_, ?_, ?_, ?_, ?_, ?_, ?_⟩
  · -- EXEC_LIST (R105)
    intro s c l k ops hcmd hstage hopc hengine hupdate hruns hread hparse hzero
    unfold exec execExecList State.execList
    simp only [hcmd, hstage, hopc, hengine, hupdate, hruns, hread, hparse, hzero, bne_self_eq_false, decide_false, Bool.not_true,
      Bool.and_false, Bool.or_self, Bool.false_eq_true, if_false]
  · -- CONTROL_NOP (R103)
    intro s c k hinline hzero
    unfold exec execControlNop
    simp only [hinline, hzero, if_true]
  · -- CONTROL_FENCE (R113)
    intro s c k hinline hzero hdirty
    unfold exec execControlFence
    simp only [hinline, hzero, hdirty, Bool.not_true, Bool.false_eq_true, if_true, if_false]
  · -- CONTROL_FENCE (R113)
    intro s c k hinline hzero hdirty
    unfold exec execControlFence
    simp only [hinline, hzero, hdirty, Bool.not_true, Bool.false_eq_true, if_false]
  · -- FLUSH_READ_DONE (R113)
    intro s c k t st d hcmd hlost hstage
    unfold exec execFlushReadDone State.flushDone
    simp [hcmd, hlost, hstage]
  · -- FENCE_TIMEOUT (R114)
    intro s c k t st d hcmd hstage hfenceTmo hlost
    unfold exec execFenceTimeout
    simp [hcmd, hstage, hfenceTmo, hlost]
  · -- BAR_CFG (R117)
    intro s c p n k hinline hring hclean harrived hlocal hcount
    unfold exec execBarCfg
    simp only [hinline, hring, State.barCfg, hclean, harrived, hlocal, hcount, bne_self_eq_false, Bool.not_true, Bool.false_and,
      Bool.false_eq_true, if_false]
  · -- BARRIER_ARRIVAL (R118)
    intro s c p n k st d g hcmd hring hstage hmeets
    unfold exec execBarrierArrival State.barrierArrival
    simp only [hcmd, hring, hstage, hmeets]
  · -- FABRIC_BARRIER_RELEASE (R119)
    intro s p b hcfg hfabric hbroken hvalue
    unfold exec execFabricBarrierRelease
    simp [hcfg, hfabric, hbroken, hvalue]
  · -- BARRIER_TIMEOUT (R120)
    intro s p b t hfirst hcfg hbroken htimeout hpaused hpassed
    unfold exec execBarrierTimeout
    simp only [hfirst, hcfg, hbroken, bne_iff_ne.mpr htimeout, hpaused, hpassed, Option.isNone_none, decide_true, Bool.not_false,
      Bool.and_self, if_true]

/-- Settles O25: each list operation ends or waits as its clause says. -/
theorem controlListOperations : Obligations.ControlListOperations := by
  unfold Obligations.ControlListOperations
  refine ⟨?_, ?_, ?_, ?_, ?_, ?_, ?_⟩
  · -- LIST_NOP (R107)
    intro s o k x hnextOp
    unfold exec execListNop
    simp [hnextOp]
  · -- MB_RECV (R99)
    intro s o p n k x hring hnext hok hobject
    unfold exec execMbRecv State.mbRecv
    simp only [hring, hnext, hok, hobject, Bool.not_true, Bool.false_eq_true, if_false]
  · -- MB_RECV_TIMEOUT (R99)
    intro s o k a hactiveOp hlop hfield hfield'
    unfold exec execMbRecvTimeout
    simp [hactiveOp, hlop, hfield, hfield']
  · -- MB_SEND (R100)
    intro s o p n k x hring hnext hok hempty hblocked hroom hwaiting
    rw [hring] at hblocked
    unfold exec execMbSend State.mbSend
    simp only [hring, hnext, hok, hempty, hblocked, hroom, hwaiting, List.isEmpty_nil, Bool.not_true, Bool.and_self, Bool.false_eq_true,
      if_false, if_true]
  · -- BAR_ARRIVE (R118)
    intro s o p n k x g hring hnext hbar hzero hmeets
    unfold exec execBarArrive State.barArrive
    simp only [hring, hnext, Nat.not_le_of_lt hbar, hzero, hmeets, decide_false, Bool.not_true, Bool.or_self, Bool.false_eq_true, if_false]
  · -- TIMESTAMP (R107)
    intro s o k x hnext hlop halign hlost
    unfold exec execTimestamp State.hostOp
    simp only [hnext, halign, hlost, bne_self_eq_false, Bool.false_eq_true, if_false, State.hostOpWrite, State.hostOpBytes, hlop, if_true]
  · -- WRITE_VALUE (R107)
    intro s o k x hnext hlop halign hlost
    have hwrite : x.lop ≠ 0x84 := by rw [hlop]; decide
    unfold exec execWriteValue State.hostOp
    simp only [hnext, halign, hlost, bne_self_eq_false, Bool.false_eq_true, if_false, State.hostOpWrite, State.hostOpBytes, hwrite]

/-- Settles O26: a commit, a revoke or a decision within its scope moves the epochs. -/
theorem epochDecisions : Obligations.EpochDecisions := by
  unfold Obligations.EpochDecisions
  refine ⟨?_, ?_, ?_, ?_⟩
  · -- EPOCH_COMMIT (R121)
    intro s c p n k hinline hring hoperands hlocal hahead
    unfold exec execEpochCommit State.epochCommand
    simp only [if_true, hinline, hring, hoperands, hlocal, hahead, State.commitBy, Bool.not_true, Bool.false_eq_true, if_false]
  · -- EPOCH_REVOKE (R122)
    intro s c p n k hinline hring hoperands hlocal hcheck
    unfold exec execEpochRevoke State.epochCommand
    simp only [Bool.false_eq_true, if_false, hinline, hring, hoperands, hlocal, hcheck, State.revokeBy, Bool.not_true, if_true]
  · -- JOB_EPOCH_DECISION (R123)
    intro s p e b hcommitted
    unfold exec execJobEpochDecision State.jobDecision
    simp [hcommitted]
  · -- TNT_EPOCH_WRITE (R125)
    intro s p v hvfFull hst
    unfold exec execTntEpochWrite
    simp [hvfFull, hst]
end

section
/-! PROOFS. Chapter 5: compute operations (R127 to R151). -/

namespace Sys2Proof.Machine

/-- R139: a compute operation whose operands pass their checks, touch no pair and need not wait is carried out at once. -/
theorem State.computeOp_of_ok {s : State} {o : OpRef} {lop : Nat} {p : Pid} {n : Fin 64} {k : Cmd} {x : ListOp} {C : ComputeOp}
    (hring : o.cmd.ring = .vf p n) (hnext : s.nextOp o 1 lop = some (k, x)) (hcheck : checkCompute (s.coresOf p).length x = .ok C)
    (hpairs : s.pairsRead p C.readTiles = []) (hdeny : s.deny o.cmd p C.tiles = none)
    (hblocked : s.blocked p C.tiles (s.tagOf o.cmd.ring k.hdr) = false) :
    s.computeOp o lop = (s.runCompute p C (s.tagOf o.cmd.ring k.hdr) k.dead).opBegin o (s.newOp o x C.spans) := by
  rw [hring] at hblocked ⊢
  have hfree : s.pairEnd o [] k.pairAt = none := rfl
  have hkept : s.holdPairs o [] = s := rfl
  unfold State.computeOp
  simp only [hring, hnext, hcheck, hpairs, hdeny, hblocked, hfree, hkept, List.any_nil, Bool.false_eq_true, if_false]

/-- R468: the energy of an operation is metered in a FENCED partition alone. -/
theorem State.energy_of_shared {s : State} {p : Pid} (h : (s.life p).timingAct = false) (pj : Nat) : s.energy p pj = s := by
  rw [State.energy, h, if_neg Bool.false_ne_true]

end Sys2Proof.Machine

open Sys2Proof Sys2Proof.Machine

/-- Settles O27: an operation whose checks pass starts on its cores and ends with its results written. -/
theorem computeOperationsStartAndEnd : Obligations.ComputeOperationsStartAndEnd := by
  unfold Obligations.ComputeOperationsStartAndEnd
  refine ⟨?_, ?_, ?_, ?_, ?ends, ?expires⟩
  case ends =>
    intro s o p n k a C hring hactive hengine hlop hruns hshared hlost hcheck
    unfold exec execComputeOpEnd State.computeEnd
    simp only [hring, hactive, hengine, hlop, hruns, State.energy_of_shared hshared, hlost, hcheck, decide_true, Bool.and_self, if_true]
  case expires =>
    intro s p i x hi hsince
    unfold exec execReadAheadExpire
    simp [hi, hsince]
  all_goals
    intro s o p n k x C hring hnext hcheck hpairs hdeny hblocked
    exact congrArg Host.Outcome.next (State.computeOp_of_ok hring hnext hcheck hpairs hdeny hblocked)
end

section
/-! PROOFS. Chapter 6: stream units, instructions, frames and buffer pairs (R153 to R186). -/

namespace Sys2Proof.Machine

/-- R154: the unit executes the instruction at its PC. -/
theorem State.suDo_of_suInstr {s : State} {u : UnitRef} {op w : Nat} {f : Nat → State → State} (h : s.suInstr u op = some w) :
    s.suDo u op f = f w s := by
  rw [State.suDo, h]

/-- A field of 16 bits that is not 0 is a word that is not 0. -/
theorem ofNat_bitsOf_ne_zero {w : Nat} (h : bitsOf w 0 16 ≠ 0) : BitVec.ofNat 16 (bitsOf w 0 16) ≠ 0 := by
  intro h0
  have hlt : bitsOf w 0 16 < 2 ^ 16 := by unfold bitsOf; omega
  have := congrArg BitVec.toNat h0
  rw [BitVec.toNat_ofNat, Nat.mod_eq_of_lt hlt] at this
  exact h this

end Sys2Proof.Machine

open Sys2Proof Sys2Proof.Machine

/-- Settles O28: a command to a unit is taken in the states of Table 6-5 that take it. -/
theorem streamUnitCommands : Obligations.StreamUnitCommands := by
  unfold Obligations.StreamUnitCommands
  refine ⟨?_, ?_, ?_, ?_, ?_⟩
  · -- SU_LOAD (R153)
    intro s u hopen hst
    unfold exec execSuLoad
    rcases hst with hst | hst | hst | hst <;> simp [hopen, hst]
  · -- SU_LOAD_DONE (R153)
    intro s u n hst hup hn hpos hmax halign hinside hdeny hblocked
    subst hn
    unfold exec execSuLoadDone State.suLoadDone
    cases hobj : (s.prt u.pid).mem.objOf (tileOf (s.unit u).progTa.toNat) with
    | none => simp [hobj] at hinside
    | some o =>
      simp only [hobj] at hinside
      simp only [hst, hup, hpos, hmax, halign, hobj, hinside, hdeny, hblocked, bne_self_eq_false, decide_true, Bool.and_self, if_true,
        Bool.not_true, Option.isSome_none, Bool.or_self, Bool.false_eq_true, if_false]
  · -- SU_START (R159)
    intro s u hopen hst hawake
    unfold exec execSuStart State.suStart
    rcases hst with hst | hst <;> simp only [hopen, hst, hawake] <;> rfl
  · -- SU_START (R159)
    intro s u hopen hst hen
    unfold exec execSuStart State.suStart
    rcases hst with hst | hst <;> simp [hopen, hst, hen]
  · -- SU_STOP (R159)
    intro s u hopen hst
    unfold exec execSuStop State.suStop
    rcases hst with hst | hst <;> simp [hopen, hst]

/-- Settles O29: the unit at this instruction runs it, and its operands choose the branch. -/
theorem streamInstructionsExecute : Obligations.StreamInstructionsExecute := by
  unfold Obligations.StreamInstructionsExecute
  refine ⟨?_, ?_, ?_, ?_, ?_, ?_, ?_, ?_, ?_, ?_, ?_, ?_, ?_, ?_, ?_, ?_, ?_, ?_, ?_, ?_, ?_, ?_⟩
  · -- STREAM_NOP (R154)
    intro s u w hinstr
    change execStreamNop u s = _
    rw [execStreamNop, State.suDo_of_suInstr hinstr]
  · -- SETI (R154)
    intro s u w hinstr hreg
    change execSeti u s = _
    rw [execSeti, State.suDo_of_suInstr hinstr]
    simp only [State.seti, hreg, if_true]
  · -- SETI (R154)
    intro s u w hinstr hlo hhi
    change execSeti u s = _
    rw [execSeti, State.suDo_of_suInstr hinstr]
    simp only [State.seti, Nat.not_lt_of_le hlo, hhi, if_true, if_false]
  · -- ADDS (R154)
    intro s u w hinstr
    change execAdds u s = _
    rw [execAdds, State.suDo_of_suInstr hinstr]
  · -- ADDI (R154)
    intro s u w hinstr
    change execAddi u s = _
    rw [execAddi, State.suDo_of_suInstr hinstr]
  · -- FADD (R154)
    intro s u w hinstr
    change execFadd u s = _
    rw [execFadd, State.suDo_of_suInstr hinstr]
  · -- LOOP (R154)
    intro s u w hinstr hcount
    change execLoop u s = _
    rw [execLoop, State.suDo_of_suInstr hinstr]
    have hpos : BitVec.ofNat 16 (bitsOf w 0 16) ≠ 0 := ofNat_bitsOf_ne_zero hcount
    simp only [hcount, hpos, if_false]
  · -- ENDL (R154)
    intro s u w hinstr hlast
    change execEndl u s = _
    rw [execEndl, State.suDo_of_suInstr hinstr]
    simp only [hlast, BitVec.sub_self]
    rfl
  · -- ENDL (R154)
    intro s u w hinstr hmore hback
    change execEndl u s = _
    rw [execEndl, State.suDo_of_suInstr hinstr]
    have hleft : (s.unit u).lVal (bitsOf w 24 2) - 1 ≠ 0 := fun h => hmore (by bv_omega)
    simp only [hleft, Nat.not_lt_of_le hback, if_false]
  · -- MOV (R155)
    intro s u w src dst hinstr hsrc hdst hpair hdeny hblocked hfree
    change execMov u s = _
    rw [execMov, State.suDo_of_suInstr hinstr]
    simp only [State.movInstr, hsrc, hdst, hpair, hdeny, hblocked, Nat.not_le_of_lt hfree, Bool.false_eq_true, if_false]
  · -- MOV_END (R156)
    intro s u j m hmov hup hholds hlive hrun
    unfold exec execMovEnd State.movEnd
    simp only [hmov, hup, hholds, hlive, hrun, Bool.not_true, Bool.false_eq_true, if_false, decide_true, Bool.and_self, if_true]
  · -- SWAP (R166)
    intro s u w hinstr hbound hmade hopen
    change execSwap u s = _
    rw [execSwap, State.suDo_of_suInstr hinstr]
    simp only [hbound, hmade, hopen, Bool.not_true, Bool.false_eq_true, if_false, if_true]
  · -- WAITF (R154)
    intro s u w hinstr hbound hopen
    change execWaitf u s = _
    rw [execWaitf, State.suDo_of_suInstr hinstr]
    simp only [hbound, hopen, Bool.not_true, Bool.false_eq_true, if_false, if_true]
  · -- WAITV (R154)
    intro s u w hinstr hbound hready
    change execWaitv u s = _
    rw [execWaitv, State.suDo_of_suInstr hinstr]
    simp only [hbound, hready, Bool.not_true, Bool.false_eq_true, if_false, if_true]
  · -- REL (R165)
    intro s u w hinstr hbound
    change execRel u s = _
    rw [execRel, State.suDo_of_suInstr hinstr]
    simp only [hbound, if_true]
  · -- SIG (R158)
    intro s u w hinstr hnone
    change execSig u s = _
    rw [execSig, State.suDo_of_suInstr hinstr]
    dsimp only
    generalize hus : (unitsOf u.pid).filter _ = us
    obtain rfl : us = [] := hus.symm.trans hnone
    rfl
  · -- WSIG (R158)
    intro s u w hinstr hset
    change execWsig u s = _
    rw [execWsig, State.suDo_of_suInstr hinstr]
    simp only [hset, if_true]
  · -- STREAM_BAR (R174)
    intro s u w g hinstr hmeets
    change execStreamBar u s = _
    rw [execStreamBar, State.suDo_of_suInstr hinstr]
    simp only [State.suArrive, hmeets]
  · -- STREAM_END (R159)
    intro s u w hinstr hplain
    change execStreamEnd u s = _
    rw [execStreamEnd, State.suDo_of_suInstr hinstr]
    simp only [hplain, Bool.false_eq_true, if_false]
  · -- STREAM_EPOCH (R154)
    intro s u w hinstr
    change execStreamEpoch u s = _
    rw [execStreamEpoch, State.suDo_of_suInstr hinstr]
  · -- DLINE (R176)
    intro s u w hinstr hrt
    change execDline u s = _
    rw [execDline, State.suDo_of_suInstr hinstr]
    simp only [hrt, if_true]
  · -- FEND (R177)
    intro s u w hinstr hrt hmet hcur
    change execFend u s = _
    rw [execFend, State.suDo_of_suInstr hinstr]
    simp [hrt, Nat.not_lt_of_le hmet, hcur]

/-- Settles O30: each event of a frame or a pair acts where its clause says that it can. -/
theorem framesAndBufferPairs : Obligations.FramesAndBufferPairs := by
  unfold Obligations.FramesAndBufferPairs
  refine ⟨?_, ?_, ?_, ?_, ?_, ?_, ?_, ?_, ?_, ?_, ?_, ?_⟩
  · -- RT_CTL_WRITE (R175)
    intro s p v hvfFull hen hbit hvalid
    unfold exec execRtCtlWrite State.rtCtl
    simp only [hvfFull, hen, hbit, hvalid, Bool.not_true, Bool.and_self, Bool.false_eq_true, if_true, if_false]
  · -- FRAME_START (R177)
    intro s p hruns htime hnone
    unfold exec execFrameStart State.frameStart
    simp only [hruns, Nat.not_lt_of_le htime, hnone, List.isEmpty_nil, Bool.not_true, decide_false, Bool.or_self, Bool.false_eq_true,
      if_false, if_true]
    exact congrArg Host.Outcome.next (State.modPrt_congr rfl)
  · -- FRAME_START (R177)
    intro s p hruns htime hsome hawake
    have hwait : (s.frameWaiters p).isEmpty = false := List.isEmpty_eq_false_iff.mpr hsome
    unfold exec execFrameStart State.frameStart
    simp only [hruns, Nat.not_lt_of_le htime, hwait, hawake, Bool.not_true, decide_false, Bool.or_self, Bool.false_eq_true, if_false]
    exact congrArg (fun t : State => Host.Outcome.next (((s.frameWaiters p).foldl State.beginFrame t).busyNow p)) (State.modPrt_congr rfl)
  · -- FRAME_EARLY_WAKE (R177)
    intro s p hruns hst hsome htime
    have hwait : (s.frameWaiters p).isEmpty = false := List.isEmpty_eq_false_iff.mpr hsome
    unfold exec execFrameEarlyWake State.earlyWake
    simp only [hruns, hst, hwait, Nat.le_add_right_of_le htime, decide_true, Bool.not_false, Bool.and_self, if_true]
  · -- DEADLINE_PASS (R179)
    intro s u hrt hst hframesRun hnextDeadline
    unfold exec execDeadlinePass State.unitDeadline
    simp [hrt, hst, hframesRun, hnextDeadline]
  · -- DEADLINE_PASS (R179)
    intro s c k hcmd hunstarted hcancelled hskipsRt
    unfold exec execDeadlinePass State.cmdDeadline
    simp [hcmd, hunstarted, hcancelled, hskipsRt]
  · -- PAIR_BIND (R162)
    intro s b x hpage hidle hcheck
    unfold exec execPairBind State.pairBind
    simp only [hpage, hidle, hcheck, Bool.not_true, Bool.false_eq_true, if_false]
  · -- PAIR_BIND_DONE (R162)
    intro s b a hbinding hcore hhome
    unfold exec execPairBindDone State.bindDone
    simp only [hbinding, hcore, Bool.not_true, Bool.false_eq_true, if_false]
    exact congrArg Host.Outcome.next (if_pos hhome)
  · -- PAIR_UNBIND (R162)
    intro s b hpage hidle hbound hholders hstopped
    unfold exec execPairUnbind State.pairUnbind
    simp [hpage, hidle, hbound, hholders, hstopped]
  · -- PAIR_RESET (R164)
    intro s b hpage hidle hbound
    unfold exec execPairReset State.pairReset
    simp [hpage, hidle, hbound]
  · -- PAIR_AUTO_SWAP (R166)
    intro s b hbound hcprod hfull hopen
    unfold exec execPairAutoSwap State.pairAutoSwap
    simp [hbound, hcprod, hfull, hopen]
  · -- PAIR_WAIT_TIMEOUT (R168)
    intro s u b hsuWaitsOn hpausedAt hbroken
    unfold exec execPairWaitTimeout State.suWaitPair
    simp [hsuWaitsOn, hpausedAt, hbroken]
end

section
/-! PROOFS. Chapters 7 to 9: moves and tier events, the steward and the Scarab, the update unit (R187 to R272). -/

open Sys2Proof Sys2Proof.Machine

/-- Settles O31: a move, a failure or a setting acts on the tile, the home or the register that it names. -/
theorem tileMovesAndTierEvents : Obligations.TileMovesAndTierEvents := by
  unfold Obligations.TileMovesAndTierEvents
  refine ⟨?_, ?_, ?_, ?_, ?_, ?_, ?_, ?_, ?_, ?_, ?_, ?_⟩
  · -- MOVE_COPY_BEGIN (R187)
    intro s p t x m htile hst hcopying hinFlight hcopyRoom hhomeUp hhomeUp' hup
    unfold exec execMoveCopyBegin State.copyBegin
    simp [htile, hst, hcopying, hinFlight, hcopyRoom, hhomeUp, hhomeUp', hup]
  · -- MOVE_COMPLETE (R187)
    intro s p t x m htile hst hcopying hsrc hdst hup hkeep
    unfold exec execMoveComplete State.moveComplete
    simp only [htile, hst, hcopying, hsrc, hdst, hup, hkeep, Bool.not_true, Bool.or_self, Bool.false_eq_true, if_false]
  · -- MOVE_DESTINATION_FAIL (R193)
    intro s p t x m htile hst hcopying hretried hclearAfter
    unfold exec execMoveDestinationFail State.destFail
    simp [htile, hst, hcopying, hretried, hclearAfter]
  · -- BACKGROUND_PROMOTION (R192)
    intro s p x h hcommitted hup hfew hfirst hplace
    unfold exec execBackgroundPromotion State.promoteTile
    dsimp only
    generalize hn : List.length _ = n
    have hlt : n < 16 := hn ▸ hfew
    simp only [hcommitted, hup, hfirst, hplace, Nat.not_le_of_lt hlt, decide_false, Bool.not_true, Bool.or_self, Bool.false_eq_true,
      if_true, if_false]
  · -- TIER_ACCESS_FAIL (R202)
    intro s p t w d x htile hisDropped hst
    unfold exec execTierAccessFail State.accessFail
    simp [htile, hisDropped, hst]
  · -- TIER_ACCESS_FAIL (R202)
    intro s p t w d x htile hst hmeets hcause
    have hcounts : ((s.failCause x.home d false false = 1 ∨ s.failCause x.home d false false = 2) ∨
        s.failCause x.home d false false = 6) ∨ s.failCause x.home d false false = 7 := by simpa [or_assoc] using hcause
    unfold exec execTierAccessFail State.accessFail State.tileFails
    simp only [htile, hst, hmeets, if_true]
    simp [hcounts]
  · -- TIER_ACCESS_LATE (R202)
    intro s p t w d x htile hinStacked hcanBeLate
    unfold exec execTierAccessLate
    simp [htile, hinStacked, hcanBeLate]
  · -- MEMORY_UNIT_DOWN (R204)
    intro s k hform hready hbit
    unfold exec execMemoryUnitDown State.unitFails
    simp only [hform, hready, hbit, Bool.and_self, Bool.false_eq_true, if_true, if_false, decide_true]
  · -- TIER_SETTING_WRITE (R209)
    intro s v hopen
    unfold exec execTierSettingWrite
    simp [hopen]
  · -- TIER_SETTING_WRITE (R209)
    intro s v hopen
    unfold exec execTierSettingWrite
    simp [hopen]
  · -- STAGING_QUOTA_WRITE (R195)
    intro s p v hopen hst
    unfold exec execStagingQuotaWrite
    simp [hopen, hst]
  · -- QUARANTINE_WAIT_TIMEOUT (R242)
    intro s u t hwait hquarOver
    unfold exec execQuarantineWaitTimeout State.quarTimeout
    simp [hwait, hquarOver]

/-- Settles O32: a steward command that none of its checks refuses is carried out. -/
theorem planCommandsTakeEffect : Obligations.PlanCommandsTakeEffect := by
  unfold Obligations.PlanCommandsTakeEffect
  refine ⟨?_, ?_, ?_, ?_, ?_⟩
  · -- PLAN_LOAD (R213)
    intro s c p n k P hinline hring halign hmin hmax hzero hend hinside hdeny hblocked hlen hparse hbase hne hend' hoverlaps hplan hroom hcount
    unfold exec execPlanLoad State.planLoad
    simp only [hinline, hring]
    cases hobj : (s.prt p).mem.objOf (tileOf (leAt k.operands 0 8)) with
    | none => simp [hobj] at hinside
    | some o =>
      simp only [hobj] at hinside
      simp only [halign, Nat.not_lt_of_le hmin, Nat.not_lt_of_le hmax, hzero, Nat.not_lt_of_le hend, hinside, hdeny, hblocked, hlen, hparse,
        hbase, hne, Nat.not_lt_of_le hend', hoverlaps, hplan, Nat.not_lt_of_le hroom, Nat.not_lt_of_le hcount, bne_self_eq_false,
        decide_false, Option.isSome_none, Bool.not_true, Bool.or_self, Bool.false_eq_true, if_false]
  · -- PLAN_UNLOAD (R212)
    intro s c p n k hinline hring hzero hplan
    unfold exec execPlanUnload
    simp only [hinline, hring, hzero, Bool.not_true, Bool.false_eq_true, if_false]
    simp [hplan]
  · -- RUN_BEGIN (R216)
    intro s c p n k hinline hring hzero hplan hrunOpen hallClosed
    unfold exec execRunBegin
    simp only [hinline, hring, hzero, hrunOpen, hallClosed, Bool.not_true, Bool.or_false, Bool.false_or, Bool.false_eq_true, if_false]
    simp [hplan]
  · -- MARK (R222)
    intro s c p n k P t hinline hring hplan hzero hopen hepoch hpos hlt hmarks
    unfold exec execMark
    simp only [hinline, hring, hplan]
    rw [hpos] at hlt hmarks
    simp only [hzero, hopen, hepoch, hpos, Nat.not_le_of_lt hlt, hmarks, bne_self_eq_false, decide_false, Bool.not_true, Bool.or_self,
      Bool.false_eq_true, if_false, if_true]
  · -- RUN_END (R220)
    intro s c p n k hinline hring hzero hrunOpen hrunEpoch
    unfold exec execRunEnd
    simp only [hinline, hring, hzero, hrunOpen, hrunEpoch, Bool.not_true, Bool.or_self, Bool.false_eq_true, if_false, bne_self_eq_false]

/-- Settles O33: the Scarab acts on the plan and the ledger as they stand. -/
theorem scarabWorkEvents : Obligations.ScarabWorkEvents := by
  unfold Obligations.ScarabWorkEvents
  refine ⟨?_, ?_, ?_, ?_, ?_, ?_, ?_⟩
  · -- INSTANCE_CLOSE_COMPLETE (R221)
    intro s p i j x hinst hclosing
    unfold exec execInstanceCloseComplete
    simp [hinst, hclosing]
  · -- FETCHBACK_EVALUATE (R232)
    intro s p hopen hmarked hpaused
    unfold exec execFetchbackEvaluate State.evaluate
    simp only [hopen, hmarked, hpaused, Bool.not_true, Bool.or_self, Bool.false_eq_true, if_false]
    exact congrArg Host.Outcome.next (State.modPrt_congr rfl)
  · -- FETCHBACK_ISSUE (R233)
    intro s p i j x r hfirstBy hrec his hscbPaused hlen hfdest
    unfold exec execFetchbackIssue State.fetchIssue
    simp [hfirstBy, hrec, his, hscbPaused, Nat.not_le_of_lt hlen, hfdest]
  · -- SCARAB_TASK_ISSUE (R239)
    intro s hready hup
    unfold exec execScarabTaskIssue
    simp [hready, hup]
  · -- INJECTED_SEGMENT_END (R238)
    intro s p i j x ops b hany hruns hinst hsegOps hclosing
    unfold exec execInjectedSegmentEnd State.segmentEnd
    simp [hany, hruns, hinst, hsegOps, hclosing]
  · -- SCARAB_SETTING_WRITE (R248)
    intro s v hopen
    unfold exec execScarabSettingWrite
    simp [hopen]
  · -- SCARAB_SETTING_WRITE (R248)
    intro s p v hvfFull
    unfold exec execScarabSettingWrite
    simp [hvfFull]

/-- Settles O34: each pass of an update command ends in the next one. -/
theorem updateCommandPhases : Obligations.UpdateCommandPhases := by
  unfold Obligations.UpdateCommandPhases
  refine ⟨?_, ?_, ?_, ?_, ?_, ?_, ?_, ?_⟩
  · -- UPDATE_COMMAND (R254)
    intro s c p n l k ops b xs hcmd hring hstage hopc hengine hruns hread hparse hcheck hzero hahead hupdate hgroup
    rw [hring] at hruns hread hcheck hahead hupdate
    unfold exec execUpdateCommand State.updateCommand
    simp only [hcmd, hring, hstage, hopc, hengine, hruns, hread, hparse, hcheck, hzero, hahead, hupdate, hgroup, bne_self_eq_false,
      Bool.not_true, Bool.and_false, Bool.false_and, Bool.or_self, Bool.false_eq_true, if_false]
  · -- NORM_PASS_END (R257)
    intro s c p u hupd hwaits hgroup hdeny hbad
    unfold exec execNormPassEnd State.normEnd
    simp only [hupd, hwaits, hdeny, hbad, hgroup, if_true]
    rfl
  · -- VERDICT (R258)
    intro s p i j l u v hupd hpass hfin hruns hgroup hverdict
    unfold exec execVerdict State.verdict
    simp only [hupd, hpass, hfin, hruns, hgroup, hverdict, Option.isSome_none, bne_self_eq_false, Bool.not_true, Bool.or_self,
      Bool.false_eq_true, if_false, if_true]
  · -- TRUST_PASS_END (R263)
    intro s c p u hupd hfilter hwaits
    unfold exec execTrustPassEnd State.trustEnd
    simp [hupd, hfilter, hwaits]
  · -- APPLY_PASS_END (R262)
    intro s c p u hupd hwaits hfindSome
    unfold exec execApplyPassEnd State.applyEnd
    simp [hupd, hwaits, hfindSome]
  · -- DECISION_CONTRIBUTION (R258)
    intro s a e i j p r q n x y hslice hcommitted hdecides
    have hany : ((List.finRange 16).any fun p => (s.life p).slice = a && (s.life p).st.committed && s.decidesHere p) = true :=
      List.any_eq_true.mpr ⟨p, List.mem_finRange p, by simp [hslice, hcommitted, hdecides]⟩
    unfold exec execDecisionContribution
    simp only [hany, if_true]
  · -- REDUCTION_TIMEOUT (R259)
    intro s a e r hred hdecided htmoMs
    unfold exec execReductionTimeout
    simp [hred, hdecided, htmoMs]
  · -- DECISION_POINT_UNREACHABLE (R259)
    intro s p u d hupd hlost hpass hgroup hfin hruns
    unfold exec execDecisionPointUnreachable
    simp only [hupd, hlost, hpass, bne_iff_ne.mpr hgroup, hfin, hruns, decide_true, Option.isNone_none, Bool.and_self, if_true]
end

section
/-! PROOFS. Chapter 10: fabric operations (R278 to R298). -/

namespace Sys2Proof.Machine

/-- R187, R242: tiles that can be reached now, for a command that never waited, are used at once. -/
theorem State.withTiles_of_now {s : State} {p : Pid} {o : OpRef} {ts : List TileNo} {w : Option Epoch} {go : State → State}
    (hreach : s.reaches p o ts w = .now) (hwaited : (s.cmd? o.cmd).any (·.waited) = false) : s.withTiles p o ts w go = go s := by
  simp only [State.withTiles, hreach, hwaited, Bool.false_eq_true, if_false]

/-- The run that is found for an operation is that operation's. -/
theorem State.op_of_fabRun {s : State} {o : OpRef} {p : Pid} {r : FabRun} {g : Group} (h : s.fabRun o = some (p, r, g)) : r.op = o := by
  unfold State.fabRun at h
  split at h
  · split at h
    next q _ _ r' hfind =>
      obtain ⟨g', -, hr⟩ := Option.map_eq_some_iff.mp h
      obtain ⟨-, rfl, -⟩ := hr
      simpa using List.find?_some hfind
    · cases h
  · cases h

end Sys2Proof.Machine

open Sys2Proof Sys2Proof.Machine

/-- Settles O35: an operation whose fields pass its checks begins with its spans. -/
theorem fabricOperationsStart : Obligations.FabricOperationsStart := by
  unfold Obligations.FabricOperationsStart
  refine ⟨?_, ?_, ?_, ?_, ?_, ?_⟩
  · -- GX (R287)
    intro s o p n k x hring hop hcheck hfree
    unfold exec execGx State.gx
    simp only [hop, hring, hcheck, hfree, Bool.false_eq_true, if_false]
  · -- ALLGATHER (R290)
    intro s o p n k x g hring hop hzero8 hzero14 hzero28 hpos hmax hroot hgroup hmembers hapart
    unfold exec execAllgather State.gather
    simp only [hop, hring, hzero8, hzero14, hzero28, Nat.ne_of_gt hpos, Nat.not_lt_of_le hmax, hroot, hgroup, Nat.not_le_of_lt hmembers,
      hapart, Bool.not_true, Bool.not_false, decide_false, ne_eq, not_true_eq_false, Bool.and_false, Bool.or_self, Bool.false_eq_true,
      Bool.true_or, if_true, if_false]
    rfl
  · -- BCAST (R290)
    intro s o p n k x g hring hop hzero8 hzero14 hzero28 hpos hmax hgroup hroot
    unfold exec execBcast State.gather
    simp only [hop, hring, hzero8, hzero14, hzero28, Nat.ne_of_gt hpos, Nat.not_lt_of_le hmax, hgroup, Nat.not_le_of_lt hroot,
      Bool.not_true, decide_false, Bool.false_and, Bool.or_self, Bool.false_eq_true, Bool.false_or, if_true, if_false]
    by_cases h : g.rank = x.field 12 2 <;> simp [h]
  · -- SEND (R291)
    intro s o p n k x g hring hop hchan hmb hpos hmax hzero h14 h15 hgroup hpeer hself hkey hnode
    unfold exec execSend State.channelOp
    simp only [if_true, hop, hring, Nat.not_le_of_lt hchan, Nat.not_le_of_lt hmb, Nat.ne_of_gt hpos, Nat.not_lt_of_le hmax, hzero, h14, h15,
      hgroup, Nat.not_le_of_lt hpeer, hself, hkey, hnode, Bool.not_true, decide_false, ne_eq, not_true_eq_false, Bool.false_and,
      Bool.or_self, Bool.false_eq_true, if_false]
  · -- RECV (R292)
    intro s o p n k x g hring hop hchan hmb hpos hmax hzero h14 h15 hgroup hpeer hself hkey hnode
    unfold exec execRecv State.channelOp
    simp only [Bool.false_eq_true, if_false, hop, hring, Nat.not_le_of_lt hchan, Nat.not_le_of_lt hmb, Nat.ne_of_gt hpos,
      Nat.not_lt_of_le hmax, hzero, h14, h15, hgroup, Nat.not_le_of_lt hpeer, hself, hkey, hnode, Bool.not_true]
    simp
  · -- RECV (R292)
    intro s o p n k x g c q hring hop hchan hmb hpos hmax hzero h14 h15 h16 hgroup hpeer hself hkey hnode
    have hcore : (⟨c.val % 64, Nat.mod_lt _ (by omega)⟩ : RelCore) = c := Fin.ext (Nat.mod_eq_of_lt c.isLt)
    have hpair : (⟨q.val % 16, Nat.mod_lt _ (by omega)⟩ : PairNo) = q := Fin.ext (Nat.mod_eq_of_lt q.isLt)
    unfold exec execRecv State.channelOp
    simp only [Bool.false_eq_true, if_false, hop, hring, Nat.not_le_of_lt hchan, Nat.not_le_of_lt hmb, Nat.ne_of_gt hpos,
      Nat.not_lt_of_le hmax, hzero, h14, h15, h16, hgroup, Nat.not_le_of_lt hpeer, hself, hkey, hnode, Bool.not_true, hcore, hpair]
    simp [Nat.not_le_of_lt q.isLt, Nat.not_le_of_lt c.isLt]

/-- Settles O36: an event of an operation that runs acts on its bucket, its tiles or its end. -/
theorem fabricOperationEvents : Obligations.FabricOperationEvents := by
  unfold Obligations.FabricOperationEvents
  refine ⟨?_, ?_, ?_, ?_, ?_, ?_, ?_, ?_, ?_⟩
  · -- BUCKET_CONTRIBUTION (R294)
    intro s o p i j l r g f b y hrun hkind hbucket hopen hrank hfirst hother hlen
    unfold exec execBucketContribution State.bucketContribution
    simp only [hrun, hkind, hbucket, hopen, Nat.not_le_of_lt hrank, hfirst, hother, hlen, decide_false, ne_eq, not_true_eq_false,
      Bool.or_self, Bool.false_eq_true, if_false]
  · -- BUCKET_DEADLINE (R294)
    intro s o p i r g f b y t hrun hkind hbucket hopened hlimit hpast hcomplete
    unfold exec execBucketDeadline State.bucketDeadline
    simp only [hrun, hkind, hbucket, hopened, hlimit, hpast, hcomplete, ne_eq, not_false_eq_true, decide_true, Bool.not_false,
      Bool.and_self, if_true]
  · -- LATE_CONTRIBUTION (R295)
    intro s o p n i r g f b y hring hruns hrun hkind hbucket hown hclosed hres hreach hwaited
    unfold exec execLateContribution State.ownBucket
    simp only [hring, hruns, hrun, hkind, hbucket, hown, hclosed, hres, State.withTiles_of_now hreach hwaited, bne_self_eq_false,
      Bool.or_self, Bool.false_eq_true, if_false, if_true]
  · -- LATE_CONTRIBUTION (R295)
    intro s o p n i r g f b y hring hruns hrun hkind hbucket hown hclosed hres hdrop hreach hwaited
    unfold exec execLateContribution State.ownBucket
    simp only [hring, hruns, hrun, hkind, hbucket, hown, hclosed, hres, hdrop, State.withTiles_of_now hreach hwaited, bne_self_eq_false,
      Bool.not_false, Bool.and_self, Bool.or_self, Bool.false_eq_true, if_false, if_true]
  · -- FABRIC_LANDING (R292)
    intro s o p i e d r g f b hrun htakes hkind
    unfold exec execFabricLanding State.fabricLanding
    simp only [hrun, htakes, hkind, Bool.not_true, Bool.false_eq_true, if_false]
  · -- FABRIC_LANDING (R292)
    intro s o p d r g a b i n m t hrun htakes hkind hlen hreach hwaited
    obtain rfl := State.op_of_fabRun hrun
    unfold exec execFabricLanding State.fabricLanding State.recvLand
    simp only [hrun, htakes, hkind, hlen, State.withTiles_of_now hreach hwaited, Bool.not_true, Bool.false_eq_true, ne_eq,
      not_true_eq_false, if_false, if_true]
  · -- SEND_RECV_TIMEOUT (R293)
    intro s o p r g a b i t n m y hfabRun hkind hm hm'
    unfold exec execSendRecvTimeout
    simp [hfabRun, hkind, hm, hm']
  · -- SEND_RECV_TIMEOUT (R293)
    intro s o p r g a b i n m t y hfabRun hkind hm hm'
    unfold exec execSendRecvTimeout
    simp [hfabRun, hkind, hm, hm']
  · -- COLLECTIVE_PEER_UNREACHABLE (R298)
    intro s o p i j r g hfabRun hunreachable hneeds
    unfold exec execCollectivePeerUnreachable State.peerLost
    simp only [hfabRun, hunreachable, hneeds, Bool.or_true, if_true, decide_true]
end

section
/-! PROOFS. Chapters 11 and 12: the solvers, the Mover and its channels (R303 to R351). -/

namespace Sys2Proof.Machine

/-- R305: a solver operation all of whose tiles can be reached begins. -/
theorem State.solverStart_of_reach {s : State} {o : OpRef} {op : ListOp} {p : Pid} {spans : List (TileNo × Nat)}
    (h : (spans.flatMap spanTiles).find? (fun t => !(s.prt p).mem.reach (s.accepted o.cmd [t]) t) = none) :
    s.solverStart o op p spans = s.opBegin o (s.newOp o op spans) := by
  simp only [State.solverStart, h]

/-- R334: the next access of a channel's transfer, to a tile that the channel may reach now, acts. -/
theorem State.transferAccess_of_free {s : State} {m : MovNo} {r : RingId} {d : DescRun} {p : Pid} {t : TileNo} {b : Bool} {act : State → State}
    (hadmits : s.admits r p = true) (hdeny : (s.prt p).mem.deny true [t] = none) (hfree : s.blocked p [t] none = false) :
    s.transferAccess (.chan m) r d p t b act = act (s.modDesc (.chan m) fun d => { d with waited := false, quarAt := none }) := by
  simp only [State.transferAccess, State.transferTag, hadmits, hdeny, hfree, Bool.not_true, Bool.false_eq_true, if_false]

/-- A field of 2 bits whose word is 2 is 2. -/
theorem bitsOf_of_ofNat_two {n i : Nat} (h : BitVec.ofNat 2 (bitsOf n i 2) = 2) : bitsOf n i 2 = 2 := by
  have hlt : bitsOf n i 2 < 2 ^ 2 := Nat.mod_lt _ (by decide)
  have hnat := congrArg BitVec.toNat h
  rwa [BitVec.toNat_ofNat, Nat.mod_eq_of_lt hlt] at hnat

end Sys2Proof.Machine

open Sys2Proof Sys2Proof.Machine

/-- Settles O37: an operation whose fields pass and whose tiles are reached starts; its end stores its results. -/
theorem solverOperationsRun : Obligations.SolverOperationsRun := by
  unfold Obligations.SolverOperationsRun
  refine ⟨?_, ?_, ?_, ?_, ?_, ?_, ?_, ?_⟩
  · -- DENSE (R309)
    intro s o p n k x hring hop hfields hapart hreach
    unfold exec execDense State.dense
    simp only [hop, hring, hfields, hapart, State.solverStart_of_reach hreach, Bool.not_true, Bool.false_eq_true, if_false]
  · -- SCHED_REG (R315)
    intro s o p n k x hring hop hhandle hzero10 hzero22 halign hreach
    rw [← List.flatMap_singleton spanTiles] at hreach
    unfold exec execSchedReg State.schedReg
    simp only [hop, hring, Nat.not_le_of_lt hhandle, hzero10, hzero22, halign, State.solverStart_of_reach hreach, decide_false, ne_eq,
      not_true_eq_false, Bool.not_true, Bool.or_self, Bool.false_eq_true, if_false]
  · -- SCHED_DROP (R316)
    intro s o p n k x hring hop hhandle hzero hunused
    unfold exec execSchedDrop State.schedDrop
    simp only [hop, hring, Nat.not_le_of_lt hhandle, hzero, hunused, decide_false, Bool.not_true, Bool.or_self, List.isEmpty_nil,
      Bool.false_eq_true, if_false, if_true]
  · -- SCHED_DROP_RELEASE (R316)
    intro s o p n d hring hfind hany
    unfold exec execSchedDropRelease State.dropRelease
    simp [hring, hfind, hany]
  · -- SPARSE (R321)
    intro s o p n k x h hring hop hfields hsched hstrides hapart hreach
    unfold exec execSparse State.sparse
    simp only [hop, hring, hfields, hsched, hstrides, hapart, State.solverStart_of_reach hreach, Bool.not_true, Bool.false_eq_true,
      if_false]
  · -- SOLVER_OP_END (R313)
    intro s o p k a hsolverOp hsolverWaits
    unfold exec execSolverOpEnd State.denseEnd
    simp [hsolverOp, hsolverWaits]
  · -- SOLVER_OP_END (R313)
    intro s o p k a hsolverOp hsolverOp' hinTenantObj hfindSome hblocked hschedOk
    unfold exec execSolverOpEnd State.schedRegEnd
    simp [hsolverOp, hsolverOp', hinTenantObj, hfindSome, hblocked, hschedOk]
  · -- SOLVER_OP_END (R313)
    intro s o p k a h hdense hreg hsparse hwaits hsched
    unfold exec execSolverOpEnd State.sparseEnd
    simp only [hdense, hreg, hsparse, hwaits, hsched]

/-- Settles O38: the next access of a transfer, to a tile that it may reach now, moves its bytes. -/
theorem moverTransfers : Obligations.MoverTransfers := by
  unfold Obligations.MoverTransfers
  refine ⟨?_, ?_, ?_, ?_, ?_, ?_, ?_, ?_, ?_, ?_, ?_⟩
  · -- H2T (R334)
    intro s m r d p a b htransfer hlive hflush hkind hruns hdst hheard hlen hadmits hdeny hfree
    unfold exec execH2t State.transferStep State.h2tPiece
    simp only [htransfer, hlive, hflush, hkind, hruns, hdst, hheard, hlen, State.transferAccess_of_free hadmits hdeny hfree,
      State.transferTag, Option.isSome_none, bne_self_eq_false, Bool.not_true, Bool.or_self, Bool.false_eq_true, if_false]
    rfl
  · -- T2H (R335)
    intro s m r d p a htransfer hlive hflush hkind hruns hsrc hheard hadmits hdeny hfree
    unfold exec execT2h State.transferStep State.t2hPiece
    simp only [htransfer, hlive, hflush, hkind, hruns, hsrc, hheard, State.transferAccess_of_free hadmits hdeny hfree, Option.isSome_none,
      Bool.not_true, Bool.or_self, Bool.false_eq_true, if_false]
    rfl
  · -- T2T (R334)
    intro s m r d p q a b htransfer hlive hflush hkind hruns hoperands hbuf hadmits hdeny hfree
    unfold exec execT2t State.transferStep State.t2tPiece
    simp only [htransfer, hlive, hflush, hkind, hruns, hoperands, Nat.not_le_of_lt hbuf, State.transferAccess_of_free hadmits hdeny hfree,
      Option.isSome_none, Bool.not_true, Bool.or_self, if_false]
    rfl
  · -- T2T (R334)
    intro s m r d p q a b htransfer hlive hflush hkind hruns hoperands hbuf hadmits hdeny hfree
    unfold exec execT2t State.transferStep State.t2tPiece
    simp only [htransfer, hlive, hflush, hkind, hruns, hoperands, hbuf, State.transferAccess_of_free hadmits hdeny hfree, State.transferTag,
      Option.isSome_none, Bool.not_true, Bool.or_self, if_true]
    rfl
  · -- PLACE (R337)
    intro s m r d p a t x y l u htransfer hlive hflush hkind hruns hmore hsrc ht hstill hup hadmits hdeny hfree hu htile hobj htarget hst
    subst ht hu
    unfold exec execPlace State.transferStep State.placeTile
    simp only [htransfer, hlive, hflush, hkind, hruns, Nat.not_le_of_lt hmore, hsrc, hstill, hup,
      State.transferAccess_of_free hadmits hdeny hfree, htile, hobj, htarget, hst, Option.isSome_none, Bool.not_true, decide_false,
      Bool.and_false, Bool.or_self, Bool.false_eq_true, if_false, if_true]
    rfl
  · -- XFER (R351)
    intro s o k x b hop hcheck
    unfold exec execXfer State.xfer State.xferStart
    simp only [hop, hcheck, Bool.false_eq_true, if_false]
  · -- XFER (R351)
    intro s o k a d b hop hactive hdesc hlive
    unfold exec execXfer State.xfer
    simp only [hop, hactive, hdesc, hlive]
  · -- XFER (R351)
    intro s o k a d b t w hop hactive hdesc hended hstill hruns
    unfold exec execXfer State.xfer
    simp only [hop, hactive, hdesc, hended, hstill, hruns, Option.isNone_none, Bool.and_self, if_true]
  · -- MOVER_FLUSH_TIMEOUT (R335)
    intro s m r d t htransfer hflushAt hlost hfenceTmo
    unfold exec execMoverFlushTimeout State.flushTimeout
    simp [htransfer, hflushAt, hlost, hfenceTmo]
  · -- HOST_REQUEST_ERROR (R60)
    intro s c k t a w n hcmd hlost hstage
    unfold exec execHostRequestError State.cmdRequestError
    simp [hcmd, hlost, hstage]
  · -- HOST_REQUEST_ERROR (R60)
    intro s m r d n htransfer hheard hlive hflush hkind hdone hlt
    unfold exec execHostRequestError State.transferError
    simp only [htransfer, hheard, hlive, hflush, hdone, hlt, Option.isSome_none, Bool.or_self, Bool.false_eq_true, if_false]
    rcases hkind with hkind | hkind <;> simp [hkind]

/-- Settles O39: a channel starts, pauses, resumes and ends as its ring and its level say. -/
theorem moverChannelsAndPacing : Obligations.MoverChannelsAndPacing := by
  unfold Obligations.MoverChannelsAndPacing
  refine ⟨?_, ?_, ?_, ?_, ?_, ?_, ?_, ?_, ?_, ?_, ?_⟩
  · -- MOVER_DESCRIPTOR_START (R333)
    intro s r m b hchanOf hstate hqueued hrun hst hlen hcanRead hdrains hfnWorks hholdRoom hst' hlowerBell hpaceEn
    unfold exec execMoverDescriptorStart State.descStart
    simp only [hchanOf, hstate, hqueued, hrun, hst, hlen, hcanRead, hdrains, hfnWorks, hholdRoom, hst', hlowerBell, hpaceEn, Bool.not_true,
      Bool.not_false, Bool.or_false, Bool.false_or, Bool.or_self, Bool.false_eq_true, if_true, if_false, decide_false, bne_self_eq_false]
    simp
  · -- MOVER_DESCRIPTOR_START (R333)
    intro s t r m b l hchanOf hstate hqueued hrun hst hlen hcanRead hdrains hfnWorks hholdRoom hst' hlowerBell hpaceEn hlevel hholds
    unfold exec execMoverDescriptorStart State.descStart
    simp only [hchanOf, hstate, hqueued, hrun, hst, hlen, hcanRead, hdrains, hfnWorks, hholdRoom, hst', hlowerBell, hpaceEn, hlevel, hholds,
      Bool.not_true, Bool.or_false, Bool.false_or, Bool.or_self, Bool.false_eq_true, if_true, if_false, decide_false, bne_self_eq_false]
    simp
  · -- MOVER_DESCRIPTOR_END (R333)
    intro s m r d t w htransfer hended hmoving hruns
    unfold exec execMoverDescriptorEnd State.descEnd
    simp [htransfer, hended, hmoving, hruns]
  · -- PACE_LEVEL_POLL (R341)
    intro s t m r l hring hst hen hword hworks hsince hlevel hfrees
    unfold exec execPaceLevelPoll State.pacePoll
    simp only [hring, hst, hen, hword, hworks, Nat.not_lt_of_le hsince, hlevel, hfrees, bne_self_eq_false, Bool.not_true, decide_false,
      Bool.or_self, Bool.false_eq_true, if_false, if_true]
  · -- PACE_RELEASE (R340)
    intro s m r hring hst hoff
    unfold exec execPaceRelease State.paceRelease
    simp only [hring, hst, hoff, bne_self_eq_false, Bool.not_false, Bool.false_eq_true, if_false, if_true]
  · -- PACE_RELEASE (R340)
    intro s t m r l hring hst hen hword hlevel hfrees
    unfold exec execPaceRelease State.paceRelease
    simp only [hring, hst, hen, hword, hlevel, hfrees, bne_self_eq_false, Bool.not_true, Bool.false_eq_true, if_false, if_true]
  · -- MV_PACE_WRITE (R341)
    intro s r v hopen hkind hlegal
    have hok : (bitOf v.toNat 31 && ((s.ring r).mv.high.toNat ≤ (s.ring r).mv.low.toNat ||
        (BitVec.ofNat 2 (bitsOf v.toNat 28 2) = 2 && (s.ring r).mv.lvl.toNat % 4 != 0))) = false := by
      rcases hlegal with hoff | ⟨hlt, hsrc⟩
      · simp [hoff]
      · have hsrc' : BitVec.ofNat 2 (bitsOf v.toNat 28 2) = 2 → (s.ring r).mv.lvl.toNat % 4 = 0 := fun h2 =>
          hsrc.resolve_left (not_not_intro (bitsOf_of_ofNat_two h2))
        simpa [Nat.not_le_of_lt hlt] using fun _ => hsrc'
    unfold exec execMvPaceWrite State.paceWrite
    simp only [hopen, hkind, hok, Bool.not_true, Bool.or_self, Bool.false_eq_true, if_false]
  · -- MV_CTL_RESET (R346)
    intro s r m hopen hkind hchanOf hst
    unfold exec execMvCtlReset
    simp only [hopen, hkind, hchanOf, hst, Bool.not_true, Bool.or_self, Bool.false_eq_true, if_true, if_false]
  · -- MOV_CH_KILL (R347)
    intro s m hopen hbound hst
    unfold exec execMovChKill
    simp only [hopen, hbound, bne_iff_ne.mpr hst, Bool.and_self, if_true]
  · -- MOV_QUOTA_WRITE (R328)
    intro s p v hopen hst
    unfold exec execMovQuotaWrite State.quotaWrite
    simp [hopen, hst]
  · -- MOV_QUOTA_WRITE (R328)
    intro s v hopen hroom hheld
    unfold exec execMovQuotaWrite State.quotaWrite
    simp [hopen, Nat.not_lt_of_le hroom, Nat.not_lt_of_le hheld]
end

section
/-! PROOFS. Chapters 14 and 15: fabric ports, lanes and the network (R391 to R429). -/

namespace Sys2Proof.Machine

/-- Whether a port is striped hangs on its state alone. -/
theorem State.striped_modPort {s : State} {a : PortNo} {f : Port → Port} (h : ∀ P, (f P).st = P.st) :
    (s.modPort a f).ports[a].striped = s.ports[a].striped := by
  have hport : (s.modPort a f).ports[a] = f s.ports[a] := (vmod_get _ _ _ _).trans (if_pos rfl)
  rw [hport, Port.striped, Port.striped, h]

end Sys2Proof.Machine

open Sys2Proof Sys2Proof.Machine

/-- Settles O41: a setting that the PF may write acts on its port. -/
theorem fabricPortSettings : Obligations.FabricPortSettings := by
  unfold Obligations.FabricPortSettings
  refine ⟨?_, ?_, ?_, ?_, ?_, ?_, ?_⟩
  · -- PORT_ENABLE (R391)
    intro s a hopen hoff
    unfold exec execPortEnable State.portEnable
    simp only [hopen, hoff, Bool.false_eq_true, if_false, if_true]
    rfl
  · -- PORT_DISABLE (R391)
    intro s a hopen hon
    unfold exec execPortDisable State.portDisable
    simp only [hopen, hon, if_true]
  · -- LANE_MASK_WRITE (R405)
    intro s a b hopen hstriped
    unfold exec execLaneMaskWrite State.laneMask
    simp only [hopen, if_true]
    rw [State.striped_modPort, hstriped]
    · rfl
    · exact fun _ => rfl
  · -- RETRAIN (R396)
    intro s a hopen hst
    unfold exec execRetrain
    simp only [hopen, hst, Bool.and_self, if_true, decide_true]
  · -- PORT_MODULE_READY (R391)
    intro s a hpresent hdenied hoff hmodReady
    unfold exec execPortModuleReady
    simp only [hpresent, hdenied, hoff, hmodReady, Bool.not_false, Bool.and_self, if_true]
  · -- FAB_LCLR (R401)
    intro s a b hopen
    unfold exec execFabLclr
    simp [hopen]
  · -- FAB_LANE_UE_MAX_WRITE (R405)
    intro s a v hopen
    unfold exec execFabLaneUeMaxWrite
    simp [hopen]

/-- Settles O42: each state of training ends as its clause says. -/
theorem fabricPortTraining : Obligations.FabricPortTraining := by
  unfold Obligations.FabricPortTraining
  refine ⟨?_, ?_, ?_, ?_, ?_, ?_, ?_⟩
  · -- TRAINING_TIMER_EXPIRE (R392)
    intro s a n htrain hover
    have hexp : (n ≤ s.since s.ports[a].since || s.ports[a].lockLost s.pwr.clk) = true := by simpa using hover
    unfold exec execTrainingTimerExpire
    simp only [htrain, hexp, if_true]
  · -- BACKOFF_END (R393)
    intro s a hst hbackoffNs
    unfold exec execBackoffEnd
    simp only [hst, hbackoffNs, Bool.and_self, if_true, decide_true]
  · -- PARTNER_SIGNAL_SEEN (R394)
    intro s a hst hcount
    unfold exec execPartnerSignalSeen
    simp only [hst, hcount, Bool.and_self, if_true, decide_true]
  · -- DETECT_LOCK (R391)
    intro s a b hst hlanes
    unfold exec execDetectLock
    simp only [hst, bne_self_eq_false, Bool.false_eq_true, if_false]
    exact congrArg Host.Outcome.next (State.modPort_congr (if_pos hlanes))
  · -- DETECT_LOCK (R391)
    intro s a b hst hlanes
    unfold exec execDetectLock
    simp only [hst, bne_self_eq_false, Bool.false_eq_true, if_false]
    exact congrArg Host.Outcome.next (State.modPort_congr (if_neg (Nat.not_le_of_lt hlanes)))
  · -- TUNE_COMPLETE (R391)
    intro s a b hst hamong
    unfold exec execTuneComplete
    simp only [hst, hamong, Bool.and_self, if_true, decide_true]
  · -- ALIGN_COMPLETE (R391)
    intro s a b hst hamong
    unfold exec execAlignComplete
    simp only [hst, hamong, Bool.and_self, if_true, decide_true]

/-- Settles O43: a lane that is lost, regained or on probation, and a packet that is sent again. -/
theorem fabricLanesAndReplay : Obligations.FabricLanesAndReplay := by
  unfold Obligations.FabricLanesAndReplay
  refine ⟨?_, ?_, ?_, ?_, ?_, ?_, ?_, ?_, ?_, ?_, ?_, ?_⟩
  · -- LANE_LOCK_LOSS (R398)
    intro s a l hst hstriped
    have hon : [l].filter (fun l => (s.ports[a].lanes[l]).st = .active && s.ports[a].striped) = [l] := by simp [-Fin.getElem_fin, hst, hstriped]
    have hoff : [l].filter (fun l => !((s.ports[a].lanes[l]).st = .active && s.ports[a].striped)) = [] := by simp [-Fin.getElem_fin, hst, hstriped]
    unfold exec execLaneLockLoss State.lockLoss
    simp only [hon, hoff, List.foldl_nil, List.foldl_cons, State.modPort_same]
  · -- LANE_LOCK_LOSS (R398)
    intro s a l hst
    have hon : [l].filter (fun l => (s.ports[a].lanes[l]).st = .active && s.ports[a].striped) = [] := by
      rcases hst with hst | hst <;> simp [-Fin.getElem_fin, hst]
    have hoff : [l].filter (fun l => !((s.ports[a].lanes[l]).st = .active && s.ports[a].striped)) = [l] := by
      rcases hst with hst | hst <;> simp [-Fin.getElem_fin, hst]
    unfold exec execLaneLockLoss State.lockLoss
    simp only [hon, hoff, List.foldl_nil, List.foldl_cons, State.modPort_same]
    rfl
  · -- PARTNER_LANE_NOTICE (R398)
    intro s a l _ _
    rfl
  · -- FEC_WINDOW_END (R398)
    intro s a u n hueMax
    have hoff : (s.ports[a].ueMax.toNat != 0) = false := by rw [hueMax]; rfl
    have hnone : ((List.finRange 8).filter fun l => s.ports[a].ueMax.toNat != 0 && s.ports[a].ueMax.toNat < u[l]) = [] :=
      List.filter_eq_nil_iff.mpr fun l _ => by simp only [hoff, Bool.false_and, Bool.false_eq_true, not_false_eq_true]
    unfold exec execFecWindowEnd State.fecWindow
    simp only [hnone, List.contains_nil, Bool.false_and, Bool.false_eq_true, if_false]
  · -- FEC_WINDOW_END (R398)
    intro s a u n hlimit
    have hset : s.ports[a].ueMax.toNat ≠ 0 := fun h => hlimit (BitVec.eq_of_toNat_eq h)
    unfold exec execFecWindowEnd State.fecWindow
    simp only [bne_iff_ne.mpr hset, Bool.true_and]
    simp
  · -- RESTRIPE_AGREED (R399)
    intro s a hst
    unfold exec execRestripeAgreed
    simp only [hst, if_true]
  · -- RESTRIPE_TIMEOUT (R392)
    intro s a hst hsince
    unfold exec execRestripeTimeout
    simp only [hst, hsince, Bool.and_self, if_true, decide_true]
  · -- LANE_LOCK_REGAINED (R400)
    intro s a l hst
    exact congrArg Host.Outcome.next (State.modPort_congr (Port.modLane_congr (if_pos hst)))
  · -- LANE_PROBATION_END (R401)
    intro s a l hst hactive hlong hmany
    unfold exec execLaneProbationEnd State.probationEnd
    simp only [hst, hactive, Nat.not_lt_of_le hlong, Nat.not_lt_of_le hmany, bne_self_eq_false, decide_false, Bool.or_self,
      Bool.false_eq_true, if_false]
  · -- LANE_PROBATION_END (R401)
    intro s a l hst hactive hlong hfew
    unfold exec execLaneProbationEnd State.probationEnd
    simp only [hst, hactive, Nat.not_lt_of_le hlong, hfew, bne_self_eq_false, decide_false, Bool.or_self, Bool.false_eq_true, if_false,
      if_true]
  · -- REPLAY_REQUEST (R397)
    intro s a n hst
    unfold exec execReplayRequest
    simp only [hst, if_true]
  · -- ACK_TIMEOUT (R397)
    intro s a hst hretry hlong
    unfold exec execAckTimeout
    simp only [hst, List.isEmpty_eq_false_iff.mpr hretry, hlong, decide_true, Bool.not_false, Bool.and_self, if_true]

/-- Settles O44: a descriptor, a remote access or an applied configuration acts where its checks pass. -/
theorem fabricNeighboursAndManager : Obligations.FabricNeighboursAndManager := by
  unfold Obligations.FabricNeighboursAndManager
  refine ⟨?_, ?_, ?_, ?_, ?_, ?_, ?_, ?_, ?_, ?_, ?_, ?_⟩
  · -- DESCRIPTOR_RECEIVED (R410)
    intro s a d hst hok
    have hstriped : s.ports[a].striped = true := by simp [-Fin.getElem_fin, Port.striped, hst]
    unfold exec execDescriptorReceived State.descriptorIn
    simp only [hst, hstriped, hok]
    rfl
  · -- DESCRIPTOR_RECEIVED (R410)
    intro s a d hst hheld hok
    unfold exec execDescriptorReceived State.descriptorIn
    simp only [hst, hok, Nat.not_lt_of_le hheld, bne_self_eq_false, Bool.false_and, decide_false, Bool.and_false, Bool.false_eq_true,
      if_false, if_true]
  · -- DESCRIPTOR_RECEIVED (R410)
    intro s a d b hst hrefusal
    unfold exec execDescriptorReceived State.descriptorIn
    simp only [hst, hrefusal, Bool.false_and, Bool.false_eq_true, if_true, if_false, bne_self_eq_false]
  · -- DESCRIPTOR_SEND (R409)
    intro s a hst
    have hsends : (s.ports[a].st = .exchange || s.ports[a].st = .active) = true := by simpa using hst
    unfold exec execDescriptorSend
    simp only [hsends, if_true]
  · -- CANDIDATE_FORGET (R412)
    intro s a hsome hsince
    unfold exec execCandidateForget
    simp only [hsome, hsince, Bool.and_self, if_true, decide_true]
  · -- FM_STABLE (R412)
    intro s hsome hstable hsince
    unfold exec execFmStable
    simp [hsome, hstable, hsince]
  · -- FAB_FM_CTL_WRITE (R412)
    intro s v hopen
    unfold exec execFabFmCtlWrite State.fmCtl
    simp [hopen]
  · -- REMOTE_ACCESS (R413)
    intro s a off v b hready hform hremote hnonzero hserial hlow hhigh halign
    unfold exec execRemoteAccess
    simp only [hready, hform, hremote, bne_iff_ne.mpr hnonzero, ← hserial, hlow, hhigh, halign, decide_true, Bool.and_self, if_true]
  · -- REMOTE_ACCESS (R413)
    intro s a off v b hready hform hremote hnonzero hserial hlow hhigh halign
    unfold exec execRemoteAccess
    simp only [hready, hform, hremote, bne_iff_ne.mpr hnonzero, ← hserial, hlow, hhigh, halign, decide_true, Bool.and_self,
      Bool.false_eq_true, if_true, if_false]
  · -- FAB_APPLY (R414)
    intro s v hopen hgen hvalid
    unfold exec execFabApply State.fabApply
    simp only [hopen, hgen, hvalid, decide_true, Bool.and_self, if_true]
  · -- FAB_APPLY (R414)
    intro s v hopen hbad
    have hrefused : (v = s.net.gen + 1 && s.net.staged.valid) = false := by
      rcases hbad with hgen | hinvalid
      · rw [decide_eq_false hgen, Bool.false_and]
      · rw [hinvalid, Bool.and_false]
    unfold exec execFabApply State.fabApply
    simp only [hopen, hrefused, Bool.false_eq_true, if_true, if_false]
  · -- NODE_LOST_DECLARE (R429)
    intro s n x i hfound hfree hfm hhost hhold hnew
    unfold exec execNodeLostDeclare
    simp only [hfound, hfree, hfm, hhost, hhold, hnew, Bool.not_false, decide_true, Bool.and_self, if_true]
    rfl

/-- Settles O45: a packet is taken by its sequence number; a group by its record. -/
theorem fabricPacketsAndGroups : Obligations.FabricPacketsAndGroups := by
  unfold Obligations.FabricPacketsAndGroups
  refine ⟨?_, ?_, ?_, ?_, ?_, ?_, ?_, ?_⟩
  · -- FABRIC_PACKET_RECEIVE (R397)
    intro s a n h hst
    unfold exec execFabricPacketReceive State.packetIn
    simp only [hst, Bool.not_false, Bool.false_eq_true, if_true, if_false, bne_self_eq_false]
  · -- FABRIC_PACKET_RECEIVE (R397)
    intro s a n h hst hn
    unfold exec execFabricPacketReceive State.packetIn
    simp only [hst, hn, Bool.not_true, Bool.false_eq_true, if_false, bne_self_eq_false]
    simp
  · -- FABRIC_PACKET_RECEIVE (R397)
    intro s a n h hst hold
    unfold exec execFabricPacketReceive State.packetIn
    simp only [hst, Nat.not_lt_of_lt hold, hold, bne_self_eq_false, Bool.not_true, Bool.false_eq_true, if_false, if_true]
  · -- FABRIC_PACKET_RECEIVE (R397)
    intro s a n h hst hrxNext
    unfold exec execFabricPacketReceive State.packetIn
    simp only [hst, hrxNext, Bool.not_true, Bool.false_eq_true, if_true, if_false, bne_self_eq_false]
  · -- E2E_RESEND (R420)
    intro s k e hk hsince hresend
    unfold exec execE2eResend
    simp [hk, hsince, hresend]
  · -- E2E_TIMEOUT (R420)
    intro s k e hk htmoMs
    unfold exec execE2eTimeout
    simp [hk, htmoMs]
  · -- FAB_GRP_LOAD (R425)
    intro s v p b hopen hcode hidle hhost hheard hlen hok hpid hholds hslice hroom hnew
    have hp : (⟨leAt b 8 1 % 16, Nat.mod_lt _ (by omega)⟩ : Pid) = p := Fin.ext ((Nat.mod_eq_of_lt (Nat.lt_of_le_of_lt (Nat.le_of_eq hpid) p.isLt)).trans hpid)
    unfold exec execFabGrpLoad State.grpCmd State.grpLoad
    simp only [hopen, hcode, hidle, hhost, hheard, Nat.not_lt_of_le hlen, hok, hp, hholds, hslice, hroom, hnew, Option.isSome_none,
      bne_self_eq_false, decide_true, Bool.not_true, Bool.and_self, Bool.or_self, Bool.false_eq_true, if_true, if_false]
    rfl
  · -- FAB_GRP_REMOVE (R425)
    intro s v g p hopen hcode hidle hpid hgroup
    have hp : (⟨bitsOf v.toNat 16 4, by unfold bitsOf; omega⟩ : Pid) = p := Fin.ext hpid
    unfold exec execFabGrpRemove State.grpCmd State.grpRemove
    simp only [hopen, hcode, hidle, hp, hgroup, Option.isNone_some, decide_true, Bool.and_self, Bool.false_eq_true, if_true, if_false]
    rfl
end

section
/-! PROOFS. Chapters 18 and 19: clocks, power, supplies, resets and watchdogs (R485 to R522). -/

namespace Sys2Proof.Machine

/-- R520: a warning is due for a running watchdog that warns and has run long enough. -/
theorem execWatchdogWarning_due {s : State} {fn : Fn} (hawake : s.dogAwake fn = true) (hst : (s.dog fn).st = .running)
    (hwarn : (s.dog fn).warnMs ≠ 0) (hlate : (s.dog fn).periodMs - (s.dog fn).warnMs ≤ s.dogMs fn) :
    (s.dogAwake fn && (s.dog fn).st = .running && (s.dog fn).warnMs != 0 && (s.dog fn).periodMs - (s.dog fn).warnMs ≤ s.dogMs fn) = true := by
  simp only [hawake, hst, bne_iff_ne.mpr hwarn, hlate, decide_true, Bool.and_self]

/-- R521: what a service write of `k` does to a watchdog that counts. -/
def Watchdog.take (clk now k : Nat) (w : Watchdog) : Watchdog :=
  if k = 0xA5E1 then { w with armedAt := some clk }
  else if k = 0x1E5A && w.armedAt.isSome then { w with st := .running, armedAt := none, since := now, first := false }
  else w.misserved

/-- R521: a watchdog that counts and whose arm has not lapsed takes the word. -/
theorem execWatchdogServe_of_counts {s : State} {fn : Fn} {v : W32} (hopen : s.dogOpen fn = true)
    (hst : (s.dog fn).st = .running ∨ (s.dog fn).st = .warning) (harm : s.armLapsed fn = false) :
    execWatchdogServe fn v s = .next (s.modDog fn (Watchdog.take s.pwr.clk s.pwr.time.toNat (v.toNat % 65536))) := by
  unfold execWatchdogServe
  rcases hst with hst | hst <;>
    simp only [hopen, hst, harm, reduceCtorEq, decide_false, Bool.not_true, Bool.or_self, Bool.false_eq_true, if_false] <;> rfl

end Sys2Proof.Machine

open Sys2Proof Sys2Proof.Machine

/-- Settles O40: device time, quads and retention follow their settings and their timers. -/
theorem clocksQuadsAndRetention : Obligations.ClocksQuadsAndRetention := by
  unfold Obligations.ClocksQuadsAndRetention
  refine ⟨?_, ?_, ?_, ?_, ?_, ?_, ?_, ?_, ?_, ?_, ?_⟩
  · -- CLK_TIME_SLEW_WRITE (R485)
    intro s v hopen
    unfold exec execClkTimeSlewWrite
    simp [hopen]
  · -- CLK_TIME_SET_GO (R485)
    intro s v hopen hbit htenantKeys
    unfold exec execClkTimeSetGo
    simp only [hopen, hbit, htenantKeys, Bool.not_true, Bool.or_self, Bool.false_eq_true, if_false]
  · -- CLK_SSC_WRITE (R490)
    intro s v hopen
    unfold exec execClkSscWrite
    simp [hopen]
  · -- MILLISECOND_BOUNDARY (R486)
    intro s x hstby hlastMs
    unfold exec execMillisecondBoundary State.msBoundary
    simp [hstby, Nat.not_le_of_lt hlastMs]
  · -- ACCESS_WAKE (R495)
    intro s q howned hasleep htoward hup
    unfold exec execAccessWake
    simp only [howned, hasleep, bne_iff_ne.mpr htoward, hup, Bool.and_self, if_true]
  · -- ACCESS_WAKE_IDLE (R493)
    intro s p q t howner haccess hst htoward hsince
    unfold exec execAccessWakeIdle
    simp only [howner, haccess, hst, htoward, hsince, Bool.and_true, Bool.true_and, decide_true]
    simp
  · -- QUAD_TRANSITION_COMPLETE (R494)
    intro s p q t howner htoward
    unfold exec execQuadTransitionComplete State.quadArrives
    simp only [howner, htoward]
  · -- RETENTION_ENTRY (R497)
    intro s t hsince hmay hlong
    unfold exec execRetentionEntry
    simp only [hsince, hmay, hlong, decide_true, Bool.and_self, if_true] <;> rfl
  · -- RETENTION_EXIT (R498)
    intro s hretained hretExit
    unfold exec execRetentionExit State.exitRetention
    simp [hretained, hretExit]
  · -- RETENTION_EXIT_COMPLETE (R498)
    intro s t hretExit
    unfold exec execRetentionExitComplete
    simp [hretExit]
  · -- CLK_RET_CTL_WRITE (R498)
    intro s v hopen
    unfold exec execClkRetCtlWrite
    simp only [hopen, Bool.not_true, Bool.false_eq_true, if_false]
    cases v.getLsbD 0 <;> rfl

/-- Settles O46: a supply, a warning or a PLL that fails or returns acts on the state of the rails. -/
theorem suppliesAndPowerFailure : Obligations.SuppliesAndPowerFailure := by
  unfold Obligations.SuppliesAndPowerFailure
  refine ⟨?_, ?_, ?_, ?_, ?_, ?_, ?_, ?_, ?_, ?_, ?_, ?_⟩
  · -- PLL_UNLOCK (R489)
    intro s a hpllLock hval
    unfold exec execPllUnlock
    simp [hpllLock, hval]
  · -- PLL_UNLOCK (R489)
    intro s hpllLock
    unfold exec execPllUnlock
    have h28 : (28 : Fin 48).val = 28 := rfl
    simp only [h28, hpllLock, Bool.not_true, Bool.false_eq_true, if_false, Nat.lt_irrefl, if_true]
  · -- PLL_UNLOCK (R489)
    intro s a hlock hport
    have hport' : ¬ a.val < 28 := Nat.not_lt_of_le (Nat.le_trans (by decide) hport)
    have hlink : a.val ≠ 28 := Nat.ne_of_gt (Nat.lt_of_lt_of_le (by decide) hport)
    unfold exec execPllUnlock
    simp only [hlock, hport', hlink, Bool.not_true, Bool.false_eq_true, if_false]
  · -- THERMTRIP (R505)
    intro s hpkgUp
    unfold exec execThermtrip
    simp [hpkgUp]
  · -- SUPPLY_FAULT (R506)
    intro s a hstby hval hfaultBoot
    unfold exec execSupplyFault
    simp [hstby, hval, hfaultBoot]
  · -- POWER_FAIL_WARN (R507)
    intro s a hpkgUp hpower
    unfold exec execPowerFailWarn
    simp [hpkgUp, hpower]
  · -- POWER_FAIL_RECOVER (R507)
    intro s hpkgUp hpower hsince
    unfold exec execPowerFailRecover
    simp [hpkgUp, hpower, hsince]
  · -- POWER_FAIL_SHUTDOWN (R507)
    intro s hpkgUp hpower hsince
    unfold exec execPowerFailShutdown
    simp [hpkgUp, hpower, hsince]
  · -- PB_PRSNT_DEASSERT (R550)
    intro s
    unfold exec execPbPrsntDeassert
    simp
  · -- INPUT_GOOD (R550)
    intro s t hstby hinput htherm ht
    subst ht
    unfold exec execInputGood
    simp only [hstby, hinput, htherm, Bool.not_true, Bool.or_self, Bool.false_eq_true, if_false]
    rfl
  · -- STANDBY_LOSS (R443)
    intro s hstby
    unfold exec execStandbyLoss
    simp [hstby]
  · -- STANDBY_APPLY (R516)
    intro s hstby
    unfold exec execStandbyApply
    simp [hstby]

/-- Settles O47: each trigger that is admitted runs the reset of its scope with its cause. -/
theorem resetScopesAct : Obligations.ResetScopesAct := by
  unfold Obligations.ResetScopesAct
  refine ⟨?_, ?_, ?_, ?_, ?_, ?_⟩
  · -- TNT_CORE_RST (R512)
    intro s p v a hvfFull hvalue habsCore
    unfold exec execTntCoreRst
    simp [hvfFull, hvalue]
  · -- SYS_RST_CORE (R512)
    intro s p k c howner hfind hserves
    unfold exec execSysRstCore
    simp only [howner, hfind, hserves, if_true]
  · -- SYS_RST_PARTITION (R513)
    intro s p hserves
    unfold exec execSysRstPartition
    simp [hserves]
  · -- PWD_RESET (R513)
    intro s p v hvfFull hvalue
    unfold exec execPwdReset
    simp [hvfFull, hvalue]
  · -- SYS_RST_WARM (R514)
    intro s hserves
    unfold exec execSysRstWarm
    simp [hserves]
  · -- SYS_RST_COLD (R516)
    intro s hserves
    unfold exec execSysRstCold
    simp [hserves]

/-- Settles O48: a watchdog that counts warns, expires and takes its words. -/
theorem watchdogsServeAndExpire : Obligations.WatchdogsServeAndExpire := by
  unfold Obligations.WatchdogsServeAndExpire
  refine ⟨?_, ?_, ?_, ?_, ?_, ?_, ?_, ?_, ?_, ?_, ?_, ?_⟩
  · -- WATCHDOG_WARNING (R520)
    intro s hawake hst hwarn hlate
    unfold exec execWatchdogWarning
    exact congrArg Host.Outcome.next (if_pos (execWatchdogWarning_due hawake hst hwarn hlate))
  · -- WATCHDOG_WARNING (R520)
    intro s p hawake hst hwarn hlate
    unfold exec execWatchdogWarning
    exact congrArg Host.Outcome.next (if_pos (execWatchdogWarning_due hawake hst hwarn hlate))
  · -- DEVICE_WATCHDOG_EXPIRE (R520)
    intro s hdogExpires
    unfold exec execDeviceWatchdogExpire
    simp [hdogExpires]
  · -- PARTITION_WATCHDOG_EXPIRE (R520)
    intro s p hdogExpires
    unfold exec execPartitionWatchdogExpire
    simp [hdogExpires]
  · -- MC_WATCHDOG_EXPIRE (R510)
    intro s hpkgUp hvalue
    unfold exec execMcWatchdogExpire
    simp [hpkgUp, hvalue]
  · -- WATCHDOG_SERVE (R521)
    intro s fn v hopen hst harm hfirst
    refine (execWatchdogServe_of_counts hopen hst harm).trans (congrArg Host.Outcome.next (State.modDog_congr ?_))
    simp only [Watchdog.take, hfirst, if_true]
  · -- WATCHDOG_SERVE (R521)
    intro s fn v t hopen hst harm hsecond harmed
    refine (execWatchdogServe_of_counts hopen hst harm).trans (congrArg Host.Outcome.next (State.modDog_congr ?_))
    simp [Watchdog.take, hsecond, harmed]
  · -- WATCHDOG_SERVE (R521)
    intro s fn v hopen hst harm hfirst hsecond
    refine (execWatchdogServe_of_counts hopen hst harm).trans (congrArg Host.Outcome.next (State.modDog_congr ?_))
    rcases hsecond with hsecond | hunarmed
    · simp [Watchdog.take, hfirst, hsecond]
    · simp [Watchdog.take, hfirst, hunarmed]
  · -- SERVE_ARM_TIMEOUT (R521)
    intro s fn harmLapsed
    unfold exec execServeArmTimeout
    simp [harmLapsed]
  · -- WATCHDOG_ENABLE_WRITE (R520)
    intro s fn v hopen hlock hbit
    unfold exec execWatchdogEnableWrite
    simp only [hopen, hlock, hbit, Bool.not_true, Bool.not_false, Bool.or_self, Bool.false_eq_true, if_true, if_false]
  · -- WATCHDOG_ENABLE_WRITE (R520)
    intro s fn v hopen hlock hbit hst
    unfold exec execWatchdogEnableWrite
    simp only [hopen, hlock, hbit, hst, bne_self_eq_false, Bool.not_true, Bool.or_self, Bool.false_eq_true, if_false]
  · -- WDG_LOCK (R522)
    intro s hserves
    unfold exec execWdgLock
    simp [hserves]
end

section
/-! PROOFS. Chapter 13 and the boot: host loss, attaches, the link and the milestones (R359 to R384, R517). -/

open Sys2Proof Sys2Proof.Machine

/-- Settles O49: a function is lost by its trigger and attached again as its token and its record allow. -/
theorem hostLossAndReattach : Obligations.HostLossAndReattach := by
  unfold Obligations.HostLossAndReattach
  refine ⟨?_, ?_, ?_, ?_, ?_, ?_, ?_, ?_, ?_, ?_, ?_, ?_, ?_, ?_, ?_, ?_⟩
  · -- TNT_ATTACH_GO (R380)
    intro s p hvfAttach hattachResult
    unfold exec execTntAttachGo
    simp [hvfAttach, hattachResult]
  · -- LNK_OP_ATTACH (R384)
    intro s v t hopen hgo hlost hrebase ht
    subst ht
    have hrebase' : (v.getLsbD 1 || !s.exitRetention.op.fn.loss.keepOk) = true := by simpa using hrebase
    unfold exec execLnkOpAttach
    simp only [hopen, hgo, hlost, hrebase', Bool.not_true, Bool.or_self, Bool.false_eq_true, if_false, if_true]
  · -- LNK_OP_ATTACH (R384)
    intro s v t hopen hbit hlost hbit' hkeepOk ht
    unfold exec execLnkOpAttach
    simp only [hopen, hbit, hlost, hbit', hkeepOk, ht, Bool.not_true, Bool.or_self, Bool.false_eq_true, if_false]
  · -- LNK_OP_ATTACH (R384)
    intro s v hopen hbit hlost
    unfold exec execLnkOpAttach
    simp only [hopen, hbit, hlost, Bool.not_true, Bool.not_false, Bool.or_self, Bool.false_eq_true, if_false, if_true]
  · -- PF_HEARTBEAT_TIMEOUT (R370)
    intro s hhbOver
    unfold exec execPfHeartbeatTimeout
    simp [hhbOver]
  · -- VF_HEARTBEAT_TIMEOUT (R370)
    intro s p hover hst
    unfold exec execVfHeartbeatTimeout
    rcases hst with hst | hst | hst <;> simp [hover, hst]
  · -- HEARTBEAT_TMO_WRITE (R370)
    intro s fn v hopen
    unfold exec execHeartbeatTmoWrite
    simp [hopen]
  · -- VF_FLR (R593)
    intro s p hvfPresent
    unfold exec execVfFlr
    simp [hvfPresent]
  · -- VF_BUS_MASTER_DISABLE (R593)
    intro s p hvfPresent
    unfold exec execVfBusMasterDisable
    simp [hvfPresent]
  · -- VF_D3HOT (R593)
    intro s p hvfPresent
    unfold exec execVfD3hot
    simp [hvfPresent]
  · -- VF_REMOVED (R593)
    intro s p hvfPresent
    unfold exec execVfRemoved
    simp [hvfPresent]
  · -- VF_ENABLE (R362)
    intro s i hopen hi hvfEnable
    unfold exec execVfEnable
    simp [hopen, hi, hvfEnable]
  · -- PF_FLR (R593)
    intro s hopen
    unfold exec execPfFlr
    simp [hopen]
  · -- PF_BUS_MASTER_DISABLE (R593)
    intro s hopen
    unfold exec execPfBusMasterDisable
    simp [hopen]
  · -- PF_D3HOT (R593)
    intro s hopen
    unfold exec execPfD3hot
    simp [hopen]
  · -- OPERATOR_STOP_TIMEOUT (R377)
    intro s t hopStopAt hlost hsince
    unfold exec execOperatorStopTimeout
    simp [hopStopAt, hlost, hsince]

/-- Settles O50: the link goes down, comes up and changes, and its ranges and streams follow. -/
theorem hostLinkEvents : Obligations.HostLinkEvents := by
  unfold Obligations.HostLinkEvents
  refine ⟨?_, ?_, ?_, ?_, ?_, ?_, ?_, ?_, ?_, ?_⟩
  · -- PERST_N_ASSERT (R368)
    intro s
    unfold exec execPerstNAssert
    simp
  · -- PERST_N_DEASSERT (R518)
    intro s b hperst
    unfold exec execPerstNDeassert
    simp [hperst]
  · -- HOT_RESET (R368)
    intro s hup
    unfold exec execHotReset
    simp [hup]
  · -- LINK_DISABLE (R368)
    intro s hup
    unfold exec execLinkDisable
    simp [hup]
  · -- SURPRISE_LINK_DOWN (R368)
    intro s hup
    unfold exec execSurpriseLinkDown
    simp [hup]
  · -- LINK_UP (R359)
    intro s i j b htraining hlinkForm
    unfold exec execLinkUp
    simp [htraining, hlinkForm]
  · -- LINK_CHANGED (R359)
    intro s i j hup hlinkForm hi
    unfold exec execLinkChanged
    simp [hup, hlinkForm, hi]
  · -- IDE_INSECURE (R367)
    intro s a b hide hstream hreq
    have hany : (a || b) = true := by simpa using hstream
    unfold exec execIdeInsecure
    simp only [hide, hany, hreq, Bool.not_true, Bool.or_self, Bool.false_eq_true, if_false, if_true]
  · -- HOST_LINE_INVALIDATE (R364)
    intro s fn a
    unfold exec execHostLineInvalidate
    simp
  · -- HDM_DECODER_COMMIT (R366)
    intro s a hopen hcxl hvalue
    unfold exec execHdmDecoderCommit
    simp only [hopen, hcxl, hvalue, Bool.and_self, if_true, decide_true]

/-- Settles O51: the milestone that is reached chooses the step. -/
theorem bootMilestonesInOrder : Obligations.BootMilestonesInOrder := by
  unfold Obligations.BootMilestonesInOrder
  refine ⟨?supply, ?_, ?rails, ?_, ?_, ?_, ?_, ?_, ?_, ?_, ?_⟩
  case supply =>
    intro s b hstby hready hsupply
    unfold exec execBootMilestone State.bootStep
    simp [hstby, hready, hsupply]
  case rails =>
    intro s b hstby hready hsupply hmilestone hpkg hinput hrails htherm
    unfold exec execBootMilestone State.bootStep
    simp [hstby, hready, hsupply, hmilestone, hpkg, hinput, hrails, htherm]
  all_goals
    intro s b hstby hready hsupply hmilestone
    unfold exec execBootMilestone State.bootStep
    simp [hstby, hready, hsupply, hmilestone]
end

section
/-! PROOFS. Chapter 20: update commands, the configuration store and PLDM (R528 to R545). -/

namespace Sys2Proof.Machine

/-- R536: FLS_CMD carries out a command and stores its result, while the page is served, no PLDM update runs and no power failure is
announced. -/
theorem State.flsCmd_of_free {s : State} {code : BitVec 4} {f : State → State × FlsRes} (hserves : s.pfServes 0x40000 = true)
    (hidle : s.flash.pldm = .idle) (hpower : s.pwr.pfail = false) :
    s.flsCmd code f = (f s).1.modFls fun F => { F with res := BitVec.ofNat 8 (f s).2, lastCmd := code } := by
  simp only [State.flsCmd, hserves, hidle, hpower, Bool.not_true, bne_self_eq_false, Bool.false_eq_true, if_false]

/-- R536: so it does with a command that names a region. -/
theorem State.flsTarget_of_free {s : State} {code : BitVec 4} {i : Fin 3} {f : State → Fin 3 → State × FlsRes}
    (hserves : s.pfServes 0x40000 = true) (hidle : s.flash.pldm = .idle) (hpower : s.pwr.pfail = false) :
    s.flsTarget code (BitVec.ofNat 2 i.val) f = (f s i).1.modFls fun F => { F with res := BitVec.ofNat 8 (f s i).2, lastCmd := code } := by
  simp only [State.flsTarget, targetOf_val, State.flsCmd_of_free hserves hidle hpower]

/-- R545: PUT and DEL of a writable type store the records that `f` answers and end with OK. -/
theorem State.cfgCmd_of_stored {s t : State} {typ : W16} {io : FlashIo} {f : Flash → Nat × List CfgRec} {l : List CfgRec}
    (hserves : s.pfServes 0x40000 = true) (hpower : s.pwr.pfail = false) (hwritable : cfgWritable typ.toNat = true) (hf : f s.flash = (0, l))
    (hroom : storeLen l ≤ 4 * 2 ^ 20 - 64) (hwrite : s.rewrite l io = (t, true)) :
    s.cfgCmd typ io f = t.modFls fun F => { F with cfgRes := 0 } := by
  simp only [State.cfgCmd, hserves, hpower, hwritable, hf, Nat.not_lt_of_le hroom, hwrite, Bool.not_true, Bool.false_eq_true, if_false]
  rfl

/-- R540: a request inside an update is carried out where it follows in sequence. -/
theorem State.pldmReq_of_ok {s : State} {ok : Pldm → Bool} {f : State → State} (hup : s.pldmUp = true) (hbusy : s.flash.pldm ≠ .idle)
    (hok : ok s.flash.pldm = true) : s.pldmReq ok f = f s := by
  simp only [State.pldmReq, hup, hbusy, hok, Bool.not_true, Bool.false_eq_true, if_false, if_true]

end Sys2Proof.Machine

open Sys2Proof Sys2Proof.Machine

/-- Settles O52: FLS_CMD stores the result of the command that it carries out. -/
theorem flashUpdateCommands : Obligations.FlashUpdateCommands := by
  unfold Obligations.FlashUpdateCommands
  refine ⟨?_, ?_, ?_, ?_, ?_, ?_, ?_, ?_, ?_, ?_, ?_, ?_⟩
  · -- DL_BEGIN (R536)
    intro s i m t hserves hidle hpower hactive hrunning hpending happend
    unfold exec execDlBegin
    simp only [State.flsTarget_of_free hserves hidle hpower, State.dlBegin, hactive, hrunning, hpending, happend, decide_false,
      Option.isSome_none, Bool.or_self, Bool.false_eq_true, if_false]
    rfl
  · -- DL_WRITE (R537)
    intro s i m d x hserves hidle hpower hloading hverified hchunk hknown hroom hheard hlen hio
    unfold exec execDlWrite
    simp only [State.flsTarget_of_free hserves hidle hpower, State.dlWrite, hloading, hverified, hchunk, hknown, Nat.not_lt_of_le hroom,
      hheard, hlen, hio, Bool.and_false, decide_false, bne_self_eq_false, Bool.or_self, Bool.false_eq_true, if_false]
    rfl
  · -- VERIFY (R528)
    intro s i m x hserves hidle hpower hloading hverified hfill
    have hhead : ¬ 512 + bodyLen s.flash.images[i] < 512 := Nat.not_lt_of_le (Nat.le_add_right _ _)
    unfold exec execVerify
    simp only [State.flsTarget_of_free hserves hidle hpower, State.dlVerify, hloading, hverified, hfill, hhead, bne_self_eq_false,
      decide_false, Bool.or_self, Bool.false_eq_true, if_false]
    rcases hres : s.verify i (m != .fails) with ⟨t, r⟩
    cases r with
    | zero => rfl
    | succ r => rfl
  · -- ACTIVATE (R536)
    intro s i m x t hserves hidle hpower hloading hverified hmain happend
    unfold exec execActivate
    simp only [State.flsTarget_of_free hserves hidle hpower, State.dlActivate, hloading, hverified, hmain, happend, Bool.not_true,
      Bool.false_eq_true, if_false]
    rfl
  · -- ACTIVATE (R536)
    intro s m x t hserves hidle hpower hloading hverified happend
    unfold exec execActivate
    refine congrArg Host.Outcome.next ((State.flsTarget_of_free (i := 2) hserves hidle hpower).trans ?_)
    simp only [State.dlActivate, hloading, hverified, happend, Bool.not_true, Bool.false_eq_true, if_false, if_true]
    rfl
  · -- RESTART (R536)
    intro s a hserves hidle hpower
    unfold exec execRestart State.flsCmd
    simp [hserves, hidle, hpower]
  · -- CONFIRM (R529)
    intro s a m b t hserves hidle hpower hbooted hpending happend
    unfold exec execConfirm
    simp only [State.flsCmd_of_free hserves hidle hpower, State.confirm, hbooted, hpending, happend, if_true]
    rfl
  · -- ROLLBACK (R536)
    intro s a m b t hserves hidle hpower hpending happend
    unfold exec execRollback
    simp only [State.flsCmd_of_free hserves hidle hpower, State.rollback, hpending, happend]
    rfl
  · -- ABORT (R536)
    intro s i x hserves hidle hpower hloading
    unfold exec execAbort
    simp only [State.flsTarget_of_free hserves hidle hpower, hloading, Option.isSome_some, if_true]
    rfl
  · -- TRIAL_TIMER_EXPIRE (R538)
    intro s m t htrialAt hvalue hvalue' hpower
    unfold exec execTrialTimerExpire
    simp [htrialAt, hvalue, Nat.not_lt_of_le hvalue', hpower]
  · -- FLS_SEAL (R530)
    intro s v t hserves hvalue hpending hpower hsealAt hsince
    unfold exec execFlsSeal
    simp [hserves, hvalue, hpending, hpower, hsealAt, hsince]
  · -- FLS_SEAL (R530)
    intro s v hserves hvalue hpending hpower hsealAt
    unfold exec execFlsSeal
    simp [hserves, hvalue, hpending, hpower, hsealAt]

/-- Settles O53: a PUT or DEL rewrites the store; a READ fills the buffer. -/
theorem configurationStoreEdits : Obligations.ConfigurationStoreEdits := by
  unfold Obligations.ConfigurationStoreEdits
  refine ⟨?_, ?_, ?_, ?_⟩
  · -- FLS_CFG_PUT (R545)
    intro s a m t hserves hpower hwritable hpos hmax hlen hroom hwrite
    unfold exec execFlsCfgPut
    refine congrArg Host.Outcome.next (State.cfgCmd_of_stored hserves hpower hwritable ?_ hroom hwrite)
    simp only [Nat.ne_of_gt hpos, Nat.not_lt_of_le hmax, hlen, decide_false, Bool.or_self, Bool.false_eq_true, if_false]
  · -- FLS_CFG_DEL (R545)
    intro s a m t hserves hpower hwritable hfound hroom hwrite
    unfold exec execFlsCfgDel
    exact congrArg Host.Outcome.next (State.cfgCmd_of_stored hserves hpower hwritable (if_pos hfound) hroom hwrite)
  · -- FLS_CFG_READ (R545)
    intro s i hserves hrec
    unfold exec execFlsCfgRead State.modFls
    simp only [hserves, hrec, Bool.not_true, Bool.false_eq_true, if_false]
  · -- FLS_CFG_READ (R545)
    intro s i r hserves hrec
    unfold exec execFlsCfgRead State.modFls
    simp only [hserves, hrec, Bool.not_true, Bool.false_eq_true, if_false]

/-- Settles O54: a request that follows in sequence is carried out and answered. -/
theorem pldmFirmwareUpdate : Obligations.PldmFirmwareUpdate := by
  unfold Obligations.PldmFirmwareUpdate
  refine ⟨?_, ?_, ?_, ?_, ?_, ?_, ?_, ?_, ?_, ?_⟩
  · -- QUERY_DEVICE_IDENTIFIERS (R540)
    intro s hup
    exact congrArg Host.Outcome.next (if_pos hup)
  · -- GET_FIRMWARE_PARAMETERS (R540)
    intro s hup
    unfold exec execGetFirmwareParameters
    simp only [hup, Bool.not_true, Bool.false_eq_true, if_false]
    rfl
  · -- GET_STATUS (R540)
    intro s hup
    exact congrArg Host.Outcome.next (if_pos hup)
  · -- REQUEST_UPDATE (R540)
    intro s hup hidle hdl hpower
    unfold exec execRequestUpdate
    simp only [hup, hidle, hdl, hpower, Option.isSome_none, bne_self_eq_false, Bool.not_true, Bool.or_self, Bool.false_eq_true, if_false]
    rfl
  · -- PASS_COMPONENT_TABLE (R540)
    intro s hup hst
    exact congrArg Host.Outcome.next (State.pldmReq_of_ok hup (by simp [hst]) (by simp [hst]))
  · -- UPDATE_COMPONENT (R540)
    intro s a m i t hup hst hcomp hpower hbegin
    refine congrArg Host.Outcome.next ((State.pldmReq_of_ok hup (by simp [hst]) (by simp [hst])).trans ?_)
    simp only [hcomp, hpower, hbegin, Bool.false_eq_true, if_false, if_true]
    rfl
  · -- FIRMWARE_DATA_RECEIVED (R540)
    intro s d m x t y hup hst hpower hdl hverified hwrite hloading hfill
    have hmore : (y.fill < 512 || y.fill != 512 + bodyLen t.flash.images[x.target]) = true := by simpa using hfill
    unfold exec execFirmwareDataReceived State.pldmData
    simp only [hup, hst, hpower, hdl, hverified, hwrite, hloading, hmore, bne_self_eq_false, Bool.false_or, Bool.not_true, Bool.or_self,
      Bool.false_eq_true, if_false, if_true]
    rfl
  · -- ACTIVATE_FIRMWARE (R540)
    intro s hup hst hdl hpower
    unfold exec execActivateFirmware
    rw [State.pldmReq_of_ok hup (by simp [hst]) (by simp [hst, hdl])]
    simp only [hpower, Bool.false_eq_true, if_false]
    rfl
  · -- CANCEL_UPDATE_COMPONENT (R540)
    intro s hup hst
    exact congrArg Host.Outcome.next (State.pldmReq_of_ok hup (by simp [hst]) (by simp [hst]))
  · -- CANCEL_UPDATE (R540)
    intro s hup hst
    exact congrArg Host.Outcome.next (State.pldmReq_of_ok hup hst rfl)
end

section
/-! PROOFS. Chapters 21 and 22: the board, its inputs and the registers (R480, R541 to R580). -/

namespace Sys2Proof.Machine

/-- R480: device time is the pair of registers at 0x20000. -/
theorem State.lowRead_time (s : State) : s.lowRead .pf 0x20000 =
    (s.stamped.modFn .pf fun f => { f with latches := latch f.latches 0x20004 (halfOf (BitVec.ofNat 64 s.stamp) true) }).emit
      (.regValue .pf 0x20000 (halfOf (BitVec.ofNat 64 s.stamp) false)) := by
  have hmeter : meterAt .pf 0x20000 = none := rfl
  have htime : s.pair64 .pf 0x20000 = some (BitVec.ofNat 64 s.stamp) := rfl
  simp only [State.lowRead, hmeter, htime, decide_true, Bool.and_self, if_true]

/-- R480: a word that is no counter, no token word and no half of a pair reads as it stands. -/
theorem State.lowRead_plain {s : State} {fn : Fn} {n : Nat} (hcounter : s.counter fn n = none) (htoken : tokenAt fn n = false)
    (hmeter : meterAt fn n = none) (hmeter' : n < 4 ∨ meterAt fn (n - 4) = none) (hpair : s.pair64 fn n = none)
    (hpair' : n < 4 ∨ s.pair64 fn (n - 4) = none) : s.lowRead fn n = s.took.emit (.regValue fn n (s.word fn n)) := by
  have hupper {α : Type} {o : Option α} (h : n < 4 ∨ o = none) : (4 ≤ n && o.isSome) = false := by
    rcases h with h | h
    · simp [Nat.not_le_of_lt h]
    · simp [h]
  simp only [State.lowRead, State.plainRead, hmeter, hpair, hcounter, htoken, hupper hmeter', hupper hpair', Option.isSome_none,
    Bool.or_self, Bool.false_eq_true, if_false]

end Sys2Proof.Machine

open Sys2Proof Sys2Proof.Machine

/-- Settles O55: each input of the board acts on the state of its cage, its button or its alert. -/
theorem cagesButtonsAndAlerts : Obligations.CagesButtonsAndAlerts := by
  unfold Obligations.CagesButtonsAndAlerts
  refine ⟨?_, ?_, ?_, ?_, ?_, ?_, ?_, ?_, ?_⟩
  · -- COLD_RST_N (R560)
    intro s n hstby hn
    unfold exec execColdRstN
    simp [hstby, hn]
  · -- SERVICE_BUTTON_PRESS (R564)
    intro s hstby
    unfold exec execServiceButtonPress
    simp [hstby]
  · -- SERVICE_BUTTON_HOLD (R564)
    intro s hstby
    unfold exec execServiceButtonHold
    simp [hstby]
  · -- CAGE_MODULE_INSERT (R570)
    intro s a n b hpresent
    unfold exec execCageModuleInsert
    simp only [hpresent, Bool.false_eq_true, if_true, if_false]
  · -- CAGE_MODULE_INSERT (R570)
    intro s a n b t hpresent ht
    unfold exec execCageModuleInsert
    simp only [hpresent, ht, Bool.false_eq_true, if_false]
  · -- CAGE_MODULE_REMOVE (R570)
    intro s a hpresent
    unfold exec execCageModuleRemove
    simp only [hpresent, if_true]
  · -- CAGE_OVERPOWER (R571)
    intro s a hpresent hoff
    unfold exec execCageOverpower
    simp only [hpresent, hoff, Bool.not_false, Bool.and_self, if_true]
  · -- MODULE_ADVERTISEMENT_CHANGE (R570)
    intro s a n t hpresent hpassive hoff ht
    unfold exec execModuleAdvertisementChange
    simp only [hpresent, hpassive, hoff, ht, Bool.not_true, Bool.or_self, Bool.false_eq_true, if_false]
  · -- SMBUS_ALERT_RESPONSE (R557)
    intro s hstby halert
    unfold exec execSmbusAlertResponse
    simp only [hstby, halert, Bool.and_self, if_true]
    rfl

/-- Settles O56: a read by its kind of register, a write by its page. -/
theorem registerReadsAndWrites : Obligations.RegisterReadsAndWrites := by
  unfold Obligations.RegisterReadsAndWrites
  refine ⟨?_, ?_, ?_, ?_, ?_, ?_, ?_, ?_, ?_⟩
  · -- REGISTER_WRITE (R576)
    intro s n v hn hn'
    unfold exec execRegisterWrite
    simp [hn, Nat.not_le_of_lt hn']
  · -- REGISTER_WRITE (R576)
    intro s p n v hn hn'
    unfold exec execRegisterWrite
    simp [hn, Nat.not_le_of_lt hn']
  · -- REGISTER_WRITE (R576)
    intro s fn n v hn hn' hpresent
    unfold exec execRegisterWrite
    simp [hn, hn', hpresent]
  · -- RC_COUNTER_READ (R479)
    intro s t fn n v hn hserves hcounter
    unfold exec execRcCounterRead
    simp [hn, hserves, hcounter]
  · -- LOW_WORD_READ (R480)
    intro s fn n a hn hserves hmeterAt hpair64 hx
    unfold exec execLowWordRead State.lowRead
    simp [hn, hserves, hmeterAt, hpair64, hx]
  · -- LOW_WORD_READ (R480)
    intro s hserves
    unfold exec execLowWordRead
    exact congrArg Host.Outcome.next ((if_pos (hserves : s.serves .pf 0x20000 = true)).trans s.lowRead_time)
  · -- LOW_WORD_READ (R480)
    intro s fn n halign hserves hcounter htoken hmeter hmeter' hpair hpair'
    unfold exec execLowWordRead
    simp only [halign, hserves, State.lowRead_plain hcounter htoken hmeter hmeter' hpair hpair', bne_self_eq_false, Bool.false_eq_true,
      if_false, if_true]
  · -- METER_LATCH_READ (R480)
    intro s p hserves
    unfold exec execMeterLatchRead State.meterLatch
    simp [hserves]
  · -- METER_LATCH_READ (R480)
    intro s p hvfFull
    unfold exec execMeterLatchRead State.meterLatch
    simp [hvfFull]
end

section
/-! PROOFS. Chapters 16 and 17: meters, measurements, SPDM and JTAG (R438 to R482). -/

namespace Sys2Proof.Machine

/-- R457: a negotiated responder that answers carries a request out. -/
theorem State.spdm_of_negotiated {s : State} {r : Responder} {f : State → State} (hanswers : s.answers r = true) (hconn : s.conn r = .negotiated) :
    s.spdm r f = f s := by
  simp only [State.spdm, hanswers, hconn, Bool.not_true, Bool.false_eq_true, if_false, if_true]

/-- R457: a request of a session reaches the session of the PF's responder. -/
theorem State.sessionReq_of_session {s : State} {x : SpdmSession} {f : SpdmSession → State → State} (hanswers : s.answers .pf = true)
    (hconn : s.conn .pf = .negotiated) (hsession : s.sec.session = some x) : s.sessionReq .pf f = f x s := by
  rw [State.sessionReq, State.spdm_of_negotiated hanswers hconn]
  simp only [hsession, bne_self_eq_false, Bool.false_eq_true, if_false]

/-- R457: a request inside an established session is carried out. -/
theorem State.insideSession_of_established {s : State} {x : SpdmSession} {f : State → State} (hanswers : s.answers .pf = true)
    (hconn : s.conn .pf = .negotiated) (hsession : s.sec.session = some x) (hest : x.established = true) : s.insideSession .pf f = f s :=
  (State.sessionReq_of_session hanswers hconn hsession).trans (if_pos hest)

/-- R446: without tenant keys an instruction of the test ports loads. -/
theorem State.jtagDrive_of_no_keys {s : State} {j : Jtag} {code : BitVec 8} (h : s.sec.tenantKeys = false) :
    s.jtagDrive j code = s.modSec fun S => { S with jtag := j } := by
  simp only [State.jtagDrive, h, Bool.false_eq_true, if_false]

/-- R446: with tenant keys it leaves BYPASS and an event. -/
theorem State.jtagDrive_of_keys {s : State} {j : Jtag} {code : BitVec 8} (h : s.sec.tenantKeys = true) :
    s.jtagDrive j code = (s.modSec fun S => { S with jtag := .bypass }).postDev 0x0805 code.toNat 0 := by
  simp only [State.jtagDrive, h, if_true]

end Sys2Proof.Machine

open Sys2Proof Sys2Proof.Machine

/-- Settles O57: a boundary, a fault or a write acts where the meters and the pages allow it. -/
theorem metersMeasurementsAndSlots : Obligations.MetersMeasurementsAndSlots := by
  unfold Obligations.MetersMeasurementsAndSlots
  refine ⟨?_, ?_, ?_, ?_, ?_, ?_, ?_, ?_⟩
  · -- METER_INTERVAL_BOUNDARY (R473)
    intro s p
    rfl
  · -- METER_RECORD_SIGNED (R475)
    intro s f l hforming hunsigned hrngFail
    unfold exec execMeterRecordSigned State.recordSigned
    simp only [hforming, hunsigned, hrngFail, Bool.not_false, Bool.and_true, Bool.or_self, Bool.false_eq_true, if_false]
  · -- METER_RECORD_SIGNED (R475)
    intro s f l hforming hunsigned
    unfold exec execMeterRecordSigned State.recordSigned
    simp [hforming, hunsigned]
  · -- MTR_IVL_WRITE (R473)
    intro s p v hserves
    unfold exec execMtrIvlWrite
    simp [hserves]
  · -- ENTROPY_FAULT (R441)
    intro s hrngFail
    unfold exec execEntropyFault
    simp [hrngFail]
  · -- ENTROPY_FAULT (R441)
    intro s hrngFail hafterCold hready
    unfold exec execEntropyFault
    simp [hrngFail, hafterCold, hready]
  · -- TNT_MEAS_GO (R460)
    intro s p v hvfFull hbit
    unfold exec execTntMeasGo
    simp [hvfFull, hbit]
  · -- SEC_FSLOTS_WRITE (R448)
    intro s p v hserves hst
    unfold exec execSecFslotsWrite
    rcases hst with hst | hst | ⟨hst, hact⟩
    · simp [hserves, hst]
    · simp [hserves, hst]
    · simp [hserves, hst, hact]

/-- Settles O58: a negotiated responder carries each request out. -/
theorem spdmRequestsAreAnswered : Obligations.SpdmRequestsAreAnswered := by
  unfold Obligations.SpdmRequestsAreAnswered
  refine ⟨?_, ?_, ?_, ?_, ?_, ?_, ?_, ?_, ?_, ?_, ?_, ?_, ?_, ?_⟩
  · -- SPDM_GET_VERSION (R457)
    intro s r hanswers
    unfold exec execSpdmGetVersion
    simp [hanswers]
  · -- SPDM_GET_CAPABILITIES (R457)
    intro s r hanswers hconn
    unfold exec execSpdmGetCapabilities State.negotiate
    simp [hanswers, hconn]
  · -- SPDM_NEGOTIATE_ALGORITHMS (R457)
    intro s r hanswers hconn
    unfold exec execSpdmNegotiateAlgorithms State.negotiate
    simp [hanswers, hconn]
  · -- SPDM_GET_DIGESTS (R457)
    intro s r hanswers hconn
    exact congrArg Host.Outcome.next (State.spdm_of_negotiated hanswers hconn)
  · -- SPDM_GET_CERTIFICATE (R454)
    intro s r i j hanswers hconn
    unfold exec execSpdmGetCertificate
    simp only [State.spdm_of_negotiated hanswers hconn, bne_self_eq_false, Bool.false_or, decide_eq_true_eq]
    rfl
  · -- SPDM_GET_CERTIFICATE (R454)
    intro s r n i j hanswers hconn hslot
    unfold exec execSpdmGetCertificate
    simp only [State.spdm_of_negotiated hanswers hconn, bne_iff_ne.mpr hslot, Bool.true_or, if_true]
    rfl
  · -- SPDM_CHALLENGE (R455)
    intro s r hanswers hconn hentropy
    unfold exec execSpdmChallenge
    simp only [State.spdm_of_negotiated hanswers hconn, State.spdmSigned, hentropy, bne_self_eq_false, Bool.false_eq_true, if_false]
    rfl
  · -- SPDM_GET_MEASUREMENTS (R459)
    intro s r i b hanswers hconn hmem hcount hall
    have hsome : ((measScope r).filter (· = i)).isEmpty = false := by simpa using hmem
    unfold exec execSpdmGetMeasurements
    simp only [State.spdm_of_negotiated hanswers hconn, hcount, hall, hsome, Bool.and_false, Bool.false_eq_true, if_false]
  · -- SPDM_KEY_EXCHANGE (R458)
    intro s hanswers hconn hrngFail
    unfold exec execSpdmKeyExchange State.spdm
    simp [hanswers, hconn, hrngFail]
  · -- SPDM_FINISH (R457)
    intro s x hanswers hconn hsession hopen
    refine congrArg Host.Outcome.next ((State.sessionReq_of_session hanswers hconn hsession).trans ?_)
    simp only [hopen, Bool.false_eq_true, if_false]
  · -- SPDM_HEARTBEAT (R457)
    intro s x hanswers hconn hsession hest
    exact congrArg Host.Outcome.next (State.insideSession_of_established hanswers hconn hsession hest)
  · -- SPDM_KEY_UPDATE (R457)
    intro s x hanswers hconn hsession hest
    exact congrArg Host.Outcome.next (State.insideSession_of_established hanswers hconn hsession hest)
  · -- SPDM_END_SESSION (R458)
    intro s x hanswers hconn hsession hest
    exact congrArg Host.Outcome.next (State.insideSession_of_established hanswers hconn hsession hest)
  · -- SPDM_VENDOR_DEFINED_REQUEST (R367)
    intro s x hanswers hconn hsession hest
    exact congrArg Host.Outcome.next ((State.insideSession_of_established hanswers hconn hsession hest).trans (if_pos rfl))

/-- Settles O59: BYPASS, IDCODE and SAMPLE load at once; the others by the tenant keys. -/
theorem jtagInstructionsLoad : Obligations.JtagInstructionsLoad := by
  unfold Obligations.JtagInstructionsLoad
  exact ⟨fun _ => rfl, fun _ => rfl, fun _ => rfl,
    fun _ _ h => congrArg Host.Outcome.next (State.jtagDrive_of_no_keys h), fun _ _ h => congrArg Host.Outcome.next (State.jtagDrive_of_keys h),
    fun _ _ h => congrArg Host.Outcome.next (State.jtagDrive_of_no_keys h), fun _ _ h => congrArg Host.Outcome.next (State.jtagDrive_of_keys h),
    fun _ _ h => congrArg Host.Outcome.next (State.jtagDrive_of_no_keys h), fun _ _ h => congrArg Host.Outcome.next (State.jtagDrive_of_keys h)⟩
end

section
/-! PROOFS. Commands turned away (R18, R63, R64, R513, R521). -/

namespace Sys2Proof.Machine

/-- R63, R64: a partition window access that the window, the partition's state or the object map refuses ends the host's cycle, latches the
error, and a read returns zeros. -/
theorem State.partWindow_of_refused {s : State} {p : Pid} {off : Nat} {data : Option (Bytes × W64)} (hup : s.windowsUp = true)
    (hoff : off < 2 ^ 28)
    (hrefused : (s.prt p).win.en = false
      ∨ ((s.life p).st ≠ .ready ∧ (s.life p).st ≠ .running ∧ (s.life p).st ≠ .napping ∧ (s.life p).st ≠ .suspended)
      ∨ (s.prt p).mem.windowReach ((s.prt p).win.base.toNat * 2 ^ 28 + off / 64 * 64) = false) :
    s.partWindow p off data = (((s.hostBytes (.vf p) (windowBytes data)).windowFault p
      ((s.prt p).win.base.toNat * 2 ^ 28 + off / 64 * 64)).refusedRead data) := by
  unfold State.partWindow
  simp only [hup, Bool.not_true, Bool.false_or, decide_eq_true_eq, if_neg (Nat.not_le_of_lt hoff), State.hostBytes_life,
    State.hostBytes_mem]
  rw [if_neg]
  · cases data <;> rfl
  · rcases hrefused with hen | ⟨h1, h2, h3, h4⟩ | hreach
    · simp [hen]
    · cases hst : (s.life p).st with
      | ready => exact absurd hst h1
      | running => exact absurd hst h2
      | napping => exact absurd hst h3
      | suspended => exact absurd hst h4
      | _ => simp
    · rw [hreach, Bool.and_false]
      exact Bool.false_ne_true

/-- R513: a partition reset reaches no partition but one that runs, naps or is suspended. -/
theorem State.partReset_of_stopped {s : State} {p : Pid} {byWdg : Bool} (hrunning : (s.life p).st ≠ .running)
    (hnapping : (s.life p).st ≠ .napping) (hsuspended : (s.life p).st ≠ .suspended) : s.partReset p byWdg = s := by
  unfold State.partReset
  dsimp only
  cases hst : (s.life p).st with
  | running => exact absurd hst hrunning
  | napping => exact absurd hst hnapping
  | suspended => exact absurd hst hsuspended
  | _ => rfl

end Sys2Proof.Machine

open Sys2Proof Sys2Proof.Machine

/-- Settles O60: the check that fails names what is left of the command: a code, an error, or nothing. -/
theorem commandsTurnedAway : Obligations.CommandsTurnedAway := by
  unfold Obligations.CommandsTurnedAway
  refine ⟨?_, ?_, ?_, ?_, ?_, ?_, ?_, ?_, ?_, ?_, ?_, ?_, ?_, ?_, ?_⟩
  · -- START (R21)
    intro s p hopen hexec
    unfold exec execStart State.prtCmd
    simp [hopen, hexec]
  · -- START (R21)
    intro s p hopen hexec hst
    unfold exec execStart State.prtCmd
    simp [hopen, hexec, hst]
  · -- PRT_CMD_RESERVED (R18)
    intro s p
    unfold exec execPrtCmdReserved
    simp
  · -- SYS_RST_PARTITION (R513)
    intro s p hrunning hnapping hsuspended
    unfold exec execSysRstPartition
    simp only [State.partReset_of_stopped hrunning hnapping hsuspended, ite_self]
  · -- PWD_RESET (R513)
    intro s p v hrunning hnapping hsuspended
    unfold exec execPwdReset
    simp only [State.partReset_of_stopped hrunning hnapping hsuspended, ite_self]
  · -- WATCHDOG_SERVE (R521)
    intro s fn v hst
    unfold exec execWatchdogServe
    rcases hst with hst | hst <;> simp [hst]
  · -- MOV_CH_KILL (R347)
    intro s m hbound
    unfold exec execMovChKill
    simp only [hbound, Bool.and_false, Bool.false_and, Bool.false_eq_true, if_false]
  · -- LNK_OP_ATTACH (R384)
    intro s v hopen hbit hlost
    unfold exec execLnkOpAttach
    simp only [hopen, hbit, hlost, Bool.not_true, Bool.not_false, Bool.or_self, Bool.false_eq_true, if_false, if_true]
  · -- PARTITION_WINDOW_READ (R63)
    intro s p off hup hoff hrefused
    exact congrArg Host.Outcome.next (State.partWindow_of_refused hup hoff hrefused)
  · -- PARTITION_WINDOW_WRITE (R63)
    intro s p off data en hup hoff hrefused
    exact congrArg Host.Outcome.next (State.partWindow_of_refused hup hoff hrefused)
  · -- TNT_EPOCH_WRITE (R125)
    intro s p v hst
    unfold exec execTntEpochWrite
    simp [hst]
  · -- DOORBELL_WRITE (R87)
    intro s r v hstate
    unfold exec execDoorbellWrite State.doorbell
    simp [hstate]
  · -- OBJ_DEFINE (R52)
    intro s c p n k d hinline hring hbad
    unfold exec execObjDefine
    simp only [hinline, hring, State.objDefine, hbad]
    rfl
  · -- PORT_ENABLE (R391)
    intro s a hon
    unfold exec execPortEnable State.portEnable
    simp only [hon, if_true, ite_self]
  · -- SU_START (R159)
    intro s u b hopen hbad
    have hreject : (((s.unit u).st != .loaded && (s.unit u).st != .done) || (b && !(s.prt u.pid).rt.en)) = true := by simpa using hbad
    unfold exec execSuStart State.suStart
    simp only [hopen, hreject, Bool.not_true, Bool.false_eq_true, if_false, if_true]
end
